-- ==== Sys2Proof/Word.lean ====
section
/-! DEFINITION. The word types of the module: 32-bit registers and payloads (R10, R22), 64-bit counts,
bytes of the flash and of datagrams. -/
namespace Sys2Proof

/-- A register, tag or payload word: 32 bits (R10, R22). -/
abbrev Word := BitVec 32

/-- A 64-bit count or stamp (R72, R174, R387). -/
abbrev U64 := BitVec 64

/-- A byte of the flash, of a datagram or of a host SPI transaction. -/
abbrev Byte := BitVec 8

end Sys2Proof
end

