-- ==== Sys2Proof/Config.lean ====
section
/-!
DEFINITION. What an image or the part fixes: the settings the sealed image gives the safety inputs, outputs,
configurable pins, tachometer timers and analog channels, the function-block graph and the telegram
connections; the states a function block can be in; and the values the spec leaves open, as opaque
constants that no proof can see through.
-/
namespace Sys2Proof

/-- A table by number: (key, entry) pairs with strictly rising keys; a key that is not listed holds the
table's default entry. The operations are in Machine/Ops.lean. -/
abbrev Tab (α : Type) := List (Nat × α)

/-- The three lane dies (R46). -/
inductive Lane where | l1 | l2 | l3
  deriving DecidableEq, Repr

/-- One value per lane. -/
structure Tri (α : Type) where
  l1 : α
  l2 : α
  l3 : α
  deriving DecidableEq, Repr

/-- The four output groups (R162), each with its own forced-off line (R15). -/
inductive Group where | sog1 | sog2 | ciog1 | ciog2
  deriving DecidableEq, Repr

/-- The three field supplies (R162). -/
inductive Supply where | vin | v1 | v2
  deriving DecidableEq, Repr

/-! ## Settings of terminals, pins, channels and timers -/

/-- PAIR of a pair of inputs (R99). -/
inductive PairKind where | none | equiv | antiv
  deriving DecidableEq, Repr

/-- The settings of one safety input (R99). -/
structure SiCfg where
  filter : Nat := 2
  gen : Option Nat := none
  pair : PairKind := .none
  extUs : Nat := 0
  deriving DecidableEq, Repr

/-- Mode of a test-pulse generator (R105). -/
inductive TpMode where | off | staticOn | pulse
  deriving DecidableEq, Repr

/-- The settings of one test-pulse generator (R105); without an offset its default applies. -/
structure TpCfg where
  mode : TpMode := .off
  offset : Option Nat := none
  deriving DecidableEq, Repr

/-- The offset of generator `k` (R105): P × k / 16 by default. -/
def TpCfg.start (c : TpCfg) (period k : Nat) : Nat := c.offset.getD (period * k / 16)

/-- The off-pulse settings of one safe output (R152); without an offset its default applies. -/
structure SoCfg where
  pulse : Bool := false
  offset : Option Nat := none
  deriving DecidableEq, Repr

/-- The offset of output `k` (R152): P × (2k + 1) / 32 by default. -/
def SoCfg.start (c : SoCfg) (period k : Nat) : Nat := c.offset.getD (period * (2 * k + 1) / 32)

/-- Mode of a configurable pin (R167). -/
inductive CioMode where | input | outputSafe | outputStd
  deriving DecidableEq, Repr

/-- The silence state of an OUTPUT_STD pin (R171). -/
inductive Silence where | off | on | hold
  deriving DecidableEq, Repr

/-- The settings of one configurable pin (R167, R171). -/
structure CioCfg where
  mode : CioMode := .input
  filter : Nat := 2
  silence : Silence := .off
  src : Nat := 0
  timeoutMs : Nat := 0
  deriving DecidableEq, Repr

/-- Mode of an analog channel (R175). -/
inductive AfeMode where | off | iepe | volt
  deriving DecidableEq, Repr

/-- The settings of one analog channel (R175). AA and HP are the codes of AFE_CFGn (R198); HP is 1 Hz by default. -/
structure AfeCfg where
  mode : AfeMode := .off
  aa : Nat := 0
  hp : Nat := 2
  enabled : Bool := false
  deriving DecidableEq, Repr

/-- EDGE of a capture timer (R190). -/
inductive TachEdge where | rising | falling | both
  deriving DecidableEq, Repr

/-- The settings of one capture timer (R190). Threshold and hysteresis are in units of 0.1 V. -/
structure TachCfg where
  threshold : Int := 110
  hysteresis : Nat := 10
  edge : TachEdge := .rising
  filt : Nat := 2
  fdiv : Nat := 0
  n : Nat := 1
  per : Nat := 4294967296
  enabled : Bool := false
  deriving DecidableEq, Repr

/-- The two reset modes of a RESET block and of the lock-out reset (R128, R142). -/
inductive ResetMode where | native | prd7
  deriving DecidableEq, Repr

/-! ## The function-block graph (R73 to R97) -/

/-- Where a block input is connected (R75, R76): a constant, an input signal decoded from the image, or an
output port of a block. -/
inductive Src where
  | const (b : Bool)
  | constNum (v : Word)
  | si (n : Nat)
  | cio (n : Nat)
  | cioLamp (n : Nat)
  | so (k : Nat)
  | groupGood (g : Group)
  | supplyGood (v : Supply)
  | out (blk port : Nat)
  deriving DecidableEq, Repr

/-- A signal value (R74): BOOL, or NUM with its validity. -/
inductive Val where
  | bool (b : Bool)
  | num (v : Option Word)
  deriving DecidableEq, Repr

inductive LogicOp where | and | or | xor
  deriving DecidableEq, Repr

/-- REL of a CMP block (R85). -/
inductive Rel where | eq | ne | gt | ge | lt | le
  deriving DecidableEq, Repr

/-- A channel pair (R87): its two channels, its mode and its discrepancy limit. -/
structure PairCfg where
  a : Src
  b : Src
  antivalent : Bool := false
  nd : Nat
  deriving DecidableEq, Repr

/-- MODE of an LCURT block (R90). -/
inductive MuteMode where | none | p2 | s2 | p4 | s4
  deriving DecidableEq, Repr

structure LcurtCfg where
  ossd : PairCfg
  mode : MuteMode := .none
  ms1 : Src := .const false
  ms2 : Src := .const false
  ms3 : Src := .const false
  ms4 : Src := .const false
  lrb : Src := .const false
  nSync : Nat := 12000
  nMute : Nat := 480000
  bidir : Bool := false
  nLamp : Nat := 8
  deriving DecidableEq, Repr

/-- LOCK of a GUARD block (R94). -/
inductive LockKind where | none | ptl | ptr
  deriving DecidableEq, Repr

structure GuardCfg where
  door : PairCfg
  lock : LockKind := .none
  lockPair : PairCfg
  unlockReq : Src := .const false
  unlockPermit : Src := .const false
  rst : Src := .const false
  nLock : Nat := 2400
  deriving DecidableEq, Repr

structure SpeedCfg where
  tachA : Nat
  tachB : Nat
  pprA : Nat
  pprB : Nat
  limit : Nat
  hys : Nat            -- in 0.1 rpm, the image's percentage of LIMIT already applied
  sSS : Nat := 10
  nSS : Nat := 4000
  dAbs : Nat := 50
  dRel : Nat := 10
  nx : Nat := 800
  rst : Src := .const false
  deriving DecidableEq, Repr

structure EdmCfg where
  outBlk : Nat         -- the linked OUT block (R96)
  fb : Src
  nOn : Nat := 2400
  nOff : Nat := 2400
  rst : Src := .const false
  deriving DecidableEq, Repr

/-- What an OUT block drives (R97): one or two safe outputs, or one safety-relevant CIO. -/
inductive OutTarget where
  | so (k : Nat)
  | cio (n : Nat)
  deriving DecidableEq, Repr

structure OutCfg where
  en : Src
  edm : Option Nat := none
  targets : List OutTarget
  rst : Src := .const false
  deriving DecidableEq, Repr

structure ResetCfg where
  rin : Nat            -- the SI terminal (R125)
  permit : Src
  lrb : Src := .const false
  mode : ResetMode := .native
  lampMon : Bool := false
  deriving DecidableEq, Repr

/-- A VIBGUARD block's parameters (R277). SENS in 0.01 mV/(m/s²), LIMIT and D_ABS in 0.01 mm/s. -/
structure VibCfg where
  chA : Nat
  chB : Nat
  sensA : Nat
  sensB : Nat
  band2 : Bool := false
  nWin : Nat := 8000
  limit : Nat
  hys : Nat := 10
  dAbs : Nat := 100
  dRel : Nat := 20
  nx : Nat := 8000
  rst : Src := .const false
  deriving DecidableEq, Repr

structure TelOutCfg where
  conn : Nat
  telIn : Nat          -- block number of the connection's TEL_IN (R400)
  bools : List Src
  nums : List Src
  deriving DecidableEq, Repr

/-- One function block with its inputs and parameters (R79, R85 to R97, R128, R277, R399, R400); `start` is the start value
that the image holds for its state (R80). -/
inductive Block where
  | logic (op : LogicOp) (ins : List Src)
  | not (i : Src)
  | rs (s r : Src) (start : Bool)
  | sr (s r : Src) (start : Bool)
  | edge (rise : Bool) (i : Src)
  | delay (i : Src) (start : Val)
  | ton (i : Src) (n : Nat)
  | tof (i : Src) (n : Nat)
  | tp (i : Src) (n : Nat)
  | ctu (cu rst : Src) (pv : Nat)
  | ctd (cd load : Src) (pv : Nat)
  | ctud (cu cd rst : Src) (pv : Nat)
  | cmp (a b : Src) (rel : Rel)
  | window (x : Src) (lo hi hys : Int) (start : Bool)
  | dual (p : PairCfg)
  | estop (p : PairCfg) (single : Bool)
  | lcurt (c : LcurtCfg)
  | guard (c : GuardCfg)
  | thc (b1 b2 : PairCfg)
  | enable (p : PairCfg) (p3 : Src)
  | speed (c : SpeedCfg)
  | edm (c : EdmCfg)
  | out (c : OutCfg)
  | reset (c : ResetCfg)
  | vibguard (c : VibCfg)
  | telIn (conn : Nat)
  | telOut (c : TelOutCfg)
  deriving DecidableEq, Repr

/-! ## The states of function blocks -/

/-- A fault a block holds: its code and the cycle of its entry (R84). -/
structure Held where
  code : Nat
  since : Nat
  deriving DecidableEq, Repr

/-- The state of a channel pair (R87, R88): the agreed state, and a running discrepancy measurement with the
cycle it began in and whether channel A changed first. -/
structure PairSt where
  agreed : Bool := false
  meas : Option (Nat × Bool) := none
  held : List Held := []
  deriving DecidableEq, Repr

structure LcurtSt where
  pair : PairSt := {}
  act1 : Option Nat := none     -- the cycle each sensor became active
  act2 : Option Nat := none
  act3 : Option Nat := none
  act4 : Option Nat := none
  muting : Option Nat := none   -- the cycle muting started
  lampSeen : Bool := false
  lampDark : Nat := 0
  held : List Held := []
  deriving DecidableEq, Repr

structure GuardSt where
  door : PairSt := {}
  lockPair : PairSt := {}
  locked : Bool := false        -- the held lock command
  cmdSince : Option Nat := none -- a running lock-confirmation measurement
  confirmed : Bool := false
  held : List Held := []
  deriving DecidableEq, Repr

structure ThcSt where
  p1 : PairSt := {}
  p2 : PairSt := {}
  on1 : Option Nat := none
  on2 : Option Nat := none
  armed : Bool := false
  q : Bool := false
  deriving DecidableEq, Repr

structure EnableSt where
  pair : PairSt := {}
  needPos1 : Bool := false
  held : List Held := []
  deriving DecidableEq, Repr

structure SpeedSt where
  fallen : Bool := false
  ssSince : Option Nat := none
  missA : Nat := 0
  missB : Nat := 0
  xSince : Option Nat := none
  presentRun : Nat := 0
  tolRun : Nat := 0
  speed : Option Nat := none
  held : List Held := []
  deriving DecidableEq, Repr

structure EdmSt where
  prev : Bool := false
  window : Option Nat := none
  held : List Held := []
  deriving DecidableEq, Repr

structure OutSt where
  cmd : Bool := false
  held : List Held := []
  deriving DecidableEq, Repr

/-- The state of a RESET block, and of the lock-out release qualifier (R129 to R135, R142). -/
structure ResetSt where
  openSince : Option Nat := none
  hist : Bool := false
  press : Option (Nat × Bool) := none  -- the press cycle, and whether the press is valid
  stuck : Option Nat := none           -- the cycle of entry of RESET_STUCK
  permit : Bool := false
  q : Bool := false
  ack : Bool := false
  lampRun : Nat := 0
  lampDark : Nat := 0
  lampFault : Option Nat := none
  deriving DecidableEq, Repr

/-- The four classes of a vibration segment (R282). -/
inductive SegClass where | valid | ovr | notReady | invalid
  deriving DecidableEq, Repr

structure VibChan where
  segs : List (Nat × SegClass) := []   -- newest first, at most 8
  sum : Nat := 0
  count : Nat := 0
  flags : Word := 0
  gap : Bool := false
  filter : List Word := []             -- three words of filter state
  noFrame : Nat := 0
  calRun : Nat := 0
  validRun : Nat := 0
  fill : Nat := 0                      -- VALID segments since START or since a fault (R291)
  vel : Option Nat := none
  deriving DecidableEq, Repr

structure VibSt where
  a : VibChan := {}
  b : VibChan := {}
  pos : Nat := 0
  q : Bool := false
  trip : Bool := false
  xSince : Option Nat := none
  tolRun : Nat := 0
  held : List Held := []
  done : Option Nat := none            -- the cycle whose sample is already taken
  deriving DecidableEq, Repr

/-- The three states of TEL_IN (R397). -/
inductive TelState where | unsync | syncing | live
  deriving DecidableEq, Repr

structure TelInSt where
  last : Nat := 0
  state : TelState := .unsync
  ref : Option (Nat × Bool) := none    -- age reference, and whether it is echo-based
  bools : List Bool := []
  nums : List (Option Word) := []
  deriving DecidableEq, Repr

structure TelOutSt where
  lastCn : Nat := 0
  toNext : Nat := 0
  lastCycle : Nat := 0
  made : Nat := 0                    -- numbers produced since START, up to 128
  deriving DecidableEq, Repr

/-- The state of one function block. -/
inductive BlockState where
  | none
  | bit (q : Bool)
  | edge (prev : Option Bool)
  | delay (v : Val)
  | ton (since : Option Nat)
  | tof (q : Bool) (fell : Option Nat)
  | tp (since : Option Nat) (prev : Option Bool)
  | counter (cv : Nat) (q qd ovf : Bool) (prevU prevD : Option Bool)
  | pair (p : PairSt)
  | lcurt (x : LcurtSt)
  | guard (x : GuardSt)
  | thc (x : ThcSt)
  | enable (x : EnableSt)
  | speed (x : SpeedSt)
  | edm (x : EdmSt)
  | out (x : OutSt)
  | reset (x : ResetSt)
  | vib (x : VibSt)
  | telIn (x : TelInSt)
  | telOut (x : TelOutSt)
  deriving DecidableEq, Repr

/-! ## The sections of an image (R344 to R346) -/

/-- One safe-telegram connection (R393). -/
structure ConnCfg where
  id : Word
  peer : Nat            -- IPv4 address and UDP port of the partner
  period : Nat
  nw : Nat
  nbIn : Nat := 0
  nnIn : Nat := 0
  nbOut : Nat := 0
  nnOut : Nat := 0
  safe : List Bool := []
  deriving DecidableEq, Repr

/-- What the SAFETY section fixes (R16, R72, R99, R105, R142, R152, R167, R393). -/
structure SafetyImage where
  graph : List Block := []
  signals : Nat := 0
  conns : Tab ConnCfg := []
  rotMin : Nat := 12
  scullMs : Nat := 50
  twoOarH : Nat := 72
  lorTerm : Nat := 0
  lorMode : ResetMode := .native
  si : Tab SiCfg := []
  tpPeriod : Nat := 256
  walkW : Nat := 0
  walkI : Nat := 1
  tp : Tab TpCfg := []
  so : Tab SoCfg := []
  cio : Tab CioCfg := []
  afe : Tab AfeCfg := []
  tach : Tab TachCfg := []
  deriving DecidableEq, Repr, Inhabited

/-- A route table entry (R35, R45): what it matches, where it sends, and how. -/
structure Route where
  srcLo : Nat := 0
  srcHi : Nat := 0
  cls : Nat := 0
  anyCls : Bool := false
  valid : Bool := false
  dest : BitVec 16 := 0
  queue : Nat := 0
  safe : Bool := false
  crc : Bool := false
  rom : Bool := false
  arbp : Nat := 0
  deriving DecidableEq, Repr, Inhabited

/-- A ring's settings and its address book: UID, address, interval (R212, R214). -/
structure RingCfg where
  en : Bool := false
  auto : Bool := false
  defInterval : Nat := 0
  book : List (U64 × Nat × Nat) := []
  deriving DecidableEq, Repr

/-- A local channel of the standard feature task (R271): the task that reports it, its report interval in ticks, the velocity
band, the four envelope bands (centre, width), and the timer of its speed. -/
structure FeatureCfg where
  task : Nat
  interval : Nat := 100000000
  vband2 : Bool := false
  env : List (Nat × Nat) := []
  timer : Option Nat := none
  deriving DecidableEq, Repr

/-- What the CM section fixes (R175, R190, R196, R212, R250, R261, R272, R333). -/
structure CmImage where
  afe : Tab AfeCfg := []
  tach : Tab TachCfg := []
  alarms : Tab (List Word) := []
  rings : Tab RingCfg := []
  features : List (Nat × FeatureCfg) := []
  cores : BitVec 8 := 0
  bistPeriod : Nat := 60
  bistCoreEn : Bool := true
  reclaim : Nat := 8
  hostBudget : Nat := 512
  deriving DecidableEq, Repr, Inhabited

/-- A task of the USER section (R225, R229): its five descriptor words and its image. -/
structure TaskImage where
  desc : List Word := []
  code : List Word := []
  image : List Word := []
  deriving DecidableEq, Repr

structure UserImage where
  tasks : Tab TaskImage := []
  routes : Tab Route := []
  deriving DecidableEq, Repr, Inhabited

/-- A password slot (R369). -/
structure PwSlot where
  salt : List Byte := []
  hash : List Byte := []
  rights : BitVec 4 := 0
  defined : Bool := false
  deriving DecidableEq, Repr

/-- The password table of R369 as its bytes spell it: eight entries of 64 bytes. -/
def pwTable (t : List (BitVec 8)) : Tab PwSlot :=
  (List.range 8).map (fun k =>
    let e := (t.drop (64 * k)).take 64
    let at' (i : Nat) : BitVec 8 := (e[i]?).getD 0
    (k, { salt := e.take 16, hash := (e.drop 16).take 32, rights := (at' 0x30).setWidth 4, defined := (at' 0x31).getLsbD 0 }))

/-- What the NET section fixes (R369, R386, R391, R392, R415). -/
structure NetImage where
  slots : Tab PwSlot := []
  routes : Tab Route := []
  telPort : Nat := 38464
  regPort : Nat := 38465
  ip : Nat := 0
  domain : Nat := 0
  prio1 : Nat := 128
  prio2 : Nat := 128
  slaveOnly : Bool := true
  ppsFree : Bool := false
  spread : Nat := 0
  deriving DecidableEq, Repr, Inhabited

/-! ## Values the spec leaves open

Each is an opaque constant: no proof can see a value of it. -/

/-- A fresh value for each use (nonces, challenges, a random release): applied to the counter State.fresh. -/
opaque Config.freeWord : Nat → Word

/-- The payload of a NaN that an operation gives (R222 says only that it is one). -/
opaque Config.nanBits : Word → Word → Word → Word

/-- The counts a core's pipeline makes over an interval, before they are bounded by the interval's cycles (R243). -/
opaque Config.pipelineCount : Nat → Nat

/-- How the lane microcode codes the content of a state word of a block type (R79): the model's packing of the content, and
this mask over it; by type code and word. The spec publishes no coding. -/
opaque Config.stateMask : Nat → Nat → Word

/-- How the lane microcode codes an invalid NUM in a state word (R79). -/
opaque Config.invalidNum : Word

/-- One step of the vibration guard's filter (R280): sensitivity, BAND and the three filter words with one
sample give the new filter words and the square of the velocity sample. -/
opaque Config.vibFilter : Nat → Bool → List Word → Word → List Word × Nat

/-- The mean square of a segment in 1/16,384 of LIMIT² from LIMIT, the sum of squares and the count (R280);
the spec gives no rounding. -/
opaque Config.vibMean : Nat → Nat → Nat → Nat

/-- The rounding, by at most one unit, of a velocity to 0.01 mm/s (R280). -/
opaque Config.vibRound : Nat → Bool

/-- The rounding, by at most one unit, of a sample after its gain (R183) and of a gain factor; the spec gives none. -/
opaque Config.gainRound : Int → Bool

/-- The filters of an analog channel, each from its content and one input to its content and its output: the decimation
filter with the response of an AA setting, the high-pass filter of an HP setting, and the low-pass filter of the decimated
stream (R175, R176, R186). The spec gives their responses and no coefficients. -/
opaque Config.aaFilter : Nat → List Int → Int → List Int × Int
opaque Config.hpFilter : Nat → List Int → Int → List Int × Int
opaque Config.lowPass : List Int → Int → List Int × Int

/-- The content of the high-pass filter of an HP setting, preset with a mean over 16 inputs of this sum (R181). -/
opaque Config.hpPreset : Nat → Int → List Int

/-- Where the two bias thresholds of a channel lie within their tolerance of ±0.2 V (R178). -/
opaque Config.biasHigh : Nat → Nat
opaque Config.biasLow : Nat → Nat

/-- What a ring node says of itself (R210): type and firmware, sensitivity, burst LSB. -/
opaque Config.nodeIdent : U64 → List Word

/-- The signature that the ROM of the self-test controller expects of a unit type (R326): lanes 1 to 3, dies 4 and 5,
cores 8. -/
opaque Config.bistExpected : Nat → BitVec 64

/-- Which of the egress queues 1 to 3 a PCP of 4 or more names (R385), and what the module's own clock announces: its quality, and
its identity by its MAC address (R391). -/
opaque Config.pcpQueue : Nat → Nat
opaque Config.clockQuality : Nat
opaque Config.clockIdent : Nat → Nat

/-- Where the thresholds of the supply supervisor lie within their tolerance (R420). -/
opaque Config.vsysTol : Nat → Nat

/-- The rounding, by at most one unit, of a remaining or elapsed time shown in seconds or milliseconds; the spec gives none. -/
opaque Config.unitRound : Nat → Bool

/-- The ROM route entries that the manual does not list, and the queues of all ROM entries (R35, R45). -/
opaque Config.romRoute : Nat → Route
opaque Config.romQueue : Nat → Nat

/-- A receiving port, or the CM switch, has buffer space for a word at an FCLK edge (R36); the spec gives no buffer sizes
outside safety routes. -/
opaque Config.credit : Nat → Nat → Bool

/-- The SAFETY section's content as the lanes and the field die read it: its format is not published (R344). -/
opaque Config.parseSafety : List Byte → SafetyImage

/-- The CM, USER and NET sections' content as their consumers read them: their formats are not published (R344). -/
opaque Config.parseCm : List Byte → CmImage
opaque Config.parseUser : List Byte → UserImage
opaque Config.parseNet : List Byte → NetImage

/-- The 512 bytes of the password table in a NET section; the spec does not give their place (R369). -/
opaque Config.pwBytes : List Byte → List Byte

/-- A consumer refuses the content of an image when it loads it (R346), beyond the checks the spec writes out. -/
opaque Config.loadRefused : List Byte → Bool

/-- The present CM parameters in section form (R356, R357): the loaded section with its changes. -/
opaque Config.cmForm : List Byte → Tab (List Word) → List Byte

/-- The parameter identity of an alarm entry, and of a booked node's interval, in the change log (R359): the spec numbers no
parameters. -/
opaque Config.alarmParam : Nat → Nat
opaque Config.intervalParam : Nat → U64 → Nat

/-- The limits of a feature definition's value (R372): the spec gives no form of these parameters. -/
opaque Config.featureOk : Nat → List Word → Bool

/-- The 32-bit LFSR of a hook (R470): its next content, and what it draws for a JITTER; the spec gives neither its
feedback nor its mapping. -/
opaque Config.lfsrStep : Word → Word
opaque Config.lfsrDraw : Word → Nat → Nat

end Sys2Proof
end

