-- ==== Sys2Proof/Syntax.lean ====
section
/-!
DEFINITION. The commands the block takes: one constructor of Instr per row of spec/opcode_table.json, in the
table's order. An operand is what comes to the module from outside (a reading, a frame, a host's write, which
channel or lane an event concerns); everything else an event needs is in State.
-/
namespace Sys2Proof

/-- The port a host request comes over (R370): host SPI, or one UDP peer address. -/
inductive Port where
  | spi
  | udp (peer : Nat)
  deriving DecidableEq, Repr

/-- What reaches a lane with the image of a cycle: whether the image frame passed its checks (R18), the lane
clocks its evaluation takes (R98), the LCLK count since the last image (R418), the timers and channels whose
frame was not accepted or showed a gap (R96, R282), whether a read met an invalid dual-rail code, and how many memory
errors were corrected (R47). -/
structure ImageArrival where
  intact : Bool := true
  clocks : Nat := 0
  lclk : Nat := 50000
  tachLost : List Nat := []
  decimLost : List Nat := []
  badRead : Bool := false
  corrected : Nat := 0
  deriving DecidableEq, Repr

/-- The band a field supply's reading lies in (R163). -/
inductive VBand where | above192 | below192 | below160 | below100
  deriving DecidableEq, Repr

/-- A safe output at a sampling instant (R151): its level, its current in mA, and its current limit. -/
structure SoReading where
  high : Bool := false
  mA : Nat := 0
  limit : Bool := false
  deriving DecidableEq, Repr

/-- A configurable pin at a sampling instant (R168, R169): the raw input sample, the output readback level,
the current in mA and the current limit. -/
structure CioReading where
  raw : Bool := false
  high : Bool := false
  mA : Nat := 0
  limit : Bool := false
  deriving DecidableEq, Repr

/-- A field supply at a sampling instant (R163): its band, and its voltage in 10 mV. -/
structure SupplyReading where
  band : VBand := .above192
  volt : Nat := 2400
  deriving DecidableEq, Repr

/-- A group at a sampling instant (R160, R161): current in mA, whether it is above its trip, temperature in
°C, whether the sensor is at its trip and whether it is below its release. -/
structure GroupReading where
  mA : Nat := 0
  isOver : Bool := false
  temp : Int := 25
  hot : Bool := false
  cool : Bool := true
  deriving DecidableEq, Repr

/-- Everything the field die reads at one sampling instant (R101, R110, R151, R160, R163, R169). A
terminal that is not listed reads its default. -/
structure Readings where
  si : BitVec 64 := 0
  tp : BitVec 16 := 0xFFFF
  tpLimit : BitVec 16 := 0
  so : Tab SoReading := []
  cio : Tab CioReading := []
  vin : SupplyReading := {}
  v1 : SupplyReading := {}
  v2 : SupplyReading := {}
  sog1 : GroupReading := {}
  sog2 : GroupReading := {}
  ciog1 : GroupReading := {}
  ciog2 : GroupReading := {}
  deriving DecidableEq, Repr

/-- Who writes a compare value (R193): the host, or a DSP task. -/
inductive CmpWriter where
  | host (port : Port)
  | task (n : Nat)
  deriving DecidableEq, Repr

/-- Who on a ring sees or loses a signal (R200, R203): a controller port, or an input of a node; and a node's supply, without
which it repeats nothing (R201). -/
inductive RingReceiver where
  | portA
  | portB
  | node (uid : U64) (fromA : Bool)
  | supply (uid : U64)
  deriving DecidableEq, Repr

/-- A frame on a ring as a port or node receives it (R207): header, tagged words (tag, payload), CRC field; whether it
travels in the stream that port A sent (R202, R203); the region of the superframe it arrives in (R205: report slot 0 to 15,
16 the burst region, 17 the discovery window, 18 any other); and, with a beacon at a node, the burst samples that the node
has acquired from OFFSET on (R211). -/
structure RingFrame where
  at' : RingReceiver
  header : U64
  words : List (Word × Word)
  crc : Word
  streamA : Bool := true
  region : Nat := 18
  acquired : List Word := []
  deriving DecidableEq, Repr

/-- How a COMMAND frame reaches a node (R211): the input it came in by, and its target address. -/
structure NodeCmd where
  fromA : Bool := true
  target : Nat := 0x1FF
  deriving DecidableEq, Repr

/-- A COMMAND frame at a node. -/
structure CmdIn where
  uid : U64
  how : NodeCmd := {}
  deriving DecidableEq, Repr

/-- A node, and the input by which a frame came in. -/
structure NodeIn where
  uid : U64
  fromA : Bool := true
  deriving DecidableEq, Repr

/-- A DISCOVER at a node (R213): the input it came in by, and whether it travels in the stream of port A. -/
structure DiscoverIn where
  uid : U64
  fromA : Bool := true
  streamA : Bool := true
  deriving DecidableEq, Repr

/-- What a node builds a report from at the close of its window (R210, R211): its values, and whether it reports a fault of its
sensor. -/
structure SensorReading where
  values : List Word
  sensor : Bool := false
  deriving DecidableEq, Repr

/-- An ANNOUNCE (R210, R214): who announces itself, and its type and firmware. -/
structure Announced where
  uid : U64
  kind : Word := 0
  deriving DecidableEq, Repr

/-- SEQ of a node frame, and whether port A took it. -/
structure RingArrival where
  seq : Nat
  sideA : Bool := true
  deriving DecidableEq, Repr

/-- A BURST frame (R210, R217): SEQ, the number of its first sample, and whether port A took it. -/
structure BurstPart where
  seq : Nat
  offset : Nat
  sideA : Bool := true
  deriving DecidableEq, Repr

/-- An accepted REPORT (R210, R215). -/
structure RingReport where
  addr : Nat
  seq : Nat
  wrap : Bool := false
  sensor : Bool := false
  values : List Word
  late : Bool := false
  resend : Bool := false
  sideA : Bool := true         -- it arrived at port A
  deriving DecidableEq, Repr

/-- A beacon as a node takes it (R202, R210, R212): its ring, its ten words, and the burst samples that the node has acquired
from the OFFSET they name (R211). -/
structure Beacon where
  restart : Bool := false
  seq : Nat
  sf : Nat
  fromA : Bool := true
  ring : Nat := 0
  words : List Word := []
  acquired : List Word := []
  deriving DecidableEq, Repr

/-- A burst request (R217): who asks (a DSP task's SRC, or the host's 0x400), and what. -/
structure BurstReq where
  src : Nat
  addr : Nat
  rate : Nat
  countM1 : Nat
  prio : Nat := 0
  evict : Bool := false
  deriving DecidableEq, Repr

/-- A frame that matches a triggered task (R231). -/
structure TrigFrame where
  src : Nat
  cls : Nat
  seq : Nat
  words : List Word
  deriving DecidableEq, Repr

/-- A COPY (R227): which page, which way, where, and how many bytes; with toPage the bytes of the data region. -/
structure CopyReq where
  ref : Word
  toPage : Bool
  pageOff : Nat
  dataOff : Nat
  bytes : Nat
  data : List Byte := []
  deriving DecidableEq, Repr

/-- Who meets a memory error of the waveform memory (R268): a core's load, the host's read, or another access. -/
inductive BoatReader where
  | core (c : Nat)
  | host
  | other
  deriving DecidableEq, Repr

/-- A memory error of the waveform memory (R268): who met it, and whether ECC corrected it. -/
structure BoatError where
  reader : BoatReader
  corrected : Bool := false
  deriving DecidableEq, Repr

/-- Filter samples of a tach input since the last ones, in mV (R190); the last is taken at the raw tick `tick`. -/
structure TachRun where
  tick : Nat
  volts : List Int
  deriving DecidableEq, Repr

/-- A reading of VSYS in 10 mV, and for how many samples of the supervisor it has held (R420). -/
structure VsysReading where
  volt : Nat
  samples : Nat
  deriving DecidableEq, Repr

/-- A reading of a rail in mV, and for how many samples of the supervisor it has held (R422). -/
structure RailReading where
  rail : Nat
  mv : Nat
  samples : Nat
  deriving DecidableEq, Repr

/-- TAG and CRC of a request of the register protocol (R404). -/
structure ReqTag where
  txn : Nat
  crc : Word
  deriving DecidableEq, Repr

/-- The port and the domain of a PTP message (R391). -/
structure PtpIn where
  port : Nat
  domain : Nat
  deriving DecidableEq, Repr

/-- A page request at a requester port of the Boathouse (R255). -/
structure PageReq where
  port : Nat
  holder : Nat
  prio : Nat := 0
  evict : Bool := false
  deriving DecidableEq, Repr

/-- What the NVM controller finds at its start (R341, R342): the content of a flash device fitted since the last boot
(none: the same device), its JEDEC identity, its size as a power of 2 in bytes, and what its SFDP declares. -/
structure FlashFacts where
  fitted : Option (List (Nat × Byte)) := none
  jedec : Nat := 0
  sizeLog2 : Nat := 25
  addr4 : Bool := true
  suspend : Bool := true
  wp : Bool := false
  sfdp : Bool := true
  read114 : Bool := true
  erase4k : Bool := true
  deriving DecidableEq, Repr

/-- A CM parameter that a password-class change sets (R16, R214, R275): an alarm entry, a feature definition by its
parameter identity, or the interval of a booked ring node. -/
inductive CmChange where
  | alarm (entry : Nat) (words : List Word)
  | feature (param : Nat) (value : List Word)
  | interval (ring : Nat) (uid : U64) (ms : Nat)
  deriving DecidableEq, Repr

/-- What an Ethernet frame carries for the management core (R386). -/
inductive EthKind where
  | arp
  | icmp
  | udp (dstPort : Nat)
  | ptpFrame
  | other
  deriving DecidableEq, Repr

/-- An Ethernet frame at a switch port (R384, R385): its addresses, its length, whether it is a pause frame, and
the PCP of its tag. -/
structure EthFrame where
  dst : Nat
  src : Nat
  length : Nat := 64
  pause : Bool := false
  pcp : Nat := 0
  kind : EthKind := .other
  deriving DecidableEq, Repr

/-- What an Announce says of a grandmaster, in the order in which the best master clock algorithm compares (PRESUMED, log entry
177). `quality` stands for class, accuracy and variance. -/
structure PtpClock where
  prio1 : Nat
  quality : Nat
  prio2 : Nat
  ident : Nat
  deriving DecidableEq, Repr

/-- A PTP message (R391). Times are in ns; a correction is in ns. `through` is one that the transparent clock forwards. -/
inductive PtpMsg where
  | announce (c : PtpClock)
  | sync (twoStep : Bool) (origin : Int) (received : Int) (correction : Int)
  | followUp (origin : Int) (correction : Int)
  | delayReq
  | delayResp (received : Int) (correction : Int)
  | through (correction : Int) (residence : Nat)
  deriving DecidableEq, Repr

/-- The commands (spec/opcode_table.json, in its order). -/
inductive Instr where
  /-- R18: The cycle timer reaches 12,500 TCLK periods; the field die applies the previous votes and any due seat mapping, freezes the input image and starts the next cycle. -/
  | safetyCycleBoundary
  /-- R18: A lane receives and checks the input image frame, decodes inputs and telegrams, evaluates the whole graph and sends its vote frame. -/
  | laneInputImage (lane : Lane) (a : ImageArrival)
  /-- R85: A TON's elapsed count reaches N and Q becomes 1. -/
  | tonExpiry (lane : Lane) (blk : Nat)
  /-- R85: A TOF's elapsed count after IN fell reaches N and Q becomes 0. -/
  | tofExpiry (lane : Lane) (blk : Nat)
  /-- R85: A TP block's pulse reaches N cycles and Q becomes 0. -/
  | tpPulseExpiry (lane : Lane) (blk : Nat)
  /-- R88: The other channel has not followed by elapsed count N_d + 1 and the block enters DISC_TIMEOUT. -/
  | discTimeout (lane : Lane) (blk : Nat)
  /-- R91: Muting reaches N_mute, ends and raises MUTE_TIMEOUT. -/
  | muteTimeout (lane : Lane) (blk : Nat)
  /-- R92: The lamp readback shows no current by N_lamp or for 2 cycles; muting ends. -/
  | muteLamp (lane : Lane) (blk : Nat)
  /-- R95: The lock pair is not accepted locked by N_lock + 1 after the lock command, or a lock channel shows unlocked. -/
  | lockFb (lane : Lane) (blk : Nat)
  /-- R96: Both speeds stay at or below S_SS up to elapsed count N_ss and STANDSTILL becomes 1. -/
  | standstillReached (lane : Lane) (blk : Nat)
  /-- R96: Eight consecutive cycles without an accepted capture frame on one channel raise TACH_MISSING. -/
  | tachMissing (lane : Lane) (blk : Nat)
  /-- R96: The speed cross-check measurement exceeds N_x and the block raises SPEED_DISC. -/
  | speedDisc (lane : Lane) (blk : Nat)
  /-- R96: FB has not reached its expected value by N_on or N_off and EDM_FAIL is raised. -/
  | edmTimeout (lane : Lane) (blk : Nat)
  /-- R129: RIN has been 0 for 400 cycles and the open history flag H becomes 1. -/
  | resetOpenHistory (lane : Lane) (blk : Nat)
  /-- R133: RIN held 1 from a press reaches elapsed count 80,001 and RESET_STUCK is raised. -/
  | resetStuck (lane : Lane) (blk : Nat)
  /-- R283: A vibration guard segment ends; segments are classified, window velocities computed, and Q trips or returns. -/
  | vibSegmentEnd (lane : Lane) (blk : Nat)
  /-- R284: The guard cross-check does not return within tolerance by N_x + 1. -/
  | vibDisc (lane : Lane) (blk : Nat)
  /-- R47: A lane's evaluation is not finished at t0 + 101 µs and it flags itself faulty with cause 0x05. -/
  | evaluationOverrun (lane : Lane)
  /-- R47: The lane comparator finds a difference between the two engine copies and the lane flags itself faulty. -/
  | lockstepMismatch (lane : Lane)
  /-- R47: An uncorrectable ECC error in lane SRAM makes the lane flag itself faulty with cause 0x03. -/
  | laneUncorrectableEcc (lane : Lane)
  /-- R301: A lane's background configuration pass ends and compares its CRC, withdrawing with cause 0x04 on mismatch. -/
  | laneConfigPassComplete (lane : Lane) (ok : Bool)
  /-- R50: The field die receives a lane's vote or withdraw frame and records it for classification. -/
  | seatVoteFrame (lane : Lane) (onTime intact : Bool)
  /-- R50: At t0 + 110 µs the field die classifies each lane's contribution, compares votes and the seat manager applies one transition row. -/
  | voteDeadline
  /-- R58: A rotation instant falls and the seat manager requests a Spare slice, goes to RESYNC, or defers the step. -/
  | rotationInstant
  /-- R65: Sculling time reaches the sculling limit and all safe outputs go off with lock-out. -/
  | scullTimeout
  /-- R69: Two-oar time reaches the limit, STOP_REQ is set and a warning raised. -/
  | twoOarLimit
  /-- R68: 24 h after a counted failure the lane's failure count drops. -/
  | failureWindowExpiry (lane : Lane)
  /-- R64: A lane receives the seat manager's abort command and stops its slice or activity. -/
  | spareAbortCommand (lane : Lane)
  /-- R64: The Spare's abort completes within 20 µs, restoring the word under test. -/
  | spareAbortComplete (lane : Lane)
  /-- R60: The receiving lane takes a state-copy frame, converts it to its coding, and restarts on a failed check. -/
  | stateCopyFrame (lane : Lane) (intact last : Bool)
  /-- R60: The resynchronising lane finishes evaluating cycle c from the copied state. -/
  | catchUpEvaluationEnd (lane : Lane)
  /-- R62: An aborted lane's re-check of its segment ends, withdrawing with cause 0x03 on failure. -/
  | segmentRecheckComplete (lane : Lane) (ok : Bool)
  /-- R34: A receiver takes a configuration frame that sets LAST to 0xFF for a restarted source. -/
  | lastResetFrame (endpoint src who : Nat)
  /-- R32: A receiver takes a frame, applies CHK, sequence window, length and CRC-32 checks, routes or discards it. -/
  | fabricFrameReceive (port : Nat) (words : List (Word × Word)) (wait : Nat)
  /-- R27: A link counts 4 CHK failures in a cycle or 64 FCLK cycles without a passing word. -/
  | linkFail (link : Nat)
  /-- R36: A copy held 4,096 FCLK cycles without credit to a DSP or Boathouse endpoint is discarded. -/
  | creditTimeoutDiscard (port : Nat)
  /-- R102: F consecutive unmasked samples at a new level change an input's filtered state. -/
  | inputFilterChange (n : Nat)
  /-- R143: The lock-out reset terminal has been open 400 cycles after arming and HIST becomes 1. -/
  | lorOpenHistory
  /-- R106: A PULSE generator starts its 8-slot off-pulse on its scheduled slot boundary, applying any walk. -/
  | testPulseBegin (k : Nat)
  /-- R110: A pulse window's check and post samples are complete and the readback, own-pulse and foreign checks are judged. -/
  | testPulseWindowEnd (k : Nat)
  /-- R110: A generator reads 0 or is in current limit for 2 consecutive samples outside its pulse. -/
  | tpOverload (k : Nat)
  /-- R163: A field supply falls below 19.2 V and VFLD_LOW level 1 is raised. -/
  | vfldLowWarning (v : Supply)
  /-- R163: A field supply stays below 16.0 V for 66 samples; inputs or its groups are shut down. -/
  | vfldSag (v : Supply)
  /-- R163: A field supply stays below 10.0 V for 66 samples. -/
  | vfldMissing (v : Supply)
  /-- R163: A field supply stays above 19.2 V for 3,201 samples and its re-enable request is met. -/
  | vfldRecovery (v : Supply)
  /-- R152: A scheduled off-pulse of a pulsed safe output is given on one switch or skipped, and counted for the walk. -/
  | outputPulseBegin (k : Nat)
  /-- R154: A given off-pulse ends after 4 slots and its check and foreign checks are judged. -/
  | outputPulseEnd (k : Nat)
  /-- R155: A judged off-readback or a check sample reads high on a safe output. -/
  | outShortVfld (k : Nat)
  /-- R155: An energised output reads below threshold outside current limit and both switches are held off. -/
  | outStuckOff (k : Nat)
  /-- R155: An output's current limit is active at 128 consecutive samples and both switches are held off. -/
  | outOverload (k : Nat)
  /-- R155: An output's current stays below 5 mA at 32 judged on-samples. -/
  | outOpenLoad (k : Nat)
  /-- R156: Eight consecutive clean cycles clear a latched OUT_SHORT_VFLD or OUT_CROSS. -/
  | outDiagClear (k : Nat)
  /-- R160: A group's current exceeds its trip for 320 consecutive samples and the group shuts down. -/
  | grpOvercurrent (g : Group)
  /-- R161: A group's temperature sensor reaches 155 °C and the group shuts down. -/
  | grpOvertemp (g : Group)
  /-- R164: The first sampling instant 100 µs after the start completes the shut-down and applies any pending re-enable. -/
  | groupShutdownComplete (g : Group)
  /-- R166: A second consecutive boundary without a valid vote switches every SO and OUTPUT_SAFE pin off and reports OUT_WD. -/
  | outputWatchdogTrip
  /-- R166: Valid votes at 8 consecutive boundaries release the watchdog hold. -/
  | outputWatchdogRelease
  /-- R170: An OUTPUT_STD command frame sets the masked pins of its named source and refuses others. -/
  | cioCommandFrame (src : Nat) (mask value : Word)
  /-- R170: A heartbeat frame from a pin's source restarts its silence measurement. -/
  | cioHeartbeatFrame (src : Nat)
  /-- R171: No accepted frame by N_hb + 1 puts an OUTPUT_STD pin in its silence state. -/
  | cioSilent (n : Nat)
  /-- R160: A CIO output is in current limit for 128 samples and is held off. -/
  | cioOverload (n : Nat)
  /-- R169: A CIO pin reads high 102 µs after being commanded off. -/
  | cioShortVfld (n : Nat)
  /-- R173: A host write of CIO_CMD_VALUE sends a command frame with the last MASK. -/
  | cioCmdValueWrite (port : Port) (value : Word)
  /-- R173: A host write of CIO_HEARTBEAT sends a heartbeat frame from the port's SRC. -/
  | cioHeartbeatWrite (port : Port) (value : Word)
  /-- R185: A channel completes 16 full-rate samples and sends its stamped frame to the Boathouse. -/
  | afeFullRateFrame (ch stamp : Nat) (samples : List Int)
  /-- R186: A decimated sample becomes ready, with OR-ed flags and the bias check, for the next image;
  `tick` is the raw tick at which it is ready. -/
  | afeDecimatedSample (ch tick : Nat) (bias : Int)
  /-- R178: An IEPE bias above 21 V for 16 readings declares AIN_OPEN. -/
  | ainOpen (ch : Nat)
  /-- R178: An IEPE bias below 1 V for 16 readings declares AIN_SHORT. -/
  | ainShort (ch : Nat)
  /-- R181: 3,125 in-window bias readings end SETTLING, presetting the high-pass filter. -/
  | ainSettlingComplete (ch : Nat)
  /-- R184: A password-class write of AFE_CTRLn.CAL starts a calibration of a non-guard channel. -/
  | afeCalRequest (port : Port) (ch : Nat)
  /-- R183: The 70 ms calibration ends and the new gain is applied or AIN_CAL_FAIL raised; `tick` is
  its raw tick. -/
  | afeCalComplete (ch tick : Nat)
  /-- R189: An accepted write of EN = 1 enables a channel into SETTLING or sets PENDING. -/
  | afeChannelEnable (port : Port) (ch : Nat)
  /-- R189: An accepted write of EN = 0 starts a channel shut-down. -/
  | afeChannelDisable (port : Port) (ch : Nat)
  /-- R189: A channel shut-down completes and any pending enable is applied. -/
  | afeShutdownComplete (ch : Nat)
  /-- R191: The tach filter accepts a counted edge, stamps it, counts it, captures it and fires any compare match. -/
  | tachCountedEdge (t : Nat) (run : TachRun)
  /-- R193: A write of CMP0 or CMP1 sets the compare value or is refused at PER or more. -/
  | tachCmpWrite (by' : CmpWriter) (t k : Nat) (value : Word)
  /-- R194: A write of STEP0 or STEP1 sets the step or is refused at PER or more. -/
  | tachStepWrite (by' : CmpWriter) (t k : Nat) (value : Word)
  /-- R196: An accepted write of EN = 1 enables a non-safety timer and clears its counts, or sets PENDING. -/
  | tachEnable (port : Port) (t : Nat)
  /-- R196: An accepted write of EN = 0 stops edge counting and starts a timer shut-down. -/
  | tachDisable (port : Port) (t : Nat)
  /-- R205: A superframe begins; the controller allocates slots and sends the beacon and commands from both ports. -/
  | ringSuperframeStart (r tick : Nat)
  /-- R209: A ring port or node takes a frame and applies HCRC, CHK, CRC and sequence checks. -/
  | ringFrameReceive (r : Nat) (f : RingFrame)
  /-- R215: The controller accepts a REPORT, updates the latest-values table and sends it onto the fabric. -/
  | ringReportReceive (r : Nat) (rep : RingReport)
  /-- R210: The controller accepts an IDENT reply from a node. -/
  | ringReplyReceive (r addr : Nat) (at' : RingArrival) (words : List Word)
  /-- R214: The controller accepts an ANNOUNCE and decides ASSIGN or PARK for the UID. -/
  | ringAnnounceReceive (r : Nat) (node : Announced)
  /-- R217: The controller accepts a BURST frame, advances OFFSET, writes pages and completes the burst when done. -/
  | ringBurstFrameReceive (r addr : Nat) (part : BurstPart) (samples : List Word)
  /-- R216: An empty slot or failing frame gets a resend slot or counts as lost. -/
  | ringSlotFail (r addr : Nat)
  /-- R212: A node accepts a beacon, takes timing, and on RESTART drops its address and aborts its burst. -/
  | nodeBeacon (uid : U64) (b : Beacon)
  /-- R213: The first unaddressed node turns the DISCOVER frame into its ANNOUNCE in place. -/
  | nodeDiscover (r : Nat) (d : DiscoverIn)
  /-- R211: A node with the matching UID takes its address, restarts SEQ and sets its interval and phase. -/
  | nodeAssign (node : NodeIn) (target : U64) (addr interval phase : Nat)
  /-- R211: A node sends IDENT in its next reply slot. -/
  | nodeIdent (node : CmdIn)
  /-- R211: A node begins acquisition of a burst at the requested rate. -/
  | nodeBurst (node : CmdIn) (rate count : Nat)
  /-- R211: A node discards its burst data. -/
  | nodeBurstAbort (node : CmdIn)
  /-- R211: A node with the matching UID stays unaddressed until the next RESTART. -/
  | nodePark (node : NodeIn) (target : U64)
  /-- R211: A node drops its address and becomes unaddressed. -/
  | nodeRelease (node : CmdIn)
  /-- R211: A node closes its report window at its interval and phase and builds a report. -/
  | nodeReportWindow (uid : U64) (r : SensorReading)
  /-- R212: A node accepts no beacon in 50 superframes and drops its address. -/
  | nodeBeaconLoss (uid : U64)
  /-- R200: A receiver sees no transition for 32 bit times and the node wraps. -/
  | lossOfSignal (r : Nat) (rx : RingReceiver)
  /-- R204: A beacon copy is missing in 2 consecutive superframes and the ring is SPLIT. -/
  | ringBreak (r : Nat)
  /-- R204: Both beacon copies arrive in 16 consecutive superframes. -/
  | ringClosed (r : Nat)
  /-- R204: No valid frame at either port in 8 consecutive superframes. -/
  | ringDown (r : Nat)
  /-- R204: Three consecutive allocated slots pass without a valid frame from a node. -/
  | nodeLost (r addr : Nat)
  /-- R215: An address's last report becomes older than 2 × interval + 3 ms and is marked STALE. -/
  | nodeStale (r addr : Nat)
  /-- R217: A command frame requests a burst; pages are obtained and the burst queued or refused. -/
  | ringBurstRequest (r : Nat) (b : BurstReq)
  /-- R220: A host write of RING_BURST_CMD queues a burst request. -/
  | ringBurstCmdWrite (port : Port) (r : Nat) (value : Word)
  /-- R218: An accepted write of RING_CTRL.EN = 1 starts the ring or sets PENDING. -/
  | ringEnable (port : Port) (r : Nat)
  /-- R218: An accepted write of EN = 0 sends RELEASE, stops beacons and aborts bursts. -/
  | ringDisable (port : Port) (r : Nat)
  /-- R218: The ring shut-down completes with drivers off and any pending enable starts the ring. -/
  | ringShutdownComplete (r : Nat)
  /-- R230: A periodic task's release tick arrives and it becomes READY or counts as SKIPPED. -/
  | periodicRelease (t : Nat)
  /-- R231: A matching frame releases a triggered task or becomes its pending trigger. -/
  | taskTrigger (t : Nat) (f : TrigFrame)
  /-- R232: Cox starts the highest-ranked startable task on the lowest idle core in its mask. -/
  | coxDispatch
  /-- R227: The task ends its activation and becomes WAITING or READY on a pending trigger. -/
  | done (core : Nat)
  /-- R234: At a preemption point the task continues or is saved and preempted by an outranking task. -/
  | yield (core : Nat)
  /-- R228: A task hands a frame to the transmit buffer, stalling until room, or is refused. -/
  | send (core cls : Nat) (words : List Word) (room : Bool)
  /-- R228: Room appears in the transmit buffer and a stalled SEND completes. -/
  | sendBufferRoom (core : Nat)
  /-- R227: A task requests one page and receives a reference or null. -/
  | pageReq (core : Nat)
  /-- R262: A task returns a held page, or receives EVICTED for a stale reference. -/
  | pageFree (core : Nat) (ref : Word)
  /-- R227: A task starts a copy between a held page and the data region. -/
  | copy (core : Nat) (c : CopyReq)
  /-- R227: A started COPY finishes. -/
  | copyComplete (core : Nat)
  /-- R227: A task waits until every COPY of its run is complete. -/
  | copyWait (core : Nat)
  /-- R227: A task obtains the raw tick count from one TCLK edge. -/
  | time (core : Nat)
  /-- R247: A task reads a counter of its core, or gets 0 and a count in DENIED. -/
  | pmuRead (core idx : Nat)
  /-- R227: A task reads one latest-values table entry from one report. -/
  | lvtRead (core r addr : Nat)
  /-- R235: A task's deadline arrives before DONE; the run stops and the overrun is counted and reported. -/
  | coxOverrun (t : Nat)
  /-- R223: A task accesses outside its resources; the run ends and the task is suspended. -/
  | coxMemfault (core : Nat)
  /-- R223: An uncorrectable local-memory error ends the run and shuts the core down. -/
  | dspEcc (core : Nat)
  /-- R237: A password-class DISABLE disables a task or marks it DISABLING. -/
  | taskDisable (port : Port) (t : Nat)
  /-- R237: A password-class ENABLE makes a DISABLED task WAITING or sets PENDING. -/
  | taskEnable (port : Port) (t : Nat)
  /-- R237: A password-class RELOAD restores a suspended or disabled task's context and resets its SEQ. -/
  | taskReload (port : Port) (t : Nat)
  /-- R238: A password-class write of COX_CORE_CTRL.EN = 1 enables a core or sets PENDING. -/
  | coreEnable (port : Port) (core : Nat)
  /-- R238: A password-class write of EN = 0 starts a core shut-down. -/
  | coreDisable (port : Port) (core : Nat)
  /-- R238: A core's run ends or yields and its shut-down completes. -/
  | coreShutdownComplete (core : Nat)
  /-- R246: A counter wraps, sets its sticky bit and with IRQ records a sample and diagnostic frame. -/
  | pmuCounterWrap (core k : Nat)
  /-- R245: A write of PMU_GCTRL.SNAP copies every counter into the snapshot registers. -/
  | pmuSnap (port : Port)
  /-- R245: A write of PMU_GCTRL.FREEZE stops or resumes every counter on one edge. -/
  | pmuFreeze (port : Port) (on : Bool)
  /-- R257: A requester port's page request is decided, served, refused for budget or starved. -/
  | boatPageRequest (reqs : List PageReq)
  /-- R262: An eviction ends and EVICTED frames go to every holder that lost pages. -/
  | evictionComplete
  /-- R263: A page's scrub ends and it rejoins the pool. -/
  | pageScrubComplete (page : Nat)
  /-- R259: A task's capture command is accepted with its pages or refused with a REFUSED frame. -/
  | afeCaptureRequest (src : Nat) (w0 w1 : Word)
  /-- R259: A host write of BOAT_HOST_CAP requests a capture. -/
  | boatHostCapWrite (port : Port) (value : Word)
  /-- R254: The Boathouse writes a checked full-rate frame as a stream record and into any filling capture. -/
  | streamFrameWrite (ch : Nat) (intact : Bool)
  /-- R262: A host write of BOAT_HOST_FREE frees a held page or counts a stale reference. -/
  | boatHostFreeWrite (port : Port) (ref : Word)
  /-- R267: A host write into the waveform window is applied to a page held by 0x400 or refused. -/
  | boatWindowWrite (port : Port) (addr : Nat) (value : Word)
  /-- R268: An uncorrectable waveform SRAM error is counted and reported. -/
  | boatEcc (e : BoatError)
  /-- R275: A task receives a changed alarm entry as a configuration frame and applies it at its next activation. -/
  | alarmEntryUpdate (entry : Nat)
  /-- R295: A write of CTL.START loads INIT and feeds the fold words. -/
  | crcStart (port : Port) (ctx : Nat)
  /-- R298: A write of CTL.CHECK compares RESULT with EXPECT after queued words and sets MATCH or MISMATCH. -/
  | crcCheck (port : Port) (ctx : Nat)
  /-- R295: A write of DIN feeds LEN bits into the context. -/
  | crcDinWrite (port : Port) (ctx : Nat) (value : Word)
  /-- R296: A write of VALUE loads the running register to resume a stream. -/
  | crcValueWrite (port : Port) (ctx : Nat) (value : Word)
  /-- R303: Context 7 runs the known-answer test at START and every second, raising CRC_KAT on failure. -/
  | crcKatRun (ok : Bool)
  /-- R310: An error report on a line latches its status bit and block registers and sets first source, merge or overflow. -/
  | umpireErrorLatch
  /-- R312: 150 µs after the first source the handling window closes and a postponed self-check runs. -/
  | handlingWindowClose
  /-- R317: Every 10 ms the Umpire tests its fault lines and drivers, raising UMP_SELF on failure. -/
  | umpSelfCheck (pass : Bool)
  /-- R317: Every 10 ms a group monitor runs its self-check, raising GRP_MON_FAIL on failure. -/
  | groupMonitorSelfCheck (g : Group) (pass : Bool)
  /-- R317: Every 10 ms the field die runs its internal self-check, raising FLD_INTERNAL on failure. -/
  | fieldDieSelfCheck (pass : Bool)
  /-- R319: A host write of 1s to UMP_STATUS_LO clears bits whose cause is gone and releases lines when all are clear. -/
  | umpStatusLoClear (port : Port) (bits : Word)
  /-- R322: A host write of 1s to UMP_STATUS_HI clears event bits. -/
  | umpStatusHiClear (port : Port) (bits : Word)
  /-- R332: The seat manager requests a lane slice from the BIST controller. -/
  | bistSliceRequest (lane : Lane)
  /-- R333: CORE_PERIOD elapses and the next DSP core is shut down for its routine slice. -/
  | coreSliceDue
  /-- R325: The controller self-checks and starts a pending slice once no other slice runs. -/
  | bistSliceStart (unit : Nat) (ctrlOk : Bool)
  /-- R336: A slice reaches its full count: the count is folded into the MISR and the signature compared, passing or failing
  the unit. `applied` counts what it has applied (R326), `misr` stands after the last pattern; `segOk` says that the segment checks of a transparent run held. -/
  | bistSliceComplete (unit applied : Nat) (segOk : Bool) (misr : U64)
  /-- R325: A slice reaches 110 % of its duration without its full count and fails. -/
  | bistSliceTimeout (unit : Nat)
  /-- R334: A host write of BIST_CMD requests a slice, accepted as a password-class change or refused. -/
  | bistCmdWrite (port : Port) (value : Word)
  /-- R425: VSYS rises above 17.5 V for 2 ms and the power-on sequence runs to the release of the BIST controller. -/
  | vsysGood
  /-- R341: After the CM die passes its slice the NVM controller reads JEDEC and SFDP, the headers and starts the full pass. -/
  | nvmControllerStart (f : FlashFacts)
  /-- R342: No usable flash is found, or an erase or program times out. -/
  | nvmFail (atBoot : Bool)
  /-- R350: The full pass over a bank ends and the bank is found valid or invalid. -/
  | fullPassComplete
  /-- R351: A lane receives the staged SAFETY section, computes its digest and is reloaded or raises CFG_DIGEST. -/
  | laneConfigLoad (lane : Lane) (ok : Bool)
  /-- R352: The field die receives the field part and starts guard-channel settling and calibration. -/
  | fieldPartLoad
  /-- R363: The change-log scan ends and LOG_STAT.READY is set. -/
  | logScanComplete
  /-- R354: A write of CFG_WR_CTRL OPEN erases the target bank's header sector. -/
  | cfgOpen (port : Port) (value : Word)
  /-- R354: A write of COMMIT reads back and judges the image and programs its header. -/
  | cfgCommit (port : Port) (value : Word)
  /-- R354: A write of CANCEL ends a write leaving the target bank without a valid header. -/
  | cfgCancel (port : Port)
  /-- R354: A flash erase, program or read-back completes and the write proceeds to its next step. -/
  | flashOperationComplete (ok : Bool)
  /-- R356: 1 s after an unpersisted CM change the module starts its own image write. -/
  | cmPersistStart
  /-- R361: A write of LOG_ACK acknowledges exported entries or is refused. -/
  | logAckWrite (port : Port) (value : Word)
  /-- R361: A fully acknowledged log area finishes erasing and receives its new header. -/
  | logAreaEraseComplete
  /-- R367: One sample of KEYSW_A and KEYSW_B (true: closed): a filtered state changes after 20 agreeing samples and is logged. -/
  | sealInputChange (a : Bool) (b : Bool)
  /-- R367: The two seal inputs differ for 1,000 samples and the seal counts as open. -/
  | sealDisc
  /-- R370: A SEC_LOGIN CHALLENGE places the slot's SALT and a fresh nonce. -/
  | loginChallenge (port : Port) (slot : Nat)
  /-- R370: A SEC_LOGIN RESPOND opens a session on a match or counts a failure. -/
  | loginRespond (port : Port) (slot : Nat)
  /-- R370: A SEC_LOGIN LOGOUT ends the port's session. -/
  | logout (port : Port)
  /-- R370: A nonce or debug challenge expires after its lifetime. -/
  | nonceExpiry (port : Option Port)
  /-- R370: 600 s without a password-class request ends a session. -/
  | sessionTimeout (port : Port)
  /-- R371: A slot's 60 s lock ends. -/
  | slotLockEnd (slot : Nat)
  /-- R372: A password-class request is checked, logged and applied or refused. -/
  | passwordClassChange (port : Port) (c : CmChange)
  /-- R374: A SEC_LC_CTRL FIELD request blows the fuse for FACTORY to FIELD. -/
  | lcField (port : Port)
  /-- R374: A SEC_LC_CTRL RMA request with a valid token blows the RMA fuse and destroys the keys. -/
  | lcRma (port : Port)
  /-- R373: A SEC_DBG_CTRL CHALLENGE issues a fresh debug challenge. -/
  | dbgChallenge (port : Port)
  /-- R375: A SEC_DBG_CTRL OPEN_CM opens CM_DEBUG under the lifecycle's token rule. -/
  | openCm (port : Port)
  /-- R376: A SEC_DBG_CTRL OPEN_FULL with a token enters HOLD, asserts the lines, zeroises and opens FULL. -/
  | openFull (port : Port)
  /-- R375: A SEC_DBG_CTRL CLOSE closes CM_DEBUG and releases every halt. -/
  | dbgClose (port : Port)
  /-- R373: A SEC_KEY_CTRL GO programs the image or debug key into OTP once. -/
  | keyProgram (port : Port) (value : Word)
  /-- R373: SEC_KEY_CTRL.SET_AUTH_REQ blows the authentication-required fuse. -/
  | setAuthReq (port : Port)
  /-- R378: A SYS_PWR_CTRL RUN request re-enables cores from REDUCED or arms the HOLD release. -/
  | pwrReqRun (port : Port)
  /-- R378: A SYS_PWR_CTRL REDUCED request shuts down every DSP core. -/
  | pwrReqReduced (port : Port)
  /-- R378: A SYS_PWR_CTRL HOLD request sends the seat manager to START and shuts down all groups. -/
  | pwrReqHold (port : Port)
  /-- R378: A SYS_PWR_CTRL OFF request from HOLD powers the dies down. -/
  | pwrReqOff (port : Port)
  /-- R385: A port receives an Ethernet frame and the switch forwards, learns or delivers it to the management core. -/
  | ethFrameReceive (inPort : Nat) (f : EthFrame)
  /-- R385: A learned MAC address is aged out after 300 s. -/
  | macAgeOut (mac : Nat)
  /-- R384: Every 100 ms the MDIO master polls speed and duplex and raises ETH_LINK on a change. -/
  | phyPoll (p : Nat) (link : Bool) (speed : Nat)
  /-- R395: The management core forwards an inbound telegram from the peer to the lanes or drops it. -/
  | telegramDatagram (peer : Nat) (bytes : List Byte)
  /-- R396: A telegram frame reaches a lane and waits for the next cycle's handling. -/
  | telegramFrameArrival (lane : Lane) (conn : Nat) (bytes : List Byte)
  /-- R398: The elapsed count from the age reference reaches N_w + 1; TEL_IN enters UNSYNC with safe values. -/
  | telWatchdog (lane : Lane) (blk : Nat)
  /-- R400: A TEL_OUT's send period elapses and it produces a telegram frame after the vote. -/
  | telOutSend (lane : Lane) (blk : Nat)
  /-- R401: The management core sends a telegram when the seated frames agree, or suppresses it. -/
  | outboundTelegram (conn : Nat)
  /-- R391: A PTP message is received and processed for synchronisation or transparent-clock correction. -/
  | ptpMessage (at' : PtpIn) (m : PtpMsg)
  /-- R392: No Sync for 4 s or offset above 100 µs for 10 s clears LOCKED. -/
  | ptpLost
  /-- R392: PPS_OUT rises at a whole second of the time base. -/
  | ppsSecond
  /-- R405: A register protocol READ returns 1-256 consecutive words. -/
  | regProtoRead (peer : Nat) (q : ReqTag) (addr count : Nat)
  /-- R405: A register protocol WRITE applies words one by one, refusing some. -/
  | regProtoWrite (peer : Nat) (q : ReqTag) (addr : Nat) (values : List Word)
  /-- R405: A BULK_READ returns change-log entries with their BAD flags. -/
  | regProtoBulkRead (peer : Nat) (q : ReqTag) (index count : Nat)
  /-- R405: A BULK_WRITE programs image data between OPEN and COMMIT. -/
  | regProtoBulkWrite (peer : Nat) (q : ReqTag) (offset : Nat) (bytes : List Byte)
  /-- R407: A peer subscribes to event notification. -/
  | regProtoSubscribe (peer : Nat) (q : ReqTag)
  /-- R407: A peer ends its event subscription. -/
  | regProtoUnsubscribe (peer : Nat) (q : ReqTag)
  /-- R408: A host SPI READ transaction returns data words and CRC. -/
  | hspiRead (addr count : Nat)
  /-- R408: A host SPI WRITE transaction is applied when its CRC matches. -/
  | hspiWrite (addr : Nat) (values : List Word) (crc : Word)
  /-- R408: CS_N rises before the end and the transaction is discarded. -/
  | hspiAbort
  /-- R417: A 3,200-period MONCLK window ends and each counted clock is judged, declaring CLK_FAIL or a lane withdrawal. -/
  | clockSupervisorWindow (ch count : Nat)
  /-- R413: A PLL lock detector reports loss of lock. -/
  | pllLockLoss (b : Bool)
  /-- R420: VSYS lies outside 16.5-33.5 V for 50 µs and a lock-out follows. -/
  | vsysFault (v : VsysReading)
  /-- R420: VSYS stays within 17.5-33.0 V for 100 ms and the cause is gone. -/
  | vsysRecovered (v : VsysReading)
  /-- R420: VSYS below 14.0 V for 5 µs resets every die. -/
  | brownOut
  /-- R422: An on-module rail leaves its window for 10 samples; REG_FAIL or a lane rail switched off. -/
  | railOutOfRange (v : RailReading)
  /-- R427: SYS_RST_N held low for 10 µs resets everything except the power-cycle record. -/
  | sysRstN
  /-- R427: The management core is not serviced for 500 ms and is reset. -/
  | mcoreWd
  /-- R429: Every 1 ms die temperatures are read and DIE_OVERTEMP raised at 125 °C. -/
  | dieTempRead (temps : List Int)
  /-- R473: A write of PERTURB_TGTn sets a hook target or is refused and logged. -/
  | perturbTgtWrite (port : Port) (n : Nat) (value : Word)
  /-- R470: A write of PERTURB_CFGn starts, changes or ends a hook, seeding its LFSR. -/
  | perturbCfgWrite (port : Port) (n : Nat) (value : Word)
  /-- R473: A write of PERTURB_SEED sets the LFSR seed or is refused. -/
  | perturbSeedWrite (port : Port) (value : Word)
  /-- R470: A held item's release time arrives and it proceeds on its path. -/
  | perturbRelease (hook : Nat)
  /-- R10: A read of an RL word latches its partner words from the same instant. -/
  | latchingRead (port : Port) (addr : Nat)
  /-- R10: A read of an RC register returns its value and clears it. -/
  | clearingRead (port : Port) (addr : Nat)
  /-- R10: A host write to a register without a row of its own is applied, or refused and counted in SYS_REFUSED. -/
  | registerWrite (port : Port) (addr : Nat) (value : Word)
  /-- R101: At each of the four sampling instants of a cycle every receiver takes its raw sample, filter counts advance or reset, and output, CIO and supply readbacks are judged. -/
  | samplingInstant (r : Readings)
  /-- R427: SYS_RST_N returns high and the module restarts through the boot, timed from the release. -/
  | sysRstNRelease
  /-- R375: A debug-port command under CM_DEBUG halts or steps a DSP core, which is a core shut-down. -/
  | coreHalt (core : Nat) (step : Bool)
  /-- R238: A debug-port command releases a halted core, which then re-enables. -/
  | coreHaltRelease (core : Nat)
  /-- R391: The PTP message interval elapses and the clock sends its two-step Sync and Follow_Up as master, or its Delay_Req as slave. -/
  | ptpSyncInterval
  /-- R415: The 1 ms ramp of PLL-A down-spread to its setting completes and SYS_CLK_CFG.APPLIED is set. -/
  | spreadRampComplete
  /-- R203: A ring node or port sees transitions again on an input that had lost signal and stops wrapping. -/
  | signalReturn (r : Nat) (rx : RingReceiver)
  deriving DecidableEq, Repr

end Sys2Proof
end

