-- ==== Sys2Proof/Machine/Check.lean ====
section
/-!
DEFINITION. Check values: the CRC-32C of frames and telegrams (R30, R299), the CRC-4 of a fabric word (R26),
the CRC-8 of a ring header (R207), all bit by bit.
-/
namespace Sys2Proof.Machine

open Sys2Proof

/-- `n` applications of `f`. -/
def iter {α : Type} (f : α → α) : Nat → α → α
  | 0, x => x
  | n + 1, x => iter f n (f x)

/-- One bit of the reflected CRC-32C register (generator 0x1EDC_6F41, R30). -/
def crc32cBit (c : Word) : Word :=
  if c.getLsbD 0 then (c >>> 1) ^^^ 0x82F63B78#32 else c >>> 1

/-- One byte into the reflected register. -/
def crc32cByte (c : Word) (b : Byte) : Word := iter crc32cBit 8 (c ^^^ b.setWidth 32)

/-- One word into the reflected register, its bytes least significant first (R30). -/
def crc32cWord (c w : Word) : Word := iter crc32cBit 32 (c ^^^ w)

/-- CRC-32C over words (R30): initial value and final XOR 0xFFFF_FFFF. -/
def crc32c (ws : List Word) : Word := (ws.foldl crc32cWord 0xFFFFFFFF#32) ^^^ 0xFFFFFFFF#32

/-- CRC-32C over bytes. -/
def crc32cBytes (bs : List Byte) : Word := (bs.foldl crc32cByte 0xFFFFFFFF#32) ^^^ 0xFFFFFFFF#32

/-- CRC-32C over bytes with two fold words fed first (R299, R394). -/
def crc32cFold2 (f0 f1 : Word) (bs : List Byte) : Word :=
  (bs.foldl crc32cByte (crc32cWord (crc32cWord 0xFFFFFFFF#32 f0) f1)) ^^^ 0xFFFFFFFF#32

/-- The fold word of a frame (R30). -/
def foldWord (src seq cls n : Nat) : Word :=
  BitVec.ofNat 32 (src <<< 20 ||| seq <<< 12 ||| cls <<< 8 ||| n)

/-- The folded CRC-32 of a frame's data words (R30). -/
def frameCrc (src seq cls : Nat) (data : List Word) : Word :=
  crc32c (foldWord src seq cls data.length :: data)

/-- `n` bits of `x`, most significant first, into an unreflected CRC register of width `w`. -/
def crcMsb {w : Nat} (poly : BitVec w) (x : Nat) : Nat → BitVec w → BitVec w
  | 0, c => c
  | n + 1, c =>
    let fb := c.getLsbD (w - 1) != x.testBit n
    crcMsb poly x n (if fb then (c <<< 1) ^^^ poly else c <<< 1)

/-- CHK of a word (R26): over tag bits [31:4] and the payload. -/
def chk4 (tag payload : Word) : BitVec 4 :=
  crcMsb (3 : BitVec 4) ((tag.toNat >>> 4) <<< 32 ||| payload.toNat) 60 0xF#4

/-- HCRC of a ring header (R207): over bits [63:8]. -/
def hcrc8 (h : U64) : BitVec 8 := crcMsb (7 : BitVec 8) (h.toNat >>> 8) 56 0xFF#8

/-- The CRC field of a ring frame (R208): fold word, destination word, payloads. -/
def ringCrc (src seq cls ring dest : Nat) (data : List Word) : Word :=
  crc32c (foldWord src seq cls data.length :: BitVec.ofNat 32 (ring <<< 16 ||| dest) :: data)

/-- Bits [hi:lo] of a word as a number. -/
def bits {w : Nat} (x : BitVec w) (hi lo : Nat) : Nat := (x.toNat >>> lo) % 2 ^ (hi + 1 - lo)

/-- A register view: the fields (value, low bit, width) laid side by side. -/
def pack : List (Nat × Nat × Nat) → Word
  | [] => 0
  | (v, lo, w) :: fs => BitVec.ofNat 32 ((v % 2 ^ w) <<< lo) ||| pack fs

/-- The little-endian bytes of a number. -/
def leBytes (n : Nat) : Nat → List Byte
  | 0 => []
  | k + 1 => BitVec.ofNat 8 n :: leBytes (n / 256) k

/-- The number a little-endian byte string spells. -/
def ofLe : List Byte → Nat
  | [] => 0
  | b :: bs => b.toNat + 256 * ofLe bs

/-- Bytes as frame words, little-endian, the last padded with zeros. -/
def bytesToWords : List Byte → List Word
  | [] => []
  | [a] => [BitVec.ofNat 32 (ofLe [a])]
  | [a, b] => [BitVec.ofNat 32 (ofLe [a, b])]
  | [a, b, c] => [BitVec.ofNat 32 (ofLe [a, b, c])]
  | a :: b :: c :: d :: r => BitVec.ofNat 32 (ofLe [a, b, c, d]) :: bytesToWords r

/-- The big-endian bytes of a word (host SPI, R408). -/
def beBytes (w : Word) : List Byte := (leBytes w.toNat 4).reverse

end Sys2Proof.Machine
end

