-- ==== Sys2Proof/Machine/Codes.lean ====
section
/-!
DEFINITION. The fault codes of R309 with their scopes (R308) and lines.
-/
namespace Sys2Proof.Machine

def codeChkFail : Nat := 0x0101
def codeSeqWindow : Nat := 0x0102
def codeFrameCrc : Nat := 0x0103
def codeFrameLen : Nat := 0x0104
def codeRouteMiss : Nat := 0x0105
def codeLinkFail : Nat := 0x0106
def codeCrab : Nat := 0x0201
def codeSeatLoss : Nat := 0x0202
def codeScullTimeout : Nat := 0x0203
def codeSpareDisagree : Nat := 0x0204
def codeLaneWithdraw : Nat := 0x0205
def codeLaneRetired : Nat := 0x0206
def codeTwoOarLimit : Nat := 0x0207
def codeDiscTimeout : Nat := 0x0301
def codeDiscPartial : Nat := 0x0302
def codeMuteSeq : Nat := 0x0303
def codeMuteTimeout : Nat := 0x0304
def codeMuteLamp : Nat := 0x0305
def codeLockFb : Nat := 0x0306
def codeGuardTamper : Nat := 0x0307
def codeEnableP3 : Nat := 0x0308
def codeTachMissing : Nat := 0x0309
def codeSpeedDisc : Nat := 0x030A
def codeEdmFail : Nat := 0x030B
def codeResetStuck : Nat := 0x030C
def codeResetLamp : Nat := 0x030D
def codeVibTrip : Nat := 0x030E
def codeVibSensor : Nat := 0x030F
def codeVibDisc : Nat := 0x0310
def codeTpStuck : Nat := 0x0401
def codeTpOverload : Nat := 0x0402
def codeInShort : Nat := 0x0403
def codeTpCross : Nat := 0x0404
def codeTpSched : Nat := 0x0405
def codeVfldLow : Nat := 0x0501
def codeVfldMissing : Nat := 0x0502
def codeOutShort : Nat := 0x0503
def codeOutCross : Nat := 0x0504
def codeOutStuckOff : Nat := 0x0505
def codeOutOverload : Nat := 0x0506
def codeOutOpenLoad : Nat := 0x0507
def codeGrpOvercurrent : Nat := 0x0508
def codeGrpOvertemp : Nat := 0x0509
def codeOutWd : Nat := 0x050A
def codeCioOverload : Nat := 0x050B
def codeCioShort : Nat := 0x050C
def codeCioSilent : Nat := 0x050D
def codeGrpMonFail : Nat := 0x050E
def codeAinOpen : Nat := 0x0601
def codeAinShort : Nat := 0x0602
def codeAinCalFail : Nat := 0x0603
def codeRingBreak : Nat := 0x0701
def codeRingClosed : Nat := 0x0702
def codeRingDown : Nat := 0x0703
def codeNodeLost : Nat := 0x0704
def codeNodeParked : Nat := 0x0705
def codeCoxMemfault : Nat := 0x0801
def codeDspEcc : Nat := 0x0802
def codeCoxOverrun : Nat := 0x0803
def codeCoxSuspend : Nat := 0x0804
def codeBoatEcc : Nat := 0x0805
def codeCrcKat : Nat := 0x0806
def codeMcoreWd : Nat := 0x0807
def codeCfgVariant : Nat := 0x0901
def codeCfgNone : Nat := 0x0902
def codeCfgDigest : Nat := 0x0903
def codeCfgBank : Nat := 0x0904
def codeNvmFail : Nat := 0x0905
def codeBistFail : Nat := 0x0906
def codeBistPartial : Nat := 0x0907
def codeSealChange : Nat := 0x0A01
def codeAuthFail : Nat := 0x0A02
def codePwdLock : Nat := 0x0A03
def codeLogFull : Nat := 0x0A04
def codeAccessRefused : Nat := 0x0A05
def codeDebugRefused : Nat := 0x0A06
def codePerturbRefused : Nat := 0x0A07
def codeTelWatchdog : Nat := 0x0B01
def codeTelCrc : Nat := 0x0B02
def codeTelSeq : Nat := 0x0B03
def codeTelId : Nat := 0x0B04
def codeEthLink : Nat := 0x0B05
def codePtpLost : Nat := 0x0B06
def codeClkFail : Nat := 0x0C01
def codeVsysFault : Nat := 0x0C02
def codeRegFail : Nat := 0x0C03
def codeDieOvertemp : Nat := 0x0C04
def codeFldInternal : Nat := 0x0C05
def codeUmpSelf : Nat := 0x0C06

end Sys2Proof.Machine
end

