-- ==== Sys2Proof/Machine/State.lean ====
section
/-!
DEFINITION. The machine's state as plain data: every register, buffer, counter, mode and pin the spec gives
the module, the queue of waiting commands, and the state after reset. A table (Tab) lists only entries that
differ from the default entry named beside it.
-/
namespace Sys2Proof.Machine

open Sys2Proof

/-- Why a run could stop with a fault. No command of this module stops so: every row of the table has an
effect in every state (safe: nothing is claimed of a stopped run). -/
inductive Fault where
  /-- Raised by no command. Safe: a stop claims nothing about the hardware. -/
  | halted
  deriving DecidableEq, Repr

/-- Why a command could be refused. -/
inductive Refusal where
  /-- Raised by exec for a command that has no meaning yet. Safe: a refusal claims nothing about the hardware. -/
  | notModelled (mnemonic : String)
  deriving DecidableEq, Repr

/-! ## Error reports (R307, R310) -/

/-- An error or event on its way to the Umpire: its line, code, detail field, resolution bit and the time base
value at detection. -/
structure Report where
  line : Nat
  code : Nat
  detail : Nat := 0
  res : Bool := false
  time : Nat := 0
  deriving DecidableEq, Repr

/-! ## Tag fabric (chapter 02) -/

/-- A frame in reassembly (R28): the port it comes in by, SEQ, CLS, the payloads received so far, and whether it is being dropped. -/
structure OpenFrame where
  port : Nat := 0
  seq : Nat
  cls : Nat
  payload : List Word
  drop : Bool := false
  deriving DecidableEq, Repr

/-- What a receiving endpoint keeps per SRC (R32, R45). -/
structure Rx where
  last : Nat := 255
  sync : Bool := false
  frame : Option OpenFrame := none
  deriving DecidableEq, Repr

/-- The six counters of a receiving port (R44), their sticky wrap bits, and the CHK failures of this cycle. -/
structure PortCnt where
  chk : Word := 0
  seqdrop : Word := 0
  lost : Word := 0
  crc : Word := 0
  len : Word := 0
  route : Word := 0
  ovf : BitVec 6 := 0
  chkInCycle : Nat := 0
  deriving DecidableEq, Repr

/-- A word as its source sends it (R22): the fields of its tag and its payload; CHK follows from them (R26). -/
structure TWord where
  src : Nat
  seq : Nat
  cls : Nat
  seat : Nat := 0
  last : Bool := false
  payload : Word := 0
  deriving DecidableEq, Repr

/-- A word in an output queue: the endpoints it is for, its route entry and whether that is a safety route (R39), the FCLK edge
from which it may request, and the cycles it has waited. -/
structure QWord where
  word : TWord
  dest : BitVec 16 := 0
  route : Nat := 0
  safe : Bool := false
  since : Nat := 0
  wait : Nat := 0
  deriving DecidableEq, Repr

/-- An arbitration point (R36 to R38): its output queues by number, the round-robin pointer of each class, the word it put
on its link in the last FCLK cycle (none: an idle word), and the consecutive cycles in which a queued copy had no credit. -/
structure Arb where
  queues : Tab (List QWord) := []
  ptr : Tab Nat := []
  link : Option TWord := none
  starved : Nat := 0
  deriving DecidableEq, Repr

/-- The tag fabric. `rx` is keyed by endpoint × 4,096 + SRC, `cnt` by port, `routes` by entry 64 to 255,
`srcSeq` by SRC. `inbox` holds the last accepted frame per endpoint. -/
structure Fab where
  rx : Tab Rx := []
  cnt : Tab PortCnt := []
  cntNew : Tab PortCnt := []         -- counts of ports 0 to 15 that no diagnostic frame has carried yet (R44)
  portGood : BitVec 32 := 0
  linkFail : BitVec 10 := 0
  routes : Tab Route := []
  srcSeq : Tab Nat := []
  cntSel : BitVec 5 := 0
  seqSelSrc : BitVec 12 := 0
  seqSelEp : BitVec 4 := 0
  routeIdx : BitVec 8 := 0
  waitSafe : Nat := 0
  waitTel : Nat := 0
  waitOther : Nat := 0
  inbox : Tab (Nat × Nat × List Word) := []
  sent : Tab (List TWord) := []      -- per SRC: the words of the last frame the module sent
  arb : Tab Arb := []                -- by arbitration point
  fclk : Nat := 0                    -- the FCLK edge up to which the points have granted
  laneIn : Tri Nat := ⟨0, 0, 0⟩      -- words granted to each lane in this cycle's command window (R40)
  laneAlarms : Tri Nat := ⟨0, 0, 0⟩  -- alarm words each lane has sent in this cycle (R42)
  deriving DecidableEq, Repr

/-! ## Lanes and seats (chapter 03) -/

/-- The four data words of a seat vote (R49). -/
structure Vote where
  w0 : Word
  w1 : Word
  w2 : Word
  w3 : Word
  deriving DecidableEq, Repr

/-- A lane's contribution to a cycle as the field die has received it (R50). -/
inductive Contribution where
  | none
  | vote (v : Vote)
  | withdraw (cause : Nat)
  | late
  | failed
  deriving DecidableEq, Repr

/-- The seat manager's states (R55). -/
inductive SeatState where
  | start | rowing | testing | resync | sculling | recovering | twoOar | lockout
  deriving DecidableEq, Repr

/-- Where a lane stands with the seat manager. `ready` is a lane whose slice or abort has ended and that
waits for its copy; `copying c` receives the copy at boundary c; `agreeing c` owes votes from cycle c + 1. -/
inductive Phase where
  | start
  | seated
  | shadow
  | slice
  | aborting
  | ready
  | copying (c : Nat)
  | agreeing (c : Nat)
  | out
  | retired
  deriving DecidableEq, Repr

/-- What the seat manager keeps per lane (R50 to R72). -/
structure LaneMgr where
  phase : Phase := .start
  isOut : Bool := false              -- out awaiting or in its retest, or being resynchronised after it
  rx : Contribution := .none
  agree : Nat := 0                   -- consecutive agreements with the seated votes
  agreeRun : Nat := 0                -- LANE_AGREE.RUN
  late : Word := 0                   -- LANE_AGREE.LATE
  fails : List Nat := []             -- stamps of the failures counted within 24 h
  lastCause : Nat := 0
  lastPass : Option Nat := none      -- time base at the last passed full self-test
  lastFail : Option Nat := none
  shown : Option Vote := none        -- LANE_VOTE0 to LANE_VOTE3
  recheck : Option Bool := none      -- a segment re-check: none owed, running (false) or passed (true)
  tested : Bool := false             -- START: the retest has passed
  loaded : Bool := false             -- START: the lane has been reloaded and has its start values
  sliceReq : Bool := false           -- a slice is requested and not yet started
  sliceResult : Option Bool := none  -- the end of the slice, for step 6
  copyFrom : Option Lane := none     -- the source lane of its state copy (R59, R64, R68)
  gone : Bool := false               -- its present withdrawal has been counted (R67); a slice ends it
  deriving DecidableEq, Repr

/-- The seat manager (R55 to R72). -/
structure Seat where
  state : SeatState := .start
  bow : Option Lane := none
  stroke : Option Lane := none
  spare : Option Lane := none
  due : Option (Option Lane × Option Lane × Option Lane) := none
  lanes : Tri LaneMgr := ⟨{}, {}, {}⟩
  cycle : Nat := 0
  firstCycle : Nat := 0              -- the first evaluated cycle since the last START (R80, R280)
  judged : Bool := false             -- step 6 of this cycle is done
  votes : Tri (Option Vote) := ⟨none, none, none⟩    -- the classified votes of the cycle, for the next boundary
  rotAt : Nat := 0                   -- cycle of the next rotation instant; 0 before the first ROWING
  step : Bool := false               -- a rotation step is due, deferred or requested (R58)
  change : Bool := false             -- a step is in progress: its seat change is due after 4 agreements
  scullSince : Option Nat := none
  scullBow : Bool := true            -- the Bow seat's lane drives both switches
  departed : Option Lane := none
  twoOarTicks : Nat := 0
  stopReq : Bool := false
  holdReq : Bool := false            -- a HOLD request waits for step 6
  holdInForce : Bool := false        -- a requested HOLD has not been released (R377, R379)
  lorAccepted : Bool := false
  cntChange : Word := 0
  cntCrab : Word := 0
  cntScull : Word := 0
  cntLate : Word := 0
  lastEvt : Nat := 0
  lastLane : Nat := 0
  lastCycle : Nat := 0
  lastTime : Nat := 0
  deriving DecidableEq, Repr

/-- A capture frame as it reaches the lanes (R192). -/
structure TachFrame where
  w0 : Word
  period : Word
  since : Word
  deriving DecidableEq, Repr

/-- The input image frozen at a boundary (R18, R75, R112, R186, R192). -/
structure Image where
  cycle : Nat := 0
  slot : Nat := 0
  si : BitVec 64 := 0
  raw : BitVec 64 := 0
  siCode : Tab Nat := []
  sagIn : Bool := false
  offsets : Tab Nat := []
  so : BitVec 12 := 0
  soCode : Tab Nat := []             -- OUT_SHORT_VFLD and OUT_CROSS
  soHeld : BitVec 12 := 0            -- outputs with OUT_STUCK_OFF or OUT_OVERLOAD (R155)
  cio : BitVec 24 := 0
  cioLamp : BitVec 24 := 0
  cioDiag : BitVec 24 := 0           -- pins with CIO_SHORT_VFLD or CIO_OVERLOAD (R169)
  sagOut : BitVec 2 := 0             -- VFLD1 and VFLD2 below sag, or missing (R163)
  good : BitVec 4 := 0
  tach : Tab TachFrame := []
  dec : Tab Word := []
  sinCodes : Tab Word := []          -- SIN_CODEn, SIN_TP_GENk and SIN_SUPPLY as the image shows them (R124)
  sinTps : Tab Word := []
  sinSupply : Word := 0
  deriving DecidableEq, Repr

/-- What a lane's vote transmitter holds for the field die (R48, R49). -/
inductive LaneOut where
  | none
  | vote (v : Vote)
  | withdraw (cause : Nat)
  deriving DecidableEq, Repr

/-- A telegram frame that waits in a lane (R396): the cycle in which it arrived, its connection, its bytes. -/
structure TelFrame where
  cycle : Nat
  conn : Nat
  bytes : List Byte
  deriving DecidableEq, Repr

/-- The counters of a connection in a lane (R398, R402, R411) and the cycles of its last reports. -/
structure TelCnt where
  crc : Word := 0
  seq : Word := 0
  id : Word := 0
  late : Word := 0
  expire : Word := 0
  accepted : Word := 0
  echo : Nat := 0                    -- ECHO of the last accepted telegram
  repCrc : Option Nat := none
  repSeq : Option Nat := none
  repId : Option Nat := none
  deriving DecidableEq, Repr

/-- A lane die (R46 to R49, R73 to R98): its engine's states and signals, its vote transmitter, its telegram
buffer, and what its mirror shows. -/
structure LaneDie where
  faulty : Option Nat := none
  image : Option SafetyImage := none
  digest : Word := 0
  blocks : Tab BlockState := []
  sig : Tab (List Val) := []
  evaluated : Option Nat := none     -- the cycle of the last evaluation
  buf : Option (Image × ImageArrival) := none       -- the buffered image of cycle c (R60)
  out : LaneOut := .none
  copySrc : Option (Nat × Tab BlockState) := none   -- the frozen state image (R60)
  sched : List Nat := []             -- generators decoded with TP_SCHED in the last cycle (R112)
  tel : List TelFrame := []
  telCnt : Tab TelCnt := []
  telDue : Tab (Nat × List Byte) := []   -- per TEL_OUT block: a telegram produced and not yet sent
  telOut : Tab (Nat × List Byte) := []   -- per connection: the CN and bytes of the last telegram sent
  timeLast : Nat := 0
  timeMax : Nat := 0
  passes : Word := 0                 -- configuration passes (R301, R306)
  passOk : Bool := false
  lclkOut : Nat := 0                 -- consecutive images with the LCLK count out (R418)
  corrected : Word := 0              -- memory errors corrected and scrubbed (R47)
  deriving DecidableEq, Repr

/-! ## Field die: inputs, outputs, configurable I/O, supplies (chapters 05 to 07) -/

/-- One safety input (R101, R102, R110 to R113). `hist` holds the last raw samples, the newest in bit 0. -/
structure Si where
  hist : BitVec 16 := 0
  run : Nat := 0                     -- consecutive unmasked samples at the level of the last one
  runLevel : Bool := false
  level : Bool := false
  short : Bool := false              -- IN_SHORT_VFLD latched
  failedAt : Option Nat := none      -- time base at the sample of this cycle that decides IN_SHORT_VFLD
  cross : Bool := false              -- TP_CROSS latched
  gen : Nat := 0
  count : BitVec 12 := 0
  okWins : Nat := 0                  -- consecutive passing judged own-pulse windows
  crossFrom : Nat := 0               -- slot at which the present period of R113 began
  crossSeen : Bool := false
  crossOk : Nat := 0
  deriving DecidableEq, Repr

/-- One test-pulse generator (R105, R106, R110, R113, R115). -/
structure Tp where
  hist : BitVec 16 := 0xFFFF
  limHist : BitVec 16 := 0
  offset : Nat := 0
  next : Nat := 0                    -- slot of the next off-pulse
  pulse : Option Nat := none         -- start slot of the last off-pulse
  window : Bool := false             -- its window has not been judged to its end
  pulses : Nat := 0
  walks : BitVec 16 := 0
  stuck : Bool := false
  overload : Bool := false
  failed : Bool := false             -- a check sample of the window has read 1
  passRun : Nat := 0
  staticRun : Nat := 0
  zeroRun : Nat := 0                 -- consecutive unmasked samples reading 0, and in current limit (R110)
  limRun : Nat := 0
  deriving DecidableEq, Repr

/-- A field supply's monitor (R163). -/
structure SupplySt where
  warn : Bool := false
  low : Bool := false
  missing : Bool := false
  recov : Bool := false
  volt : Nat := 0
  n192 : Nat := 0
  n160 : Nat := 0
  n100 : Nat := 0
  up : Nat := 0
  once : Bool := false               -- the recovery condition has been met once
  deriving DecidableEq, Repr

/-- An output group (R160 to R165): the outstanding causes of its shut-down, and its monitors. -/
structure GroupSt where
  good : Bool := false
  enabling : Bool := false           -- re-enabled, good from the next image freeze
  shutdown : Option Nat := none      -- the tick at which the shut-down in progress began
  pending : Bool := false
  sag : Bool := false
  missing : Bool := false
  forced : Bool := false
  overcur : Bool := false
  overtemp : Bool := false
  hold : Bool := true
  mA : Nat := 0
  temp : Int := 0
  ocRun : Nat := 0
  hot : Bool := false
  cool : Bool := false
  deriving DecidableEq, Repr

/-- A safe output (R148 to R157). -/
structure So where
  cmdA : Bool := false
  cmdB : Bool := false
  on : Bool := false                 -- energised: both switches commanded on, outside off-pulses (R151)
  changed : Nat := 0                 -- tick at which `on` last changed
  offset : Nat := 0
  next : Nat := 0                    -- slot of the next scheduled pulse
  sched : Nat := 0                   -- scheduled pulses since the slot count began
  pulse : Option Nat := none         -- start slot of the given pulse in progress or last given
  swB : Bool := false                -- the switch the pulse in progress turns off is B
  nextB : Bool := false
  given : BitVec 16 := 0
  window : Bool := false             -- a given pulse's window is not yet judged to its end
  hist : BitVec 16 := 0
  high : Bool := false
  mA : Nat := 0
  limit : Bool := false
  limRun : Nat := 0
  openRun : Nat := 0
  shortDue : Bool := false           -- the last judged off-readback or check sample read high
  stuckDue : Bool := false
  hold : Bool := false               -- both switches held off (R155)
  offCycle : Bool := false           -- commanded off for the whole present cycle
  code : Nat := 0                    -- OUT_SHORT_VFLD or OUT_CROSS latched (R156)
  holdCode : Nat := 0                -- OUT_STUCK_OFF or OUT_OVERLOAD while the hold lasts
  openLoad : Bool := false
  partner : Nat := 0
  count : BitVec 12 := 0
  cleanRun : Nat := 0
  highSeen : Bool := false           -- a judged off sample read high in this cycle
  deriving DecidableEq, Repr

/-- The output watchdog (R166). -/
structure Watchdog where
  tripped : Bool := false
  on : Bool := false                 -- a vote has been received since reset
  missed : Nat := 0
  trips : BitVec 16 := 0
  okRun : Nat := 0
  seen : Bool := false
  deriving DecidableEq, Repr

/-- A configurable pin (R167 to R171). -/
structure Cio where
  run : Nat := 0
  runLevel : Bool := false
  level : Bool := false
  cmd : Bool := false                -- the level the votes or the source command
  named : Bool := false              -- OUTPUT_STD: a command has named it since its group last shut down
  out : Bool := false                -- the level driven
  changed : Nat := 0
  since : Nat := 0                   -- cycle of the last accepted frame of its source
  silent : Bool := false
  wake : Bool := false               -- a command has named it; it leaves silence in the next cycle
  keep : Bool := false               -- the level that silence HOLD keeps (R171)
  high : Bool := false
  lamp : Bool := false
  limRun : Nat := 0
  overload : Bool := false
  held : Bool := false
  offCycle : Bool := false
  short : Bool := false
  shortDue : Bool := false
  cleanRun : Nat := 0
  highSeen : Bool := false
  deriving DecidableEq, Repr

/-- The lock-out release qualifier of the field die (R142, R143, R379). -/
structure Lor where
  st : ResetSt := {}
  armed : Bool := false
  arming : Bool := false             -- armed at the next boundary
  forHold : Bool := false            -- it qualifies a HOLD release
  awaited : Bool := false            -- a lock-out release is awaited
  holdRun : Bool := false            -- a RUN request in HOLD waits for its qualifier (R379)
  pressed : Bool := false
  accepted : Bool := false
  void : BitVec 16 := 0
  deriving DecidableEq, Repr

/-- The field die. -/
structure Field where
  safety : Option SafetyImage := none
  slotBase : Nat := 0                -- slot count at the last boundary (R106)
  slotOn : Bool := false
  sub : Nat := 0                     -- sampling instants passed in this cycle, 0 to 4
  si : Tab Si := []
  tp : Tab Tp := []
  judgeFrom : Nat := 0               -- first slot a judged window's pre sample may have (R121, R122)
  vin : SupplySt := {}
  v1 : SupplySt := {}
  v2 : SupplySt := {}
  so : Tab So := []
  sog1 : GroupSt := {}
  sog2 : GroupSt := {}
  ciog1 : GroupSt := {}
  ciog2 : GroupSt := {}
  wd : Watchdog := {}
  cio : Tab Cio := []
  cioRefused : Word := 0
  cioMask : Tab (BitVec 24) := []    -- CIO_CMD_MASK per port (R173)
  lor : Lor := {}
  forced : BitVec 4 := 0xF           -- the Umpire's forced-off lines as they stand at the field die
  local' : BitVec 4 := 0             -- groups the field die's own detection forces (R316)
  alive : Bool := false
  aliveOn : Bool := false
  aliveStops : BitVec 16 := 0
  image : Image := {}
  deriving DecidableEq, Repr

/-! ## Analog front end and capture timers (chapter 08) -/

/-- The states of an analog channel (R198). -/
inductive AinState where | off | settling | run | shutdown
  deriving DecidableEq, Repr

/-- The contents of a channel's three filters (R175, R176, R186). -/
structure Filt where
  aa : List Int := []
  hp : List Int := []
  lp : List Int := []
  deriving DecidableEq, Repr

/-- The full-rate samples of one report interval of a channel (R271): which interval, how many, and what their flags hold. -/
structure FeatSpan where
  idx : Nat := 0
  count : Nat := 0
  ovr : Bool := false
  bad : Bool := false
  deriving DecidableEq, Repr

/-- One analog channel (R175 to R189). -/
structure Ain where
  cfg : AfeCfg := {}
  guard : Bool := false
  en : Bool := false
  state : AinState := .off
  pending : Bool := false
  calRun : Bool := false             -- a calibration is running
  calFail : Bool := false
  openL : Bool := false              -- AIN_OPEN latched
  shortL : Bool := false
  flagOpen : Bool := false           -- samples carry OPEN
  flagShort : Bool := false
  supply : Bool := false
  bias : Int := 0
  gain : Nat := 0x400000
  outRun : Nat := 0
  outAbove : Bool := false
  inRun : Nat := 0
  runDec : Nat := 0                  -- decimated samples since the return to RUN
  last : Word := 0
  inval : Word := 0
  accFlags : Word := 0               -- OR of the flags since the last decimated sample
  accValid : Bool := true
  accNew : Bool := false             -- the 16 samples of the next decimated sample are complete, and its value
  accValue : Int := 0
  filt : Filt := {}
  inputs : List Int := []            -- the last 16 inputs of the high-pass filter
  calCount : Nat := 0                -- samples of the running calibration, and their sum after its settling
  calSum : Int := 0
  tail : Option (Nat × Word × Bool) := none  -- shut-down: its start, and flags and validity before it, of the frame in progress
  ready : Option Word := none        -- the decimated sample for the next image
  frame : Option (List Word) := none -- the full-rate frame on its way to the Boathouse
  stamp : Nat := 0
  featNow : FeatSpan := {}           -- the samples of the present report interval and of the one before (R271)
  featLast : FeatSpan := {}
  featSent : Nat := 0                -- the interval after the last one reported
  deriving DecidableEq, Repr

/-- The analog front end. -/
structure Afe where
  ch : Tab Ain := []
  ovr : Word := 0
  deriving DecidableEq, Repr

/-- The states of a capture timer (R199). -/
inductive TachState where | off | run | shutdown
  deriving DecidableEq, Repr

/-- One capture timer (R190 to R196). -/
structure Tach where
  cfg : TachCfg := {}
  safety : Bool := false
  state : TachState := .off
  pending : Bool := false
  edgeCnt : Nat := 0
  total : Nat := 0
  caps : Nat := 0                    -- captures since enable
  cap : Nat := 0
  prevCap : Nat := 0
  period : Word := 0                 -- PERIOD of the last frame
  sinceCap : Word := 0
  ovf : Bool := false
  wrap : Bool := false
  multi : Bool := false
  cmp0 : Word := 0
  cmp1 : Word := 0
  step0 : Word := 0
  step1 : Word := 0
  matchStamp : Nat := 0
  newCap : Bool := false             -- a capture since the previous frame
  matches' : Nat := 0                -- compare matches since the previous frame
  comp : Bool := false               -- the comparator's level
  level : Bool := false              -- the filter's level
  agree : Nat := 0                   -- consecutive filter samples that differ from it
  later : List Nat := []             -- edges accepted at or after the next boundary
  deriving DecidableEq, Repr

/-! ## Rinly rings (chapter 09) -/

/-- A frame as a controller or a node sends it (R207): header, tagged words, CRC field. -/
structure RingMsg where
  header : U64
  words : List (Word × Word)
  crc : Word
  deriving DecidableEq, Repr

/-- The state of a node address at the controller (R220). -/
inductive NodeState where | free | present | lost | parked
  deriving DecidableEq, Repr

/-- What the controller keeps per node address (R214 to R216, R220). -/
structure RNode where
  state : NodeState := .free
  stale : Bool := false
  sensor : Bool := false
  reason : Nat := 0
  seq : BitVec 8 := 0
  interval : Nat := 0
  phase : Nat := 0
  uid : U64 := 0
  booked : Bool := false
  lv : List Word := []
  stamp : Option Nat := none
  missed : Nat := 0                  -- consecutive slots lost with both their resends
  tries : Nat := 0                   -- resend slots given for the failed frame
  resendDue : Bool := false
  due : Option Nat := none           -- the superframe in which a report fell due
  late : Bool := false               -- that report has been deferred
  last : Nat := 255                  -- LAST of the node at the controller
  lost : Nat := 0                    -- lost frames counted when its resends failed, ahead of the next SEQ (R216)
  ident : List Word := []            -- its last IDENT (R210)
  kind : Word := 0                   -- node type and firmware, from its ANNOUNCE
  deriving DecidableEq, Repr

/-- The states of a ring (R220). -/
inductive RingState where | off | start | loop | split | down | shutdown
  deriving DecidableEq, Repr

/-- KIND of a report slot (R210). -/
inductive SlotKind where | report | reply | resend
  deriving DecidableEq, Repr

/-- A burst at the controller (R217). -/
structure Burst where
  src : Nat
  addr : Nat
  rate : Nat
  count : Nat
  cap : Nat                          -- serial number of its capture
  offset : Nat := 0
  retries : Nat := 0
  gaps : Nat := 0
  deriving DecidableEq, Repr

/-- The status of the last host burst (R220). -/
inductive BurstStatus where | none | running | done | noPage | qFull | aborted | lost | reduced
  deriving DecidableEq, Repr

/-- One ring controller (R200 to R220). -/
structure Ring where
  cfg : RingCfg := {}
  en : Bool := false
  state : RingState := .off
  pending : Bool := false
  stretched : Bool := false
  wrapA : Option Nat := none
  wrapB : Option Nat := none
  sf : Nat := 0
  next : Nat := 0                    -- the number of the next superframe, counted from the ring's start
  sfAt : Nat := 0                    -- raw tick of the present superframe's start
  seq : Nat := 0                     -- the controller's next SEQ
  nodes : Tab RNode := []
  slots : List (Nat × SlotKind) := []
  cmds : List (Nat × Nat × List Word) := []   -- commands for the next window: OP, target, further words
  window : List (Nat × Nat × List Word) := [] -- the commands of the present superframe
  replies : List Nat := []           -- addresses owed a reply slot
  broken : Bool := false             -- RING_BREAK declared and not ended
  copyA : Bool := false              -- the other port's beacon copy has reached port A / B
  copyB : Bool := false
  validSeen : Bool := false
  missRun : Nat := 0
  bothRun : Nat := 0
  silentRun : Nat := 0
  burst : Option Burst := none
  queue : List Burst := []
  status : BurstStatus := .none
  gaps : Nat := 0
  cntCrc : Word := 0
  cntSeqdrop : Word := 0
  cntLost : Word := 0
  cntResend : Word := 0
  cntLate : Word := 0
  nodeSel : BitVec 9 := 0
  lostA : Bool := false              -- loss of signal at the controller's ports
  lostB : Bool := false
  met : List Nat := []               -- report slots of this superframe that are judged
  burstMet : Bool := false           -- its burst region is judged
  answered : Bool := false           -- its ANNOUNCE has been accepted
  turnedA : Bool := false            -- its DISCOVER in port A's stream, and in port B's, has become an ANNOUNCE
  turnedB : Bool := false
  lastA : Nat := 255                 -- LAST of the controller's own SRC at port A and at port B
  lastB : Nat := 255
  out : List RingMsg := []           -- the frames of this superframe, each sent from both ports
  deriving DecidableEq, Repr

/-- A Rinly node (R201 to R203, R211 to R213). -/
structure Node where
  addr : Option Nat := none
  parked : Bool := false
  interval : Nat := 0
  phase : Nat := 0
  seq : Nat := 0
  ctlLast : Nat := 255               -- LAST of the controller
  followA : Bool := true
  lostA : Bool := false              -- no signal on the input from the port A side
  lostB : Bool := false
  sf : Nat := 0
  beaconAt : Nat := 0                -- raw tick of the last accepted beacon
  identDue : Bool := false
  burst : Option (Nat × Nat) := none -- rate code and count
  report : List Word := []
  announced : Bool := false
  powered : Bool := true
  ring : Nat := 0
  sensor : Bool := false             -- it reports a fault of its own sensor
  newReport : Bool := false          -- the report has been built since the last one sent
  reportSf : Nat := 0                -- the superframe in which its window closed
  lastSent : Option (Nat × List Word × Bool) := none   -- the last report sent: SEQ, values, SENSOR
  owed : List Nat := []              -- report slots of this superframe that wait for the window to close
  sent : List RingMsg := []          -- its own frames in this superframe
  outD : Option (Nat × RingMsg) := none  -- the last frame on its output away from port A, and away from port B, with its tick
  outU : Option (Nat × RingMsg) := none
  deriving DecidableEq, Repr

/-! ## DSP cluster, Cox and performance monitor (chapter 10) -/

/-- STATE of a task (R229). -/
inductive TaskState where
  | disabled | waiting | ready | running | preempted | suspended | disabling
  deriving DecidableEq, Repr

/-- One descriptor (R229) and what Cox keeps with it. -/
structure Task where
  w0 : Word := 0
  w1 : Word := 0
  w2 : Word := 0
  w3 : Word := 0
  w4 : Word := 0
  image : List Word := []            -- initial register context and data (R225)
  state : TaskState := .disabled
  starved : Bool := false
  ovrFlag : Bool := false
  pending : Bool := false
  seq : Nat := 0
  ovrRun : Nat := 0
  core : Nat := 0
  ovrReason : Nat := 0
  runs : BitVec 16 := 0
  overruns : BitVec 16 := 0
  skipped : BitVec 16 := 0
  coalesced : BitVec 16 := 0
  deadline : Nat := 0
  ran : Bool := false                -- the activation has run on a core
  flagShown : Bool := false          -- OVR_FLAG as shown at the last dispatch
  trig : Option (TrigFrame × Nat) := none    -- the frame of the present activation
  pend : Option (TrigFrame × Nat) := none   -- the pending trigger and its arrival tick
  ctx : Option Nat := none           -- context page
  saved : Tab Word := []             -- the registers of a preempted run, as in `Core.regs`
  savedSeed : Nat := 0
  lastRel : Option Nat := none       -- tick of the last periodic release
  deriving DecidableEq, Repr

/-- The states of a core (R250). -/
inductive CoreState where | off | idle | run | shutdown | bist | halt
  deriving DecidableEq, Repr

/-- What a service call returns (R227). -/
inductive CallResult where
  | none
  | preempted (b : Bool)
  | sent
  | refused
  | page (ref : Word)
  | noPage (starved : Bool)
  | freed
  | evicted
  | time (lo hi : Word)
  | counter (v : Nat)
  | lvt (values : List Word) (stamp : Nat) (seq : Nat)
  deriving DecidableEq, Repr

/-- One DSP core (R221, R227, R238, R250). `regs` and `data` are its registers and data region as the service
calls and Cox touch them. -/
structure Core where
  en : Bool := false
  state : CoreState := .off
  pending : Bool := false
  task : Option Nat := none
  eccBit : Bool := false
  eccOff : Bool := false             -- off since DSP_ECC, until a passing slice
  bistOff : Bool := false            -- a slice is due or running
  failed : Bool := false             -- a failed slice keeps it off until power cycle
  reduced : Bool := false
  halt : Bool := false
  instr : List Word := []            -- the instruction region: the code copied at boot (R225)
  regSeed : Nat := 0                 -- what the registers held, which nothing fixes, at a run's start
  regs : Tab Word := []              -- their difference from that
  seed : Nat := 0                    -- what the data region held, which nothing fixes, at a run's start (R224)
  data : Tab Byte := []              -- its difference from that
  stalled : Option (Nat × List Word) := none
  copies : List CopyReq := []
  waiting : Bool := false            -- in COPY_WAIT
  result : CallResult := .none       -- of the last service call
  deriving DecidableEq, Repr

/-- What a core does with its cycles: no run is on it, or one runs, waits in COPY_WAIT, or waits in SEND (R242). -/
inductive CoreRun where
  | idle
  | runs (t : Nat)
  | waits (t : Nat)
  | sends (t : Nat)
  deriving DecidableEq, Repr

/-- One core's performance monitor (R241 to R248). -/
structure Pmu where
  cyc : Nat := 0                     -- the cycle counter at the tick `since`, or stopped
  since : Option Nat := none
  run : CoreRun := .idle             -- what the core does since then
  cnt : Tab Nat := []
  evsel : Tab Word := []
  ovf : Word := 0
  sample : Word := 0
  snapCyc : Nat := 0
  snap : Tab Nat := []
  deriving DecidableEq, Repr

/-- Cox and the performance monitor's global part. -/
structure Cox where
  tasks : Tab Task := []
  cores : Tab Core := []
  descIdx : BitVec 9 := 0
  cntDispatch : Word := 0
  cntPreempt : Word := 0
  cntOverrun : Word := 0
  cntRefused : Word := 0
  lastOvr : Option (Nat × Nat × Nat) := none   -- task, reason, deadline tick
  pmu : Tab Pmu := []
  userEn : BitVec 8 := 0
  freeze : Bool := false
  snapValid : Bool := false
  denied : Nat := 0
  deriving DecidableEq, Repr

/-! ## The Umpire (chapter 14) -/

/-- UMP_BLKn (R310, R322). -/
structure Blk where
  code : Nat := 0
  count : BitVec 16 := 0
  time : Nat := 0
  detail : Nat := 0
  res : Bool := false
  deriving DecidableEq, Repr

/-- A first-source record (R311, R320). -/
structure FirstRec where
  line : Nat
  code : Nat
  scope : Nat
  merged : Nat
  time : Nat
  deriving DecidableEq, Repr

/-- The Umpire (R307 to R321). -/
structure Ump where
  reports : List Report := []        -- errors on their way, oldest first
  lo : Word := 0
  hi : Word := 0
  blk : Tab Blk := []
  first : Option FirstRec := none
  prev : Option FirstRec := none
  ovf : Bool := false
  later : Nat := 0
  clrLine : Nat := 0
  clrRefused : Nat := 0
  handling : Option Nat := none      -- tick at which the handling window opened
  booted : Bool := false             -- the first self-check since reset has passed
  full : Bool := false               -- debug level FULL: all four lines asserted until VSYS is cycled
  selfOk : Bool := false
  selfRuns : BitVec 16 := 0
  selfPostponed : Option Bool := none
  selfCause : Bool := false          -- UMP_SELF: no self-check has passed since
  grpCause : BitVec 4 := 0           -- GRP_MON_FAIL: the monitor has passed no self-check since
  fldCause : Bool := false
  checks : Tab Nat := []             -- self-checks that have fallen due: 0 the Umpire's, 1 to 4 the group monitors', 5 the field die's
  deriving DecidableEq, Repr

/-! ## Built-in self-test (chapter 15) -/

/-- One test unit (R323, R339). -/
structure BUnit where
  last : Nat := 0                    -- 0 none, 1 pass, 2 fail, 3 aborted
  done : Bool := false
  pending : Bool := false
  mode : Nat := 0
  cause : Nat := 0
  runs : BitVec 16 := 0
  sig : U64 := 0
  count : Nat := 0                   -- patterns and segments applied by the last slice
  passTime : Nat := 0
  fails : BitVec 16 := 0
  aborts : BitVec 16 := 0
  deriving DecidableEq, Repr

/-- The BIST controller (R324 to R336). -/
structure Bist where
  running : Option Nat := none       -- unit of the running slice
  started : Nat := 0                 -- its start tick
  bootDone : Bool := false
  boot : List Nat := []              -- units the boot sequence still has to test, in order
  ctrlFail : Bool := false
  period : Nat := 60
  coreEn : Bool := true
  refused : Word := 0
  turn : Nat := 0                    -- the core next in turn
  coreAt : Nat := 0                  -- tick at which CORE_PERIOD last elapsed
  units : Tab BUnit := []
  deriving DecidableEq, Repr

/-! ## Time base (R387 to R392) -/

/-- One mapping from the raw tick count to the time base (R387, R389): from `raw` on, the time base is `base`
plus the elapsed raw ticks times 1 + `rate` / 2³². -/
structure TimeMap where
  raw : Nat := 0
  base : Nat := 0
  rate : Int := 0
  deriving DecidableEq, Repr

/-- The time base, its mapping history of 16 s (newest first) and PTP (R387 to R392). -/
structure TimeBase where
  map : TimeMap := {}
  older : List TimeMap := []
  valid : Bool := false
  steps : BitVec 16 := 0
  lastStep : Int := 0
  deriving DecidableEq, Repr

/-! ## Host interfaces (chapter 18) -/

/-- An event of the event queue (R407). -/
structure Event where
  seq : Nat
  src : Nat
  cls : Nat
  code : Nat
  more : Bool := false
  time : Nat := 0
  data : List Word := []
  read : Bool := false
  deriving DecidableEq, Repr

/-- The register side of the host interfaces. -/
structure HostIf where
  events : List Event := []          -- newest first, at most 512
  eventSeq : Nat := 0
  evqSel : Word := 0
  evqLost : Word := 0
  irqStat : BitVec 8 := 0
  irqEn : BitVec 8 := 0
  latch : Tab Word := []             -- the partner words latched by RL reads, by address (R10)
  resp : List Word := []             -- what the last host read returned
  miso : List Byte := []             -- what the module sent in the last host SPI transaction (R408)
  deriving DecidableEq, Repr

/-! ## The configuration store (chapter 16) -/

/-- A running or finished image write (R354, R365). `step` is 1 to 6 of R354, 0 when none runs. -/
structure ImgWrite where
  state : Nat := 0                   -- 0 idle, 1 erasing, 2 receiving, 3 verifying, 4 committing, 5 done, 6 failed
  step : Nat := 0
  byModule : Bool := false
  cause : Nat := 0
  done64 : Nat := 0
  target : Nat := 0                  -- bank 0 A, 1 B
  sealOk : Bool := false             -- the seal has been closed since the accepted OPEN
  slot : Option Nat := none          -- the slot whose session wrote COMMIT
  header : List Byte := []           -- the header page still to be programmed
  deriving DecidableEq, Repr

/-- The NVM controller, the flash and the change log (R340 to R365). `mem` is the flash: a byte that is not listed is
erased, 0xFF. -/
structure Nvm where
  mem : Tab Byte := []
  started : Bool := false            -- the controller has started since the last boot
  usable : Bool := false
  jedec : Nat := 0
  sizeLog2 : Nat := 0
  addr4 : Bool := false
  suspend : Bool := false
  wp : Bool := false
  fail : Bool := false
  timeouts : BitVec 16 := 0
  passing : Option Nat := none       -- the bank whose full pass runs
  order : List Nat := []             -- the banks still to be tried after it
  staged : List Byte := []           -- the SAFETY section in the staging pages
  stagedCrc : Word := 0
  digestFails : Tri Nat := ⟨0, 0, 0⟩
  fieldLoaded : Bool := false
  armed : Bool := false
  bank : Nat := 0
  reasonA : Nat := 0
  reasonB : Nat := 0
  fallback : Bool := false
  imgPending : Bool := false
  lostChanges : Bool := false
  digest : Word := 0
  rowingMs : Nat := 0
  passMs : Nat := 0
  wr : ImgWrite := {}
  cm : CmImage := {}
  user : UserImage := {}
  net : NetImage := {}
  cmBytes : List Byte := []          -- the CM section as loaded
  cmChanges : Tab (List Word) := []  -- CM parameters changed since boot, by parameter identity
  cmChanged : Bool := false
  cmUnsaved : Option Nat := none     -- tick of the first change that is not yet persisted
  cmSlot : Nat := 0                  -- slot of the last change
  logArea : Nat := 0
  logReady : Bool := false
  logNext : Nat := 0
  logOther : Bool := false           -- the other area is erased with a new header
  logErasing : Bool := false
  logSeq : Nat := 0                  -- ENTRY_SEQ of the next entry
  logAck : Nat := 0                  -- ENTRY_SEQ of the first entry not acknowledged
  logFirst : Nat := 0                -- ENTRY_SEQ of the current area's first entry
  logGen : Nat := 0                  -- AREA_GEN of the current area
  logLost : Word := 0
  deriving DecidableEq, Repr

/-! ## Security (chapter 17) -/

/-- A session (R370). -/
structure Session where
  port : Port
  slot : Nat
  rights : BitVec 4
  last : Nat                         -- time of the last password-class request
  deriving DecidableEq, Repr

/-- The login state of one port (R370): its last challenge, its response registers. -/
structure LoginPort where
  slot : Nat := 0
  salt : List Byte := []
  nonce : Option (List Byte) := none
  used : Bool := false               -- the nonce was used by a response
  issued : Nat := 0
  resp : Tab Word := []
  lastFail : Bool := false
  deriving DecidableEq, Repr

/-- A password slot's counts (R371). -/
structure SlotCnt where
  fails : Nat := 0
  lockUntil : Option Nat := none
  logins : BitVec 16 := 0
  deriving DecidableEq, Repr

/-- The fuses and keys of the OTP and what the part is (R2, R373, R374, R386). -/
structure Otp where
  small : Bool := false              -- the part is a PRD-9620-E
  lc : Nat := 0                      -- 0 FACTORY, 1 FIELD, 2 RMA
  lcNext : Nat := 0                  -- the lifecycle state of the next boot
  authReq : Bool := false
  imageKey : Option (List Byte) := none
  debugKey : Option (List Byte) := none
  vendorKey : Option (List Byte) := none
  uid : U64 := 0
  mac : Nat := 0
  deriving DecidableEq, Repr

/-- The security block (R366 to R383). -/
structure Sec where
  debug : Nat := 0                   -- 0 CLOSED, 1 CM_DEBUG, 2 FULL
  power : Nat := 2                   -- 0 RUN, 1 REDUCED, 2 HOLD
  sealA : Bool := false
  sealB : Bool := false
  sealDisc : Bool := false
  sealRunA : Nat := 0                -- consecutive samples of KEYSW_A that disagree with its filtered state
  sealRunB : Nat := 0
  sealOpenRun : Nat := 0             -- consecutive samples with both inputs open, up to 20
  sealDiffRun : Nat := 0             -- consecutive samples at which the filtered states differ, up to 1,000
  sealSamples : Nat := 0             -- samples taken since reset
  cntSeal : BitVec 16 := 0
  cntDisc : BitVec 16 := 0
  zeroised : Bool := false
  sessions : List Session := []
  ports : Tab LoginPort := []
  slots : Tab SlotCnt := []
  chal : Option (List Byte) := none
  chalUsed : Bool := false
  chalAt : Nat := 0
  tok : Tab Word := []
  tokFails : Nat := 0
  tokLock : Option Nat := none
  keyData : Tab Word := []
  refused : BitVec 16 := 0
  lastCode : Nat := 0
  deriving DecidableEq, Repr

/-! ## Waveform memory (chapter 11) -/

/-- STATE of a pool page (R270); the stream pages are those below 0x320. -/
inductive PageState where | free | held | scrub
  deriving DecidableEq, Repr

/-- A pool page. `cap` is the serial number of the capture it belongs to, 0 for none. -/
structure BoatPage where
  state : PageState := .free
  gen : Nat := 0
  holder : Nat := 0
  time : Nat := 0
  cap : Nat := 0
  deriving DecidableEq, Repr

/-- A capture (R259): its context, whether it still fills, `chan` for an AFE capture, and its pages (page, generation) in
fill order. -/
structure Capture where
  serial : Nat
  ctx : Nat
  filling : Bool := true
  holder : Nat
  prio : Nat := 0
  evict : Bool := false
  chan : Option Nat := none
  pages : List (Nat × Nat) := []
  count : Nat := 0
  written : Nat := 0
  stamp : Option Nat := none
  deriving DecidableEq, Repr

/-- The stream region of an AIN channel (R254). -/
structure Stream where
  next : Nat := 0
  drop : BitVec 16 := 0
  count : Nat := 0
  deriving DecidableEq, Repr

/-- The Boathouse. `mem` is the waveform memory by byte address; an unlisted byte reads 0. -/
structure Boat where
  mem : Tab Byte := []
  ready : Bool := false              -- the stream pages are reserved
  pages : Tab BoatPage := []
  caps : List Capture := []
  serial : Nat := 0
  streams : Tab Stream := []
  reclaim : Nat := 8
  hostBudget : Nat := 512
  ptr : Nat := 0                     -- the rotating pointer over the 13 ports
  evicting : Bool := false
  lowFree : Nat := 0
  cntReq : Word := 0
  cntNull : Word := 0
  cntBudget : Word := 0
  cntEvict : Word := 0
  cntWinref : Word := 0
  eccCorr : BitVec 16 := 0
  eccUncorr : BitVec 16 := 0
  pageSel : BitVec 12 := 0
  streamSel : BitVec 5 := 0
  bankSel : BitVec 4 := 0
  waits : Tab (Nat × Nat) := []      -- STREAM_MAX and OTHER_MAX per bank
  slots : Tab Nat := []              -- per bank, the first reserved slot no stream word has taken (R264)
  turns : Tab Nat := []              -- per bank, the rotating pointer over the unreserved accessors (R264)
  hostStatus : Nat := 0
  hostCtx : Nat := 0
  hostPages : Nat := 0
  deriving DecidableEq, Repr

/-! ## Alarm levels (R272 to R275) -/

/-- The states of an alarm entry (R273). -/
inductive AlarmState where | normal | alert | danger
  deriving DecidableEq, Repr

/-- An alarm entry: its words, its state, the confirmation count, and an update that waits for the task. -/
structure Alarm where
  words : List Word := []
  state : AlarmState := .normal
  target : AlarmState := .normal
  run : Nat := 0
  nodata : Bool := false
  next : Option (List Word) := none
  deriving DecidableEq, Repr

/-! ## Check-value contexts (chapter 13) -/

/-- A context of the CM unit (R293, R306). `live` once anything has been fed or loaded. -/
structure CrcCtx where
  cfg : Word := 0x00200320
  poly : Word := 0x1EDC6F41
  init : Word := 0xFFFFFFFF
  xorout : Word := 0xFFFFFFFF
  fold0 : Word := 0
  fold1 : Word := 0
  expect : Word := 0
  reg : Word := 0
  live : Bool := false
  isMatch : Bool := false
  mismatch : Bool := false
  mismatches : Nat := 0
  words : Nat := 0
  deriving DecidableEq, Repr

structure CrcUnit where
  ctx : Tab CrcCtx := []
  ptr : Nat := 0                     -- the round-robin pointer over the contexts (R292)
  refused : Word := 0
  katPass : Bool := false
  katFail : Bool := false
  katRuns : BitVec 16 := 0
  deriving DecidableEq, Repr

/-! ## Ethernet and PTP (chapter 18) -/

/-- A port of the switch (R384, R411). -/
structure EthPort where
  link : Bool := false
  speed : Nat := 0
  changes : BitVec 16 := 0
  rx : Word := 0
  tx : Word := 0
  drop : Word := 0
  queues : Tab (List Nat) := []      -- egress queues 0 to 3 (R385): the lengths of the frames that wait
  busyTo : Nat := 0                  -- raw tick up to which the port transmits
  groupSec : Nat := 0                -- second of raw time in which group frames are counted, and their number
  groupCount : Nat := 0
  polls : Nat := 0                   -- polls of the PHY since reset
  deriving DecidableEq, Repr

/-- The switch, PTP, telegrams and the register protocol (R384 to R411). `macs` holds address, port and the tick of the
last frame; `peers` the four peers subscribed to events; `cache` the kept responses by peer and request. -/
structure Net where
  ports : Tab EthPort := []
  macs : List (Nat × Nat × Nat) := []
  cntSel : BitVec 2 := 0
  ptpState : Nat := 0
  ptpLocked : Bool := false
  ptpOffset : Int := 0
  ptpRes : Word := 0
  ptpGood : Nat := 0                 -- consecutive offset measurements within 1 µs
  ptpSyncAt : Option Nat := none     -- raw tick of the last accepted Sync
  ptpBadAt : Option Nat := none      -- raw tick from which the offset has exceeded 100 µs
  ptpPend : Option (Int × Int) := none   -- a two-step Sync: reception and correction
  ptpT12 : Option (Int × Int) := none    -- the last complete Sync: origin with correction, and reception
  ptpT3 : Option Int := none         -- when the last Delay_Req was sent
  ptpDelay : Option Int := none      -- the mean path delay
  ptpSent : Nat := 0                 -- Sync and Delay_Req messages sent
  ptpBest : Option PtpClock := none  -- the best clock announced (R391)
  ptpCorr : Int := 0                 -- correctionField of the last message forwarded, residence time added
  dgSec : Nat := 0                   -- second of raw time in which datagrams are counted, and their number (R386)
  dgCount : Nat := 0
  pps : Bool := false
  ppsAt : Nat := 0                   -- the last whole second of the time base seen
  telSel : BitVec 6 := 0
  telMismatch : Word := 0
  telSent : Tab (Nat × List Byte) := []  -- per connection: the last telegram sent to the partner
  subs : List Nat := []
  cache : List (Nat × List Byte × List Word) := []
  hspiCrc : BitVec 16 := 0
  hspiAbort : BitVec 16 := 0
  deriving DecidableEq, Repr

/-! ## Validation hooks (chapter 22) -/

/-- A hook (R469 to R475). -/
structure Hook where
  tgt : Word := 0
  cfg : Word := 0
  lfsr : Word := 0
  cnt : Word := 0
  max : Nat := 0
  deriving DecidableEq, Repr

/-- An item that a hook holds: the hook, its target when the item came, and the release tick (R470). -/
structure HeldItem where
  hook : Nat
  tgt : Word := 0
  rel : Nat := 0
  item : Instr
  deriving DecidableEq, Repr

/-- The PERTURB block; `held` are the items its hooks hold, oldest first. -/
structure Perturb where
  seed : Word := 1
  refused : Word := 0
  owed : Bool := false               -- the log entry of R474 waits for the log
  hooks : Tab Hook := []
  held : List HeldItem := []
  deriving DecidableEq, Repr

/-- Clocks, supplies, reset and the power-cycle record (chapter 19). `up` is a module that is powered and out of reset;
`vsysGood` and `rstLow` are its supply and its reset pin, `off` the power state OFF. -/
structure Sys where
  up : Bool := false
  off : Bool := false
  rstLow : Bool := false
  refused : Word := 0
  refusedAddr : Word := 0
  cause : BitVec 4 := 1              -- POR, EXT, BROWNOUT, OFF_EXIT
  boots : BitVec 16 := 0
  fullSeen : Bool := false
  keyClosed : Bool := false
  reqBits : BitVec 2 := 0
  reqRefused : Bool := false
  spread : Nat := 0
  spreadFrom : Option Nat := none    -- raw tick at which the ramp began
  applied : Bool := false
  xtalOk : Bool := false
  pllA : Bool := false
  pllB : Bool := false
  clkOut : BitVec 20 := 0
  clkSel : BitVec 5 := 0
  clkCnt : Tab Nat := []
  clkMin : Tab Nat := []
  clkMax : Tab Nat := []
  releaseMs : Nat := 0               -- ms from VSYS good to the release of the module reset
  vsys : Nat := 0                    -- in 10 mV
  vsysGood : Bool := false
  vsysOut : Bool := false            -- outside 16.5 V to 33.5 V at present
  vsysDecl : Bool := false           -- VSYS_FAULT has been declared for this excursion
  vsysCause : Bool := false          -- the cause of VSYS_FAULT persists
  rails : BitVec 9 := 0              -- rails out of their window
  laneOff : BitVec 3 := 0
  temps : List Int := [0, 0, 0, 0, 0]    -- F, L1, L2, L3, CM
  tempMax : Option Int := none       -- the highest reading since reset
  tempReads : Nat := 0               -- readings since reset
  deriving DecidableEq, Repr

/-! ## The machine -/


/-- The module, and the commands that wait, first in, first out. `now` is the raw tick count (R174), `t0` the
tick of the last cycle boundary (R17), `fresh` counts the uses of Config.freeWord. -/
structure State where
  sys : Sys := {}
  now : Nat := 0
  t0 : Nat := 0
  fresh : Nat := 0
  fab : Fab := {}
  seat : Seat := {}
  lane : Tri LaneDie := ⟨{}, {}, {}⟩
  fld : Field := {}
  afe : Afe := {}
  tach : Tab Tach := []
  ring : Tab Ring := []
  node : Tab Node := []
  cox : Cox := {}
  ump : Ump := {}
  bist : Bist := {}
  time : TimeBase := {}
  host : HostIf := {}
  otp : Otp := {}
  nvm : Nvm := {}
  sec : Sec := {}
  net : Net := {}
  boat : Boat := {}
  alarm : Tab Alarm := []
  crc : CrcUnit := {}
  hook : Perturb := {}
  pending : List Instr := []
  deriving DecidableEq, Repr

/-- The machine as the supply finds it, held in reset until VSYS is good. -/
def State.reset : State := {}

end Sys2Proof.Machine
end

