-- ==== Sys2Proof/Machine/Ops.lean ====
section
/-!
DEFINITION. The shared operations: tables, values per lane, group and supply, the time base, error reports and
events, refused host accesses, and the gate every meaning passes (a module without power does nothing).
-/
namespace Sys2Proof.Machine

open Sys2Proof

/-! ## Tables -/

/-- The entry of key `k`, `d` where none is listed. -/
def look {α : Type} (d : α) : Tab α → Nat → α
  | [], _ => d
  | (k', v) :: m, k => if k = k' then v else look d m k

/-- The table with `v` at `k`; an entry equal to the default is not listed. -/
def put {α : Type} [DecidableEq α] (d : α) : Tab α → Nat → α → Tab α
  | [], k, v => if v = d then [] else [(k, v)]
  | (k', v') :: m, k, v =>
    if k < k' then (if v = d then (k', v') :: m else (k, v) :: (k', v') :: m)
    else if k = k' then (if v = d then m else (k, v) :: m)
    else (k', v') :: put d m k v

/-- Every key of the table is above `k` and rising, and no entry is the default. -/
def wfFrom {α : Type} [DecidableEq α] (d : α) : Option Nat → Tab α → Bool
  | _, [] => true
  | lo, (k, v) :: m => (match lo with | none => true | some l => decide (l < k)) && decide (v ≠ d) && wfFrom d (some k) m

/-- A table in its canonical form. -/
def wf {α : Type} [DecidableEq α] (d : α) (m : Tab α) : Bool := wfFrom d none m

/-- The table with `f` applied to the entry of `k`. -/
def upd {α : Type} [DecidableEq α] (d : α) (m : Tab α) (k : Nat) (f : α → α) : Tab α := put d m k (f (look d m k))

/-! ## Values per lane, group, supply -/

def laneNo : Lane → Nat
  | .l1 => 1 | .l2 => 2 | .l3 => 3

def laneOf (n : Nat) : Lane := if n = 1 then .l1 else if n = 2 then .l2 else .l3

def allLanes : List Lane := [.l1, .l2, .l3]

def triGet {α : Type} (t : Tri α) : Lane → α
  | .l1 => t.l1 | .l2 => t.l2 | .l3 => t.l3

def triSet {α : Type} (t : Tri α) (l : Lane) (v : α) : Tri α :=
  match l with
  | .l1 => { t with l1 := v }
  | .l2 => { t with l2 := v }
  | .l3 => { t with l3 := v }

def laneNum : Option Lane → Nat
  | none => 0
  | some l => laneNo l

def groupNo : Group → Nat
  | .sog1 => 0 | .sog2 => 1 | .ciog1 => 2 | .ciog2 => 3

def allGroups : List Group := [.sog1, .sog2, .ciog1, .ciog2]

def groupSupply : Group → Supply
  | .sog1 => .v1 | .ciog1 => .v1 | .sog2 => .v2 | .ciog2 => .v2

def soGroup (k : Nat) : Group := if k < 6 then .sog1 else .sog2

def cioGroup (n : Nat) : Group := if n < 12 then .ciog1 else .ciog2

/-! ## Accessors of the state -/

def State.laneD (s : State) (l : Lane) : LaneDie := triGet s.lane l
def State.setLane (s : State) (l : Lane) (d : LaneDie) : State := { s with lane := triSet s.lane l d }
def State.mgr (s : State) (l : Lane) : LaneMgr := triGet s.seat.lanes l
def State.setMgr (s : State) (l : Lane) (m : LaneMgr) : State :=
  { s with seat := { s.seat with lanes := triSet s.seat.lanes l m } }

def State.si (s : State) (n : Nat) : Si := look {} s.fld.si n
def State.setSi (s : State) (n : Nat) (v : Si) : State := { s with fld := { s.fld with si := put {} s.fld.si n v } }
def State.tp (s : State) (n : Nat) : Tp := look {} s.fld.tp n
def State.setTp (s : State) (n : Nat) (v : Tp) : State := { s with fld := { s.fld with tp := put {} s.fld.tp n v } }
def State.so (s : State) (n : Nat) : So := look {} s.fld.so n
def State.setSo (s : State) (n : Nat) (v : So) : State := { s with fld := { s.fld with so := put {} s.fld.so n v } }
def State.cio (s : State) (n : Nat) : Cio := look {} s.fld.cio n
def State.setCio (s : State) (n : Nat) (v : Cio) : State := { s with fld := { s.fld with cio := put {} s.fld.cio n v } }

def State.group (s : State) : Group → GroupSt
  | .sog1 => s.fld.sog1 | .sog2 => s.fld.sog2 | .ciog1 => s.fld.ciog1 | .ciog2 => s.fld.ciog2
def State.setGroup (s : State) (g : Group) (v : GroupSt) : State :=
  match g with
  | .sog1 => { s with fld := { s.fld with sog1 := v } }
  | .sog2 => { s with fld := { s.fld with sog2 := v } }
  | .ciog1 => { s with fld := { s.fld with ciog1 := v } }
  | .ciog2 => { s with fld := { s.fld with ciog2 := v } }

def State.supply (s : State) : Supply → SupplySt
  | .vin => s.fld.vin | .v1 => s.fld.v1 | .v2 => s.fld.v2
def State.setSupply (s : State) (g : Supply) (v : SupplySt) : State :=
  match g with
  | .vin => { s with fld := { s.fld with vin := v } }
  | .v1 => { s with fld := { s.fld with v1 := v } }
  | .v2 => { s with fld := { s.fld with v2 := v } }

def State.ain (s : State) (n : Nat) : Ain := look {} s.afe.ch n
def State.setAin (s : State) (n : Nat) (v : Ain) : State := { s with afe := { s.afe with ch := put {} s.afe.ch n v } }
def State.tachT (s : State) (n : Nat) : Tach := look {} s.tach n
def State.setTach (s : State) (n : Nat) (v : Tach) : State := { s with tach := put {} s.tach n v }
def State.rg (s : State) (n : Nat) : Ring := look {} s.ring n
def State.setRg (s : State) (n : Nat) (v : Ring) : State := { s with ring := put {} s.ring n v }
def State.nd (s : State) (uid : U64) : Node := look {} s.node uid.toNat
def State.setNd (s : State) (uid : U64) (v : Node) : State := { s with node := put {} s.node uid.toNat v }
def State.task (s : State) (n : Nat) : Task := look {} s.cox.tasks n
def State.setTask (s : State) (n : Nat) (v : Task) : State := { s with cox := { s.cox with tasks := put {} s.cox.tasks n v } }
def State.core (s : State) (n : Nat) : Core := look {} s.cox.cores n
def State.setCore (s : State) (n : Nat) (v : Core) : State := { s with cox := { s.cox with cores := put {} s.cox.cores n v } }
def State.pmu (s : State) (n : Nat) : Pmu := look {} s.cox.pmu n
def State.setPmu (s : State) (n : Nat) (v : Pmu) : State := { s with cox := { s.cox with pmu := put {} s.cox.pmu n v } }

/-- The settings of the SAFETY section as the field die holds them; the defaults before it is loaded. -/
def State.img (s : State) : SafetyImage := s.fld.safety.getD {}

/-! ## Time -/

/-- Ticks of a safety cycle (R17) and of a slot (R101). -/
def cycleTicks : Nat := 12500
def slotTicks : Nat := 3125

/-- Tick counts of 1 s, 24 h and 1 h (R387: 10 ns each). -/
def secTicks : Nat := 100000000
def dayTicks : Nat := 86400 * secTicks
def hourTicks : Nat := 3600 * secTicks

/-- The time base at a raw tick under one mapping (R387). -/
def mapTime (m : TimeMap) (raw : Nat) : Nat :=
  Int.toNat ((m.base : Int) + (raw - m.raw : Nat) + ((raw - m.raw : Nat) : Int) * m.rate / 4294967296)

/-- The time base at a raw tick, with the mapping in force then, or the oldest kept (R389). -/
def timeAt (t : TimeBase) (raw : Nat) : Nat :=
  if t.map.raw ≤ raw then mapTime t.map raw
  else match t.older.find? (fun m => decide (m.raw ≤ raw)), t.older.getLast? with
    | some m, _ => mapTime m raw
    | none, some m => mapTime m raw
    | none, none => mapTime t.map raw

/-- The time base now. -/
def State.timeNow (s : State) : Nat := timeAt s.time s.now

/-- The slot the field die is in (R101, R106). -/
def State.slot (s : State) : Nat := s.fld.slotBase + s.fld.sub

/-! ## Free values, counts -/

/-- A bit of a register as a number. -/
def bit (b : Bool) : Nat := if b then 1 else 0

/-- Saturating and wrapping increments. -/
def satInc (w : Word) : Word := if w = 0xFFFFFFFF#32 then w else w + 1
def satAdd (w : Word) (n : Nat) : Word := if w.toNat + n ≥ 4294967296 then 0xFFFFFFFF#32 else w + BitVec.ofNat 32 n
def sat (max n : Nat) : Nat := if n < max then n + 1 else max

/-- A fresh free value: the spec says that a value appears here and not which. -/
def fresh (s : State) : Word × State := (Config.freeWord s.fresh, { s with fresh := s.fresh + 1 })

/-! ## Frames of the management core (R384, R385) -/

def State.eth (s : State) (p : Nat) : EthPort := look {} s.net.ports p
def State.setEth (s : State) (p : Nat) (e : EthPort) : State := { s with net := { s.net with ports := put {} s.net.ports p e } }

def ethRx (p : Nat) (s : State) : State := s.setEth p { s.eth p with rx := satInc (s.eth p).rx }
def ethDrop (p : Nat) (s : State) : State := s.setEth p { s.eth p with drop := satInc (s.eth p).drop }

/-- The time on the wire of a frame, in ticks, with 20 bytes of preamble and gap (PRESUMED, log entry 176). -/
def frameTicks (speed len : Nat) : Nat :=
  match speed with
  | 0 => 80 * (len + 20)
  | 1 => 8 * (len + 20)
  | _ => (8 * (len + 20) + 9) / 10

/-- The frame that leaves next: the first of the highest queue that holds one (R385). -/
def nextOut (e : EthPort) : Option (Nat × Nat × List Nat) :=
  [3, 2, 1, 0].findSome? (fun q => match look [] e.queues q with
    | l :: ls => some (q, l, ls)
    | [] => none)

/-- The port sends what waits, up to `n` frames, as far as it is free at tick `now`. -/
def egressRun : Nat → Nat → EthPort → EthPort
  | 0, _, e => e
  | n + 1, now, e =>
    match nextOut e with
    | some (q, l, ls) =>
      if now < e.busyTo then e
      else egressRun n now { e with tx := satInc e.tx, queues := put [] e.queues q ls, busyTo := e.busyTo + frameTicks e.speed l }
    | none => e

def queuedFrames (e : EthPort) : Nat := (e.queues.map (fun x => x.2.length)).foldl (· + ·) 0

/-- The port as it stands at tick `now`. -/
def egressTo (now : Nat) (e : EthPort) : EthPort := egressRun (queuedFrames e) now e

/-- A frame of `len` bytes enters queue `q` of a port, and leaves at once where the port is free. The management core's port 2
takes it at once. -/
def ethTx (p q len : Nat) (s : State) : State :=
  let e := egressTo s.now (s.eth p)
  if p = 2 then s.setEth p { e with tx := satInc e.tx }
  else s.setEth p (egressTo s.now { e with
    busyTo := if queuedFrames e = 0 then max e.busyTo s.now else e.busyTo, queues := put [] e.queues q (look [] e.queues q ++ [len]) })

/-- The length of an Ethernet frame with a UDP datagram of `n` bytes. -/
def udpFrame (n : Nat) : Nat := max 64 (46 + n)

/-- A group frame that the management core sends: it enters the switch by port 2 and leaves by the ports with a link. -/
def coreSends (q len : Nat) (s : State) : State :=
  [0, 1].foldl (fun t p => if (t.eth p).link then ethTx p q len t else t) (ethRx 2 s)

/-- A frame for one station: which of two ports with a link it leaves by depends on where that station was learned, which
the model does not know of a UDP peer. -/
def coreUnicast (q len : Nat) (s : State) : State :=
  if (s.eth 0).link && (s.eth 1).link then
    let (f, s1) := fresh s
    let s2 := ethRx 2 s1
    match f.toNat % 3 with
    | 0 => ethTx 0 q len s2
    | 1 => ethTx 1 q len s2
    | _ => ethTx 0 q len (ethTx 1 q len s2)
  else coreSends q len s

/-! ## Events -/

/-- An event enters the queue (R407): EVENT_SEQ counts on, the oldest of more than 512 is overwritten (it counts as lost
where it was never read, R411), and every subscriber is sent a NOTIFY. -/
def pushEvent (src cls code : Nat) (data : List Word) (time : Nat) (s : State) : State :=
  let e : Event := { seq := s.host.eventSeq, src, cls, code, more := decide (5 < data.length), time, data := data.take 5 }
  let gone := s.host.events.drop 511
  let lost := if gone.any (fun x => !x.read) then satInc s.host.evqLost else s.host.evqLost
  let s1 := { s with host := { s.host with
      events := (e :: s.host.events).take 512, eventSeq := (s.host.eventSeq + 1) % 4294967296,
      evqLost := lost, irqStat := s.host.irqStat ||| 1 } }
  s.net.subs.foldl (fun t _ => coreUnicast 0 (udpFrame 56) t) s1

/-- A refused host access (R10): counted in SYS_REFUSED, its address kept in SYS_REFUSED_ADDR. -/
def refuse (addr : Nat) (s : State) : State :=
  { s with sys := { s.sys with refused := satInc s.sys.refused, refusedAddr := BitVec.ofNat 32 addr } }

/-! ## The gate -/

/-- A command's effect. A module that is not powered, or is held in reset, does nothing (R425, R427). -/
def run (s : State) (f : State → State) : Host.Outcome State Fault Refusal :=
  .next (if s.sys.up then f s else s)

/-- A command's effect on a module in any condition: the supply and the reset pin themselves (R420, R427). -/
def always (s : State) (f : State → State) : Host.Outcome State Fault Refusal := .next (f s)

/-- The instant lies before the next boundary; what happens at or after it belongs to the next cycle (R186, R197). -/
def beforeBoundary (s : State) (tick : Nat) : Bool := decide (tick < s.t0 + cycleTicks)

/-- `f` where its event is due, otherwise nothing. -/
def whenever (c : Bool) (f : State → State) (s : State) : State := if c then f s else s

end Sys2Proof.Machine
end

