-- ==== Sys2Proof/Machine/Operands.lean ====
section
/-!
DEFINITION. The operand forms: how a lane decodes the frozen image into input signals (R75, R112, R121), what a
block input reads, and how the data words of frames and registers spell their operands.
-/
namespace Sys2Proof.Machine

open Sys2Proof

/-- What a lane evaluates a block with: the cycle, the settings, the image, the generators it decodes with
TP_SCHED, the frames it did not accept, the signals formed so far, and whether this is its first cycle. -/
structure Ctx where
  cycle : Nat
  img : SafetyImage
  im : Image
  sched : List Nat
  tachLost : List Nat
  decimLost : List Nat
  first : Bool
  segPos : Nat
  sig : Tab (List Val)
  outCmd : Tab Bool                  -- per OUT block, the command it formed in the previous cycle (R96)
  telIn : Tab TelInSt                -- the TEL_IN states of this cycle, by block

/-- The settings of SIn. -/
def siCfg (img : SafetyImage) (n : Nat) : SiCfg := look {} img.si n

/-- The NO channel of an antivalent pair (R99). -/
def isNo (img : SafetyImage) (n : Nat) : Bool :=
  decide (n % 2 = 1) && decide ((siCfg img (n - 1)).pair = .antiv)

/-- An input carries a diagnosis in the image: its own, its generator's, or TP_SCHED (R75, R111, R112). -/
def siDiagnosed (img : SafetyImage) (im : Image) (sched : List Nat) (n : Nat) : Bool :=
  look 0 im.siCode n != 0 ||
  (match (siCfg img n).gen with | some k => sched.contains k | none => false)

/-- An input's decoded value (R75): its filtered state, or its not-on value under a diagnosis or a VFLD_IN sag. -/
def siVal (img : SafetyImage) (im : Image) (sched : List Nat) (n : Nat) : Bool :=
  if im.sagIn || siDiagnosed img im sched n then isNo img n else im.si.getLsbD n

/-- A group as the image shows it. -/
def imGood (im : Image) (g : Group) : Bool := im.good.getLsbD (groupNo g)

/-- An output's decoded readback (R75, R97, R155). -/
def soVal (im : Image) (k : Nat) : Bool :=
  im.so.getLsbD k && imGood im (soGroup k) && !im.soHeld.getLsbD k

/-- The readback of a configurable pin is decoded not-on: it carries a diagnosis, or its group is not good (R75, R97, R163). -/
def cioMasked (im : Image) (n : Nat) : Bool := im.cioDiag.getLsbD n || !imGood im (cioGroup n)

/-- A block input's value (R75, R76). A signal that no block has formed is off or invalid. -/
def rd (c : Ctx) : Src → Val
  | .const b => .bool b
  | .constNum v => .num (some v)
  | .si n => .bool (siVal c.img c.im c.sched n)
  | .cio n => .bool (c.im.cio.getLsbD n && !cioMasked c.im n)
  | .cioLamp n => .bool (c.im.cioLamp.getLsbD n && !cioMasked c.im n)
  | .so k => .bool (soVal c.im k)
  | .groupGood g => .bool (imGood c.im g)
  | .supplyGood .vin => .bool (!c.im.sagIn)
  | .supplyGood .v1 => .bool (!c.im.sagOut.getLsbD 0)
  | .supplyGood .v2 => .bool (!c.im.sagOut.getLsbD 1)
  | .out blk port => ((look [] c.sig blk)[port]?).getD (.bool false)

def rb (c : Ctx) (i : Src) : Bool :=
  match rd c i with
  | .bool b => b
  | .num _ => false

def rn (c : Ctx) (i : Src) : Option Word :=
  match rd c i with
  | .bool _ => none
  | .num v => v

/-- A NUM signal as a signed number. -/
def rz (c : Ctx) (i : Src) : Option Int := (rn c i).map BitVec.toInt

/-- The on-state of the two channels of a pair (R87). -/
def pairChans (c : Ctx) (p : PairCfg) : Bool × Bool :=
  (rb c p.a, if p.antivalent then !rb c p.b else rb c p.b)

end Sys2Proof.Machine
end

