-- ==== Sys2Proof/Machine/Hooks.lean ====
section
/-!
DEFINITION. Routes (R35, R39), and the validation hooks as the paths meet them (R469 to R472): which hook an item meets,
and the holding of the item.
-/
namespace Sys2Proof.Machine

open Sys2Proof

/-! ## Routes (R35, R39) -/

/-- Endpoints L1, L2, L3 (R44). -/
def lanesMask : BitVec 16 := 0x000E

/-- A ROM entry with what the manual says of it. -/
def romEntry (lo hi cls : Nat) (dest : BitVec 16) (safe crc : Bool) (arbp i : Nat) : Route :=
  { srcLo := lo, srcHi := hi, cls, valid := true, dest, queue := Config.romQueue i, safe, crc, rom := true, arbp }

/-- The ROM entries of the architectural routes (R35): the five safety routes of R39, then the flows of
01_architecture.md with their classes. The numbers of the entries and of the queues are the model's (DESIGN CHOICE, log
entry 34). A state copy's DEST names every lane: a ROM entry is static, and which lane is being seated changes (DESIGN
CHOICE, log entry 116). -/
def romKnown : List Route :=
  [romEntry 0x000 0x000 0 lanesMask true true 1 0,
   romEntry 0x0C0 0x0DF 0 lanesMask true true 1 1,
   romEntry 0x301 0x303 8 0x0001 true true 1 2,
   romEntry 0x0A0 0x0A7 0 0x001E true true 2 3,
   romEntry 0x311 0x313 6 lanesMask true true 1 4,
   romEntry 0x080 0x09F 0 0x0020 false true 1 5,
   romEntry 0x002 0x002 4 0x2000 false false 1 6,
   romEntry 0x321 0x323 4 0x2100 false false 1 7,
   romEntry 0x341 0x343 9 0x0200 false true 1 8,
   romEntry 0x600 0x63F 9 lanesMask false true 2 9,
   romEntry 0x100 0x2FF 2 0x0001 false true 2 10,
   romEntry 0x100 0x2FF 3 0x0001 false true 2 11,
   romEntry 0x410 0x411 2 0x0001 false true 2 12,
   romEntry 0x410 0x411 3 0x0001 false true 2 13,
   romEntry 0x100 0x2FF 4 0x0100 false false 2 14,
   romEntry 0x400 0x402 4 0x2100 false false 2 15,
   romEntry 0x405 0x405 4 0x2100 false false 2 16,
   romEntry 0x408 0x40B 4 0x2100 false false 2 17,
   romEntry 0x405 0x405 5 0x0110 false false 2 18,
   romEntry 0x800 0xFFF 1 0x0010 false false 2 19,
   romEntry 0x001 0x001 2 lanesMask false true 1 20,
   romEntry 0x001 0x001 6 0xFFFF false true 1 21,
   romEntry 0x403 0x403 2 0x0001 false true 2 22,
   romEntry 0x400 0x401 6 0xFFFF false true 2 23,
   romEntry 0x408 0x40B 6 0xFFFF false true 2 24,
   romEntry 0x000 0x400 7 0x2100 false false 1 25]

/-- What entries 64 to 255 may name (R35): DSP task or ring node identities, and endpoints of the CM die. An image entry that
names anything else is not in use (DESIGN CHOICE, log entry 125). -/
def imageEntryOk (r : Route) : Bool :=
  ((decide (0x100 ≤ r.srcLo) && decide (r.srcHi ≤ 0x2FF)) || (decide (0x800 ≤ r.srcLo) && decide (r.srcHi ≤ 0xFFF))) &&
  decide (r.dest &&& 0x000F = 0)

/-- Entry `i` of the route table: ROM up to 63; a ROM entry the manual does not list carries no safety route. -/
def routeAt (s : State) (i : Nat) : Route :=
  if i < 64 then
    match romKnown[i]? with
    | some r => r
    | none => { Config.romRoute i with safe := false, rom := true }
  else
    let r := look {} s.fab.routes i
    { r with valid := r.valid && imageEntryOk r, safe := false, rom := false }

/-- The entry matches a source and class (R24, R35). -/
def routeHit (r : Route) (src cls : Nat) : Bool :=
  r.valid && decide (r.srcLo ≤ src) && decide (src ≤ r.srcHi) && decide (cls < 10) && (r.anyCls || decide (r.cls = cls))

/-- The lowest-numbered matching entry. -/
def routeFor (s : State) (src cls : Nat) : Option Route :=
  ((List.range 256).find? (fun i => routeHit (routeAt s i) src cls)).map (routeAt s)

/-- The number of the lowest matching entry. -/
def routeIdx (s : State) (src cls : Nat) : Option Nat := (List.range 256).find? (fun i => routeHit (routeAt s i) src cls)

/-! ## Hooks -/

def State.hk (s : State) (n : Nat) : Hook := look {} s.hook.hooks n
def State.setHk (s : State) (n : Nat) (h : Hook) : State := { s with hook := { s.hook with hooks := put {} s.hook.hooks n h } }

def hookKind (h : Hook) : Nat := bits h.tgt 3 0
def hookDelay (h : Hook) : Nat := bits h.cfg 13 0
def hookJitter (h : Hook) : Nat := bits h.cfg 27 14

/-- The units of a hook in ticks, rounded up (R469): FCLK cycles of 300 MHz, safety cycles, superframes, µs, MCLK cycles of
800 MHz. -/
def unitTicks (h : Hook) (n : Nat) : Nat :=
  match hookKind h with
  | 1 => if h.cfg.getLsbD 28 then n * cycleTicks else (n + 2) / 3
  | 2 => n * 100000
  | 3 => n * 100
  | 4 => n * cycleTicks
  | _ => (n + 7) / 8

/-- A time in the hook's unit, rounded up. -/
def ticksUnit (h : Hook) (t : Nat) : Nat :=
  match hookKind h with
  | 1 => if h.cfg.getLsbD 28 then (t + cycleTicks - 1) / cycleTicks else 3 * t
  | 2 => (t + 99999) / 100000
  | 3 => (t + 99) / 100
  | 4 => (t + cycleTicks - 1) / cycleTicks
  | _ => 8 * t

/-- The target of a hook covers a route, a node of a ring, a task, a channel. -/
def onRoute (i : Nat) (tgt : Word) : Bool := decide (bits tgt 3 0 = 1) && decide (bits tgt 11 4 = i)
def onNode (r addr : Nat) (tgt : Word) : Bool :=
  decide (bits tgt 3 0 = 2) && decide (bits tgt 5 4 = r) && decide (bits tgt 14 6 = addr ∨ bits tgt 14 6 = 0x1FF)
def onTask (t : Nat) (tgt : Word) : Bool := decide (bits tgt 3 0 = 3) && decide (bits tgt 12 4 = t)
def onDecim (c : Nat) (tgt : Word) : Bool := decide (bits tgt 3 0 = 4) && decide (bits tgt 8 4 = c)
def onStream (c : Nat) (tgt : Word) : Bool := decide (bits tgt 3 0 = 5) && decide (bits tgt 8 4 = c)

/-- Two targets overlap; a whole ring overlaps each of its nodes (R471). -/
def overlap (a b : Word) : Bool :=
  decide (bits a 3 0 = bits b 3 0) &&
  (match bits a 3 0 with
   | 0 => false
   | 1 => decide (bits a 11 4 = bits b 11 4)
   | 2 => decide (bits a 5 4 = bits b 5 4) &&
          decide (bits a 14 6 = bits b 14 6 ∨ bits a 14 6 = 0x1FF ∨ bits b 14 6 = 0x1FF)
   | 3 => decide (bits a 12 4 = bits b 12 4)
   | _ => decide (bits a 8 4 = bits b 8 4))

/-- The route entries whose destination's credit a hook withholds, and in how many of every 8 FCLK cycles (R471). -/
def backPressure (s : State) : List (Nat × Nat) :=
  (List.range 16).filterMap (fun n =>
    let h := s.hk n
    if hookKind h = 1 ∧ bits h.cfg 31 29 ≠ 0 then some (bits h.tgt 11 4, bits h.cfg 31 29) else none)

/-- The items a hook holds, oldest first. -/
def heldBy (s : State) (n : Nat) : List HeldItem := s.hook.held.filter (fun e => decide (e.hook = n))

/-- Hook `n` is in force on a target. -/
def hookOn (s : State) (on : Word → Bool) (n : Nat) : Bool := on (s.hk n).tgt && decide ((s.hk n).cfg ≠ 0)

/-- The last item held on a target, of whichever hook. -/
def lastHeld (s : State) (on : Word → Bool) : Option HeldItem := s.hook.held.reverse.find? (fun e => on e.tgt)

/-- The hook an item meets: the one in force, or one that has ended and still holds items that came before. -/
def hookMet (s : State) (on : Word → Bool) : Option Nat :=
  match (List.range 16).find? (hookOn s on) with
  | some n => some n
  | none => (lastHeld s on).map HeldItem.hook

/-- An item is released at the later of its arrival plus DELAY plus u and the release before it on its target (R470). -/
def holdTick (on : Word → Bool) (n : Nat) (s : State) : Nat :=
  let h := s.hk n
  let u := Config.lfsrDraw h.lfsr (hookJitter h) % (hookJitter h + 1)
  max (s.now + unitTicks h (if hookOn s on n then hookDelay h + u else 0)) (((lastHeld s on).map HeldItem.rel).getD 0)

/-- Hook `n` takes an item and its copies for further endpoints, which leave together and count as one item. -/
def holdCopies (on : Word → Bool) (n : Nat) (item : Instr) (copies : List Instr) (s : State) : State :=
  let h := s.hk n
  let rel := holdTick on n s
  let tgt := if hookOn s on n then h.tgt else ((lastHeld s on).map HeldItem.tgt).getD 0
  let s1 := if hookOn s on n then
      s.setHk n { h with lfsr := Config.lfsrStep h.lfsr, cnt := satInc h.cnt, max := max h.max (ticksUnit h (rel - s.now)) }
    else s
  { s1 with hook := { s1.hook with held := s1.hook.held ++ (item :: copies).map (fun i => { hook := n, tgt, rel, item := i }) } }

def holdItem (on : Word → Bool) (n : Nat) (item : Instr) (s : State) : State := holdCopies on n item [] s

/-- An item goes on at once, or is held by the hook it meets. -/
def hooked (on : Word → Bool) (item : Instr) (go : State → State) (s : State) : State :=
  match hookMet s on with
  | some n => holdItem on n item s
  | none => go s

/-- The longest waits of FAB_WAIT (R45). -/
def Fab.noteWait (safe : Bool) (cls wait : Nat) (f : Fab) : Fab :=
  if safe then { f with waitSafe := max f.waitSafe (min 255 wait) }
  else if cls = 9 then { f with waitTel := max f.waitTel (min 255 wait) }
  else { f with waitOther := max f.waitOther (min 0xFFFF wait) }

/-- A frame's wait, by its route. -/
def noteWait (src cls wait : Nat) (s : State) : State :=
  { s with fab := s.fab.noteWait ((routeFor s src cls).any Route.safe) cls wait }

/-- The hook that a frame of a source and class meets on its route, with the route as its target. -/
def routeHook (s : State) (src cls : Nat) : Option ((Word → Bool) × Nat) :=
  (routeIdx s src cls).bind (fun i => (hookMet s (onRoute i)).map (fun n => (onRoute i, n)))

/-- A frame of a source and class goes on its route; a hook's hold counts in FAB_WAIT (R472). -/
def hookedFrame (src cls wait : Nat) (item : Instr) (go : State → State) (s : State) : State :=
  match routeHook s src cls with
  | some (on, n) => noteWait src cls (wait + 3 * (holdTick on n s - s.now)) (holdItem on n item s)
  | none => go s

/-- A task that has become READY waits to enter the ranking while a hook holds its entry (R469). -/
def hookTask (t : Nat) (s : State) : State := hooked (onTask t) (.periodicRelease t) id s

def taskHeld (s : State) (t : Nat) : Bool := s.hook.held.any (fun e => decide (e.item = .periodicRelease t))

end Sys2Proof.Machine
end

