-- ==== Sys2Proof/Machine/Links.lean ====
section
/-!
DEFINITION. The sending side of the tag fabric (R22, R30, R34 to R42): the words of a frame, the output queues of the
arbitration points and which word each grants, the passing of time, and the reports that set out for the Umpire as alarm
frames (R307).
-/
namespace Sys2Proof.Machine

open Sys2Proof

/-! ## Tags (R22) -/

def tagSrc (t : Word) : Nat := bits t 31 20
def tagSeq (t : Word) : Nat := bits t 19 12
def tagCls (t : Word) : Nat := bits t 11 8
def tagSeat (t : Word) : Nat := bits t 7 6
def tagValid (t : Word) : Bool := t.getLsbD 5
def tagLast (t : Word) : Bool := t.getLsbD 4

/-- The word passes its check (R26). -/
def wordOk (w : Word × Word) : Bool := decide ((chk4 w.1 w.2).toNat = bits w.1 3 0)

/-! ## Words and frames (R22, R26, R30) -/

/-- The tag of a valid word (R22) with its CHK (R26). -/
def TWord.tag (w : TWord) : Word :=
  let t := pack [(w.src, 20, 12), (w.seq, 12, 8), (w.cls, 8, 4), (w.seat, 6, 2), (1, 5, 1), (if w.last then 1 else 0, 4, 1)]
  t ||| (chk4 t w.payload).setWidth 32

/-- The tag of a word of a source that is no lane: SEAT is 0. -/
def tagWord (src seq cls : Nat) (last : Bool) (payload : Word) : Word := TWord.tag { src, seq, cls, last, payload }

/-- A word as the receiver takes it from the link: tag and payload. -/
def TWord.onLink (w : TWord) : Word × Word := (w.tag, w.payload)

/-- The idle word (R23): tag bits [31:4] and the payload 0, with CHK over them. -/
def idleWord : Word × Word := ((chk4 0 0).setWidth 32, 0)

/-- The frame needs a CRC word (R30). -/
def needsCrc (r : Route) (cls : Nat) : Bool := r.crc || decide (cls = 2 ∨ cls = 3 ∨ cls = 6 ∨ cls = 8 ∨ cls = 9)

/-- Payloads as the words of one frame (R28): the last one carries L = 1. -/
def tagged (src seq cls seat : Nat) : List Word → List TWord
  | [] => []
  | [w] => [{ src, seq, cls, seat, last := true, payload := w }]
  | w :: ws => { src, seq, cls, seat, payload := w } :: tagged src seq cls seat ws

/-- The words of a frame with its data words; where R30 asks for it, the folded CRC-32 word ends it. -/
def frameWords (src seq cls seat : Nat) (crc : Bool) (data : List Word) : List TWord :=
  tagged src seq cls seat (if crc then data ++ [frameCrc src seq cls data] else data)

/-- The route of a source and class asks for a CRC word, or the class does (R30). -/
def crcFor (s : State) (src cls : Nat) : Bool := needsCrc ((routeFor s src cls).getD {}) cls

/-! ## Arbitration points: 0 to 31 send to the receiving port of that number (R44), 32 to 43 are the transmitters of the CM
blocks of ports 20 to 31 into the CM switch -/

/-- The die of a source (R25): 0 field die, 1 to 3 the lanes, 4 the CM die. -/
def srcDie (src : Nat) : Nat :=
  if src ≤ 2 ∨ (0x80 ≤ src ∧ src ≤ 0x9F) ∨ (0xC0 ≤ src ∧ src ≤ 0xDF) then 0
  else if 0x300 ≤ src ∧ src ≤ 0x34F then src % 16
  else 4

/-- The CM block of a source, as the number of its port less 20 (R25, R44). -/
def srcBlock (src : Nat) : Nat :=
  if 0x0A0 ≤ src ∧ src ≤ 0x0A7 then 3
  else if 0x100 ≤ src ∧ src ≤ 0x2FF then 0
  else if src = 0x401 then 7
  else if src = 0x402 then 9
  else if src = 0x403 then 10
  else if src = 0x404 then 11
  else if src = 0x405 then 1
  else if (0x408 ≤ src ∧ src ≤ 0x40B) ∨ 0x800 ≤ src then 2
  else if src = 0x410 then 6
  else if src = 0x411 ∨ (0x600 ≤ src ∧ src ≤ 0x63F) then 5
  else 4

/-- Endpoint `e` alone. -/
def epBit (e : Nat) : BitVec 16 := BitVec.ofNat 16 (1 <<< e)

/-- The endpoints of the CM die. -/
def cmEps (dest : BitVec 16) : BitVec 16 := dest &&& 0xFFF0

/-- The receiving port of lane `m` from lane `n` (R44). -/
def lanePort (m n : Nat) : Nat := 4 * m + (if n < m then n else n - 1)

/-- The output of the CM switch to an endpoint (R44). -/
def switchPort (e : Nat) : Nat := if e = 0 then 3 else if e < 4 then 4 * e + 3 else e + 16

/-- The endpoints of a mask, each as a copy of its own (R36). -/
def destList (dest : BitVec 16) : List Nat := (List.range 16).filter (fun e => dest.getLsbD e)

/-- The copies that the CM switch makes, one per destination. -/
def switchCopies (dest : BitVec 16) : List (Nat × BitVec 16) := (destList dest).map (fun e => (switchPort e, epBit e))

/-- The points at which a frame of a source enters the fabric, each with the endpoints its copy is for. -/
def firstPoints (src : Nat) (dest : BitVec 16) : List (Nat × BitVec 16) :=
  match srcDie src with
  | 0 => ((destList (dest &&& 0x000E)).map (fun e => (4 * e, epBit e))) ++
      (if cmEps dest = 0 then [] else [(16, cmEps dest)])
  | 4 => if dest = 0 then [] else [(32 + srcBlock src, dest)]
  | n => (destList (dest &&& 0x000F)).filterMap (fun e =>
        if e = 0 then some (n - 1, epBit 0) else if e = n then none else some (lanePort e n, epBit e)) ++
      (if cmEps dest = 0 then [] else [(16 + n, cmEps dest)])

def Fab.point (f : Fab) (p : Nat) : Arb := look {} f.arb p
def Fab.setPoint (f : Fab) (p : Nat) (a : Arb) : Fab := { f with arb := put {} f.arb p a }

/-- A word enters an output queue of a point. -/
def Fab.queueWord (p q : Nat) (f : Fab) (w : QWord) : Fab :=
  let a := f.point p
  f.setPoint p { a with queues := put [] a.queues q (look [] a.queues q ++ [w]) }

/-- The copies of a frame enter the queue that the route names at each point. -/
def Fab.queueFrame (r : Route) (i src since : Nat) (ws : List TWord) (f : Fab) : Fab :=
  (firstPoints src r.dest).foldl (fun f e =>
    ws.foldl (fun f w => f.queueWord e.1 (r.queue % 16) { word := w, dest := e.2, route := i, safe := r.safe, since }) f) f

/-- A frame of a source leaves for its route's endpoints. `since` is the FCLK edge from which its words may request. -/
def sendAs (src seq cls seat since : Nat) (data : List Word) (s : State) : State :=
  let ws := frameWords src seq cls seat (crcFor s src cls) data
  let f := { s.fab with sent := put [] s.fab.sent src ws }
  { s with fab := match routeIdx s src cls with
    | some i => f.queueFrame (routeAt s i) i src since ws
    | none => f }

/-- A frame of a source with its next SEQ (R34). -/
def sendFrom (src cls seat since : Nat) (words : List Word) (s : State) : State :=
  let q := look 0 s.fab.srcSeq src
  let s1 := sendAs src q cls seat since words s
  { s1 with fab := { s1.fab with srcSeq := put 0 s1.fab.srcSeq src ((q + 1) % 256) } }

/-- A frame that a source of the field die or the CM die sends now: SEAT is 0 (R22). -/
def sendFrame (src cls : Nat) (words : List Word) (s : State) : State := sendFrom src cls 0 (3 * s.now) words s

/-- SEAT of a lane's words (R22, R49): 1 Bow, 2 Stroke, 3 while it shadows or owes votes as the Spare, 0 none. -/
def seatField (s : State) (l : Lane) : Nat :=
  if s.seat.bow = some l then 1 else if s.seat.stroke = some l then 2
  else match (s.mgr l).phase with
    | .shadow => 3
    | .agreeing _ => 3
    | _ => 0

/-- A frame that a lane sends now: SEAT is the seat it holds (R22). -/
def laneFrame (l : Lane) (base cls : Nat) (words : List Word) (s : State) : State :=
  sendFrom (base + laneNo l) cls (seatField s l) (3 * s.now) words s

/-- LAST of restarted sources at every receiver, and their own SEQ (R34): LAST is 0xFF, SYNC 0, and no frame is open. -/
def Fab.lastReset (srcs : List Nat) (f : Fab) : Fab :=
  { f with rx := f.rx.filter (fun e => !srcs.contains (e.1 % 4096)), srcSeq := f.srcSeq.filter (fun e => !srcs.contains e.1) }

/-- The block that restarts sources first sends every receiver a configuration frame that sets their LAST to 0xFF (R34). Its
data words name the sources: the spec gives no layout (DESIGN CHOICE, log entry 121). -/
def resetSources (who : Nat) (srcs : List Nat) (s : State) : State :=
  let s1 := sendFrame who 6 (srcs.map (BitVec.ofNat 32)) s
  { s1 with fab := s1.fab.lastReset srcs }

/-- The identities of a lane (R25). -/
def laneSrcs (l : Lane) : List Nat := [0x300, 0x310, 0x320, 0x330, 0x340].map (· + laneNo l)

/-! ## Grants (R36 to R38, R40 to R42) -/

/-- The rank of a class (R37). -/
def classRank (cls : Nat) : Nat :=
  ([5, 6, 2, 3, 4, 7, 9, 10, 1, 8][cls]?).getD 11

/-- The lane that a point into a lane, or out of a lane to the CM die, belongs to. -/
def lanePoint (p : Nat) : Option Lane := if 4 ≤ p ∧ p < 16 then some (laneOf (p / 4)) else none
def laneToCm (p : Nat) : Option Lane := if 17 ≤ p ∧ p < 20 then some (laneOf (p - 16)) else none

/-- A word of the command window (R40): command and heartbeat words, and LAST resets of the seat manager. -/
def windowWord (w : TWord) : Bool := decide (w.cls = 2 ∨ w.cls = 3 ∨ (w.cls = 6 ∧ w.src = 1))

/-- The window from t0 + 110 µs to t0 + 124 µs at an FCLK edge (R40). -/
def inWindow (t0 k : Nat) : Bool := decide (3 * (t0 + 11000) ≤ k) && decide (k ≤ 3 * (t0 + 12400))

/-- The limits of R40 and R42 let a word go at a point. -/
def admitted (t0 k p : Nat) (f : Fab) (w : TWord) : Bool :=
  (match lanePoint p with
    | some l => !windowWord w || (inWindow t0 k && decide (triGet f.laneIn l < 16))
    | none => true) &&
  (match laneToCm p with
    | some l => decide (w.cls ≠ 4) || decide (triGet f.laneAlarms l < 48)
    | none => true)

/-- The receiver has buffer space for a word (R36): always on a safety route. Back-pressure withholds the credit in the first
of every 8 FCLK cycles (R471; which of the 8 is the model's choice, log entry 186). -/
def credited (bp : List (Nat × Nat)) (k p : Nat) (w : QWord) : Bool :=
  w.safe || (Config.credit p k && !bp.any (fun e => decide (e.1 = w.route) && decide (k % 8 < e.2)))

/-- The heads that could go at an edge but for credit, by queue. -/
def heads (t0 k p : Nat) (f : Fab) : List (Nat × QWord) :=
  (f.point p).queues.filterMap (fun e => match e.2 with
    | w :: _ => if w.since ≤ k ∧ admitted t0 k p f w.word = true then some (e.1, w) else none
    | [] => none)

/-- The requesting queues (R37). -/
def requests (bp : List (Nat × Nat)) (t0 k p : Nat) (f : Fab) : List (Nat × QWord) :=
  (heads t0 k p f).filter (fun e => credited bp k p e.2)

/-- The queue that is granted (R37, R38): the best class, and in it the first queue at or after the pointer. -/
def winner (a : Arb) (rs : List (Nat × QWord)) : Option (Nat × QWord) :=
  let best := rs.foldl (fun m e => min m (classRank e.2.word.cls)) 12
  let cs := rs.filter (fun e => decide (classRank e.2.word.cls = best))
  match cs.find? (fun e => decide (look 0 a.ptr e.2.word.cls ≤ e.1)) with
  | some e => some e
  | none => cs.head?

/-- A granted word leaves: to the receiver, or from a CM block into the switch, which copies it (R36). -/
def Fab.passOn (k p q : Nat) (w : QWord) (f : Fab) : Fab :=
  if p < 32 then f.noteWait w.safe w.word.cls w.wait
  else (switchCopies w.dest).foldl (fun f e => f.queueWord e.1 q { w with dest := e.2, since := k + 1 }) f

/-- Words that count against the limits of R40 and R42. -/
def Fab.countLimits (p : Nat) (w : TWord) (f : Fab) : Fab :=
  match lanePoint p, laneToCm p with
  | some l, _ => if windowWord w then { f with laneIn := triSet f.laneIn l (triGet f.laneIn l + 1) } else f
  | _, some l => if w.cls = 4 then { f with laneAlarms := triSet f.laneAlarms l (triGet f.laneAlarms l + 1) } else f
  | _, _ => f

/-- One more cycle of waiting for the requesting queues that were not granted. -/
def waitOn (rs : List (Nat × QWord)) (q : Nat) (qs : Tab (List QWord)) : Tab (List QWord) :=
  qs.map (fun e => if e.1 ≠ q ∧ rs.any (fun r => decide (r.1 = e.1)) = true then
    (e.1, match e.2 with | w :: ws => { w with wait := w.wait + 1 } :: ws | [] => []) else e)

/-- One point in one FCLK cycle (R37, R38): it grants one word, or sends an idle word. -/
def grantPoint (bp : List (Nat × Nat)) (t0 k : Nat) (f : Fab) (p : Nat) : Fab :=
  let a := f.point p
  let rs := requests bp t0 k p f
  let starved := if (heads t0 k p f).any (fun e => !credited bp k p e.2) then a.starved + 1 else 0
  match winner a rs with
  | none => f.setPoint p { a with link := none, starved }
  | some (q, w) =>
    let qs := waitOn rs q (put [] a.queues q (look [] a.queues q).tail)
    let f1 := f.setPoint p { queues := qs, ptr := put 0 a.ptr w.word.cls ((q + 1) % 16), link := some w.word, starved }
    (f1.countLimits p w.word).passOn k p q w

/-- One FCLK cycle at every point. -/
def fabricEdge (bp : List (Nat × Nat)) (t0 k : Nat) (f : Fab) : Fab := (f.arb.map (·.1)).foldl (grantPoint bp t0 k) f

/-- No point has a word queued or on its link. -/
def Fab.quiet (f : Fab) : Bool :=
  f.arb.all (fun e => e.2.queues.isEmpty && e.2.link.isNone && decide (e.2.starved = 0))

/-- `n` FCLK cycles from edge `k` on; quiet points stay quiet. -/
def fabricEdges (bp : List (Nat × Nat)) (t0 : Nat) : Nat → Nat → Fab → Fab
  | 0, _, f => f
  | n + 1, k, f => if f.quiet then f else fabricEdges bp t0 n (k + 1) (fabricEdge bp t0 k f)

/-- The points grant up to a tick: three FCLK cycles of 300 MHz to a tick of 10 ns. -/
def fabricTo (bp : List (Nat × Nat)) (t0 tick : Nat) (f : Fab) : Fab :=
  { fabricEdges bp t0 (3 * tick - f.fclk) f.fclk f with fclk := max f.fclk (3 * tick) }

/-- The first held copy of a point is discarded (R36). -/
def dropHeld (p : Nat) (f : Fab) : Fab :=
  let a := f.point p
  match a.queues with
  | (q, _ :: ws) :: _ => f.setPoint p { a with queues := put [] a.queues q ws, starved := 0 }
  | _ => f

/-! ## Time -/

/-- The raw tick count moves on to `tick`, never back, and never past the next cycle boundary, which
SAFETY_CYCLE_BOUNDARY alone reaches; the fabric grants meanwhile. -/
def advance (tick : Nat) (s : State) : State :=
  let n := min (max s.now tick) (s.t0 + (cycleTicks - 1))
  { s with now := n, fab := fabricTo (backPressure s) s.t0 n s.fab }

/-- One period of TCLK without a command: the raw tick count goes on, up to the boundary that SAFETY_CYCLE_BOUNDARY is. -/
def idleTick (s : State) : State := if s.sys.up then advance (s.now + 1) s else s

/-! ## Counters -/

/-- A port's counters where they count: those of the field die and the lanes stand there until a diagnostic frame carries
them to the CM die (R44). -/
def State.fcnt (s : State) (p : Nat) : PortCnt := look {} (if p < 16 then s.fab.cntNew else s.fab.cnt) p
def State.setFcnt (s : State) (p : Nat) (c : PortCnt) : State :=
  { s with fab := if p < 16 then { s.fab with cntNew := put {} s.fab.cntNew p c }
                  else { s.fab with cnt := put {} s.fab.cnt p c } }

/-- The counters of a port as the CM die shows them (R45). -/
def State.shownCnt (s : State) (p : Nat) : PortCnt := look {} s.fab.cnt p
def State.setShownCnt (s : State) (p : Nat) (c : PortCnt) : State :=
  { s with fab := { s.fab with cnt := put {} s.fab.cnt p c } }

/-- A wrapping count and its sticky bit. -/
def wrapAdd (w : Word) (n i : Nat) (ovf : BitVec 6) : Word × BitVec 6 :=
  (w + BitVec.ofNat 32 n, if 4294967296 ≤ w.toNat + n then ovf ||| BitVec.ofNat 6 (1 <<< i) else ovf)

/-- `n` more events on counter `i` of a port, in the order of R44. -/
def countPort (p i n : Nat) (s : State) : State :=
  let c := s.fcnt p
  let f (w : Word) := wrapAdd w n i c.ovf
  s.setFcnt p (match i with
    | 0 => { c with chk := (f c.chk).1, ovf := (f c.chk).2 }
    | 1 => { c with seqdrop := (f c.seqdrop).1, ovf := (f c.seqdrop).2 }
    | 2 => { c with lost := (f c.lost).1, ovf := (f c.lost).2 }
    | 3 => { c with crc := (f c.crc).1, ovf := (f c.crc).2 }
    | 4 => { c with len := (f c.len).1, ovf := (f c.len).2 }
    | _ => { c with route := (f c.route).1, ovf := (f c.route).2 })

/-! ## Reports on their way to the Umpire (R307) -/

/-- The source of the alarm frame that carries a report of a line: field die, lanes, Cox, Boathouse; other blocks of the CM
die reach their line directly. -/
def lineSrc (line : Nat) : Option Nat :=
  if line ≤ 7 ∨ (36 ≤ line ∧ line ≤ 39) then some 0x002
  else if 33 ≤ line ∧ line ≤ 35 then some (0x320 + (line - 32))
  else if line = 45 then some 0x400
  else if line = 46 then some 0x405
  else none

/-- The data words of an alarm frame: line, code, detail, resolution bit and time. The layout is the model's (DESIGN
CHOICE, log entry 115). -/
def alarmWords (r : Report) : List Word :=
  [pack [(r.line, 0, 6), (if r.res then 1 else 0, 6, 1), (r.code, 16, 16)], BitVec.ofNat 32 r.detail,
   BitVec.ofNat 32 r.time, BitVec.ofNat 32 (r.time >>> 32)]

/-- The report that an alarm frame carries. -/
def alarmReportOf (ws : List Word) : Option Report :=
  match ws with
  | [w, d, lo, hi] => some { line := bits w 5 0, code := bits w 31 16, detail := d.toNat, res := w.getLsbD 6,
                             time := lo.toNat + hi.toNat <<< 32 }
  | _ => none

/-- A report waits for the Umpire's next clock edge. -/
def atUmpire (r : Report) (s : State) : State := { s with ump := { s.ump with reports := s.ump.reports ++ [r] } }

/-- The port by which a frame of a source reaches an endpoint (R44). -/
def arrivalPort (ep src : Nat) : Nat :=
  match ep, srcDie src with
  | 0, 4 => 3
  | 0, n => n - 1
  | m, 0 => if m < 4 then 4 * m else 16 + m
  | m, 4 => switchPort m
  | m, n => if m < 4 then lanePort m n else 16 + m

/-- A frame of a source that a command of its own brings to an endpoint has been accepted there: LAST follows it, and the
frames between count as lost (R32, R33). -/
def heardFrom (ep src seq : Nat) (s : State) : State :=
  let x := look {} s.fab.rx (ep * 4096 + src)
  let s1 := { s with fab := { s.fab with rx := put {} s.fab.rx (ep * 4096 + src) { x with last := seq, sync := true } } }
  countPort (arrivalPort ep src) 2 ((seq + 255 - x.last) % 256) s1

/-- The last frame that a source of the module has sent is accepted at an endpoint. -/
def frameHeard (ep src : Nat) (s : State) : State := heardFrom ep src ((look 0 s.fab.srcSeq src + 255) % 256) s

/-- A class 0x4 alarm frame reaches the management core: an event of its source (R407). The code of an alarm of the module is
in its first word; an alarm of a task has code 0 (DESIGN CHOICE, log entry 115). -/
def alarmEvent (src : Nat) (data : List Word) (time : Nat) (s : State) : State :=
  pushEvent src 4 (if 0x100 ≤ src ∧ src ≤ 0x2FF then 0 else bits (data.headD 0) 31 16) data time s

/-- The route of an alarm frame names the management core as well as the Umpire. -/
def alarmToCore (s : State) (src : Nat) : Bool := ((routeFor s src 4).getD {}).dest.getLsbD 8

/-- A report sets out in an alarm frame of a source (R307): the frame meets its route's hook (R469), or reaches the Umpire, and
the management core where its route names it. Without a source the block's line carries it. -/
def emitFrom (from' : Option Nat) (r : Report) (s : State) : State :=
  match from' with
  | none => atUmpire r s
  | some src =>
    let q := look 0 s.fab.srcSeq src
    let s1 := sendFrame src 4 (alarmWords r) s
    match routeHook s1 src 4 with
    | some (on, n) =>
      let ws := (look [] s1.fab.sent src).map TWord.onLink
      holdCopies on n (.fabricFrameReceive 29 ws 0) (if alarmToCore s src then [.fabricFrameReceive 24 ws 0] else []) s1
    | none =>
      let s2 := atUmpire r (heardFrom 13 src q s1)
      if alarmToCore s src then alarmEvent src (alarmWords r) r.time (heardFrom 8 src q s2) else s2

def emit (r : Report) (s : State) : State := emitFrom (lineSrc r.line) r s

/-- An error or event sets out for the Umpire on its line (R307). -/
def report (line code detail : Nat) (s : State) : State := emit { line, code, detail, time := s.timeNow } s

/-- A report of a lane, stamped with the boundary that began the cycle (R310). -/
def laneReport (l : Lane) (code detail : Nat) (s : State) : State :=
  emit { line := 32 + laneNo l, code, detail, time := timeAt s.time s.t0 } s

/-- A lane's report on the line of the telegrams (R402). -/
def laneTelReport (l : Lane) (code : Nat) (s : State) : State :=
  emitFrom (some (0x320 + laneNo l)) { line := 52, code, time := timeAt s.time s.t0 } s

end Sys2Proof.Machine
end

