-- ==== Sys2Proof/Machine/Sha.lean ====
section
/-!
DEFINITION. SHA-256 and HMAC-SHA-256, which the security block computes for images, logins and tokens (R345, R369, R370,
R373). The manual names the two functions; their arithmetic is that of FIPS 180-4 and FIPS 198-1 (PRESUMED, log entry 187).
-/
namespace Sys2Proof.Machine

open Sys2Proof

/-- A number of 32-bit digits as its words, the highest first. -/
def digits (n x : Nat) : List Word := (List.range n).map (fun i => BitVec.ofNat 32 (x >>> (32 * (n - 1 - i))))

/-- The hash of the empty prefix: the fraction bits of the square roots of the first eight primes. -/
def hashStart : List Word := digits 8 0x6a09e667bb67ae853c6ef372a54ff53a510e527f9b05688c1f83d9ab5be0cd19

/-- The additive constant of each round: the fraction bits of the cube roots of the first 64 primes, eight to a number. -/
def roundConstants : List Word :=
  ([0x428a2f9871374491b5c0fbcfe9b5dba53956c25b59f111f1923f82a4ab1c5ed5,
    0xd807aa9812835b01243185be550c7dc372be5d7480deb1fe9bdc06a7c19bf174,
    0xe49b69c1efbe47860fc19dc6240ca1cc2de92c6f4a7484aa5cb0a9dc76f988da,
    0x983e5152a831c66db00327c8bf597fc7c6e00bf3d5a7914706ca635114292967,
    0x27b70a852e1b21384d2c6dfc53380d13650a7354766a0abb81c2c92e92722c85,
    0xa2bfe8a1a81a664bc24b8b70c76c51a3d192e819d6990624f40e3585106aa070,
    0x19a4c1161e376c082748774c34b0bcb5391c0cb34ed8aa4a5b9cca4f682e6ff3,
    0x748f82ee78a5636f84c878148cc7020890befffaa4506cebbef9a3f7c67178f2] : List Nat).flatMap (digits 8)

/-- The word turned right by each of the counts, added without carry. -/
def spins (x : Word) (ns : List Nat) : Word := ns.foldl (fun y n => y ^^^ x.rotateRight n) 0

/-- The words of a block followed by those that the block generates, 64 in all. -/
def stretched (block : List Word) : List Word :=
  (List.range 48).foldl (fun w t =>
    let near := w.getD (t + 14) 0
    let far := w.getD (t + 1) 0
    w ++ [w.getD t 0 + w.getD (t + 9) 0 + (spins far [7, 18] ^^^ (far >>> 3)) + (spins near [17, 19] ^^^ (near >>> 10))]) block

/-- One round: every word moves down one place, the fifth takes up the mix of the last four, the first that and the mix of
the first three. `k` is the round's constant and its word. -/
def hashRound (v : List Word) (k : Word) : List Word :=
  let x i := v.getD i 0
  let low := x 7 + spins (x 4) [6, 11, 25] + (((x 5 ^^^ x 6) &&& x 4) ^^^ x 6) + k
  let high := spins (x 0) [2, 13, 22] + ((x 0 &&& x 1) ||| ((x 0 ||| x 1) &&& x 2))
  [low + high] ++ v.take 3 ++ [x 3 + low] ++ (v.drop 4).take 3

/-- A block of sixteen words goes into the hash. -/
def hashBlock (v block : List Word) : List Word :=
  List.zipWith (· + ·) v ((List.zipWith (· + ·) roundConstants (stretched block)).foldl hashRound v)

/-- The message, a one bit, zeros up to the end of a block less eight bytes, and the number of its bits. -/
def hashInput (m : List Byte) : List Byte :=
  m ++ 0x80 :: List.replicate (63 - (m.length + 8) % 64) 0 ++ (leBytes (8 * m.length) 8).reverse

/-- The `i`-th word of a byte string, most significant byte first. -/
def beWord (m : List Byte) (i : Nat) : Word := ((m.drop (4 * i)).take 4).foldl (fun w b => w <<< 8 ||| b.setWidth 32) 0

/-- SHA-256 of a byte string. -/
def sha256 (m : List Byte) : List Byte :=
  let p := hashInput m
  let v := (List.range (p.length / 64)).foldl
    (fun v b => hashBlock v ((List.range 16).map (fun i => beWord (p.drop (64 * b)) i))) hashStart
  (List.range 8).flatMap (fun i => beBytes (v.getD i 0))

/-- HMAC-SHA-256 with a key of at most 64 bytes. -/
def hmac (key m : List Byte) : List Byte :=
  let masked (mask : Byte) := (List.range 64).map (fun i => key.getD i 0 ^^^ mask)
  sha256 (masked 0x5C ++ sha256 (masked 0x36 ++ m))

end Sys2Proof.Machine
end

