-- ==== Sys2Proof/Machine/Blocks.lean ====
section
/-!
DEFINITION. The function-block library (R79 to R97, R128 to R137, R277 to R288): for each block its start state, its
evaluation in one cycle from its inputs and state, and its outputs.
-/
namespace Sys2Proof.Machine

open Sys2Proof

/-! ## Faults a block holds (R84) -/

def holds (code : Nat) (h : List Held) : Bool := h.any (fun x => x.code == code)

/-- A fault whose condition arises is entered in that cycle, unless it is held. -/
def raise (cond : Bool) (code cycle : Nat) (h : List Held) : List Held :=
  if cond && !holds code h then h ++ [⟨code, cycle⟩] else h

/-- A fault whose leaving condition is met is left; the condition counts from the cycle after its entry. -/
def leave (cond : Bool) (code cycle : Nat) (h : List Held) : List Held :=
  if cond then h.filter (fun x => !(x.code == code && decide (x.since < cycle))) else h

/-- The faults entered in this cycle: those to report, each entry once, also where two pairs of a block enter the same
fault in one cycle (R84). -/
def entered (old new : List Held) : List Nat := (old.foldl List.erase new).map Held.code

/-- Tolerance of R82: the event has not happened by the cycle with elapsed count `n` + 1. -/
def tooLate (since : Option Nat) (n cycle : Nat) : Bool :=
  match since with
  | none => false
  | some c0 => decide (n + 1 ≤ cycle - c0)

/-- An elapsed count that has reached `n` (R81). -/
def reached (since : Option Nat) (n cycle : Nat) : Bool :=
  match since with
  | none => false
  | some c0 => decide (n ≤ cycle - c0)

/-! ## Pairs (R87, R88) -/

/-- One cycle of a channel pair: a discrepancy fault is left when both channels are off; a measurement ends by
acceptance, by DISC_TIMEOUT or by DISC_PARTIAL. Where the first channel returns in the very cycle in which the other
channel follows, the block enters DISC_PARTIAL (DESIGN CHOICE, log entry 130: R88 does not say which comes first). -/
def evalPair (cycle nd : Nat) (a b : Bool) (p : PairSt) : PairSt :=
  let held := if !a && !b then p.held.filter (fun x => !decide (x.since < cycle)) else p.held
  if !held.isEmpty || !p.held.isEmpty then { agreed := false, meas := none, held := held }
  else match p.meas with
    | none => if a = b then { p with agreed := a } else { p with meas := some (cycle, a != p.agreed) }
    | some (c0, firstA) =>
      if nd + 1 ≤ cycle - c0 then { agreed := false, meas := none, held := [⟨codeDiscTimeout, cycle⟩] }
      else if (if firstA then a else b) = p.agreed then
        { agreed := false, meas := none, held := [⟨codeDiscPartial, cycle⟩] }
      else if a = b then { p with agreed := a, meas := none }
      else p

/-- The pair is accepted on: both channels on, agreed on, no discrepancy fault (R87). -/
def pairOn (p : PairSt) (a b : Bool) : Bool := p.agreed && a && b && p.held.isEmpty

/-- DISC_TIMEOUT of a pair whose measurement has run past its limit (R88). -/
def pairTimeout (cycle nd : Nat) (p : PairSt) : Option PairSt :=
  if tooLate (p.meas.map Prod.fst) nd cycle && p.held.isEmpty then
    some { agreed := false, meas := none, held := [⟨codeDiscTimeout, cycle⟩] }
  else none

/-! ## Light curtain (R90 to R93) -/

/-- A sensor's activation: the cycle it became active. -/
def act (cycle : Nat) (on : Bool) (s : Option Nat) : Option Nat :=
  if on then some (s.getD cycle) else none

/-- Both sensors of a pair are active, the later since this cycle. -/
def bothNow (cycle : Nat) (s1 s2 : Option Nat) : Bool :=
  match s1, s2 with
  | some a, some b => decide (max a b = cycle)
  | _, _ => false

/-- The muting start of a parallel pair: the second within N_sync of the first (R91). -/
def syncP (n : Nat) (s1 s2 : Option Nat) : Bool :=
  match s1, s2 with
  | some a, some b => decide (a - b ≤ n) && decide (b - a ≤ n)
  | _, _ => false

/-- The muting start of a sequential pair: the second at elapsed count 1 to N_sync after the first (R91). -/
def syncS (n : Nat) (s1 s2 : Option Nat) : Bool :=
  match s1, s2 with
  | some a, some b => decide (a < b) && decide (b - a ≤ n)
  | _, _ => false

/-- What the sensors ask in this cycle: a start, or MUTE_SEQ (R91). -/
def muteAsk (cfg : LcurtCfg) (cycle : Nat) (x : LcurtSt) : Bool × Bool :=
  let now12 := bothNow cycle x.act1 x.act2
  let now43 := bothNow cycle x.act4 x.act3
  match cfg.mode with
  | .none => (false, false)
  | .p2 | .p4 => (now12 && syncP cfg.nSync x.act1 x.act2, now12 && !syncP cfg.nSync x.act1 x.act2)
  | .s2 => (now12 && syncS cfg.nSync x.act1 x.act2, now12 && !syncS cfg.nSync x.act1 x.act2)
  | .s4 =>
    let st := now12 && syncS cfg.nSync x.act1 x.act2 || cfg.bidir && now43 && syncS cfg.nSync x.act4 x.act3
    (st, !st && (now12 || now43))

/-- The hold condition of muting (R91). -/
def muteHold (cfg : LcurtCfg) (m1 m2 m3 m4 : Bool) : Bool :=
  match cfg.mode with
  | .none => false
  | .p2 | .s2 => m1 && m2
  | .p4 => (m1 && m2) || (m3 && m4)
  | .s4 => (m1 && m2) || (m2 && m3) || (m3 && m4)

/-- The lamp readback and R92: dark past N_lamp since muting started, or a second dark cycle after the lamp has once shown
current in this muting (DESIGN CHOICE, log entry 132: before that, N_lamp is the limit). -/
def lampFails (cfg : LcurtCfg) (cycle c0 : Nat) (lrb : Bool) (x : LcurtSt) : Bool :=
  (!x.lampSeen && decide (cfg.nLamp + 1 ≤ cycle - c0)) || (x.lampSeen && !lrb && decide (1 ≤ x.lampDark))

/-- A light curtain in one cycle (R90 to R93). MUTE_LAMP is left where the readback shows current in the cycle of the
sensors' start condition, and that muting starts in this cycle (DESIGN CHOICE, log entry 131: R97 leaves the fault at the
next muting start, which R91 forbids while the fault is held). -/
def evalLcurt (c : Ctx) (cfg : LcurtCfg) (x : LcurtSt) : LcurtSt × List Val :=
  let (a, b) := pairChans c cfg.ossd
  let pair := evalPair c.cycle cfg.ossd.nd a b x.pair
  let on := pairOn pair a b
  let m1 := rb c cfg.ms1; let m2 := rb c cfg.ms2; let m3 := rb c cfg.ms3; let m4 := rb c cfg.ms4
  let x1 := { x with pair := pair, act1 := act c.cycle m1 x.act1, act2 := act c.cycle m2 x.act2,
                     act3 := act c.cycle m3 x.act3, act4 := act c.cycle m4 x.act4 }
  let quiet := !m1 && !m2 && !m3 && !m4
  let lrb := rb c cfg.lrb
  let (ask, seq) := muteAsk cfg c.cycle x1
  let h0 := leave quiet codeMuteSeq c.cycle (leave quiet codeMuteTimeout c.cycle x.held)
  let h0 := leave (ask && lrb) codeMuteLamp c.cycle h0
  match x.muting with
  | none =>
    let h1 := raise seq codeMuteSeq c.cycle h0
    let start := ask && on && h1.isEmpty && pair.held.isEmpty
    let x2 := { x1 with held := h1, muting := if start then some c.cycle else none, lampSeen := false, lampDark := 0 }
    (x2, [.bool (pair.held.isEmpty && (on || start)), .bool (pair.held.isEmpty && start)])
  | some c0 =>
    let seen := x.lampSeen || lrb
    let dark := if lrb then 0 else if x.lampSeen then x.lampDark + 1 else 0
    let lampBad := lampFails cfg c.cycle c0 lrb x
    let timeUp := decide (cfg.nMute ≤ c.cycle - c0)
    let h1 := raise timeUp codeMuteTimeout c.cycle (raise lampBad codeMuteLamp c.cycle h0)
    let go := muteHold cfg m1 m2 m3 m4 && !lampBad && !timeUp && pair.held.isEmpty
    let x2 := { x1 with held := h1, muting := if go then some c0 else none, lampSeen := seen, lampDark := dark }
    (x2, [.bool (pair.held.isEmpty && (on || go)), .bool go])

/-! ## Guard (R94, R95) -/

def evalGuard (c : Ctx) (cfg : GuardCfg) (x : GuardSt) : GuardSt × List Val :=
  let (da, db) := pairChans c cfg.door
  let (la, lb) := pairChans c cfg.lockPair
  let door := evalPair c.cycle cfg.door.nd da db x.door
  let hasLock := decide (cfg.lock ≠ .none)
  let lockP := if hasLock then evalPair c.cycle cfg.lockPair.nd la lb x.lockPair else x.lockPair
  let doorOn := pairOn door da db
  let lockOn := hasLock && pairOn lockP la lb
  let release := rb c cfg.unlockReq && rb c cfg.unlockPermit
  let locked := if release then false else if !rb c cfg.unlockReq && doorOn then true else x.locked
  let changed := locked && !x.locked
  let since := if !locked || !hasLock then none else if changed then some c.cycle else x.cmdSince
  let rst := rb c cfg.rst
  let h0 := leave (lockOn && rst) codeLockFb c.cycle x.held
  let h0 := leave (doorOn && lockOn && rst) codeGuardTamper c.cycle h0
  let late := tooLate since cfg.nLock c.cycle
  let lostLock := x.confirmed && locked && (!la || !lb)
  let h1 := raise (hasLock && (late || lostLock)) codeLockFb c.cycle h0
  let h2 := raise (lockOn && (!da || !db)) codeGuardTamper c.cycle h1
  let x2 : GuardSt :=
    { door := door, lockPair := lockP, locked := locked,
      cmdSince := if lockOn || late then none else since,
      confirmed := locked && !lostLock && (lockOn || (x.confirmed && !changed)), held := h2 }
  let ok := h2.isEmpty && door.held.isEmpty && lockP.held.isEmpty
  let cmd := match cfg.lock with
    | .none => false
    | .ptl => locked
    | .ptr => !locked
  (x2, [.bool (ok && doorOn && (!hasLock || lockOn)), .bool (ok && lockOn), .bool cmd])

/-! ## Two-hand control and enabling switch (R96) -/

def evalThc (c : Ctx) (b1 b2 : PairCfg) (x : ThcSt) : ThcSt × List Val :=
  let (a1, n1) := pairChans c b1
  let (a2, n2) := pairChans c b2
  let p1 := evalPair c.cycle b1.nd a1 n1 x.p1
  let p2 := evalPair c.cycle b2.nd a2 n2 x.p2
  let on1 := act c.cycle (pairOn p1 a1 n1) x.on1
  let on2 := act c.cycle (pairOn p2 a2 n2) x.on2
  let ok := p1.held.isEmpty && p2.held.isEmpty
  let released := !a1 && !n1 && !a2 && !n2
  let inTime := syncP 4000 on1 on2
  let both := on1.isSome && on2.isSome
  let q := ok && both && (x.q || (x.armed && inTime))
  let armed := if released then true else if both then false else x.armed
  ({ p1 := p1, p2 := p2, on1 := on1, on2 := on2, armed := armed, q := q }, [.bool q])

def evalEnable (c : Ctx) (p : PairCfg) (p3 : Src) (x : EnableSt) : EnableSt × List Val :=
  let (a, b) := pairChans c p
  let pair := evalPair c.cycle p.nd a b x.pair
  let three := rb c p3
  let pos1 := !a && !b && !three
  let h0 := leave pos1 codeEnableP3 c.cycle x.held
  let h1 := raise (three && a && b) codeEnableP3 c.cycle h0
  let need := if three then true else if pos1 then false else x.needPos1
  let q := pairOn pair a b && !three && !need && h1.isEmpty
  ({ pair := pair, needPos1 := need, held := h1 }, [.bool q])

/-! ## Speed and EDM (R96) -/

/-- The speed estimate of a channel in 0.1 rpm, rounded up (R96). -/
def speedOf (ppr : Nat) (f : TachFrame) : Nat :=
  if f.w0.getLsbD 0 then
    let x := if f.since.toNat ≤ f.period.toNat then f.period.toNat else f.since.toNat
    let d := ppr * x
    (60000000000 + d - 1) / d
  else 0

/-- The speed of a channel, none where no frame of it was accepted (R96). -/
def speedIn (c : Ctx) (t ppr : Nat) : Option Nat :=
  if c.tachLost.contains t then none
  else (c.im.tach.find? (fun e => e.1 == t)).map (fun e => speedOf ppr e.2)

/-- Both channels are present in this cycle, and at or below S_SS (R96). -/
def bothSlow (c : Ctx) (cfg : SpeedCfg) : Bool :=
  match speedIn c cfg.tachA cfg.pprA, speedIn c cfg.tachB cfg.pprB with
  | some p, some q => decide (p ≤ cfg.sSS) && decide (q ≤ cfg.sSS)
  | _, _ => false

def evalSpeed (c : Ctx) (cfg : SpeedCfg) (x : SpeedSt) : SpeedSt × List Val :=
  let sa := speedIn c cfg.tachA cfg.pprA
  let sb := speedIn c cfg.tachB cfg.pprB
  let missA := if sa.isSome then 0 else x.missA + 1
  let missB := if sb.isSome then 0 else x.missB + 1
  let both : Option (Nat × Nat) := match sa, sb with
    | some p, some q => some (p, q)
    | _, _ => none
  let top := both.map (fun e => max e.1 e.2)
  let inTol := match both with
    | none => false
    | some (p, q) =>
      decide ((p - q + (q - p)) * 100 ≤ max (cfg.dAbs * 100) (cfg.dRel * max p q))
  let xs := match both with
    | none => x.xSince
    | some _ => if inTol then none else some (x.xSince.getD c.cycle)
  let xLate := tooLate x.xSince cfg.nx c.cycle
  let presentRun := if both.isSome then x.presentRun + 1 else 0
  let tolRun := if inTol then x.tolRun + 1 else 0
  let rst := rb c cfg.rst
  let h0 := leave (decide (cfg.nx ≤ presentRun) && rst) codeTachMissing c.cycle x.held
  let h0 := leave (decide (cfg.nx ≤ tolRun) && rst) codeSpeedDisc c.cycle h0
  let h1 := raise (decide (8 ≤ missA) || decide (8 ≤ missB)) codeTachMissing c.cycle h0
  let h2 := raise xLate codeSpeedDisc c.cycle h1
  let ss := if bothSlow c cfg then some (x.ssSince.getD c.cycle) else none
  let ok := match top with
    | none => false
    | some v => if x.fallen then decide (v + cfg.hys ≤ cfg.limit) else decide (v ≤ cfg.limit)
  let free := h2.isEmpty
  let x2 : SpeedSt :=
    { fallen := !(ok && free), ssSince := ss, missA := missA, missB := missB,
      xSince := if xLate then none else xs, presentRun := presentRun, tolRun := tolRun, speed := top, held := h2 }
  (x2, [.bool (free && ok), .bool (free && reached ss cfg.nSS c.cycle),
        .num (if free then top.map (BitVec.ofNat 32) else none)])

def evalEdm (c : Ctx) (cfg : EdmCfg) (x : EdmSt) : EdmSt × List Val :=
  let cmd := look false c.outCmd cfg.outBlk
  let prev := if c.first then false else x.prev
  let fb := rb c cfg.fb
  let rise := cmd && !prev
  let fall := !cmd && prev
  let met := fb != cmd
  let late := tooLate x.window (if prev then cfg.nOn else cfg.nOff) c.cycle
  let win := if rise then (if fb then some c.cycle else none)
             else if fall then (if met then none else some c.cycle)
             else if met || late then none else x.window
  let bad := (rise && !fb) || late || (x.window.isNone && !rise && !fall && !met)
  let h0 := leave (!cmd && fb && rb c cfg.rst) codeEdmFail c.cycle x.held
  let h1 := raise bad codeEdmFail c.cycle h0
  ({ prev := cmd, window := win, held := h1 }, [.bool h1.isEmpty])

/-! ## Output driver (R97) -/

/-- An output of the block carries a diagnosis of this code in the image. -/
def targetDiag (c : Ctx) (code : Nat) : OutTarget → Bool
  | .so k => look 0 c.im.soCode k == code
  | .cio _ => false

def evalOut (c : Ctx) (cfg : OutCfg) (x : OutSt) : OutSt × List Val :=
  let short := cfg.targets.any (targetDiag c codeOutShort)
  let cross := cfg.targets.any (targetDiag c codeOutCross)
  let rst := rb c cfg.rst
  let h0 := leave (!short && rst) codeOutShort c.cycle x.held
  let h0 := leave (!cross && rst) codeOutCross c.cycle h0
  let h1 := raise cross codeOutCross c.cycle (raise short codeOutShort c.cycle h0)
  let edm := match cfg.edm with
    | none => true
    | some e => rb c (.out e 0)
  let cmd := rb c cfg.en && h1.isEmpty && edm
  ({ cmd := cmd, held := h1 }, [.bool cmd])

/-! ## Reset (R128 to R137); also the lock-out release qualifier (R142) -/

/-- The press has gone on for 80,001 cycles (R133, R82). -/
def pressLate (cycle : Nat) (x : ResetSt) : Bool :=
  match x.press with
  | some (p, _) => decide (80001 ≤ cycle - p)
  | none => false

/-- One cycle of the reset terminal and its acceptance: `rin` its decoded state, `blind` a cycle that is not-on
only through a diagnosis or a sag (R129 to R134). A release in the cycle with elapsed count 80,001 comes too late (R82,
R138). Answers the new state and whether a press was accepted. -/
def evalPress (mode : ResetMode) (cycle : Nat) (rin blind : Bool) (x : ResetSt) : ResetSt × Bool :=
  let isOpen := !rin && !blind
  let stuckOld := x.stuck.isSome && !(isOpen && decide (x.stuck.getD 0 < cycle))
  let stuckNew := x.stuck.isNone && pressLate cycle x
  let since := if stuckOld || stuckNew || !isOpen then none
               else if x.stuck.isSome then some cycle else some (x.openSince.getD cycle)
  let hist := reached since 400 cycle
  let isPress := rin && x.press.isNone
  let press := if rin then some (x.press.getD (cycle, x.hist && !stuckOld)) else none
  let stuck := if stuckOld then x.stuck else if stuckNew then some cycle else none
  let accNative := match x.press with
    | some (p, true) => isOpen && decide (800 ≤ cycle - p) && decide (cycle - p ≤ 24000)
    | _ => false
  let accPrd7 := isPress && (match press with | some (_, v) => v | none => false)
  let acc := (match mode with | .native => accNative | .prd7 => accPrd7) && stuck.isNone && !stuckOld
  ({ x with openSince := since, hist := hist && rin == false, press := press, stuck := stuck }, acc)

/-- The reset terminal is decoded not-on only through a diagnosis or a sag (R129). -/
def rinBlind (c : Ctx) (cfg : ResetCfg) : Bool := c.im.sagIn || siDiagnosed c.img c.im c.sched cfg.rin

/-- The reset terminal is seen open (R133). -/
def rinOpen (c : Ctx) (cfg : ResetCfg) : Bool := !rb c (.si cfg.rin) && !rinBlind c cfg

def evalReset (c : Ctx) (cfg : ResetCfg) (x : ResetSt) : ResetSt × List Val :=
  let rin := rb c (.si cfg.rin)
  let blind := rinBlind c cfg
  let (x1, acc) := evalPress cfg.mode c.cycle rin blind x
  let permit := rb c cfg.permit
  let q := permit && (x.q || acc)
  let lamp := permit && !q && x1.stuck.isNone
  let judged := lamp && decide (2 ≤ x.lampRun) && cfg.lampMon
  let lrb := rb c cfg.lrb
  let dark := if judged then (if lrb then 0 else x.lampDark + 1) else x.lampDark
  let clear := lamp && lrb && decide (x.lampFault.getD c.cycle < c.cycle)
  let fault := if clear then none else if decide (2 ≤ dark) then some (x.lampFault.getD c.cycle) else x.lampFault
  ({ x1 with permit := permit, q := q, ack := acc, lampRun := if lamp then x.lampRun + 1 else 0,
             lampDark := if fault.isSome then 0 else dark, lampFault := fault },
   [.bool q, .bool acc, .bool lamp])

/-! ## Vibration guard (R280 to R286) -/

/-- The flags of a sample word (R187). -/
def wOvr (w : Word) : Bool := w.getLsbD 30
def wOpenShort (w : Word) : Bool := w.getLsbD 29 || w.getLsbD 28
def wNotReady (w : Word) : Bool := w.getLsbD 27 || w.getLsbD 26 || w.getLsbD 25
def wCal (w : Word) : Bool := w.getLsbD 26

/-- One cycle's decimated sample of a guard channel joins the open segment (R280, R282). -/
def vibSample (sens : Nat) (band2 : Bool) (sample : Option Word) (gap : Bool) (v : VibChan) : VibChan :=
  match sample with
  | none => { v with gap := v.gap || gap, noFrame := v.noFrame + 1,
                     calRun := if v.calRun = 0 then 0 else v.calRun + 1 }
  | some w =>
    let (f, sq) := Config.vibFilter sens band2 v.filter w
    { v with filter := f, sum := v.sum + sq, count := v.count + 1, flags := v.flags ||| (w ^^^ 0x80000000#32),
             gap := v.gap || gap, noFrame := 0, calRun := if wCal w then v.calRun + 1 else 0 }

/-- The class of the segment that ends (R282). -/
def segClass (nSeg : Nat) (v : VibChan) : SegClass :=
  if wOpenShort v.flags then SegClass.invalid
  else if wNotReady v.flags then .notReady
  else if v.flags.getLsbD 31 || v.gap || decide (v.count < nSeg * 37890625 / 100000000) then .invalid
  else if wOvr v.flags then .ovr
  else .valid

/-- The sum of the last 8 segment values. -/
def segSum (v : VibChan) : Nat := (v.segs.map Prod.fst).foldl (· + ·) 0

/-- The window mean square exceeds LIMIT² (1/16,384 of it per unit). -/
def vibOver (v : VibChan) : Bool := decide (8 * 16384 < segSum v)

/-- The window velocity is at or below LIMIT × (1 − HYS). -/
def vibBack (hys : Nat) (v : VibChan) : Bool :=
  decide (segSum v * 10000 ≤ 8 * 16384 * (100 - hys) * (100 - hys))

/-- The window velocity in 0.01 mm/s (R280), its last unit as the spec leaves it. -/
def vibVel (limit : Nat) (v : VibChan) : Nat :=
  Nat.sqrt (segSum v * limit * limit / (8 * 16384)) + (if Config.vibRound (segSum v) then 1 else 0)

/-- A segment ends: its value and class join the window. -/
def vibEnd (limit nSeg : Nat) (v : VibChan) : VibChan :=
  let cls := segClass nSeg v
  let val := min 65536 (Config.vibMean limit v.sum v.count)
  let segs := ((val, cls) :: v.segs).take 8
  let v1 := { v with segs := segs, sum := 0, count := 0, flags := 0, gap := false,
                     validRun := if cls == SegClass.valid then v.validRun + 1 else 0,
                     fill := if cls == SegClass.valid then v.fill + 1 else 0 }
  let full := decide (segs.length = 8) && segs.all (fun e => e.2 == SegClass.valid || e.2 == SegClass.ovr)
  { v1 with vel := if full then some (vibVel limit v1) else none }

def winHas (cls : SegClass) (v : VibChan) : Bool := v.segs.any (fun e => e.2 == cls)

/-- Where a fault of the guard is raised, its VALID segments count anew (R285, R291). -/
def vibRefill (fault : Bool) (v : VibChan) : VibChan := if fault then { v with fill := 0 } else v

/-- The end of a segment of both channels: trip, return, cross-check (R283, R284). Answers the state and
whether VIB_TRIP is reported. -/
def vibSegmentEnd (cfg : VibCfg) (cycle : Nat) (rst : Bool) (x : VibSt) : VibSt × Bool :=
  let nSeg := cfg.nWin / 8
  let a := vibEnd cfg.limit nSeg x.a
  let b := vibEnd cfg.limit nSeg x.b
  let inval := (a.segs.head?.map Prod.snd == some SegClass.invalid) || (b.segs.head?.map Prod.snd == some SegClass.invalid)
  let ready := decide (8 ≤ a.validRun) && decide (8 ≤ b.validRun)
  let exceeds := ((vibOver a && a.vel.isSome) || (vibOver b && b.vel.isSome))
  let trip := exceeds || winHas .ovr a || winHas .ovr b
  let drop := trip || winHas .notReady a || winHas .notReady b
  let va := a.vel.getD 0
  let vb := b.vel.getD 0
  let inTol := decide ((va - vb + (vb - va)) * 100 ≤ max (cfg.dAbs * 100) (cfg.dRel * max va vb))
  let xs := if ready then (if inTol then none else some (x.xSince.getD cycle)) else x.xSince
  let tolRun := if ready then (if inTol then x.tolRun + 1 else 0) else x.tolRun
  let late := tooLate x.xSince cfg.nx cycle
  let h0 := leave (decide (8 ≤ a.fill) && decide (8 ≤ b.fill) && rst) codeVibSensor cycle x.held
  let h0 := leave (decide (8 ≤ tolRun) && rst) codeVibDisc cycle h0
  let h1 := raise late codeVibDisc cycle (raise inval codeVibSensor cycle h0)
  let q := if drop || !h1.isEmpty || !ready then false else x.q || (vibBack cfg.hys a && vibBack cfg.hys b)
  ({ x with a := vibRefill (late || inval) a, b := vibRefill (late || inval) b, q := q, trip := if q then false else x.trip || trip,
            xSince := if late then none else xs, tolRun := if late then 0 else tolRun, held := h1 },
   x.q && trip)

/-- The faults of a cycle that need no segment end (R285). -/
def vibCycleFault (wa wb : Option Word) (lostA lostB : Bool) (x : VibSt) : Bool :=
  let flag (w : Option Word) : Bool := match w with | some v => wOpenShort v | none => false
  flag wa || flag wb || lostA || lostB ||
  decide (800 < x.a.calRun) || decide (800 < x.b.calRun) || decide (4 ≤ x.a.noFrame) || decide (4 ≤ x.b.noFrame)

/-- One cycle of a guard; `pos` is the cycle's place in its segment. Answers the state and whether VIB_TRIP is
reported. -/
def vibCycle (cfg : VibCfg) (cycle pos : Nat) (rst : Bool) (wa wb : Option Word) (lostA lostB : Bool) (x : VibSt) :
    VibSt × Bool :=
  let nSeg := cfg.nWin / 8
  let a := vibSample cfg.sensA cfg.band2 wa lostA x.a
  let b := vibSample cfg.sensB cfg.band2 wb lostB x.b
  let x1 := { x with a := a, b := b, pos := pos % nSeg, done := some cycle }
  let bad := vibCycleFault wa wb lostA lostB x1
  let late := tooLate x1.xSince cfg.nx cycle && decide (pos % nSeg + 1 ≠ nSeg)
  let h1 := raise late codeVibDisc cycle (raise bad codeVibSensor cycle x.held)
  let x2 := { x1 with a := vibRefill (bad || late) a, b := vibRefill (bad || late) b,
                      held := h1, q := x1.q && h1.isEmpty, xSince := if late then none else x1.xSince,
                      tolRun := if late then 0 else x1.tolRun }
  if pos % nSeg + 1 = nSeg then
    let (x3, trip) := vibSegmentEnd cfg cycle rst x2
    (x3, trip)
  else
    let h2 := leave (decide (8 ≤ x2.a.fill) && decide (8 ≤ x2.b.fill) && rst) codeVibSensor cycle h1
    let h2 := leave (decide (8 ≤ x2.tolRun) && rst) codeVibDisc cycle h2
    ({ x2 with held := h2 }, false)

def decSample (c : Ctx) (ch : Nat) : Option Word :=
  if c.decimLost.contains ch then none else (c.im.dec.find? (fun e => e.1 == ch)).map Prod.snd

def vibOuts (x : VibSt) : List Val :=
  let free := x.held.isEmpty
  let v (ch : VibChan) : Val := .num (if free then ch.vel.map (BitVec.ofNat 32) else none)
  [.bool (x.q && free), v x.a, v x.b]

def evalVib (c : Ctx) (cfg : VibCfg) (x : VibSt) : VibSt × List Val × Bool :=
  if x.done = some c.cycle then (x, vibOuts x, false)
  else
    let (x1, trip) := vibCycle cfg c.cycle c.segPos (rb c cfg.rst) (decSample c cfg.chA) (decSample c cfg.chB)
      (c.decimLost.contains cfg.chA) (c.decimLost.contains cfg.chB) x
    (x1, vibOuts x1, trip)

/-! ## Start states and evaluation of any block -/

/-- The state of a block at entry to START (R80). -/
def initBlock : Block → BlockState
  | .logic _ _ | .not _ | .cmp _ _ _ => .none
  | .rs _ _ q | .sr _ _ q | .window _ _ _ _ q => .bit q
  | .edge _ _ => .edge none
  | .delay _ v => .delay v
  | .ton _ _ => .ton none
  | .tof _ _ => .tof false none
  | .tp _ _ => .tp none none
  | .ctu _ _ _ | .ctd _ _ _ | .ctud _ _ _ _ => .counter 0 false false false none none
  | .dual _ | .estop _ _ => .pair {}
  | .lcurt _ => .lcurt {}
  | .guard c => .guard { locked := decide (c.lock = .ptr) }
  | .thc _ _ => .thc {}
  | .enable _ _ => .enable {}
  | .speed _ => .speed {}
  | .edm _ => .edm {}
  | .out _ => .out {}
  | .reset _ => .reset {}
  | .vibguard _ => .vib {}
  | .telIn _ => .telIn {}
  | .telOut _ => .telOut {}

/-- The faults a block holds, for R84 and LANE_BLK_FAULT. RESET, THC and LCURT hold some outside R84's rule. -/
def blockHeld : BlockState → List Held
  | .pair p => p.held
  | .lcurt x => x.pair.held ++ x.held
  | .guard x => x.door.held ++ x.lockPair.held ++ x.held
  | .thc x => x.p1.held ++ x.p2.held
  | .enable x => x.pair.held ++ x.held
  | .speed x => x.held
  | .edm x => x.held
  | .out x => x.held
  | .reset x =>
    (match x.stuck with | some n => [⟨codeResetStuck, n⟩] | none => []) ++
    (match x.lampFault with | some n => [⟨codeResetLamp, n⟩] | none => [])
  | .vib x => x.held
  | _ => []

/-- AND, OR, XOR (R85). -/
def evalLogic (op : LogicOp) (vs : List Bool) : Bool :=
  match op with
  | .and => vs.all id
  | .or => vs.any id
  | .xor => decide ((vs.filter id).length % 2 = 1)

def relHolds (r : Rel) (a b : Int) : Bool :=
  match r with
  | .eq => decide (a = b) | .ne => decide (a ≠ b) | .gt => decide (b < a)
  | .ge => decide (b ≤ a) | .lt => decide (a < b) | .le => decide (a ≤ b)

/-- A rising edge against the previous value; none in the first cycle since START (R80). -/
def rose (prev : Option Bool) (now : Bool) : Bool := prev == some false && now
def fell (prev : Option Bool) (now : Bool) : Bool := prev == some true && !now

def evalTon (cycle n : Nat) (i : Bool) (since : Option Nat) : Option Nat × Bool :=
  if i then (some (since.getD cycle), reached (some (since.getD cycle)) n cycle) else (none, false)

def evalTof (cycle n : Nat) (i q : Bool) (fellAt : Option Nat) : Bool × Option Nat :=
  if i then (true, none)
  else if q then
    let f := fellAt.getD cycle
    if n ≤ cycle - f then (false, none) else (true, some f)
  else (false, none)

def evalTp (cycle n : Nat) (i : Bool) (since : Option Nat) (prev : Option Bool) : Option Nat :=
  let running := match since with | some c0 => decide (cycle - c0 < n) | none => false
  if running then since else if rose prev i then some cycle else none

/-- CTU (R85, R86): reset wins; saturation sets OVF; a match only on the increment. -/
def evalCtu (pv : Nat) (inc rst : Bool) (cv : Nat) (q ovf : Bool) : Nat × Bool × Bool :=
  if rst then (0, false, false)
  else if inc then
    if cv = 65535 then (cv, q, true) else (cv + 1, q || decide (cv + 1 = pv), ovf)
  else (cv, q, ovf)

/-- CTD (R85, R86): LOAD wins. -/
def evalCtd (pv : Nat) (dec load : Bool) (cv : Nat) (q : Bool) : Nat × Bool :=
  if load then (pv, false)
  else if dec && decide (0 < cv) then (cv - 1, q || decide (cv = 1))
  else (cv, q)

/-- CTUD (R85, R86). -/
def evalCtud (pv : Nat) (inc dec rst : Bool) (cv : Nat) (qu qd ovf : Bool) : Nat × Bool × Bool × Bool :=
  if rst then (0, false, false, false)
  else if inc && !dec then
    if cv = 65535 then (cv, qu, qd, true) else (cv + 1, qu || decide (cv + 1 = pv), false, ovf)
  else if dec && !inc && decide (0 < cv) then
    (cv - 1, qu && decide (pv ≤ cv - 1), qd || decide (cv = 1), ovf)
  else (cv, qu, qd, ovf)

def evalWindow (x : Option Int) (lo hi hys : Int) (q : Bool) : Bool :=
  match x with
  | none => false
  | some v => if q then decide (lo ≤ v) && decide (v ≤ hi) else decide (lo + hys ≤ v) && decide (v ≤ hi - hys)

/-- One block in one cycle: its new state, its outputs in port order, and the events it reports beside the
faults it enters. A state that is not the block's own is taken as its start state. -/
def evalBlock (c : Ctx) (blk : Nat) (d : Block) (st : BlockState) : BlockState × List Val × List Nat :=
  match d, st with
  | .logic op ins, s => (s, [.bool (evalLogic op (ins.map (rb c)))], [])
  | .not i, s => (s, [.bool (!rb c i)], [])
  | .rs i r _, .bit q => let q' := !rb c r && (q || rb c i); (.bit q', [.bool q'], [])
  | .sr i r _, .bit q => let q' := rb c i || (q && !rb c r); (.bit q', [.bool q'], [])
  | .edge up i, .edge prev =>
    let v := rb c i
    (.edge (some v), [.bool (if up then rose prev v else fell prev v)], [])
  | .delay _ _, .delay v => (.delay v, [v], [])
  | .ton i n, .ton since => let (s', q) := evalTon c.cycle n (rb c i) since; (.ton s', [.bool q], [])
  | .tof i n, .tof q f => let (q', f') := evalTof c.cycle n (rb c i) q f; (.tof q' f', [.bool q'], [])
  | .tp i n, .tp since prev =>
    let v := rb c i
    let s' := evalTp c.cycle n v since prev
    (.tp s' (some v), [.bool s'.isSome], [])
  | .ctu cu r pv, .counter cv q _ ovf pu _ =>
    let v := rb c cu
    let (cv', q', o') := evalCtu pv (rose pu v) (rb c r) cv q ovf
    (.counter cv' q' false o' (some v) none, [.bool q', .bool o'], [])
  | .ctd cd ld pv, .counter cv q _ _ pu _ =>
    let v := rb c cd
    let (cv', q') := evalCtd pv (rose pu v) (rb c ld) cv q
    (.counter cv' q' false false (some v) none, [.bool q'], [])
  | .ctud cu cd r pv, .counter cv qu qd ovf pu pd =>
    let u := rb c cu
    let v := rb c cd
    let (cv', qu', qd', o') := evalCtud pv (rose pu u) (rose pd v) (rb c r) cv qu qd ovf
    (.counter cv' qu' qd' o' (some u) (some v), [.bool qu', .bool qd', .bool o'], [])
  | .cmp a b r, s =>
    let q := match rz c a, rz c b with
      | some x, some y => relHolds r x y
      | _, _ => false
    (s, [.bool q], [])
  | .window x lo hi hys _, .bit q => let q' := evalWindow (rz c x) lo hi hys q; (.bit q', [.bool q'], [])
  | .dual p, .pair x =>
    let (a, b) := pairChans c p
    let x' := evalPair c.cycle p.nd a b x
    (.pair x', [.bool (pairOn x' a b)], [])
  | .estop p single, .pair x =>
    if single then (.pair x, [.bool (rb c p.a)], [])
    else
      let (a, b) := pairChans c p
      let x' := evalPair c.cycle p.nd a b x
      (.pair x', [.bool (pairOn x' a b)], [])
  | .lcurt cfg, .lcurt x => let (x', o) := evalLcurt c cfg x; (.lcurt x', o, [])
  | .guard cfg, .guard x => let (x', o) := evalGuard c cfg x; (.guard x', o, [])
  | .thc p1 p2, .thc x => let (x', o) := evalThc c p1 p2 x; (.thc x', o, [])
  | .enable p p3, .enable x => let (x', o) := evalEnable c p p3 x; (.enable x', o, [])
  | .speed cfg, .speed x => let (x', o) := evalSpeed c cfg x; (.speed x', o, [])
  | .edm cfg, .edm x => let (x', o) := evalEdm c cfg x; (.edm x', o, [])
  | .out cfg, .out x => let (x', o) := evalOut c cfg x; (.out x', o, [])
  | .reset cfg, .reset x => let (x', o) := evalReset c cfg x; (.reset x', o, [])
  | .vibguard cfg, .vib x =>
    let (x', o, trip) := evalVib c cfg x
    (.vib x', o, if trip then [codeVibTrip] else [])
  | .telIn conn, _ =>
    let x := look {} c.telIn blk
    let live := decide (x.state = .live)
    let cfg := (c.img.conns.find? (fun e => e.1 == conn)).map Prod.snd
    let nb := (cfg.map ConnCfg.nbIn).getD 0
    let nn := (cfg.map ConnCfg.nnIn).getD 0
    let safe := (cfg.map ConnCfg.safe).getD []
    let bs := (List.range nb).map (fun i => Val.bool (((if live then x.bools else safe)[i]?).getD false))
    let ns := (List.range nn).map (fun i => Val.num (if live then ((x.nums)[i]?).getD none else none))
    (.telIn x, bs ++ ns ++ [.bool live], [])
  | .telOut _, s => (s, [], [])
  | d, _ => (initBlock d, [], [])

end Sys2Proof.Machine
end

