-- ==== Sys2Proof/Machine/Canon.lean ====
section
/-!
DEFINITION. The canonical state words of the blocks (R79, R286, R399, R400): how many a block type has and what they hold.
Content that the spec publishes stands as it is; the other types' content is a packing of the block's state, one word for
each place, under the mask of the lane microcode, so that equal states give equal words and different states different ones.
The packing is the model's (DESIGN CHOICE, log entry 133).
-/
namespace Sys2Proof.Machine

open Sys2Proof

/-- The type code of a block (R79). -/
def blockType : Block → Nat
  | .logic .and _ => 0x01 | .logic .or _ => 0x02 | .logic .xor _ => 0x03
  | .not _ => 0x04
  | .rs _ _ _ => 0x05 | .sr _ _ _ => 0x06
  | .edge true _ => 0x07 | .edge false _ => 0x08
  | .delay _ _ => 0x09
  | .ton _ _ => 0x10 | .tof _ _ => 0x11 | .tp _ _ => 0x12
  | .ctu _ _ _ => 0x18 | .ctd _ _ _ => 0x19 | .ctud _ _ _ _ => 0x1A
  | .cmp _ _ _ => 0x20 | .window _ _ _ _ _ => 0x21
  | .dual _ => 0x30 | .estop _ _ => 0x31 | .lcurt _ => 0x32 | .guard _ => 0x33 | .thc _ _ => 0x34 | .enable _ _ => 0x35
  | .speed _ => 0x36 | .edm _ => 0x37 | .out _ => 0x38 | .reset _ => 0x39 | .vibguard _ => 0x3A
  | .telIn _ => 0x40 | .telOut _ => 0x41

/-- The number of state words of a block (R79). -/
def wordCount : Block → Nat
  | .logic _ _ | .not _ | .cmp _ _ _ => 0
  | .rs _ _ _ | .sr _ _ _ | .edge _ _ | .delay _ _ | .window _ _ _ _ _ | .out _ | .telOut _ => 1
  | .ton _ _ | .tof _ _ | .tp _ _ | .ctu _ _ _ | .ctd _ _ _ | .ctud _ _ _ _ | .dual _ | .estop _ _ | .edm _ | .telIn _ => 2
  | .enable _ _ | .reset _ => 3
  | .thc _ _ => 4
  | .guard _ => 5
  | .lcurt _ => 6
  | .speed _ => 8
  | .vibguard _ => 24

/-- An elapsed count as it stands after cycle `n`, up to `top`, plus one; 0 where no measurement runs. -/
def lap (n top : Nat) : Option Nat → Nat
  | none => 0
  | some c => min top (n - c) + 1

def flagBit (b : Bool) (i : Nat) : Nat × Nat × Nat := (if b then 1 else 0, i, 1)

/-- The previous value of an input: 0 none seen, 2 off, 3 on. -/
def prevBits : Option Bool → Nat
  | none => 0 | some false => 2 | some true => 3

/-- The flags of a pair in five bits, and its elapsed count. -/
def pairFlags (i : Nat) (p : PairSt) : List (Nat × Nat × Nat) :=
  [flagBit p.agreed i, flagBit p.meas.isSome (i + 1), flagBit (p.meas.any Prod.snd) (i + 2),
   flagBit (holds codeDiscTimeout p.held) (i + 3), flagBit (holds codeDiscPartial p.held) (i + 4)]
def pairLap (n : Nat) (p : PairSt) : Nat := lap n 80001 (p.meas.map Prod.fst)

/-- How many segments ago one of a class ended, 1 the last one; 0 where the window holds none. -/
def segAge (cls : SegClass) (v : VibChan) : Nat :=
  match v.segs.findIdx? (fun e => e.2 == cls) with
  | some i => i + 1
  | none => 0

def segVal (v : VibChan) (i : Nat) : Nat := min 0xFFFF (((v.segs.map Prod.fst)[i]?).getD 0)

/-- The words of a guard's channel (R286): its segment values two to a word, the running sum, count and flags, and the
filter state. -/
def chanWords (v : VibChan) : List Word :=
  (List.range 4).map (fun i => pack [(segVal v (2 * i), 0, 16), (segVal v (2 * i + 1), 16, 16)]) ++
  [BitVec.ofNat 32 v.sum,
   pack [(v.count, 0, 10), (bits v.flags 31 24, 10, 8), flagBit v.gap 18, (min 4 v.noFrame, 19, 3), (min 801 v.calRun, 22, 10)]] ++
  (List.range 3).map (fun i => (v.filter[i]?).getD 0)

/-- The counts of VALID segments of a channel, and how long ago the other classes ended. -/
def validBits (i : Nat) (v : VibChan) : List (Nat × Nat × Nat) :=
  [(min 8 v.validRun, i, 4), (segAge .ovr v, i + 4, 4), (segAge .notReady v, i + 8, 4), (segAge .invalid v, i + 12, 4)]

/-- The 24 words of a guard (R286). -/
def vibWords (n : Nat) (x : VibSt) : List Word :=
  chanWords x.a ++ chanWords x.b ++
  [pack [(x.pos, 0, 16), (x.a.segs.length, 16, 4), (min 8 x.a.fill, 20, 4), (min 8 x.b.fill, 24, 4)], pack (validBits 0 x.a ++ validBits 16 x.b),
   BitVec.ofNat 32 (lap n 80001 x.xSince),
   pack [flagBit x.q 0, flagBit x.trip 1, flagBit (holds codeVibSensor x.held) 2, flagBit (holds codeVibDisc x.held) 3,
     (min 8 x.tolRun, 4, 4)], 0, 0]

/-- What the state words of a block hold after cycle `n`, in true form (R46). -/
def stateContent (conns : Tab ConnCfg) (n : Nat) (d : Block) (st : BlockState) : List Word :=
  match d, st with
  | .rs _ _ _, .bit q | .sr _ _ _, .bit q | .window _ _ _ _ _, .bit q => [pack [flagBit q 0]]
  | .edge _ _, .edge prev => [pack [(prevBits prev, 0, 2)]]
  | .delay _ _, .delay v =>
    [match v with
      | .bool b => pack [flagBit b 0]
      | .num (some w) => w
      | .num none => Config.invalidNum]
  | .ton _ k, .ton since => [BitVec.ofNat 32 (lap n k since), 0]
  | .tof _ k, .tof q f => [BitVec.ofNat 32 (lap n k f), pack [flagBit q 0]]
  | .tp _ k, .tp since prev => [BitVec.ofNat 32 (lap n k since), pack [(prevBits prev, 0, 2)]]
  | .ctu _ _ _, .counter cv q qd ovf u v | .ctd _ _ _, .counter cv q qd ovf u v | .ctud _ _ _ _, .counter cv q qd ovf u v =>
    [BitVec.ofNat 32 cv, pack [flagBit q 0, flagBit qd 1, flagBit ovf 2, (prevBits u, 3, 2), (prevBits v, 5, 2)]]
  | .dual _, .pair p | .estop _ _, .pair p => [pack (pairFlags 0 p), BitVec.ofNat 32 (pairLap n p)]
  | .lcurt c, .lcurt x =>
    [pack (pairFlags 0 x.pair ++ [flagBit x.lampSeen 5, (min 2 x.lampDark, 6, 2), flagBit (holds codeMuteSeq x.held) 8,
       flagBit (holds codeMuteTimeout x.held) 9, flagBit (holds codeMuteLamp x.held) 10]),
     BitVec.ofNat 32 (pairLap n x.pair), BitVec.ofNat 32 (lap n c.nMute x.muting),
     pack [(lap n (c.nSync + 1) x.act1, 0, 16), (lap n (c.nSync + 1) x.act2, 16, 16)],
     pack [(lap n (c.nSync + 1) x.act3, 0, 16), (lap n (c.nSync + 1) x.act4, 16, 16)], 0]
  | .guard c, .guard x =>
    [pack (pairFlags 0 x.door ++ pairFlags 5 x.lockPair ++ [flagBit x.locked 10, flagBit x.confirmed 11,
       flagBit (holds codeLockFb x.held) 12, flagBit (holds codeGuardTamper x.held) 13]),
     BitVec.ofNat 32 (pairLap n x.door), BitVec.ofNat 32 (pairLap n x.lockPair), BitVec.ofNat 32 (lap n (c.nLock + 1) x.cmdSince), 0]
  | .thc _ _, .thc x =>
    [pack (pairFlags 0 x.p1 ++ pairFlags 5 x.p2 ++ [flagBit x.armed 10, flagBit x.q 11]),
     BitVec.ofNat 32 (pairLap n x.p1), BitVec.ofNat 32 (pairLap n x.p2),
     pack [(lap n 4001 x.on1, 0, 16), (lap n 4001 x.on2, 16, 16)]]
  | .enable _ _, .enable x =>
    [pack (pairFlags 0 x.pair ++ [flagBit x.needPos1 5, flagBit (holds codeEnableP3 x.held) 6]),
     BitVec.ofNat 32 (pairLap n x.pair), 0]
  | .speed c, .speed x =>
    [pack [flagBit x.fallen 0, flagBit (holds codeTachMissing x.held) 1, flagBit (holds codeSpeedDisc x.held) 2,
       (min 8 x.missA, 3, 4), (min 8 x.missB, 7, 4)],
     BitVec.ofNat 32 (lap n c.nSS x.ssSince), BitVec.ofNat 32 (lap n (c.nx + 1) x.xSince),
     BitVec.ofNat 32 (min c.nx x.presentRun), BitVec.ofNat 32 (min c.nx x.tolRun),
     pack [flagBit x.speed.isSome 0], BitVec.ofNat 32 (x.speed.getD 0), 0]
  | .edm _, .edm x => [pack [flagBit x.prev 0, flagBit (holds codeEdmFail x.held) 1], BitVec.ofNat 32 (lap n 8001 x.window)]
  | .out _, .out x => [pack [flagBit x.cmd 0, flagBit (holds codeOutShort x.held) 1, flagBit (holds codeOutCross x.held) 2]]
  | .reset _, .reset x =>
    [pack [(lap n 400 x.openSince, 0, 9), flagBit x.hist 9, flagBit (x.press.any Prod.snd) 10, flagBit x.stuck.isSome 11,
       flagBit x.permit 12, flagBit x.q 13, flagBit x.ack 14, (min 2 x.lampRun, 15, 2), (min 2 x.lampDark, 17, 2),
       flagBit x.lampFault.isSome 19],
     BitVec.ofNat 32 (lap n 80001 (x.press.map Prod.fst)), 0]
  | .vibguard _, .vib x => vibWords n x
  | .telIn conn, .telIn x =>
    let nw := ((conns.find? (fun e => e.1 == conn)).map (fun e => e.2.nw)).getD 0
    let el := match x.ref with | none => nw + 1 | some (r, _) => min (n - r) (nw + 1)
    let stc := match x.state with | .unsync => 0 | .syncing => 1 | .live => 2
    [pack [(x.last, 0, 16), (stc, 16, 2), (match x.ref with | some (_, true) => 1 | _ => 0, 18, 1)], BitVec.ofNat 32 el]
  | .telOut _, .telOut x => [pack [(x.lastCn, 0, 16), (x.toNext, 16, 16)]]
  | _, _ => []

/-- The content of a block's state words is published (R286, R399, R400). -/
def published : Block → Bool
  | .vibguard _ => true | .telIn _ => true | .telOut _ => true
  | _ => false

/-- The state words of a block after cycle `n` (R79): as many as its type has; a block that has not been evaluated since START
holds its start value (R80). -/
def blockWords (conns : Tab ConnCfg) (n : Nat) (d : Block) (st : BlockState) : List Word :=
  let ws := stateContent conns n d (match st with | .none => initBlock d | x => x)
  (List.range (wordCount d)).map (fun i =>
    (ws[i]?).getD 0 ^^^ (if published d then 0 else Config.stateMask (blockType d) i))

/-- The canonical state image (R79): the state words of every block in block order. -/
def stateImage (img : SafetyImage) (n : Nat) (bl : Tab BlockState) : List Word :=
  (img.graph.zipIdx.map (fun db => blockWords img.conns n db.1 (look .none bl db.2))).flatten

/-- The number of words of the canonical state image of a graph. -/
def imageWordCount (img : SafetyImage) : Nat := (img.graph.map wordCount).sum

end Sys2Proof.Machine
end

