-- ==== Sys2Proof/Machine/Telegram.lean ====
section
/-!
DEFINITION. The Parold safe telegram inside a lane (R394, R396 to R400): its layout, the judgement of a received
telegram, the watchdog of TEL_IN and the telegrams of TEL_OUT.
-/
namespace Sys2Proof.Machine

open Sys2Proof

/-- The fields of a telegram (R394). -/
structure Telegram where
  connId : Word
  cn : Nat
  echo : Nat
  type : Nat
  noEcho : Bool
  bools : U64
  nvalid : Byte
  nums : List Word
  crcOk : Bool

def takeWords : List Byte → Nat → List Word
  | _, 0 => []
  | bs, n + 1 => BitVec.ofNat 32 (ofLe (bs.take 4)) :: takeWords (bs.drop 4) n

/-- The fields of a telegram with `nn` NUM signals; none where the length does not match (R396 step 1). -/
def parseTelegram (nn : Nat) (bs : List Byte) : Option Telegram :=
  if bs.length ≠ 28 + 4 * nn then none
  else
    let connId := BitVec.ofNat 32 (ofLe (bs.take 4))
    let cn := ofLe ((bs.drop 4).take 2)
    some { connId, cn, echo := ofLe ((bs.drop 6).take 2), type := ofLe ((bs.drop 8).take 1),
           noEcho := (ofLe ((bs.drop 9).take 1)).testBit 1, bools := BitVec.ofNat 64 (ofLe ((bs.drop 12).take 8)),
           nvalid := BitVec.ofNat 8 (ofLe ((bs.drop 20).take 1)), nums := takeWords (bs.drop 24) nn,
           crcOk := crc32cFold2 connId (BitVec.ofNat 32 cn) (bs.take (24 + 4 * nn)) ==
                    BitVec.ofNat 32 (ofLe (bs.drop (24 + 4 * nn))) }

/-- The bytes of a telegram the module sends (R394). -/
def buildTelegram (connId : Word) (cn echo : Nat) (unsync noEcho : Bool) (bools : List Bool) (nums : List (Option Word)) :
    List Byte :=
  let flags := (if unsync then 1 else 0) + (if noEcho then 2 else 0)
  let bits' := (bools.zipIdx.map (fun e => if e.1 then 2 ^ e.2 else 0)).foldl (· + ·) 0
  let nv := (nums.zipIdx.map (fun e => if e.1.isSome then 2 ^ e.2 else 0)).foldl (· + ·) 0
  let body := leBytes connId.toNat 4 ++ leBytes cn 2 ++ leBytes echo 2 ++ leBytes 1 1 ++ leBytes flags 1 ++ leBytes 0 2 ++
    leBytes bits' 8 ++ leBytes nv 1 ++ leBytes 0 3 ++ (nums.map (fun v => leBytes (v.getD 0).toNat 4)).flatten
  body ++ leBytes (crc32cFold2 connId (BitVec.ofNat 32 cn) body).toNat 4

/-- How a telegram is judged (R396, R398). -/
inductive TelJudge where
  | crc | id | seq | late
  | accept (echoCycle : Option Int)
  deriving DecidableEq, Repr

/-- The five steps of R396 in cycle `n`, against the connection's settings, its TEL_OUT and its TEL_IN. ECHO names one of the
last 128 numbers produced since START. -/
def judgeTelegram (cfg : ConnCfg) (own : TelOutSt) (n : Nat) (x : TelInSt) (t : Option Telegram) : TelJudge :=
  match t with
  | none => .crc
  | some t =>
    if t.type ≠ 1 ∨ !t.crcOk then .crc
    else if t.connId ≠ cfg.id then .id
    else
      let e := (own.lastCn + 65536 - t.echo) % 65536
      let d := (t.cn + 65536 - x.last) % 65536
      let sent : Int := (own.lastCycle : Int) - e * cfg.period
      if t.noEcho then (if x.state = .unsync then .accept none else .seq)
      else if own.made ≤ e then .seq
      else if x.state ≠ .unsync ∧ ¬ (1 ≤ d ∧ d ≤ 128) then .seq
      else if (cfg.nw : Int) < n - sent then .late
      else .accept (some sent)

/-- A report of one code about one connection was made in the preceding 8,000 cycles (R402). -/
def limited (last : Option Nat) (n : Nat) : Bool :=
  match last with
  | none => false
  | some c => decide (n - c < 8000)


/-- One telegram handled in cycle `n` (R396 to R398): the new TEL_IN state, counters and reports. `expired` is the
expiry of this very cycle: a telegram that passes every step is then too late. -/
def takeTelegram (cfg : ConnCfg) (own : TelOutSt) (n : Nat) (expired : Bool) (x : TelInSt) (k : TelCnt) (bs : List Byte) :
    TelInSt × TelCnt × List Nat :=
  let t := parseTelegram cfg.nnIn bs
  match judgeTelegram cfg own n x t with
  | .crc => if limited k.repCrc n then (x, { k with crc := k.crc + 1 }, [])
            else (x, { k with crc := k.crc + 1, repCrc := some n }, [codeTelCrc])
  | .id => if limited k.repId n then (x, { k with id := k.id + 1 }, [])
           else (x, { k with id := k.id + 1, repId := some n }, [codeTelId])
  | .seq => if limited k.repSeq n || decide (x.state ≠ .live) then (x, { k with seq := k.seq + 1 }, [])
            else (x, { k with seq := k.seq + 1, repSeq := some n }, [codeTelSeq])
  | .late => (x, { k with late := k.late + 1 }, [])
  | .accept sent =>
    if expired then (x, { k with late := k.late + 1 }, [])
    else match t with
      | none => (x, k, [])
      | some t =>
        let k' := { k with accepted := k.accepted + 1, echo := t.echo }
        match sent with
        | none => ({ x with last := t.cn, ref := some (n, false),
                            state := if x.state = .unsync then .syncing else x.state }, k', [])
        | some c =>
          let at' := Int.toNat c
          let ref := match x.ref with
            | some (r, true) => max r at'
            | _ => at'
          ({ last := t.cn, ref := some (ref, true),
             state := if x.state = .unsync then .syncing else .live,
             bools := (List.range cfg.nbIn).map (fun i => t.bools.getLsbD i),
             nums := (List.range cfg.nnIn).map (fun i => if t.nvalid.getLsbD i then t.nums[i]? else none) }, k', [])

/-- The watchdog of a TEL_IN has expired in cycle `n` (R398). -/
def telExpired (cfg : ConnCfg) (n : Nat) (x : TelInSt) : Bool := tooLate (x.ref.map Prod.fst) cfg.nw n

/-- TEL_IN at expiry: UNSYNC, no age reference (R398, R399). -/
def telExpire (x : TelInSt) : TelInSt := { x with state := .unsync, ref := none }

/-- All telegrams of one connection in cycle `n`, in order of arrival, and the watchdog (R396, R398). -/
def telCycle (cfg : ConnCfg) (own : TelOutSt) (n : Nat) (frames : List (List Byte)) (x : TelInSt) (k : TelCnt) :
    TelInSt × TelCnt × List Nat :=
  let exp := telExpired cfg n x
  let (x1, k1, r1) := frames.foldl (fun (e : TelInSt × TelCnt × List Nat) bs =>
    let (x', k', r') := takeTelegram cfg own n exp e.1 e.2.1 bs
    (x', k', e.2.2 ++ r')) (x, k, [])
  if exp then (telExpire x1, { k1 with expire := k1.expire + 1 }, r1 ++ [codeTelWatchdog]) else (x1, k1, r1)

/-- One cycle of a TEL_OUT (R400): it produces a telegram when its count to the next send has run out. -/
def telOutCycle (cfg : ConnCfg) (n : Nat) (x : TelOutSt) : TelOutSt × Bool :=
  if x.toNext = 0 then
    ({ lastCn := (x.lastCn + 1) % 65536, toNext := cfg.period - 1, lastCycle := n, made := min 128 (x.made + 1) }, true)
  else ({ x with toNext := x.toNext - 1 }, false)

end Sys2Proof.Machine
end

