-- ==== Sys2Proof/Machine/Lanes.lean ====
section
/-!
DEFINITION. The lanes (R46 to R49, R60, R74 to R84, R112): decoding the image, evaluating the graph, the vote, the lane's
own faults, the state copy, and the events of single blocks.
-/
namespace Sys2Proof.Machine

open Sys2Proof

/-! ## A lane's own faults (R47, R48) -/

/-- The data words of a vote or withdraw frame (R48, R49). -/
def outWords : LaneOut → List Word
  | .vote v => [v.w0, v.w1, v.w2, v.w3]
  | .withdraw c => [pack [(c, 0, 8), (0xFF, 24, 8)]]
  | .none => []

/-- The lane's vote transmitter sends its frame to the field die: class 0x8, the lane's vote identity, its seat and the CRC
word (R48, R49). -/
def laneSend (l : Lane) (out : LaneOut) (s : State) : State :=
  laneFrame l 0x300 8 (outWords out) (s.setLane l { s.laneD l with out := out })

/-- A lane flags itself faulty: its engine stops, its withdraw generator takes its vote transmitter over, and it
reports LANE_WITHDRAW with the cause. A lane that is already faulty keeps its cause. -/
def flagFaulty (l : Lane) (cause : Nat) (s : State) : State :=
  let d := s.laneD l
  if d.faulty.isSome then s
  else laneReport l codeLaneWithdraw cause (laneSend l (.withdraw cause) (s.setLane l { d with faulty := some cause }))

/-! ## Test-pulse offsets as a lane recomputes them (R112) -/

/-- The number of pulses a generator has begun before slot `slot`, and so its walked offset (R106, R115). -/
def walkedOffset (p w i o slot : Nat) : Nat :=
  let m := if slot ≤ o then 0
           else
             let x := slot - o - 1
             let l := i * p + w
             (x / l) * i + min i ((x % l) / p + 1)
  (o + w * (m / i)) % p

/-- The generators whose offset in the image differs from the lane's own result. -/
def schedDiffs (img : SafetyImage) (im : Image) : List Nat :=
  (List.range 16).filter (fun k =>
    let c := look {} img.tp k
    decide (c.mode = .pulse) &&
    look 0 im.offsets k != walkedOffset img.tpPeriod img.walkW (max 1 img.walkI) (c.start img.tpPeriod k) im.slot)

/-! ## Evaluation (R75 to R78) -/

/-- The TEL_IN blocks of a graph with their connections. -/
def telIns (g : List Block) : List (Nat × Nat) :=
  g.zipIdx.filterMap (fun e => match e.1 with | .telIn c => some (e.2, c) | _ => none)

/-- The state of a connection's TEL_OUT in a lane. -/
def telOutOf (g : List Block) (bl : Tab BlockState) (conn : Nat) : TelOutSt :=
  match g.zipIdx.find? (fun e => match e.1 with | .telOut c => c.conn == conn | _ => false) with
  | some e => (match look .none bl e.2 with | .telOut x => x | _ => {})
  | none => {}

/-- All TEL_IN blocks in cycle `n` (R396): their states, the counters, and the reports with their connections. -/
def telInCycle (img : SafetyImage) (n : Nat) (bl : Tab BlockState) (frames : List TelFrame) (cnt : Tab TelCnt) :
    Tab TelInSt × Tab TelCnt × List (Nat × Nat) :=
  (telIns img.graph).foldl (fun (e : Tab TelInSt × Tab TelCnt × List (Nat × Nat)) bc =>
    let cfg := look { id := 0, peer := 0, period := 1, nw := 16 } img.conns bc.2
    let x := match look .none bl bc.1 with | .telIn x => x | _ => {}
    let fs := (frames.filter (fun f => f.conn == bc.2 && decide (f.cycle < n))).map TelFrame.bytes
    let (x', k', r') := telCycle cfg (telOutOf img.graph bl bc.2) n fs x (look {} e.2.1 bc.2)
    (put {} e.1 bc.1 x', put {} e.2.1 bc.2 k', e.2.2 ++ r'.map (fun c => (c, bc.2)))) ([], cnt, [])

/-- One block within an evaluation: its state and signals, and its reports. -/
def evalStep (e : Ctx × Tab BlockState × List (Nat × Nat)) (db : Block × Nat) : Ctx × Tab BlockState × List (Nat × Nat) :=
  let old := match look .none e.2.1 db.2 with
    | .none => initBlock db.1
    | x => x
  let (st, outs, rep) := evalBlock e.1 db.2 db.1 old
  let new := entered (blockHeld old) (blockHeld st)
  ({ e.1 with sig := put [] e.1.sig db.2 outs }, put .none e.2.1 db.2 st,
   e.2.2 ++ (new ++ rep).map (fun c => (c, db.2)))

/-- DELAY blocks take their input's value at the end of the cycle (R77). -/
def delayEnd (c : Ctx) (bl : Tab BlockState) (g : List Block) : Tab BlockState :=
  g.zipIdx.foldl (fun b db => match db.1 with
    | .delay i _ => put .none b db.2 (.delay (rd c i))
    | _ => b) bl

/-- TEL_OUT blocks of a cycle (R400): their states and the telegrams they produce. -/
def telOutEnd (c : Ctx) (bl : Tab BlockState) (g : List Block) (due : Tab (Nat × List Byte)) :
    Tab BlockState × Tab (Nat × List Byte) :=
  g.zipIdx.foldl (fun (e : Tab BlockState × Tab (Nat × List Byte)) db => match db.1 with
    | .telOut t =>
      let cfg := look { id := 0, peer := 0, period := 1, nw := 16 } c.img.conns t.conn
      let x := match look .none e.1 db.2 with | .telOut x => x | _ => {}
      let (x', made) := telOutCycle cfg c.cycle x
      let tin := look {} c.telIn t.telIn
      let unsync := decide (tin.state = .unsync)
      let bytes := buildTelegram cfg.id x'.lastCn (if unsync then 0 else tin.last) (decide (tin.state ≠ .live)) unsync
        (t.bools.map (rb c)) (t.nums.map (rn c))
      (put .none e.1 db.2 (.telOut x'), if made then put (0, []) e.2 db.2 (x'.lastCn, bytes) else e.2)
    | _ => e) (bl, due)

/-- The SO_CMD and CIO_CMD bits the OUT blocks command (R78, R97). -/
def outCommands (g : List Block) (bl : Tab BlockState) : Word × Word :=
  g.zipIdx.foldl (fun (e : Word × Word) db => match db.1, look .none bl db.2 with
    | .out cfg, .out x =>
      if x.cmd then cfg.targets.foldl (fun (f : Word × Word) t => match t with
        | .so k => (f.1 ||| BitVec.ofNat 32 (2 ^ k), f.2)
        | .cio n => (f.1, f.2 ||| BitVec.ofNat 32 (2 ^ n))) e
      else e
    | _, _ => e) (0, 0)

/-- The CIO pins marked safety-relevant in the sealed image (R49, R167). -/
def safePins (img : SafetyImage) : Word :=
  (List.range 24).foldl (fun m n =>
    if (look {} img.cio n).mode = .outputSafe then m ||| BitVec.ofNat 32 (2 ^ n) else m) 0

/-- STATE_SIG (R49): CRC-32C over the state words of every block in block order. -/
def stateSig (img : SafetyImage) (n : Nat) (bl : Tab BlockState) : Word :=
  crc32c (stateImage img n bl)

/-- Words 0 to 3 of a vote (R49). -/
def mkVote (digest : Word) (n : Nat) (so cio sig : Word) : Vote :=
  ⟨pack [(n, 0, 16), (digest.toNat, 16, 8), (1, 24, 8)], so, cio, sig⟩

/-- The evaluation context of a lane for an image. -/
def laneCtx (img : SafetyImage) (first : Nat) (d : LaneDie) (im : Image) (a : ImageArrival) (telIn : Tab TelInSt)
    (sched : List Nat) : Ctx :=
  { cycle := im.cycle, img := img, im := im, sched := sched, tachLost := a.tachLost, decimLost := a.decimLost,
    first := decide (im.cycle = first), segPos := im.cycle - first, telIn := telIn,
    sig := img.graph.zipIdx.foldl (fun m db => match db.1, look .none d.blocks db.2 with
      | .delay _ v, .none => put [] m db.2 [v]
      | .delay _ _, .delay v => put [] m db.2 [v]
      | _, _ => m) [],
    outCmd := img.graph.zipIdx.foldl (fun m db => match look .none d.blocks db.2 with
      | .out x => put false m db.2 x.cmd
      | _ => m) [] }

/-- The code of a TEL_IN state (R399). -/
def telCode : TelState → Word
  | .unsync => 0 | .syncing => 1 | .live => 2

/-- TEL_IN states that change (R407, R409): every change in the Bow seat's lane is an event, and a TEL_IN that leaves LIVE sets
IRQ_STAT.TEL. -/
def telChanges (l : Lane) (cs : List (Nat × TelState × TelState)) (s : State) : State :=
  let s1 := if cs.any (fun c => decide (c.2.1 = .live ∧ c.2.2 ≠ .live)) then
    { s with host := { s.host with irqStat := s.host.irqStat ||| 0x20 } } else s
  if s.seat.bow = some l then
    cs.foldl (fun t c => if c.2.2 = c.2.1 then t
      else pushEvent (0x320 + laneNo l) 7 0 [BitVec.ofNat 32 c.1, telCode c.2.2] (timeAt t.time t.t0) t) s1
  else s1

/-- A lane evaluates the whole graph for an image (R75 to R78): block states, signals, the vote, the telegrams and
the reports of its blocks. -/
def evaluate (l : Lane) (im : Image) (a : ImageArrival) (s : State) : State :=
  let d := s.laneD l
  match d.image with
  | none => s
  | some img =>
    let sched := schedDiffs img im
    let (tin, cnt, telRep) := telInCycle img im.cycle d.blocks d.tel d.telCnt
    let c0 := laneCtx img s.seat.firstCycle d im a tin sched
    let (c1, bl1, rep) := img.graph.zipIdx.foldl evalStep (c0, d.blocks, [])
    let (bl2, due) := telOutEnd c1 (delayEnd c1 bl1 img.graph) img.graph d.telDue
    let (so, cio) := outCommands img.graph bl2
    let d' := { d with
      blocks := bl2, sig := c1.sig, evaluated := some im.cycle, sched := sched, telCnt := cnt, telDue := due,
      tel := d.tel.filter (fun f => decide (im.cycle ≤ f.cycle)),
      corrected := d.corrected + BitVec.ofNat 32 a.corrected,
      timeLast := a.clocks, timeMax := max d.timeMax (min a.clocks 0xFFFF) }
    let s1 := laneSend l (.vote (mkVote d.digest im.cycle so (cio &&& safePins img) (stateSig img im.cycle bl2)))
      (s.setLane l d')
    let s2 := rep.foldl (fun t r => laneReport l r.1 r.2 t) s1
    let s3 := telRep.foldl (fun t r => laneTelReport l r.1 t) s2
    let s4 := telChanges l (tin.map (fun e =>
      (e.1, (match look .none d.blocks e.1 with | .telIn x => x.state | _ => .unsync), e.2.state))) s3
    (sched.filter (fun k => !d.sched.contains k)).foldl (fun t k => laneReport l codeTpSched k t) s4

/-- A lane evaluates the graph in this cycle (R49, R50, R60): seated, shadowing, or past its catch-up cycle. -/
def evaluates (s : State) (l : Lane) : Bool :=
  (match s.seat.state with | .start => false | .lockout => false | _ => true) &&
  (match (s.mgr l).phase with
    | .seated => true | .shadow => true
    | .agreeing c => decide (c < s.seat.cycle)
    | _ => false) &&
  decide ((s.laneD l).evaluated ≠ some s.seat.cycle)

/-- The lane is catching up cycle c: its copy is complete, cycle c is not evaluated (R60 step 4). -/
def catchingUp (s : State) (l : Lane) : Bool :=
  match (s.mgr l).phase with
  | .agreeing c => decide ((s.laneD l).evaluated ≠ some c) && decide (∀ n, (s.laneD l).evaluated = some n → n < c)
  | _ => false

/-- The end of the catch-up evaluation (R60 step 4): cycle c from the copied state and the buffered image; its vote
is late and is discarded. -/
def catchUp (l : Lane) (s : State) : State :=
  match (s.laneD l).buf, (s.mgr l).phase with
  | some (im, a), .agreeing c =>
    if im.cycle = c then
      let s1 := evaluate l im a s
      s1.setLane l { s1.laneD l with buf := none, out := .none }
    else s
  | _, _ => s

/-- An LCLK count out of 49,000 to 50,500 (R418). -/
def lclkBad (n : Nat) : Bool := decide (n < 49000) || decide (50500 < n)

/-- The image frame, and the capture and sample frames that the lane accepts with it, reach the lane (R33). -/
def imageHeard (l : Lane) (a : ImageArrival) (s : State) : State :=
  let im := s.fld.image
  let s1 := frameHeard (laneNo l) 0x000 s
  let s2 := (im.tach.filter (fun e => !a.tachLost.contains e.1)).foldl (fun t e => frameHeard (laneNo l) (0x0A0 + e.1) t) s1
  (im.dec.filter (fun e => !a.decimLost.contains e.1)).foldl (fun t e => frameHeard (laneNo l) (0x0C0 + e.1) t) s2

/-- The checks a lane makes with an image (R418, R47), then its evaluation. In START and LOCKOUT no graph is evaluated
and the lane's vote commands everything off. -/
def laneImage (l : Lane) (a : ImageArrival) (s : State) : State :=
  let d := s.laneD l
  match d.faulty, d.image with
  | some c, _ => laneSend l (.withdraw c) s
  | none, none => s
  | none, some img =>
    let lclkOut := if lclkBad a.lclk then d.lclkOut + 1 else 0
    let s0 := s.setLane l { d with lclkOut := lclkOut }
    if 2 ≤ lclkOut then flagFaulty l 0x02 s0
    else if a.badRead && decide (l = .l3) then flagFaulty l 0x06 s0
    else if !a.intact then s0.setLane l { s0.laneD l with out := .none }
    else
      let sh := imageHeard l a s0
      let s1 := if catchingUp sh l then catchUp l sh else sh
      if evaluates s1 l then evaluate l s1.fld.image a s1
      else match s1.seat.state, (s1.mgr l).phase with
        | .start, .start | .lockout, .start =>
          laneSend l (.vote (mkVote d.digest s1.seat.cycle 0 0 (stateSig img s1.seat.cycle d.blocks))) s1
        | _, .copying _ | _, .agreeing _ => s1.setLane l { s1.laneD l with buf := some (s1.fld.image, a) }
        | _, _ => s1

/-- R18 steps 2 to 5: the image of the cycle reaches a lane. -/
def execLaneInputImage (l : Lane) (a : ImageArrival) (s : State) : Host.Outcome State Fault Refusal :=
  run s (laneImage l a)

/-! ## Events of single blocks

Each is the moment within the present cycle at which a block's count runs out. It comes before the lane's evaluation
of that cycle, which finds the block already there; where it does not come, the evaluation finds the count run out
itself. An event that is not due changes nothing. -/

/-- Outputs of a block in its fault state (R84). -/
def zeroOuts : List Val → List Val :=
  List.map (fun v => match v with | .bool _ => .bool false | .num _ => .num none)

/-- As zeroOuts, but LOCK_CMD of a GUARD block keeps its value (R94). -/
def zeroGuard : List Val → List Val
  | [q, k, c] => zeroOuts [q, k] ++ [c]
  | vs => zeroOuts vs

/-- What an event is judged with: the frozen image of the present cycle, and the signals of the last evaluation. -/
def eventCtx (l : Lane) (img : SafetyImage) (s : State) : Ctx :=
  { laneCtx img s.seat.firstCycle (s.laneD l) s.fld.image {} [] (schedDiffs img s.fld.image) with
    cycle := s.seat.cycle, sig := (s.laneD l).sig }

/-- A block's event: `f` answers its new state and the change of its outputs where the event is due in this cycle. -/
def blockEvent (l : Lane) (blk : Nat) (f : Ctx → Block → BlockState → Option (BlockState × (List Val → List Val)))
    (s : State) : State :=
  let d := s.laneD l
  match d.image with
  | none => s
  | some img =>
    match img.graph[blk]? with
    | none => s
    | some b =>
      let old := look .none d.blocks blk
      if evaluates s l && d.faulty.isNone then
        match f (eventCtx l img s) b old with
        | none => s
        | some (st, g) =>
          let s1 := s.setLane l { d with blocks := put .none d.blocks blk st,
                                         sig := put [] d.sig blk (g (look [] d.sig blk)) }
          (entered (blockHeld old) (blockHeld st)).foldl (fun t c => laneReport l c blk t) s1
      else s

def setPort (i : Nat) (b : Bool) (vs : List Val) : List Val := vs.set i (.bool b)

def evTon (c : Ctx) (b : Block) (st : BlockState) : Option (BlockState × (List Val → List Val)) :=
  match b, st with
  | .ton _ n, .ton since => if reached since n c.cycle then some (st, setPort 0 true) else none
  | _, _ => none

def evTof (c : Ctx) (b : Block) (st : BlockState) : Option (BlockState × (List Val → List Val)) :=
  match b, st with
  | .tof _ n, .tof true f => if reached f n c.cycle then some (.tof false none, setPort 0 false) else none
  | _, _ => none

def evTp (c : Ctx) (b : Block) (st : BlockState) : Option (BlockState × (List Val → List Val)) :=
  match b, st with
  | .tp _ n, .tp since prev => if reached since n c.cycle then some (.tp none prev, setPort 0 false) else none
  | _, _ => none

/-- DISC_TIMEOUT on the first pair of the block that is past its limit (R88). -/
def evDisc (c : Ctx) (b : Block) (st : BlockState) : Option (BlockState × (List Val → List Val)) :=
  match b, st with
  | .dual p, .pair x => (pairTimeout c.cycle p.nd x).map (fun y => (.pair y, zeroOuts))
  | .estop p false, .pair x => (pairTimeout c.cycle p.nd x).map (fun y => (.pair y, zeroOuts))
  | .lcurt cfg, .lcurt x => (pairTimeout c.cycle cfg.ossd.nd x.pair).map (fun y => (.lcurt { x with pair := y, muting := none }, zeroOuts))
  | .guard cfg, .guard x =>
    match pairTimeout c.cycle cfg.door.nd x.door with
    | some y => some (.guard { x with door := y }, zeroGuard)
    | none => (pairTimeout c.cycle cfg.lockPair.nd x.lockPair).map (fun y => (.guard { x with lockPair := y }, zeroGuard))
  | .thc b1 b2, .thc x =>
    match pairTimeout c.cycle b1.nd x.p1 with
    | some y => some (.thc { x with p1 := y, q := false }, zeroOuts)
    | none => (pairTimeout c.cycle b2.nd x.p2).map (fun y => (.thc { x with p2 := y, q := false }, zeroOuts))
  | .enable p _, .enable x => (pairTimeout c.cycle p.nd x.pair).map (fun y => (.enable { x with pair := y }, zeroOuts))
  | _, _ => none

/-- MUTE_TIMEOUT (R91): muting ends, Q follows the pair in the lane's evaluation. -/
def evMuteTimeout (c : Ctx) (b : Block) (st : BlockState) : Option (BlockState × (List Val → List Val)) :=
  match b, st with
  | .lcurt cfg, .lcurt x =>
    if reached x.muting cfg.nMute c.cycle then
      some (.lcurt { x with muting := none, held := raise true codeMuteTimeout c.cycle x.held },
            fun vs => setPort 1 false (setPort 0 (x.pair.agreed && x.pair.meas.isNone && x.pair.held.isEmpty) vs))
    else none
  | _, _ => none

/-- MUTE_LAMP (R92): no current by N_lamp, or the second dark cycle. -/
def evMuteLamp (c : Ctx) (b : Block) (st : BlockState) : Option (BlockState × (List Val → List Val)) :=
  match b, st with
  | .lcurt cfg, .lcurt x =>
    if x.muting.any (fun c0 => lampFails cfg c.cycle c0 (rb c cfg.lrb) x) then
      some (.lcurt { x with muting := none, held := raise true codeMuteLamp c.cycle x.held },
            fun vs => setPort 1 false (setPort 0 (x.pair.agreed && x.pair.meas.isNone && x.pair.held.isEmpty) vs))
    else none
  | _, _ => none

/-- LOCK_FB of a lock that was not accepted locked by N_lock + 1 (R95). -/
def evLockFb (c : Ctx) (b : Block) (st : BlockState) : Option (BlockState × (List Val → List Val)) :=
  match b, st with
  | .guard cfg, .guard x =>
    if cfg.lock ≠ .none ∧ tooLate x.cmdSince cfg.nLock c.cycle then
      some (.guard { x with cmdSince := none, held := raise true codeLockFb c.cycle x.held }, zeroGuard)
    else none
  | _, _ => none

def evStandstill (c : Ctx) (b : Block) (st : BlockState) : Option (BlockState × (List Val → List Val)) :=
  match b, st with
  | .speed cfg, .speed x =>
    if reached x.ssSince cfg.nSS c.cycle && x.held.isEmpty && bothSlow c cfg then some (st, setPort 1 true) else none
  | _, _ => none

/-- TACH_MISSING: the eighth consecutive cycle without an accepted frame (R96): the image of this cycle holds none either.
A frame that the image holds and the lane does not accept shows in the lane's evaluation. -/
def evTachMissing (c : Ctx) (b : Block) (st : BlockState) : Option (BlockState × (List Val → List Val)) :=
  match b, st with
  | .speed cfg, .speed x =>
    if (decide (7 ≤ x.missA) && (speedIn c cfg.tachA cfg.pprA).isNone) ||
        (decide (7 ≤ x.missB) && (speedIn c cfg.tachB cfg.pprB).isNone) then
      some (.speed { x with held := raise true codeTachMissing c.cycle x.held, fallen := true }, zeroOuts)
    else none
  | _, _ => none

def evSpeedDisc (c : Ctx) (b : Block) (st : BlockState) : Option (BlockState × (List Val → List Val)) :=
  match b, st with
  | .speed cfg, .speed x =>
    if tooLate x.xSince cfg.nx c.cycle then
      some (.speed { x with held := raise true codeSpeedDisc c.cycle x.held, xSince := none, fallen := true }, zeroOuts)
    else none
  | _, _ => none

def evEdm (c : Ctx) (b : Block) (st : BlockState) : Option (BlockState × (List Val → List Val)) :=
  match b, st with
  | .edm cfg, .edm x =>
    if tooLate x.window (if x.prev then cfg.nOn else cfg.nOff) c.cycle then
      some (.edm { x with window := none, held := raise true codeEdmFail c.cycle x.held }, zeroOuts)
    else none
  | _, _ => none

/-- H = 1: the 400th cycle after the first open one, in which the terminal is seen open as well (R129, R137). -/
def evHist (c : Ctx) (b : Block) (st : BlockState) : Option (BlockState × (List Val → List Val)) :=
  match b, st with
  | .reset cfg, .reset x =>
    if reached x.openSince 400 c.cycle && x.stuck.isNone && rinOpen c cfg then some (.reset { x with hist := true }, id) else none
  | _, _ => none

/-- RESET_STUCK: no acceptance and LAMP = 0; Q is unaffected (R133). -/
def evStuck (c : Ctx) (b : Block) (st : BlockState) : Option (BlockState × (List Val → List Val)) :=
  match b, st with
  | .reset _, .reset x =>
    if x.stuck.isNone && pressLate c.cycle x then
      some (.reset { x with stuck := some c.cycle, hist := false }, setPort 2 false) else none
  | _, _ => none

def evVibDisc (c : Ctx) (b : Block) (st : BlockState) : Option (BlockState × (List Val → List Val)) :=
  match b, st with
  | .vibguard cfg, .vib x =>
    if tooLate x.xSince cfg.nx c.cycle then
      some (.vib { x with a := vibRefill true x.a, b := vibRefill true x.b, xSince := none, tolRun := 0, q := false, held := raise true codeVibDisc c.cycle x.held }, zeroOuts)
    else none
  | _, _ => none

/-- The last cycle of a segment of a guard (R280): the guard takes the cycle's samples and ends the segment. -/
def vibEnds (s : State) (l : Lane) (blk : Nat) : Option (Ctx × VibCfg × VibSt) :=
  match (s.laneD l).image with
  | none => none
  | some img =>
    match img.graph[blk]?, look .none (s.laneD l).blocks blk with
    | some (.vibguard c), .vib x =>
      if (s.seat.cycle - s.seat.firstCycle) % (c.nWin / 8) + 1 = c.nWin / 8 ∧ x.done ≠ some s.seat.cycle then
        some (eventCtx l img s, c, x)
      else none
    | _, _ => none

def vibSegEnd (l : Lane) (blk : Nat) (s : State) : State :=
  if evaluates s l && (s.laneD l).faulty.isNone then
    match vibEnds s l blk with
    | none => s
    | some (e, c, x) =>
      let d := s.laneD l
      let (x', trip) := vibCycle c s.seat.cycle (s.seat.cycle - s.seat.firstCycle) (rb e c.rst) (decSample e c.chA) (decSample e c.chB)
        false false x
      let s1 := s.setLane l { d with blocks := put .none d.blocks blk (.vib x'), sig := put [] d.sig blk (vibOuts x') }
      let s2 := (entered x.held x'.held).foldl (fun t k => laneReport l k blk t) s1
      if trip then laneReport l codeVibTrip blk s2 else s2
  else s

def execTonExpiry (l : Lane) (blk : Nat) (s : State) : Host.Outcome State Fault Refusal := run s (blockEvent l blk evTon)
def execTofExpiry (l : Lane) (blk : Nat) (s : State) : Host.Outcome State Fault Refusal := run s (blockEvent l blk evTof)
def execTpPulseExpiry (l : Lane) (blk : Nat) (s : State) : Host.Outcome State Fault Refusal := run s (blockEvent l blk evTp)
def execDiscTimeout (l : Lane) (blk : Nat) (s : State) : Host.Outcome State Fault Refusal := run s (blockEvent l blk evDisc)
def execMuteTimeout (l : Lane) (blk : Nat) (s : State) : Host.Outcome State Fault Refusal := run s (blockEvent l blk evMuteTimeout)
def execMuteLamp (l : Lane) (blk : Nat) (s : State) : Host.Outcome State Fault Refusal := run s (blockEvent l blk evMuteLamp)
def execLockFb (l : Lane) (blk : Nat) (s : State) : Host.Outcome State Fault Refusal := run s (blockEvent l blk evLockFb)
def execStandstillReached (l : Lane) (blk : Nat) (s : State) : Host.Outcome State Fault Refusal := run s (blockEvent l blk evStandstill)
def execTachMissing (l : Lane) (blk : Nat) (s : State) : Host.Outcome State Fault Refusal := run s (blockEvent l blk evTachMissing)
def execSpeedDisc (l : Lane) (blk : Nat) (s : State) : Host.Outcome State Fault Refusal := run s (blockEvent l blk evSpeedDisc)
def execEdmTimeout (l : Lane) (blk : Nat) (s : State) : Host.Outcome State Fault Refusal := run s (blockEvent l blk evEdm)
def execResetOpenHistory (l : Lane) (blk : Nat) (s : State) : Host.Outcome State Fault Refusal := run s (blockEvent l blk evHist)
def execResetStuck (l : Lane) (blk : Nat) (s : State) : Host.Outcome State Fault Refusal := run s (blockEvent l blk evStuck)
def execVibSegmentEnd (l : Lane) (blk : Nat) (s : State) : Host.Outcome State Fault Refusal := run s (vibSegEnd l blk)
def execVibDisc (l : Lane) (blk : Nat) (s : State) : Host.Outcome State Fault Refusal := run s (blockEvent l blk evVibDisc)

/-! ## The lane's own fault events (R47) -/

/-- R47 cause 0x05: the evaluation is not finished at t0 + 101 µs. -/
def execEvaluationOverrun (l : Lane) (s : State) : Host.Outcome State Fault Refusal := run s (flagFaulty l 0x05)
/-- R47 cause 0x01: the comparator. -/
def execLockstepMismatch (l : Lane) (s : State) : Host.Outcome State Fault Refusal := run s (flagFaulty l 0x01)
/-- R47 cause 0x03: an uncorrectable error of the lane SRAM. -/
def execLaneUncorrectableEcc (l : Lane) (s : State) : Host.Outcome State Fault Refusal := run s (flagFaulty l 0x03)

/-- R301: a configuration pass ends; a mismatch is a withdrawal with cause 0x04 (R47). -/
def configPass (l : Lane) (ok : Bool) (s : State) : State :=
  let d := s.laneD l
  let s1 := s.setLane l { d with passes := d.passes + 1, passOk := ok }
  if ok then s1 else flagFaulty l 0x04 s1

def execLaneConfigPassComplete (l : Lane) (ok : Bool) (s : State) : Host.Outcome State Fault Refusal := run s (configPass l ok)

/-! ## State copy (R60, R62 to R64) -/

/-- The receiving lane accepts the source's next copy frame (R33). -/
def copyHeard (l src : Lane) (s : State) : State :=
  let id := 0x310 + laneNo src
  heardFrom (laneNo l) id (((look {} s.fab.rx (laneNo l * 4096 + id)).last + 1) % 256) s

/-- R60 step 3: a copy frame. A frame that fails its check restarts the resynchronisation (R63); the last one
completes the copy, and the lane catches up. -/
def copyFrame (l : Lane) (intact last : Bool) (s : State) : State :=
  let m := s.mgr l
  match m.phase with
  | .copying c =>
    if s.seat.cycle = c then
      if !intact then s.setMgr l { m with phase := .ready }
      else match m.copyFrom with
        | none => s
        | some src =>
          let s1 := copyHeard l src s
          match (s1.laneD src).copySrc with
          | some (c', bl) =>
            if last ∧ c' = c then
              (s1.setLane l { s1.laneD l with blocks := bl, evaluated := none }).setMgr l
                { m with phase := .agreeing c, agree := 0 }
            else s1
          | none => s1
    else s
  | _ => s

def execStateCopyFrame (l : Lane) (intact last : Bool) (s : State) : Host.Outcome State Fault Refusal :=
  run s (copyFrame l intact last)

def execCatchUpEvaluationEnd (l : Lane) (s : State) : Host.Outcome State Fault Refusal :=
  run s (fun s => whenever (catchingUp s l) (catchUp l) s)

/-- R62: the re-check of an aborted lane's segment ends. A failing check is a withdrawal with cause 0x03. -/
def recheck (l : Lane) (ok : Bool) (s : State) : State :=
  let m := s.mgr l
  match m.recheck with
  | some false => if ok then s.setMgr l { m with recheck := some true } else flagFaulty l 0x03 (s.setMgr l { m with recheck := none })
  | _ => s

def execSegmentRecheckComplete (l : Lane) (ok : Bool) (s : State) : Host.Outcome State Fault Refusal := run s (recheck l ok)

/-! ## Telegrams at a lane (R396, R398, R400) -/

/-- A telegram frame reaches a lane; the lane handles it in the next cycle (R396). -/
def telArrive (l : Lane) (conn : Nat) (bytes : List Byte) (s : State) : State :=
  let d := s.laneD l
  if (d.image.map (fun i => i.conns.any (fun e => e.1 == conn))).getD false then
    s.setLane l { d with tel := d.tel ++ [{ cycle := s.seat.cycle, conn := conn, bytes := bytes }] }
  else s

def execTelegramFrameArrival (l : Lane) (conn : Nat) (bytes : List Byte) (s : State) : Host.Outcome State Fault Refusal :=
  run s (hookedFrame (0x600 + conn) 9 0 (.telegramFrameArrival l conn bytes) (telArrive l conn bytes))

/-- R398: the elapsed count from the age reference reaches N_w + 1 in this cycle, and no telegram waits to be judged
first (R410). -/
def telWatchdog (l : Lane) (blk : Nat) (s : State) : State :=
  let d := s.laneD l
  match d.image with
  | none => s
  | some img =>
    match img.graph[blk]?, look .none d.blocks blk with
    | some (.telIn conn), .telIn x =>
      let cfg := look { id := 0, peer := 0, period := 1, nw := 16 } img.conns conn
      let waits := d.tel.any (fun f => f.conn == conn && decide (f.cycle < s.seat.cycle))
      if evaluates s l && d.faulty.isNone && telExpired cfg s.seat.cycle x && !waits then
        let k := look {} d.telCnt conn
        let outs := (List.range cfg.nbIn).map (fun i => Val.bool ((cfg.safe[i]?).getD false)) ++
          (List.range cfg.nnIn).map (fun _ => Val.num none) ++ [Val.bool false]
        let s1 := s.setLane l { d with blocks := put .none d.blocks blk (.telIn (telExpire x)),
                                       telCnt := put {} d.telCnt conn { k with expire := k.expire + 1 },
                                       sig := put [] d.sig blk outs }
        telChanges l [(blk, x.state, .unsync)] (laneTelReport l codeTelWatchdog s1)
      else s
    | _, _ => s

def execTelWatchdog (l : Lane) (blk : Nat) (s : State) : Host.Outcome State Fault Refusal := run s (telWatchdog l blk)

/-- R400, R401: after its vote the lane sends the telegram its TEL_OUT produced, as a class 0x9 frame from SRC 0x341 to 0x343. -/
def telSend (l : Lane) (blk : Nat) (s : State) : State :=
  let d := s.laneD l
  match d.image with
  | none => s
  | some img =>
    match img.graph[blk]?, d.telDue.find? (fun e => e.1 == blk) with
    | some (.telOut t), some (_, tele) =>
      laneFrame l 0x340 9 (bytesToWords tele.2)
        (s.setLane l { d with telDue := put (0, []) d.telDue blk (0, []), telOut := put (0, []) d.telOut t.conn tele })
    | _, _ => s

def execTelOutSend (l : Lane) (blk : Nat) (s : State) : Host.Outcome State Fault Refusal := run s (telSend l blk)

end Sys2Proof.Machine
end

