-- ==== Sys2Proof/Machine/Channels.lean ====
section
/-!
DEFINITION. Analog channels and capture timers as they start and stop (R181, R184, R188, R189, R196): what other blocks do to
them.
-/
namespace Sys2Proof.Machine

open Sys2Proof

/-- AIN16 to AIN31 are absent on the PRD-9620-E (R4). -/
def ainPresent (s : State) (n : Nat) : Bool := decide (n < (if s.otp.small then 16 else 32))

/-- The flags a sample carries, OVR apart (R187). -/
def chanFlags (x : Ain) : Word :=
  pack [(if x.flagOpen then 1 else 0, 29, 1), (if x.flagShort then 1 else 0, 28, 1),
        (if x.state = .settling then 1 else 0, 27, 1), (if x.calRun || x.calFail then 1 else 0, 26, 1),
        (if x.supply then 1 else 0, 25, 1)]

/-- The channel is in RUN and no flag but OVR is set (R187). -/
def chanValid (x : Ain) : Bool := decide (x.state = .run) && decide (chanFlags x = 0)

/-! ## Channels -/

/-- A channel enters SETTLING with a calibration (R184, R189). -/
def channelOn (n : Nat) (s : State) : State :=
  let x := s.ain n
  s.setAin n { x with en := true, state := .settling, calRun := true, calCount := 0, calSum := 0, pending := false,
                      inRun := 0, outRun := 0, flagOpen := false, flagShort := false, runDec := 0, accFlags := 0,
                      accValid := true, accNew := false, tail := none }

/-- A channel that is on, outside a shut-down. -/
def channelLive (x : Ain) : Bool := decide (x.state ≠ .off) && decide (x.state ≠ .shutdown)

/-- EN = 1 takes effect at once, or after the shut-down that runs (R189). -/
def chanEnable (ch : Nat) (s : State) : State :=
  let x := s.ain ch
  match x.state with
  | .off => channelOn ch s
  | .shutdown => s.setAin ch { x with en := true, pending := true }
  | _ => s

/-- EN = 0 (R189): the modulator stops, a calibration is abandoned, and the frame in progress is still owed. -/
def chanDisable (ch : Nat) (s : State) : State :=
  let x := s.ain ch
  match x.state with
  | .off => s
  | .shutdown => s.setAin ch { x with en := false, pending := false }
  | _ => s.setAin ch { x with en := false, state := .shutdown, calRun := false, pending := false, inRun := 0,
                              accValid := false, accNew := false, tail := some (s.now, chanFlags x, chanValid x) }

/-- A channel at the entry to START (R184, R188): a guard channel stays enabled, another one has the enable state of the CM
section; every enabled one settles and is calibrated. -/
def startChannel (s : State) (n : Nat) : State :=
  let x := s.ain n
  if x.guard ∨ s.nvm.armed = false then (if channelLive x then channelOn n s else s)
  else if ainPresent s n && (look {} s.nvm.cm.afe n).enabled && decide (x.cfg.mode ≠ .off) then
    (if channelLive x then channelOn n s else chanEnable n s)
  else chanDisable n s

/-! ## Timers (R196) -/

/-- Enabling clears the counts and the frame flags; OVF, WRAP and the compare values stay. -/
def tachOn (t : Nat) (s : State) : State :=
  let x := s.tachT t
  s.setTach t { x with state := .run, pending := false, edgeCnt := 0, total := 0, caps := 0, cap := 0, prevCap := 0,
                       period := 0, sinceCap := 0, newCap := false, matches' := 0, later := [] }

def tachEnable (t : Nat) (s : State) : State :=
  let x := s.tachT t
  match x.state with
  | .off => tachOn t s
  | .run => s
  | .shutdown => s.setTach t { x with pending := true }

def tachDisable (t : Nat) (s : State) : State :=
  let x := s.tachT t
  match x.state with
  | .off => s
  | .run => s.setTach t { x with state := .shutdown, later := [] }
  | .shutdown => s.setTach t { x with pending := false }

/-- A timer at the entry to START: a safety timer stays enabled, another one has the enable state of the CM section. -/
def startTimer (s : State) (t : Nat) : State :=
  let x := s.tachT t
  if x.safety ∨ s.nvm.armed = false then s
  else if (look {} s.nvm.cm.tach t).enabled then tachEnable t s
  else tachDisable t s

/-- Channels and timers at the entry to START. -/
def startChannels (s : State) : State :=
  (List.range 8).foldl startTimer ((List.range 32).foldl startChannel s)

end Sys2Proof.Machine
end

