-- ==== Sys2Proof/Machine/Groups.lean ====
section
/-!
DEFINITION. The four output groups (R164, R165): what an output and a pin are driven with, starting a shut-down, meeting
a re-enable request, completing the shut-down, and the forced-off lines as the field die sees them (R315, R316).
-/
namespace Sys2Proof.Machine

open Sys2Proof

/-! ## What is driven (R148, R151, R167, R171) -/

/-- Both switches of SOk are commanded on and nothing holds them off; off-pulses apart. -/
def energised (s : State) (k : Nat) : Bool :=
  let x := s.so k
  x.cmdA && x.cmdB && !x.hold && (s.group (soGroup k)).good && !s.fld.wd.tripped

/-- The level an OUTPUT_STD pin is commanded to: its source's, or its silence state (R171). -/
def stdLevel (c : CioCfg) (x : Cio) : Bool :=
  if x.silent then (match c.silence with | .off => false | .on => true | .hold => x.keep) else x.cmd

/-- The level a pin is driven to. -/
def pinDriven (s : State) (n : Nat) : Bool :=
  let c := look {} s.img.cio n
  let x := s.cio n
  let free := !x.held && (s.group (cioGroup n)).good
  match c.mode with
  | .input => false
  | .outputSafe => x.cmd && free && !s.fld.wd.tripped
  | .outputStd => stdLevel c x && x.named && free

/-- An output follows what drives it. A change is stamped; one from on to off leaves a running window unjudged (R172). -/
def refreshSo (s : State) (k : Nat) : State :=
  let e := energised s k
  let x := s.so k
  if e = x.on then s else s.setSo k { x with on := e, changed := s.now, window := x.window && e, openRun := 0 }

def refreshCio (s : State) (n : Nat) : State :=
  let e := pinDriven s n
  let x := s.cio n
  if e = x.out then s else s.setCio n { x with out := e, changed := s.now }

/-- Every output and pin follows what drives it. -/
def refreshAll (s : State) : State := (List.range 24).foldl refreshCio ((List.range 12).foldl refreshSo s)

/-! ## Shut-down and re-enable -/

/-- No cause of the group's shut-down is outstanding (R165). -/
def noCause (g : GroupSt) : Bool :=
  !g.sag && !g.missing && !g.forced && !g.overcur && !g.overtemp && !g.hold

/-- The pins of a group. -/
def groupPins (g : Group) : List Nat := (List.range 24).filter (fun n => decide (cioGroup n = g))

/-- A cause shuts the group down (R164): from now on every output is off, and from the start of the shut-down its OUTPUT_STD
pins wait for a command that names them (a later cause keeps a command that has come since, R172); a request held until
completion is dropped (R165). A shut-down in progress keeps its start. -/
def groupCause (g : Group) (f : GroupSt → GroupSt) (s : State) : State :=
  let x := s.group g
  let s1 := s.setGroup g { f x with good := false, enabling := false, pending := false, shutdown := some (x.shutdown.getD s.now) }
  refreshAll (if x.good || x.enabling then
    (groupPins g).foldl (fun t n => t.setCio n { t.cio n with named := false }) s1 else s1)

/-- The group is good from the next freeze (R165). -/
def groupEnable (g : Group) (s : State) : State :=
  s.setGroup g { s.group g with enabling := true, pending := false }

/-- Every cause has its request met and the supply has come up once: the group is re-enabled, or held as pending until
its shut-down completes (R163, R165). -/
def groupTry (g : Group) (s : State) : State :=
  let x := s.group g
  if noCause x && (s.supply (groupSupply g)).once && !x.good then
    if x.shutdown.isSome then s.setGroup g { x with pending := true } else groupEnable g s
  else s

/-- A re-enable request is met (R164): its cause is gone. -/
def groupMet (g : Group) (f : GroupSt → GroupSt) (s : State) : State :=
  groupTry g (s.setGroup g (f (s.group g)))

/-- At an image freeze the re-enabled groups become good. -/
def groupsGood (s : State) : State :=
  allGroups.foldl (fun t g =>
    let x := t.group g
    if x.enabling then t.setGroup g { x with good := true, enabling := false } else t) s

/-- R164: the shut-down is complete at the first sampling instant at least 100 µs after its start. -/
def groupCompleteDue (s : State) (g : Group) : Bool :=
  match (s.group g).shutdown with
  | some t => decide (t + 10000 ≤ s.now)
  | none => false

def groupComplete (g : Group) (s : State) : State :=
  let x := s.group g
  let s1 := s.setGroup g { x with shutdown := none }
  if x.pending then groupEnable g s1 else s1

/-- R164, GROUP_SHUTDOWN_COMPLETE. -/
def execGroupShutdownComplete (g : Group) (s : State) : Host.Outcome State Fault Refusal :=
  run s (fun s => whenever (groupCompleteDue s g) (groupComplete g) s)

/-- The forced-off lines in force at the field die: the Umpire's and its own detection's (R315, R316). -/
def State.linesLow (s : State) : BitVec 4 := s.fld.forced ||| s.fld.local'

/-- The lines change: an asserted line is a cause of its group's shut-down, a released one its request met (R164). -/
def forcedLines (umpire own : BitVec 4) (s : State) : State :=
  let s1 := { s with fld := { s.fld with forced := umpire, local' := own } }
  let low := umpire ||| own
  allGroups.foldl (fun t g =>
    let x := t.group g
    if low.getLsbD (groupNo g) then (if x.forced then t else groupCause g (fun y => { y with forced := true }) t)
    else if x.forced then groupMet g (fun y => { y with forced := false }) t else t) s1

/-- HOLD shuts all four groups down (R164), and is left at the next entry to ROWING or TWO_OAR. -/
def holdGroups (s : State) : State :=
  allGroups.foldl (fun t g => groupCause g (fun y => { y with hold := true }) t) s

/-- At the release of the module reset the HOLD shut-down of the four groups begins, with the forced-off lines asserted (R164,
R315). -/
def groupsAtReset (s : State) : State := forcedLines s.fld.forced s.fld.local' (holdGroups s)

def unholdGroups (s : State) : State :=
  allGroups.foldl (fun t g => groupMet g (fun y => { y with hold := false }) t) s

/-! ## Causes of the groups themselves (R160, R161) -/

def overcurDue (s : State) (g : Group) : Bool := decide (320 ≤ (s.group g).ocRun) && !(s.group g).overcur

def groupOvercurrent (g : Group) (s : State) : State :=
  report 38 codeGrpOvercurrent 0 (groupCause g (fun y => { y with overcur := true, ocRun := 0 }) s)

def overtempDue (s : State) (g : Group) : Bool := (s.group g).hot && !(s.group g).overtemp

def groupOvertemp (g : Group) (s : State) : State :=
  report 38 codeGrpOvertemp 0 (groupCause g (fun y => { y with overtemp := true }) s)

def execGrpOvercurrent (g : Group) (s : State) : Host.Outcome State Fault Refusal :=
  run s (fun s => whenever (overcurDue s g) (groupOvercurrent g) s)
def execGrpOvertemp (g : Group) (s : State) : Host.Outcome State Fault Refusal :=
  run s (fun s => whenever (overtempDue s g) (groupOvertemp g) s)

/-- Every output of the group is commanded off by the votes (R164). -/
def groupCommandedOff (s : State) (g : Group) : Bool :=
  (List.range 12).all (fun k => decide (soGroup k ≠ g ∨ g = .ciog1 ∨ g = .ciog2) || !((s.so k).cmdA && (s.so k).cmdB)) &&
  (List.range 24).all (fun n => decide (cioGroup n ≠ g) || decide ((look {} s.img.cio n).mode ≠ .outputSafe) || !(s.cio n).cmd)

/-- The re-enable requests that a cycle with every output commanded off meets. -/
def groupOffRequests (s : State) : State :=
  allGroups.foldl (fun t g =>
    let x := t.group g
    if groupCommandedOff t g && (x.overcur || (x.overtemp && x.cool)) then
      groupMet g (fun y => { y with overcur := false, overtemp := y.overtemp && !y.cool }) t
    else t) s

/-- One reading of a group: current, trip count, temperature. -/
def sampleGroup (r : GroupReading) (g : Group) (s : State) : State :=
  let x := s.group g
  s.setGroup g { x with mA := r.mA, temp := r.temp, ocRun := if r.isOver then sat 320 x.ocRun else 0, hot := r.hot, cool := r.cool }

end Sys2Proof.Machine
end

