-- ==== Sys2Proof/Machine/Slices.lean ====
section
/-!
DEFINITION. Self-test slices as the units and their users see them (R323 to R339): the unit table, how far a running
slice has come, and the abort of a slice.
-/
namespace Sys2Proof.Machine

open Sys2Proof

/-- A unit's LBIST patterns, LBIST time and time per MBIST segment in ticks of 10 ns (R323); none for a code that
names no unit. -/
def unitPlan (u : Nat) : Option (Nat × Nat × Nat) :=
  if 1 ≤ u ∧ u ≤ 3 then some (131072, 6000000, 1500000)
  else if u = 4 then some (65536, 2000000, 250000)
  else if u = 5 then some (65536, 3000000, 500000)
  else if 8 ≤ u ∧ u ≤ 15 then some (16384, 400000, 150000)
  else none

/-- The full count: patterns plus one for each of the eight segments (R323). -/
def fullCount (u : Nat) : Nat :=
  match unitPlan u with
  | some (n, _, _) => n + 8
  | none => 0

/-- The duration of a slice in ticks. -/
def sliceTicks (u : Nat) : Nat :=
  match unitPlan u with
  | some (_, l, m) => l + 8 * m
  | none => 0

/-- What a slice of a unit has applied after `el` ticks (R325, R326), one below the full count until it ends.
DEDUCED from the worked example: patterns proceed evenly through the LBIST time, then the segments. -/
def appliedCount (u el : Nat) : Nat :=
  match unitPlan u with
  | some (n, l, m) => if el < l then n * el / l else n + min 7 ((el - l) / m)
  | none => 0

/-- The MISR takes one input word (R326): times x modulo x⁶⁴ + x⁴ + x³ + x + 1, the word added in its low bits (DESIGN
CHOICE, log entry 165: the spec gives the generator alone). -/
def misrFeed (m : U64) (w : Word) : U64 := (if m.msb then (m <<< 1) ^^^ 0x1B else m <<< 1) ^^^ w.setWidth 64

/-- The slice signature: the count of patterns and segments is fed after the last pattern (R326). -/
def sliceSig (misr : U64) (count : Nat) : U64 := misrFeed misr (BitVec.ofNat 32 count)

/-- The value the controller's ROM expects of a unit, one per unit type with one per lane (R326). -/
def expectedSig (u : Nat) : U64 := Config.bistExpected (if 8 ≤ u then 8 else u)

def State.unit (s : State) (u : Nat) : BUnit := look {} s.bist.units u
def State.setUnit (s : State) (u : Nat) (b : BUnit) : State :=
  { s with bist := { s.bist with units := put {} s.bist.units u b } }

/-- The running slice is in its LBIST part, and so leaves memory untouched when aborted (R329). -/
def inLbist (s : State) (u : Nat) : Bool :=
  match unitPlan u with
  | some (_, l, _) => decide (s.now - s.bist.started < l)
  | none => true

/-- The slice of unit `u` is aborted if it runs (R335): no pass, no failure, BIST_PARTIAL once. -/
def abortSlice (u : Nat) (s : State) : State :=
  if s.bist.running = some u then
    let b := s.unit u
    let s1 := s.setUnit u { b with last := 3, done := false, aborts := b.aborts + 1,
                                   count := appliedCount u (s.now - s.bist.started) }
    report 48 codeBistPartial u { s1 with bist := { s1.bist with running := none } }
  else s

/-- A request that has not led to a slice is withdrawn. -/
def dropSlice (u : Nat) (s : State) : State := s.setUnit u { s.unit u with pending := false }

end Sys2Proof.Machine
end

