-- ==== Sys2Proof/Machine/Seats.lean ====
section
/-!
DEFINITION. Seats and rotation (R50 to R70): the contributions of the lanes, the rows of the seat manager's table, the
counting of failures, the commands of the command window, and the events of rotation, sculling and two-oar running.
-/
namespace Sys2Proof.Machine

open Sys2Proof

/-! ## Contributions (R50) -/

def rxVote : Contribution → Option Vote
  | .vote v => some v
  | _ => none

/-- The cause with which a lane leaves: its withdraw cause, 0x00 where its vote is missing. -/
def goneCause : Contribution → Option Nat
  | .vote _ => none
  | .withdraw c => some c
  | _ => some 0

/-- The lane delivered its vote late or not at all. -/
def isMissing : Contribution → Bool
  | .vote _ => false
  | .withdraw _ => false
  | _ => true

/-- A lane owes a vote while it is seated, shadows, or is past its catch-up cycle (R50). -/
def owesVote (cycle : Nat) (m : LaneMgr) : Bool :=
  match m.phase with
  | .seated => true
  | .shadow => true
  | .agreeing c => decide (c < cycle)
  | _ => false

/-- A vote or withdraw frame of a lane reaches the field die (R50). A late frame and one that fails its check count as
missing. A vote received on time and intact also feeds the output watchdog (R166). A withdraw frame has one data word: what
LANE_VOTE1 to LANE_VOTE3 then show the spec does not say; the model shows 0 (DESIGN CHOICE, log entry 122). -/
def voteFrame (l : Lane) (onTime intact : Bool) (s : State) : State :=
  let d := s.laneD l
  let m := s.mgr l
  match d.out with
  | .none => s
  | out =>
    let shown : Option Vote := if !intact then m.shown else match out with
      | .vote v => some v
      | .withdraw c => some ⟨pack [(c, 0, 8), (0xFF, 24, 8)], 0, 0, 0⟩   -- one data word; LANE_VOTE1 to LANE_VOTE3 then show 0
      | .none => m.shown
    let rx : Contribution := if !intact then .failed else if !onTime || s.seat.judged then .late else match out with
      | .vote v => .vote v
      | .withdraw c => .withdraw c
      | .none => .none
    let s0 := if intact then frameHeard 0 (0x300 + laneNo l) s else s
    let s1 := s0.setLane l { d with out := .none }
    let s2 := s1.setMgr l { m with shown := shown, rx := if s.seat.judged then m.rx else rx }
    match rx with
    | .vote _ => { s2 with fld := { s2.fld with wd := { s2.fld.wd with seen := true } } }
    | _ => s2

def execSeatVoteFrame (l : Lane) (onTime intact : Bool) (s : State) : Host.Outcome State Fault Refusal :=
  run s (voteFrame l onTime intact)

/-! ## Eligibility (R53) -/

/-- A re-check that a lane owes has passed (R62). -/
def recheckOk (m : LaneMgr) : Bool := m.recheck != some false

/-- The Spare is an eligible majority voter. -/
def isEligible (m : LaneMgr) : Bool := decide (m.phase = .shadow) && decide (4 ≤ m.agree) && recheckOk m

/-- The lane that holds neither seat. -/
def thirdLane (s : State) : Option Lane :=
  match s.seat.bow, s.seat.stroke with
  | some b, some t => allLanes.find? (fun l => decide (l ≠ b ∧ l ≠ t))
  | _, _ => s.seat.spare

/-- The lane whose vote drives both switches while sculling. -/
def scullLane (s : State) : Option Lane := if s.seat.scullBow then s.seat.bow else s.seat.stroke

def seatVote (s : State) (o : Option Lane) : Option Vote := o.bind (fun l => rxVote (s.mgr l).rx)

/-- The votes a lane's vote is compared with: both seated ones, or the remaining one. -/
def seatedVotes (s : State) : List (Option Vote) :=
  if s.seat.state = .sculling then [seatVote s (scullLane s)] else [seatVote s s.seat.bow, seatVote s s.seat.stroke]

/-- A lane's vote agrees with every seated vote, all present. -/
def agreesNow (s : State) (l : Lane) : Bool :=
  match rxVote (s.mgr l).rx with
  | none => false
  | some v => (seatedVotes s).all (fun w => decide (w = some v))

/-- A lane's vote equals every other present vote (LANE_AGREE.RUN). -/
def agreesAll (s : State) (l : Lane) : Bool :=
  match rxVote (s.mgr l).rx with
  | none => false
  | some v => allLanes.all (fun k => match rxVote (s.mgr k).rx with
    | none => true
    | some w => decide (w = v))

/-- The counts of one lane at step 6. -/
def tallyLane (s : State) (l : Lane) : LaneMgr :=
  let m := s.mgr l
  let owed := owesVote s.seat.cycle m
  { m with
    agree := if owed && agreesNow s l then m.agree + 1 else if owed then 0 else m.agree,
    agreeRun := if agreesAll s l then sat 0xFFFF m.agreeRun else 0,
    late := if owed && isMissing m.rx then (m.late + 1) &&& 0xFFFF else m.late }

/-- The agreements and late counts of the cycle (R53, R72). -/
def tally (s : State) : State :=
  let missed := (allLanes.filter (fun l => owesVote s.seat.cycle (s.mgr l) && isMissing (s.mgr l).rx)).length
  { s with seat := { s.seat with
      lanes := ⟨tallyLane s .l1, tallyLane s .l2, tallyLane s .l3⟩,
      votes := ⟨rxVote (s.mgr .l1).rx, rxVote (s.mgr .l2).rx, rxVote (s.mgr .l3).rx⟩,
      cntLate := s.seat.cntLate + BitVec.ofNat 32 missed } }

/-! ## Failures and lanes going out (R67, R68) -/

def notRetired (s : State) (l : Lane) : Bool := decide ((s.mgr l).phase ≠ .retired)

/-- The stamps within 24 h of `now`. -/
def within24h (now : Nat) (ts : List Nat) : List Nat := ts.filter (fun t => decide (now - t < dayTicks))

/-- A lane counts one failure; the second within 24 h retires it and raises LANE_RETIRED. -/
def countFailure (l : Lane) (cause : Nat) (s : State) : State :=
  let m := s.mgr l
  if m.phase = .retired then s
  else
    let fails := s.timeNow :: within24h s.timeNow m.fails
    let m1 := { m with fails := fails, lastCause := cause, lastFail := some s.timeNow }
    if 2 ≤ fails.length then
      report 36 codeLaneRetired 0
        (dropSlice (laneNo l) (s.setMgr l { m1 with phase := .retired, isOut := false, sliceReq := false, agree := 0 }))
    else s.setMgr l m1

/-- A lane that is not retired is out and its retest is requested (R68). -/
def takeOut (l : Lane) (s : State) : State :=
  let m := s.mgr l
  if m.phase = .retired then s
  else s.setMgr l { m with phase := .out, isOut := true, agree := 0, sliceReq := true, sliceResult := none,
                           recheck := none, copyFrom := none }

/-- A lane takes a seat. -/
def seatLane (l : Lane) (s : State) : State :=
  dropSlice (laneNo l) (s.setMgr l { s.mgr l with phase := .seated, isOut := false, sliceReq := false, recheck := none,
                                                  sliceResult := none })

/-- A command of the seat manager to a lane, a class 0x2 frame in the command window (R40): 1 abort, 2 take the state copy, 3
test yourself. The spec gives no layout of its data word (DESIGN CHOICE, log entry 121). -/
def seatCommand (kind : Nat) (l : Lane) (s : State) : State :=
  sendFrame 0x001 2 [pack [(laneNo l, 0, 2), (kind, 8, 8)]] s

/-! ## The rows of the table (R56) -/

/-- The seated lane whose last pass is older; a tie goes to the Bow seat (R59). -/
def outgoing (s : State) : Option Lane :=
  match s.seat.bow, s.seat.stroke with
  | some b, some t =>
    match (s.mgr b).lastPass, (s.mgr t).lastPass with
    | some x, some y => if y < x then some t else some b
    | some _, none => some t
    | none, _ => some b
  | b, _ => b

/-- The state in which the manager runs with outputs (every state but START and LOCKOUT). -/
def running (st : SeatState) : Bool := decide (st ≠ .start) && decide (st ≠ .lockout)

/-- A lane in any stage between its abort or passed slice and its seat. -/
def inResync (m : LaneMgr) : Bool :=
  match m.phase with
  | .shadow | .aborting | .ready | .copying _ | .agreeing _ => true
  | _ => false

/-- The lane withdraws, or misses a vote it owes. -/
def failsNow (s : State) (l : Lane) : Bool :=
  match (s.mgr l).rx with
  | .withdraw _ => inResync (s.mgr l)
  | r => isMissing r && owesVote s.seat.cycle (s.mgr l)

/-- The scheduled sculling limit in cycles (R65), and the cycles sculled so far. -/
def scullOver (s : State) : Bool :=
  match s.seat.scullSince with
  | some c => decide (s.seat.state = .sculling) && decide (8 * s.img.scullMs ≤ s.seat.cycle - c)
  | none => false

/-- Rotation period in cycles and in ticks (R57). -/
def rotCycles (s : State) : Nat := s.img.rotMin * 480000
def rotTicks (s : State) : Nat := s.img.rotMin * 60 * secTicks

/-- A lane has passed a full self-test within the last rotation period (R58). -/
def passedLately (s : State) (l : Lane) : Bool :=
  match (s.mgr l).lastPass with
  | some t => decide (s.timeNow - t ≤ rotTicks s)
  | none => false

/-- A request for a slice of the lane stands. -/
def sliceWanted (s : State) (l : Lane) : Bool := (s.mgr l).sliceReq || (s.unit (laneNo l)).pending

/-- A lane has been tested, reloaded, and reports (rows 17 and 21). -/
def laneReady (s : State) (l : Lane) : Bool :=
  let m := s.mgr l
  decide (m.phase = .start) && m.tested && m.loaded && (s.laneD l).faulty.isNone && (s.laneD l).image.isSome

/-- The lanes that are not retired. -/
def activeLanes (s : State) : List Lane := allLanes.filter (notRetired s)

def sameDigest (s : State) (ls : List Lane) : Bool :=
  ls.all (fun a => ls.all (fun b => decide ((s.laneD a).digest = (s.laneD b).digest)))

/-- The outvoted lane of a crab that the Spare resolves (R66). -/
def outvoted (elig : Bool) (s : State) : Option Lane :=
  if s.seat.state = .rowing ∧ elig then
    match seatVote s s.seat.bow, seatVote s s.seat.stroke, seatVote s s.seat.spare with
    | some b, some t, some v => if v = b then s.seat.stroke else if v = t then s.seat.bow else none
    | _, _, _ => none
  else none

/-- The conditions of rows 17 and 21 on the lanes, the lines and HOLD. -/
def startReady (s : State) : Bool :=
  (activeLanes s).all (laneReady s) && sameDigest s (activeLanes s) && decide (s.linesLow = 0) && !s.seat.holdInForce

/-- SCLK or TCLK of the field die is out of range: the seat manager cannot change state (R419). -/
def seatFrozen (s : State) : Bool := s.sys.clkOut.getLsbD 9 || s.sys.clkOut.getLsbD 12

/-- The row of R56 that applies at step 6, by its number; 0 where none does. `elig`: the Spare was eligible before
this cycle. Row 18 is judged first, row 20 after rows 1 to 4. In RESYNC entered by the skip of R58 the Spare still shadows,
and SPARE_DISAGREE is R54's there too: row 9 then applies, though the table names it for ROWING only (DEDUCED, log entry
124). -/
def rowOf (elig : Bool) (s : State) : Nat :=
  let q := s.seat
  let st := q.state
  let gone (o : Option Lane) : Bool := match o with
    | some l => (goneCause (s.mgr l).rx).isSome
    | none => false
  let third := thirdLane s
  let thirdFails := match third with
    | some l => failsNow s l
    | none => false
  let thirdAgreed := match third with
    | some l => decide (4 ≤ (s.mgr l).agree) && recheckOk (s.mgr l) && owesVote q.cycle (s.mgr l)
    | none => false
  let one := gone q.bow != gone q.stroke
  let result := q.spare.bind (fun l => (s.mgr l).sliceResult)
  let spareDiffers := match q.spare with
    | some l => decide ((s.mgr l).phase = .shadow) && !agreesNow s l
    | none => false
  if running st && decide (s.linesLow = 0xF) then 18
  else if running st && gone q.bow && gone q.stroke then 1
  else if decide (st = .sculling) && (gone (scullLane s) || thirdFails) then 2
  else if decide (st = .sculling) && (match third with
      | some l => owesVote q.cycle (s.mgr l) && (rxVote (s.mgr l).rx).isSome && !agreesNow s l
      | none => false) then 3
  else if scullOver s then 4
  else if running st && q.holdReq then 20
  else if running st && decide (st ≠ .sculling) && !gone q.bow && !gone q.stroke &&
      decide (seatVote s q.bow ≠ seatVote s q.stroke) then 5
  else if decide (st = .rowing) && one && elig &&
      (match q.spare with
        | some l => decide (rxVote (s.mgr l).rx = seatVote s (if gone q.bow then q.stroke else q.bow))
        | none => false) then 6
  else if (decide (st = .rowing) || decide (st = .testing) || decide (st = .resync)) && one then 7
  else if (decide (st = .recovering) || decide (st = .twoOar)) && one then 8
  else if (decide (st = .rowing) && (thirdFails || spareDiffers)) || (decide (st = .resync) && !thirdFails && spareDiffers) then 9
  else if decide (st = .sculling) && thirdAgreed then 10
  else if decide (st = .resync) && thirdAgreed then 11
  else if decide (st = .rowing) && q.step && !s.bist.ctrlFail &&
      (match q.spare with
        | some l => passedLately s l || !sliceWanted s l
        | none => false) then 12
  else if decide (st = .testing) && decide (result = some true) then 13
  else if decide (st = .testing) && decide (result = some false) then 14
  else if decide (st = .recovering) && thirdAgreed then 15
  else if decide (st = .recovering) && (match third with
      | some l => decide ((s.mgr l).phase = .retired)
      | none => false) then 16
  else if decide (st = .start) && decide ((activeLanes s).length = 3) && startReady s then 17
  else if decide (st = .lockout) && q.lorAccepted && decide (2 ≤ (activeLanes s).length) then 19
  else if decide (st = .start) && decide ((activeLanes s).length = 2) && decide (q.rotAt ≠ 0) && startReady s then 21
  else if (decide (st = .resync) || decide (st = .recovering)) && thirdFails then 22
  else 0

/-! ## What the rows do -/

/-- The manager enters a state by a row; SEAT_LAST_EVT and SEAT_LAST_TIME record it. -/
def enterState (st : SeatState) (row : Nat) (l : Option Lane) (s : State) : State :=
  { s with seat := { s.seat with state := st, lastEvt := row, lastLane := laneNum l, lastCycle := s.seat.cycle,
                                 lastTime := s.timeNow } }

def setDue (b t p : Option Lane) (s : State) : State := { s with seat := { s.seat with due := some (b, t, p) } }

/-- A step in progress is deferred (R58, R65). A step whose slice failed (row 14) or whose resynchronisation failed (row 22) is
deferred too and resumes in ROWING: the spec says so only of deferred instants and aborted slices (DESIGN CHOICE, log
entry 123). -/
def deferStep (s : State) : State :=
  { s with seat := { s.seat with step := s.seat.step || s.seat.change, change := false } }

/-- Every lane that is not retired waits for its retest and reload (R70); a running slice completes. -/
def startLanes (request : Bool) (s : State) : State :=
  allLanes.foldl (fun t l =>
    let m := t.mgr l
    if m.phase = .retired then t
    else t.setMgr l { m with phase := .start, isOut := false, agree := 0, tested := false, loaded := false,
                             sliceReq := request, sliceResult := none, recheck := none, copyFrom := none }) s

/-- LOCKOUT: every output off at the next boundary, a running lane slice aborted (R335). -/
def lockOut (row : Nat) (l : Option Lane) (s : State) : State :=
  let s1 := allLanes.foldl (fun t k => dropSlice (laneNo k) (abortSlice (laneNo k) t)) s
  let s2 := startLanes false s1
  setDue none none none (enterState .lockout row l
    { s2 with seat := { s2.seat with
        scullSince := none, departed := none, lorAccepted := false, change := false, step := false } })

/-- At the entry to START every filtered state is off and every count is 0 (R102). -/
def clearFilters (s : State) : State :=
  (List.range 64).foldl (fun t n => t.setSi n { t.si n with level := false, runLevel := false, run := 0 }) s

/-- Every block of every lane is at its start value again, as at boot (R70, R80, R134). -/
def clearBlocks (s : State) : State :=
  allLanes.foldl (fun t l => t.setLane l { t.laneD l with blocks := [], sig := [], evaluated := none, buf := none }) s

/-- START: by row 19 the retests of R70 are requested; by row 20 they follow the HOLD release (R379). -/
def enterStart (row : Nat) (request : Bool) (s : State) : State :=
  let s1 := clearBlocks (startLanes request (startChannels (clearFilters s)))
  setDue none none none (enterState .start row none
    { s1 with seat := { s1.seat with
        scullSince := none, departed := none, lorAccepted := false, change := false, step := false } })

/-- The cause for which a lane counts a failure in this cycle (R67), whatever row applies: a withdrawal that has not been
counted yet, or a vote that it owes and that is missing. -/
def failureOf (s : State) (l : Lane) : Option Nat :=
  match (s.mgr l).rx with
  | .withdraw c => if (s.mgr l).gone then none else some c
  | r => if isMissing r && owesVote s.seat.cycle (s.mgr l) then some 0 else none

/-- A lane's failure of this cycle is counted. -/
def countGone (s : State) (l : Lane) : State :=
  match failureOf s l with
  | some c =>
    let s1 := countFailure l c s
    s1.setMgr l { s1.mgr l with gone := match (s.mgr l).rx with | .withdraw _ => true | _ => (s1.mgr l).gone }
  | none => s

def seatLoss (row : Nat) (l : Option Lane) (s : State) : State := report 0 codeSeatLoss 0 (lockOut row l s)

/-- The entry of a fresh run from START (rows 17 and 21): start values everywhere, HOLD's shut-downs met. -/
def beginRun (s : State) : State :=
  let s2 := unholdGroups (clearBlocks s)
  let ms := s2.sys.releaseMs + s2.now / 100000
  { s2 with
            sec := { s2.sec with power := if s2.sec.power = 2 then 0 else s2.sec.power },
            nvm := { s2.nvm with rowingMs := if s2.nvm.rowingMs = 0 then ms else s2.nvm.rowingMs },
            seat := { s2.seat with firstCycle := s2.seat.cycle + 1, step := false, change := false },
            fld := { s2.fld with lor := { s2.fld.lor with accepted := false } } }

/-- The action of row `row` of R56. -/
def applyRow (elig : Bool) (row : Nat) (s : State) : State :=
  let q := s.seat
  let gone (o : Option Lane) : Bool := match o with
    | some l => (goneCause (s.mgr l).rx).isSome
    | none => false
  let left := if gone q.bow then q.bow else q.stroke
  let third := thirdLane s
  match row with
  | 18 => lockOut 18 none s
  | 1 => seatLoss 1 none s
  | 2 => seatLoss 2 (if gone (scullLane s) then scullLane s else third) s
  | 3 => report 0 codeCrab 0 (lockOut 3 third { s with seat := { q with cntCrab := q.cntCrab + 1 } })
  | 4 => report 0 codeScullTimeout 0 (lockOut 4 none s)
  | 20 => let t := enterStart 20 false s; { t with sec := { t.sec with power := 2 } }
  | 5 =>
    let s1 := { s with seat := { q with cntCrab := q.cntCrab + 1 } }
    match outvoted elig s, q.spare with
    | some o, some p =>
      let s2 := seatLane p (takeOut o (countFailure o 0x10 s1))
      let s3 := enterState .recovering 5 (some o)
        (setDue (if q.bow = some o then some p else q.bow) (if q.stroke = some o then some p else q.stroke) none (deferStep s2))
      emit { line := 36, code := codeCrab, res := true, time := s3.timeNow } s3
    | _, _ => report 0 codeCrab 0 (lockOut 5 none s1)
  | 6 =>
    match left, q.spare with
    | some o, some p =>
      let s2 := seatLane p (takeOut o s)
      enterState .recovering 6 (some o)
        (setDue (if q.bow = some o then some p else q.bow) (if q.stroke = some o then some p else q.stroke) none (deferStep s2))
    | _, _ => s
  | 7 =>
    match left with
    | some o =>
      let s1 := takeOut o s
      let s2 := match q.spare with
        | some p => if notRetired s1 p then seatCommand 1 p (dropSlice (laneNo p)
              (s1.setMgr p { s1.mgr p with phase := .aborting, agree := 0, sliceReq := false })) else s1
        | none => s1
      let s3 := deferStep s2
      setDue (if q.bow = some o then none else q.bow) (if q.stroke = some o then none else q.stroke) q.spare
        (enterState .sculling 7 (some o) { s3 with seat := { s3.seat with
          scullSince := some (q.cycle + 1), scullBow := decide (q.bow ≠ some o), departed := some o,
          cntScull := q.cntScull + 1 } })
    | none => s
  | 8 => seatLoss 8 left s
  | 9 =>
    match q.spare with
    | some p =>
      let s1 := if gone q.spare then s else report 36 codeSpareDisagree 0 (countFailure p 0x11 s)
      setDue q.bow q.stroke none (enterState .recovering 9 (some p) (deferStep (takeOut p (dropSlice (laneNo p) s1))))
    | none => s
  | 10 =>
    match third with
    | some p =>
      let s1 := enterState .recovering 10 (some p) (seatLane p s)
      setDue (if q.scullBow then q.bow else some p) (if q.scullBow then some p else q.stroke) none
        { s1 with seat := { s1.seat with scullSince := none, departed := none } }
    | none => s
  | 11 =>
    match third with
    | some p =>
      if q.change then
        match outgoing s with
        | some o =>
          let s1 := seatLane p s
          let s2 := s1.setMgr o { s1.mgr o with phase := .shadow, recheck := none }
          setDue (if q.bow = some o then some p else q.bow) (if q.stroke = some o then some p else q.stroke) (some o)
            (enterState .rowing 11 (some p) { s2 with seat := { s2.seat with change := false, cntChange := q.cntChange + 1 } })
        | none => s
      else setDue q.bow q.stroke (some p) (enterState .rowing 11 (some p) (s.setMgr p { s.mgr p with phase := .shadow }))
    | none => s
  | 12 =>
    match q.spare with
    | some p =>
      if passedLately s p then
        enterState .resync 12 (some p) { s with seat := { q with step := false, change := true } }
      else s.setMgr p { s.mgr p with sliceReq := true }
    | none => s
  | 13 =>
    match q.spare with
    | some p => enterState .resync 13 (some p) (s.setMgr p { s.mgr p with phase := .ready, sliceResult := none, agree := 0 })
    | none => s
  | 14 =>
    match q.spare with
    | some p => setDue q.bow q.stroke none (enterState .recovering 14 (some p) (deferStep (takeOut p s)))
    | none => s
  | 15 =>
    match third with
    | some p => setDue q.bow q.stroke (some p)
        (enterState .rowing 15 (some p) (s.setMgr p { s.mgr p with phase := .shadow, isOut := false, recheck := none }))
    | none => s
  | 16 => setDue q.bow q.stroke none (enterState .twoOar 16 third { s with seat := { q with step := false, change := false } })
  | 17 =>
    let s1 := seatLane .l2 (seatLane .l1 (s.setMgr .l3 { s.mgr .l3 with phase := .shadow, agree := 0 }))
    let s2 := enterState .rowing 17 none (beginRun s1)
    setDue (some .l1) (some .l2) (some .l3) { s2 with seat := { s2.seat with rotAt := q.cycle + rotCycles s } }
  | 19 => enterStart 19 true s
  | 21 =>
    match activeLanes s with
    | [a, b] => setDue (some a) (some b) none (enterState .twoOar 21 none (beginRun (seatLane b (seatLane a s))))
    | _ => s
  | 22 =>
    match third with
    | some p => setDue q.bow q.stroke none (enterState .recovering 22 (some p) (deferStep (takeOut p s)))
    | none => s
  | _ => s

/-! ## The command window (R40, R60) -/

/-- The source of a lane's state copy: the remaining seat (R64), the outgoing lane (R59), or the Bow lane (R68). -/
def copySource (s : State) : Option Lane :=
  if s.seat.state = .sculling then scullLane s
  else if s.seat.state = .resync then outgoing s
  else match s.seat.due with
    | some (b, _, _) => b
    | none => s.seat.bow

/-- A lane whose slice passed its retest waits for its copy (R68). -/
def retestPassed (l : Lane) (s : State) : State :=
  let m := s.mgr l
  if m.isOut then
    match m.sliceResult with
    | some true => s.setMgr l { m with phase := .ready, sliceResult := none, agree := 0 }
    | some false => if m.phase = .retired then s.setMgr l { m with sliceResult := none }
                    else s.setMgr l { m with phase := .out, sliceResult := none, sliceReq := true }
    | none => s
  else s

/-- The vote of a lane being resynchronised disagrees with agreeing seated votes: it restarts at step 1 (R63). -/
def copyAgain (l : Lane) (s : State) : State :=
  let m := s.mgr l
  if (s.seat.state = .resync ∨ s.seat.state = .recovering) ∧ owesVote s.seat.cycle m ∧ m.phase ≠ .seated ∧ m.phase ≠ .shadow ∧
      (rxVote m.rx).isSome ∧ !agreesNow s l then
    s.setMgr l { m with phase := .ready, agree := 0 }
  else s

/-- The copy of a lane that is ready is ordered for the next boundary (R60 step 1). -/
def orderCopy (l : Lane) (s : State) : State :=
  let m := s.mgr l
  if m.phase = .ready ∧ (s.seat.state = .sculling ∨ s.seat.state = .resync ∨ s.seat.state = .recovering) then
    match copySource s with
    | some src =>
      let s1 := s.setMgr l { m with phase := .copying (s.seat.cycle + 1), copyFrom := some src, agree := 0 }
      seatCommand 2 l (resetSources 0x001 (laneSrcs l) s1)
    | none => s
  else s

/-- A copy that did not complete in its cycle is ordered again (R63). -/
def staleCopy (l : Lane) (s : State) : State :=
  match (s.mgr l).phase with
  | .copying c => if c ≤ s.seat.cycle then s.setMgr l { s.mgr l with phase := .ready } else s
  | _ => s

/-! ## Aborting the Spare (R64, R335) -/

/-- The abort command reaches a lane: its slice stops, and where memory was under test the segment's re-check is owed
(R62). -/
def abortCommand (l : Lane) (s : State) : State :=
  if (s.mgr l).phase = .aborting ∧ s.bist.running = some (laneNo l) then
    let owed := !inLbist s (laneNo l)
    let s1 := abortSlice (laneNo l) s
    s1.setMgr l { s1.mgr l with recheck := if owed then some false else none }
  else s

/-- The abort is complete: the lane is ready to receive its copy. -/
def abortComplete (l : Lane) (s : State) : State :=
  if (s.mgr l).phase = .aborting then
    let s1 := abortCommand l s
    s1.setMgr l { s1.mgr l with phase := .ready, sliceResult := none }
  else s

def execSpareAbortCommand (l : Lane) (s : State) : Host.Outcome State Fault Refusal := run s (abortCommand l)
def execSpareAbortComplete (l : Lane) (s : State) : Host.Outcome State Fault Refusal := run s (abortComplete l)

/-! ## The schedule (R57, R58) -/

/-- A rotation instant is due; the next one keeps the schedule. -/
def rotationDue (s : State) : Bool := decide (s.seat.rotAt ≠ 0) && decide (s.seat.rotAt ≤ s.seat.cycle)

def rotationInstant (s : State) : State :=
  { s with seat := { s.seat with step := true, rotAt := s.seat.rotAt + rotCycles s } }

def execRotationInstant (s : State) : Host.Outcome State Fault Refusal :=
  run s (fun s => whenever (rotationDue s) rotationInstant s)

/-! ## Step 6 -/

/-- The deadline tick of the present cycle. -/
def deadlineTick (s : State) : Nat := s.t0 + 11000

/-- Step 6 of a cycle (R18, R50 to R70): aborts that have run to their end, the due rotation instant, the counts, one
row of the table, then the commands of the window. -/
def stepSix (s : State) : State :=
  let s0 := allLanes.foldl (fun t l => abortComplete l t) (advance (deadlineTick s) s)
  let s1 := whenever (rotationDue s0) rotationInstant s0
  let elig := match s1.seat.spare with
    | some l => isEligible (s1.mgr l)
    | none => false
  let s2 := tally s1
  let row := if seatFrozen s2 then 0 else rowOf elig s2
  let s3 := applyRow elig row (allLanes.foldl countGone s2)
  let s4 := if row = 0 then allLanes.foldl (fun t l => copyAgain l t) s3 else s3
  let s5 := allLanes.foldl (fun t l => orderCopy l (staleCopy l (retestPassed l t))) s4
  { s5 with seat := { s5.seat with judged := true } }

/-- The vote deadline is due once in each cycle. -/
def voteDeadline (s : State) : State := if s.seat.judged then s else stepSix s

/-! ## Two-oar time (R69) and the failure window (R68) -/

def twoOarDue (s : State) : Bool := !s.seat.stopReq && decide (s.img.twoOarH * hourTicks ≤ s.seat.twoOarTicks) &&
  decide (s.seat.state = .twoOar)

def twoOarLimit (s : State) : State :=
  report 36 codeTwoOarLimit 0 { s with seat := { s.seat with stopReq := true } }

def execTwoOarLimit (s : State) : Host.Outcome State Fault Refusal :=
  run s (fun s => whenever (twoOarDue s) twoOarLimit s)

/-- The failures older than 24 h no longer count (R67, R68). -/
def failureExpiry (l : Lane) (s : State) : State :=
  s.setMgr l { s.mgr l with fails := within24h s.timeNow (s.mgr l).fails }

def execFailureWindowExpiry (l : Lane) (s : State) : Host.Outcome State Fault Refusal := run s (failureExpiry l)

end Sys2Proof.Machine
end

