-- ==== Sys2Proof/Machine/Sin.lean ====
section
/-!
DEFINITION. Safety inputs, test pulses and the monitors of the three field supplies (R99 to R123, R163), and the lock-out
release qualifier of the field die (R142, R143, R379).
-/
namespace Sys2Proof.Machine

open Sys2Proof

/-! ## Settings -/

def tpCfg (s : State) (k : Nat) : TpCfg := look {} s.img.tp k

/-- The generator pulses (R105). -/
def isPulse (s : State) (k : Nat) : Bool := decide ((tpCfg s k).mode = .pulse)

/-- The generator that pulses an input, if any. -/
def siGen (s : State) (n : Nat) : Option Nat := (siCfg s.img n).gen

/-- The foreign check applies to the input (R110). -/
def hasForeign (s : State) (n : Nat) : Bool :=
  match (siCfg s.img n).gen with
  | some _ => true
  | none => decide ((siCfg s.img n).extUs ≤ 150)

/-- A sag of VFLD_IN is active (R121). -/
def sagIn (s : State) : Bool := s.fld.vin.low || s.fld.vin.missing

/-- Slot `q` lies in the masked slots of generator `k` (R109). -/
def maskedBy (s : State) (k q : Nat) : Bool :=
  match (s.tp k).pulse with
  | some p => decide (p ≤ q) && decide (q ≤ p + 8)
  | none => false

/-- The sample at slot `q` of an input is masked. -/
def siMasked (s : State) (n q : Nat) : Bool :=
  match siGen s n with
  | some k => maskedBy s k q
  | none => false

/-- The window of a pulse that began at `p` is judged: wholly after the start of the slot count, no sag now, and its
pre sample after the last recovery (R121, R122). -/
def judgedWindow (s : State) (p : Nat) : Bool := !sagIn s && decide (1 ≤ p) && decide (s.fld.judgeFrom ≤ p - 1)

/-- The sample of slot `x` in a history whose newest sample is that of slot `q`. -/
def histAt {w : Nat} (h : BitVec w) (q x : Nat) : Bool := h.getLsbD (q - x)

/-- A generator carries a diagnosis. -/
def genDiag (t : Tp) : Bool := t.stuck || t.overload

/-- The diagnosis latched on the input itself (R113); while both are, IN_SHORT_VFLD is the one shown (DESIGN CHOICE, log entry
135). -/
def Si.code (x : Si) : Nat := if x.short then codeInShort else if x.cross then codeTpCross else 0

/-- The diagnosis an input carries in the image: its generator's takes precedence (R111). -/
def siCodeNow (s : State) (n : Nat) : Nat :=
  let own := (s.si n).code
  match siGen s n with
  | some k => if (s.tp k).stuck then codeTpStuck else if (s.tp k).overload then codeTpOverload else own
  | none => own

/-! ## The filter (R102) -/

/-- An unmasked raw sample: the count of consecutive samples at its level. -/
def countSample (v : Bool) (max : Nat) (level : Bool) (run : Nat) : Bool × Nat :=
  if v = level then (level, sat max run) else (v, 1)

def filterDue (s : State) (n : Nat) : Bool :=
  let x := s.si n
  decide ((siCfg s.img n).filter ≤ x.run) && decide (x.runLevel ≠ x.level)

def filterChange (n : Nat) (s : State) : State := s.setSi n { s.si n with level := (s.si n).runLevel }

def execInputFilterChange (n : Nat) (s : State) : Host.Outcome State Fault Refusal :=
  run s (fun s => whenever (filterDue s n) (filterChange n) s)

/-! ## Diagnoses of generators and inputs (R110 to R114) -/

/-- A diagnosis of generator `k` is declared: every input it pulses carries it (R111), so the windows that would clear a
diagnosis of such an input count anew (R113), and a short of it seen in this cycle is not declared as well (R123). -/
def inputsCarry (k : Nat) (s : State) : State :=
  (List.range 64).foldl (fun t n =>
    if siGen t n = some k then t.setSi n { t.si n with okWins := 0, crossOk := 0, failedAt := none } else t) s

/-- TP_STUCK is declared once (R110). -/
def declareStuck (k : Nat) (s : State) : State :=
  let t := s.tp k
  let s1 := s.setTp k { t with stuck := true, failed := true, passRun := 0 }
  if t.stuck then s1 else report 37 codeTpStuck k (inputsCarry k s1)

def overloadDue (s : State) (k : Nat) : Bool :=
  let t := s.tp k
  !sagIn s && decide ((tpCfg s k).mode ≠ .off) && !t.overload && (decide (2 ≤ t.zeroRun) || decide (2 ≤ t.limRun))

def overload (k : Nat) (s : State) : State :=
  report 37 codeTpOverload k (inputsCarry k (s.setTp k { s.tp k with overload := true, passRun := 0, staticRun := 0 }))

def execTpOverload (k : Nat) (s : State) : Host.Outcome State Fault Refusal :=
  run s (fun s => whenever (overloadDue s k) (overload k) s)

/-- IN_SHORT_VFLD of an input that has failed a check sample, with the time of that sample. The declaration comes with the end of
the cycle, because a failing readback of the generator in the same cycle leaves the generator's diagnosis only (R123;
DEDUCED, log entry 136). -/
def declareShort (n : Nat) (s : State) : State :=
  let x := s.si n
  match x.failedAt with
  | none => s
  | some at' =>
    let s1 := s.setSi n { x with short := true, failedAt := none, count := x.count + 1, okWins := 0,
                                 crossOk := if x.short then x.crossOk else 0 }
    if x.short then s1 else emit { line := 37, code := codeInShort, detail := n, time := at' } s1

/-- TP_CROSS in a foreign window of generator `k` that ends at slot `q`. -/
def declareCross (n k q : Nat) (s : State) : State :=
  let x := s.si n
  let again := x.cross
  let near := again && decide (q - x.crossFrom < s.img.tpPeriod + s.img.walkW)
  let s1 := s.setSi n { x with
    cross := true, gen := if near then min x.gen k else if again then x.gen else k, count := x.count + 1,
    okWins := if again then x.okWins else 0, crossFrom := q, crossSeen := false, crossOk := 0 }
  if again then s1 else report 37 codeTpCross n s1

/-- One input at the sample of slot `q`: raw sample, filter count, own-pulse check, and the periods of TP_CROSS. -/
def sampleSi (v : Bool) (q n : Nat) (s : State) : State :=
  let x := s.si n
  let h := (x.hist <<< 1) ||| (if v then 1 else 0)
  let (lv, run) := if siMasked s n q then (x.runLevel, x.run) else countSample v 32 x.runLevel x.run
  let s1 := s.setSi n { x with hist := h, runLevel := lv, run := run }
  let s2 := match siGen s1 n with
    | none => s1
    | some k =>
      match (s1.tp k).pulse with
      | none => s1
      | some p =>
        if (s1.tp k).window && judgedWindow s1 p && histAt h q (p - 1) && decide (p + 1 ≤ q) && decide (q ≤ p + 6) then
          let before := (List.range (q - (p + 1))).any (fun i => histAt h q (p + 1 + i))
          if v && !before && !genDiag (s1.tp k) then s1.setSi n { s1.si n with failedAt := some s1.timeNow }
          else if !v && !before && decide (q = p + 6) then
            let y := s1.si n
            let ok := y.okWins + 1
            s1.setSi n { y with okWins := ok, short := y.short && decide (ok < 2) }
          else s1
        else s1
  let y := s2.si n
  if y.cross ∧ y.crossFrom + (s2.img.tpPeriod + s2.img.walkW) ≤ q ∧ !sagIn s2 then
    let ok := if y.crossSeen then y.crossOk + 1 else 0
    s2.setSi n { y with
      crossFrom := q, crossSeen := false, crossOk := ok, cross := decide (ok < 2),
      gen := if 2 ≤ ok then 0 else y.gen }
  else s2

/-- One generator at the sample of slot `q`: `v` its readback, `lim` its current limit. -/
def sampleTp (v lim : Bool) (q k : Nat) (s : State) : State :=
  let t := s.tp k
  let h := (t.hist <<< 1) ||| (if v then 1 else 0)
  let hl := (t.limHist <<< 1) ||| (if lim then 1 else 0)
  let live := decide ((tpCfg s k).mode ≠ .off) && !sagIn s && s.fld.slotOn
  let masked := maskedBy s k q
  let zr := if !live then 0 else if masked then t.zeroRun else if v then 0 else sat 2 t.zeroRun
  let lr := if !live then 0 else if masked then t.limRun else if lim then sat 2 t.limRun else 0
  let bad := decide (2 ≤ zr) || decide (2 ≤ lr)
  let st := if decide ((tpCfg s k).mode = .staticOn) && live && v && !lim then t.staticRun + 1 else 0
  let clear := decide ((tpCfg s k).mode = .staticOn) && decide (2 * s.img.tpPeriod ≤ st)
  let s1 := s.setTp k { t with
    hist := h, limHist := hl, zeroRun := zr, limRun := lr, staticRun := min st (2 * s.img.tpPeriod),
    passRun := if bad then 0 else t.passRun, overload := t.overload && !clear }
  match t.pulse with
  | none => s1
  | some p =>
    if t.window && judgedWindow s1 p && decide (p + 1 ≤ q) && decide (q ≤ p + 6) then
      if v then declareStuck k s1
      else if q ≠ p + 6 then s1
      else
        let u := s1.tp k
        let n := if !t.failed && histAt h q (p - 1) && !histAt hl q (p - 1) then u.passRun + 1 else 0
        if 2 ≤ n then s1.setTp k { u with passRun := n, stuck := false, overload := false }
        else s1.setTp k { u with passRun := n }
    else s1

/-! ## Test pulses (R105, R106, R115) -/

def pulseDue (s : State) (k : Nat) : Bool :=
  s.fld.slotOn && isPulse s k && decide ((s.tp k).next ≤ s.slot) && decide (s.fld.sub < 4)

/-- The off-pulse begins; after every I-th the next one, and the offset, walk by W. -/
def pulseBegin (k : Nat) (s : State) : State :=
  let t := s.tp k
  let n := t.pulses + 1
  let walk := decide (n % max 1 s.img.walkI = 0)
  let w := if walk then s.img.walkW else 0
  s.setTp k { t with
    pulse := some t.next, window := true, failed := false, pulses := n, next := t.next + s.img.tpPeriod + w,
    offset := (t.offset + w) % s.img.tpPeriod, walks := if walk ∧ 0 < s.img.walkW then t.walks + 1 else t.walks }

/-- The slot the module is physically in (R101). -/
def slotNow (s : State) : Nat := s.fld.slotBase + (s.now - s.t0) / slotTicks

/-- The output of generator `k` (R105, R106): none while it is not driven; off for the 8 slots of an off-pulse, which always
runs to its end; otherwise high. -/
def tpOutput (s : State) (k : Nat) : Option Bool :=
  match (tpCfg s k).mode with
  | .off => none
  | .staticOn => some true
  | .pulse => some (match (s.tp k).pulse with
    | some p => !(decide (p ≤ slotNow s) && decide (slotNow s < p + 8))
    | none => true)

def execTestPulseBegin (k : Nat) (s : State) : Host.Outcome State Fault Refusal :=
  run s (fun s => whenever (pulseDue s k) (pulseBegin k) s)

/-- Slot of the last sample taken. -/
def lastSlot (s : State) : Nat := s.slot - 1

/-- The post sample of the window of generator `k` has been taken. -/
def windowDue (s : State) (k : Nat) : Bool :=
  let t := s.tp k
  t.window && (match t.pulse with
    | some p => decide (p + 9 ≤ lastSlot s) && decide (1 ≤ s.slot)
    | none => false)

/-- The foreign check on one input in the window of generator `k` that began at slot `p` (R110). -/
def foreignInput (k p n : Nat) (s : State) : State :=
  let x := s.si n
  let q := lastSlot s
  let at' (y : Nat) : Bool := histAt x.hist q y
  let clash := match siGen s n with
    | some g => ([p - 1, p + 1, p + 2, p + 3, p + 4, p + 5, p + 6, p + 9]).any (fun y => maskedBy s g y)
    | none => false
  if siGen s n ≠ some k ∧ hasForeign s n ∧ judgedWindow s p ∧ at' (p - 1) ∧ at' (p + 9) ∧ !clash then
    if (List.range 6).all (fun i => !at' (p + 1 + i)) then declareCross n k (p + 9) s
    else if x.cross ∧ x.gen = k then s.setSi n { x with crossSeen := true }
    else s
  else s

/-- R110: the window is complete; the foreign checks are judged. -/
def windowEnd (k : Nat) (s : State) : State :=
  match (s.tp k).pulse with
  | none => s
  | some p =>
    let s1 := s.setTp k { s.tp k with window := false }
    (List.range 64).foldl (fun t n => foreignInput k p n t) s1

def execTestPulseWindowEnd (k : Nat) (s : State) : Host.Outcome State Fault Refusal :=
  run s (fun s => whenever (windowDue s k) (windowEnd k) s)

/-! ## Field supplies (R163, R121) -/

def supplyNo : Supply → Nat
  | .vin => 0 | .v1 => 1 | .v2 => 2

def supplyLine : Supply → Nat
  | .vin => 37 | _ => 38

/-- The groups a supply feeds (R162). -/
def supplyGroups : Supply → List Group
  | .vin => [] | .v1 => [.sog1, .ciog1] | .v2 => [.sog2, .ciog2]

/-- One reading of a supply: its counts of consecutive samples. -/
def sampleSupply (r : SupplyReading) (v : Supply) (s : State) : State :=
  let x := s.supply v
  let b192 := decide (r.band ≠ .above192)
  let b160 := decide (r.band = .below160 ∨ r.band = .below100)
  let b100 := decide (r.band = .below100)
  let up := if b192 then 0 else sat 3201 x.up
  s.setSupply v { x with
    volt := r.volt, n192 := if b192 then 1 else 0, n160 := if b160 then sat 66 x.n160 else 0,
    n100 := if b100 then sat 66 x.n100 else 0, up := up, warn := x.warn && b192,
    recov := !b192 && decide (up < 3201) && (x.low || x.missing || !x.once) }

def warnDue (s : State) (v : Supply) : Bool := decide (1 ≤ (s.supply v).n192) && !(s.supply v).warn

/-- VFLD_LOW, the warning. -/
def supplyWarn (v : Supply) (s : State) : State :=
  report (supplyLine v) codeVfldLow 0 (s.setSupply v { s.supply v with warn := true })

def sagDue (s : State) (v : Supply) : Bool := decide (66 ≤ (s.supply v).n160) && !(s.supply v).low

/-- VFLD_LOW: the sag shuts both groups of the supply down. -/
def supplySag (v : Supply) (s : State) : State :=
  let s1 := s.setSupply v { s.supply v with low := true }
  let s2 := (supplyGroups v).foldl (fun t g => groupCause g (fun y => { y with sag := true }) t) s1
  report (supplyLine v) codeVfldLow 0 s2

def missingDue (s : State) (v : Supply) : Bool := decide (66 ≤ (s.supply v).n100) && !(s.supply v).missing

def supplyMissing (v : Supply) (s : State) : State :=
  let s1 := s.setSupply v { s.supply v with missing := true }
  let s2 := (supplyGroups v).foldl (fun t g => groupCause g (fun y => { y with missing := true }) t) s1
  report (supplyLine v) codeVfldMissing 0 s2

def recoveryDue (s : State) (v : Supply) : Bool :=
  let x := s.supply v
  decide (3201 ≤ x.up) && (x.low || x.missing || !x.once)

/-- The recovery condition: the re-enable request of both groups; for VFLD_IN, normal decoding from the next image and
judged windows whose pre sample falls from now on. -/
def supplyRecovery (v : Supply) (s : State) : State :=
  let s1 := s.setSupply v { s.supply v with low := false, missing := false, recov := false, once := true }
  match v with
  | .vin => { s1 with fld := { s1.fld with judgeFrom := s1.slot } }
  | _ => (supplyGroups v).foldl (fun t g => groupMet g (fun y => { y with sag := false, missing := false }) t) s1

def execVfldLowWarning (v : Supply) (s : State) : Host.Outcome State Fault Refusal :=
  run s (fun s => whenever (warnDue s v) (supplyWarn v) s)
def execVfldSag (v : Supply) (s : State) : Host.Outcome State Fault Refusal :=
  run s (fun s => whenever (sagDue s v) (supplySag v) s)
def execVfldMissing (v : Supply) (s : State) : Host.Outcome State Fault Refusal :=
  run s (fun s => whenever (missingDue s v) (supplyMissing v) s)
def execVfldRecovery (v : Supply) (s : State) : Host.Outcome State Fault Refusal :=
  run s (fun s => whenever (recoveryDue s v) (supplyRecovery v) s)

/-! ## The lock-out release qualifier (R142, R143, R379) -/

/-- The open history of the armed qualifier is met in the image at hand. -/
def lorHistDue (s : State) : Bool :=
  let x := s.fld.lor
  x.armed && !x.st.hist && x.st.stuck.isNone && reached x.st.openSince 400 s.fld.image.cycle

def lorHist (s : State) : State :=
  { s with fld := { s.fld with lor := { s.fld.lor with st := { s.fld.lor.st with hist := true } } } }

def execLorOpenHistory (s : State) : Host.Outcome State Fault Refusal :=
  run s (fun s => whenever (lorHistDue s) lorHist s)

/-- The qualifier is armed at this boundary: for a lock-out release after an accepted clearing, for a HOLD release
after an accepted RUN request while UMP_STATUS_LO is 0. -/
def lorArm (s : State) : State :=
  let x := s.fld.lor
  if x.arming then
    { s with fld := { s.fld with lor := { x with arming := false, armed := true, forHold := false, st := {} } } }
  else if x.holdRun && !x.armed && decide (s.ump.lo = 0) && decide (s.seat.state ≠ .lockout) && s.seat.holdInForce then
    { s with fld := { s.fld with lor := { x with armed := true, forHold := true, st := {} } } }
  else s

/-- An acceptance: of a lock-out release, the seat manager in LOCKOUT may enter START (row 19); of a HOLD release, START retests
and reloads the lanes. -/
def lorAccept (s : State) : State :=
  let x := s.fld.lor
  if x.forHold then
    let s1 := startLanes true { s with fld := { s.fld with lor := { x with armed := false, accepted := true, holdRun := false, st := {} } } }
    { s1 with seat := { s1.seat with holdInForce := false } }
  else
    { s with fld := { s.fld with lor := { x with armed := false, accepted := true, awaited := false, st := {} } },
             seat := { s.seat with lorAccepted := decide (s.seat.state = .lockout) } }

/-- One cycle of the terminal on the frozen image (R142): the armed qualifier judges it, and presses that are void or
ignored while a release is awaited are counted. -/
def lorCycle (s : State) : State :=
  let im := s.fld.image
  let x := s.fld.lor
  let n := s.img.lorTerm
  let rin := siVal s.img im [] n
  let blind := im.sagIn || siDiagnosed s.img im [] n
  let starts := rin && !x.pressed
  let awaited := x.awaited || s.seat.holdInForce
  if s.fld.safety.isNone then s
  else if x.armed then
    let (st, acc) := evalPress s.img.lorMode im.cycle rin blind x.st
    let voidPress := starts && !(match st.press with | some (_, v) => v | none => false)
    let ignored := !rin && !acc && decide (s.img.lorMode = .native) &&
      (match x.st.press with | some (_, v) => v | none => false)
    let lor := { x with
      st := { st with hist := st.hist && x.st.hist }, pressed := rin,
      void := if awaited && (voidPress || ignored) then x.void + 1 else x.void }
    let s1 := { s with fld := { s.fld with lor := lor } }
    if acc then lorAccept s1 else s1
  else
    { s with fld := { s.fld with lor := { x with pressed := rin, void := if awaited && starts then x.void + 1 else x.void } } }

/-- A new lock-out cause or HOLD request disarms the qualifier. A valid press in progress is ignored thereby, and counts
(R142). -/
def lorDisarm (s : State) : State :=
  let x := s.fld.lor
  let cut := x.armed && x.st.press.any Prod.snd && (x.awaited || s.seat.holdInForce)
  { s with fld := { s.fld with lor := { x with armed := false, arming := false, holdRun := false, st := {},
                                               void := if cut then x.void + 1 else x.void } } }

end Sys2Proof.Machine
end

