-- ==== Sys2Proof/Machine/Sout.lean ====
section
/-!
DEFINITION. The safe outputs (R148 to R157): applying the votes, readback, off-pulses, diagnoses, and the output
watchdog (R166).
-/
namespace Sys2Proof.Machine

open Sys2Proof

/-- A given off-pulse of SOk is in progress (R152). -/
def pulseActive (s : State) (k : Nat) : Bool :=
  let x := s.so k
  x.window && (match x.pulse with
    | some p => decide (slotNow s < p + 4)
    | none => false)

/-- Switch A and switch B of SOk as commanded, off-pulses and holds included (SOUT_SW). -/
def switchA (s : State) (k : Nat) : Bool :=
  let x := s.so k
  x.cmdA && !x.hold && (s.group (soGroup k)).good && !s.fld.wd.tripped && !(pulseActive s k && !x.swB)
def switchB (s : State) (k : Nat) : Bool :=
  let x := s.so k
  x.cmdB && !x.hold && (s.group (soGroup k)).good && !s.fld.wd.tripped && !(pulseActive s k && x.swB)

/-! ## Off-pulses (R152 to R154) -/

def soPulse (s : State) (k : Nat) : Bool := (look {} s.img.so k).pulse

def outPulseDue (s : State) (k : Nat) : Bool :=
  s.fld.slotOn && soPulse s k && decide ((s.so k).next ≤ s.slot) && decide (s.fld.sub < 4)

/-- A scheduled pulse: given on the switch in turn where the output is energised, skipped otherwise, and counted for the
walk either way. -/
def outPulseBegin (k : Nat) (s : State) : State :=
  let x := s.so k
  let n := x.sched + 1
  let w := if n % max 1 s.img.walkI = 0 then s.img.walkW else 0
  let y := { x with sched := n, next := x.next + s.img.tpPeriod + w, offset := (x.offset + w) % s.img.tpPeriod }
  if x.on then
    s.setSo k { y with pulse := some x.next, window := true, swB := x.nextB, nextB := !x.nextB, given := x.given + 1 }
  else s.setSo k y

def execOutputPulseBegin (k : Nat) (s : State) : Host.Outcome State Fault Refusal :=
  run s (fun s => whenever (outPulseDue s k) (outPulseBegin k) s)

def outPulseEndDue (s : State) (k : Nat) : Bool :=
  let x := s.so k
  x.window && (match x.pulse with
    | some p => decide (p + 5 ≤ lastSlot s) && decide (1 ≤ s.slot)
    | none => false)

/-- OUT_CROSS on an output, its partner named; it replaces OUT_SHORT_VFLD (R156). -/
def declareOutCross (k partner : Nat) (s : State) : State :=
  let x := s.so k
  let s1 := s.setSo k { x with code := codeOutCross, partner := partner, count := x.count + 1, cleanRun := 0, highSeen := true }
  if x.code = codeOutCross then s.setSo k { x with count := x.count + 1, cleanRun := 0, highSeen := true }
  else report 38 codeOutCross k s1

/-- The foreign check of output `j` in the window of SOk that began at slot `p` (R154). -/
def crossCheck (k p j : Nat) (s : State) : State :=
  let x := s.so j
  let q := lastSlot s
  if j ≠ k ∧ !x.on ∧ histAt x.hist q (p - 1) ∧ histAt x.hist q (p + 5) ∧ !histAt x.hist q (p + 3) then
    declareOutCross k j (declareOutCross j k s)
  else s

/-- The end of a given off-pulse's window. Its pre sample must have read high. -/
def outPulseEnd (k : Nat) (s : State) : State :=
  match (s.so k).pulse with
  | none => s
  | some p =>
    let s1 := s.setSo k { s.so k with window := false }
    if decide (1 ≤ p) && histAt (s.so k).hist (lastSlot s) (p - 1) then (List.range 12).foldl (fun t j => crossCheck k p j t) s1
    else s1

def execOutputPulseEnd (k : Nat) (s : State) : Host.Outcome State Fault Refusal :=
  run s (fun s => whenever (outPulseEndDue s k) (outPulseEnd k) s)

/-! ## Readback (R151) -/

/-- Slot `q` is one of the masked slots of the output's given pulse. -/
def outMasked (x : So) (q : Nat) : Bool :=
  match x.pulse with
  | some p => decide (p ≤ q) && decide (q ≤ p + 4)
  | none => false

/-- One reading of SOk at slot `q`: its level, current and limit, and what they decide. -/
def sampleSo (r : SoReading) (q k : Nat) (s : State) : State :=
  let x := s.so k
  let h := (x.hist <<< 1) ||| (if r.high then 1 else 0)
  let offJudged := !x.on && decide (x.changed + 10200 ≤ s.now)
  let onJudged := x.on && decide (x.changed + 14062 ≤ s.now) && !outMasked x q
  let check := x.window && x.on && (match x.pulse with
    | some p => decide (q = p + 3) && decide (1 ≤ p) && histAt h q (p - 1) && r.high
    | none => false)
  let offHigh := offJudged && r.high
  s.setSo k { x with
    hist := h, high := r.high, mA := r.mA, limit := r.limit,
    limRun := if r.limit then sat 128 x.limRun else 0,
    shortDue := x.shortDue || offHigh || check, highSeen := x.highSeen || offHigh,
    stuckDue := x.stuckDue || (onJudged && !r.high && !r.limit),
    openRun := if onJudged then (if r.mA < 5 then sat 32 x.openRun else 0) else x.openRun,
    openLoad := x.openLoad && !(onJudged && decide (5 ≤ r.mA)) }

/-! ## Diagnoses (R155, R156) -/

def outShortDue (s : State) (k : Nat) : Bool := (s.so k).shortDue

/-- OUT_SHORT_VFLD: reported when it is declared; a latched OUT_CROSS stands. -/
def outShort (k : Nat) (s : State) : State :=
  let x := s.so k
  if x.code = codeOutShort ∨ x.code = codeOutCross then s.setSo k { x with shortDue := false }
  else report 38 codeOutShort k
    (s.setSo k { x with shortDue := false, code := codeOutShort, partner := 0, count := x.count + 1, cleanRun := 0, highSeen := true })

def execOutShortVfld (k : Nat) (s : State) : Host.Outcome State Fault Refusal :=
  run s (fun s => whenever (outShortDue s k) (outShort k) s)

def outStuckDue (s : State) (k : Nat) : Bool := (s.so k).stuckDue

/-- Both switches are held off until the output has been commanded off for one cycle; a latched OUT_SHORT_VFLD or OUT_CROSS
stands beside it (R156). -/
def outHold (code k : Nat) (s : State) : State :=
  let x := s.so k
  report 38 code k (refreshSo (s.setSo k { x with
    stuckDue := false, limRun := 0, hold := true, offCycle := false, holdCode := code, count := x.count + 1 }) k)

def outStuck (k : Nat) (s : State) : State :=
  if (s.so k).hold then s.setSo k { s.so k with stuckDue := false } else outHold codeOutStuckOff k s

def execOutStuckOff (k : Nat) (s : State) : Host.Outcome State Fault Refusal :=
  run s (fun s => whenever (outStuckDue s k) (outStuck k) s)

def outOverloadDue (s : State) (k : Nat) : Bool := decide (128 ≤ (s.so k).limRun) && !(s.so k).hold

def execOutOverload (k : Nat) (s : State) : Host.Outcome State Fault Refusal :=
  run s (fun s => whenever (outOverloadDue s k) (outHold codeOutOverload k) s)

def openLoadDue (s : State) (k : Nat) : Bool := decide (32 ≤ (s.so k).openRun) && !(s.so k).openLoad

/-- OUT_OPEN_LOAD, a warning shown in SOUT_CODEn where no other diagnosis is. -/
def outOpenLoad (k : Nat) (s : State) : State :=
  let x := s.so k
  report 38 codeOutOpenLoad k (s.setSo k { x with openLoad := true, count := x.count + 1 })

def execOutOpenLoad (k : Nat) (s : State) : Host.Outcome State Fault Refusal :=
  run s (fun s => whenever (openLoadDue s k) (outOpenLoad k) s)

def outClearDue (s : State) (k : Nat) : Bool :=
  let x := s.so k
  (decide (x.code = codeOutShort) || decide (x.code = codeOutCross)) && decide (8 ≤ x.cleanRun)

def outClear (k : Nat) (s : State) : State := s.setSo k { s.so k with code := 0, partner := 0 }

def execOutDiagClear (k : Nat) (s : State) : Host.Outcome State Fault Refusal :=
  run s (fun s => whenever (outClearDue s k) (outClear k) s)

/-! ## The votes at a boundary (R51) -/

/-- What a boundary does to one output: the cycle just ended counts for its diagnoses and its hold, then the new command
applies. -/
def boundarySo (a b : Word) (s : State) (k : Nat) : State :=
  let x := s.so k
  let ends := x.hold && x.offCycle
  let ca := a.getLsbD k
  let cb := b.getLsbD k
  s.setSo k { x with
    hold := x.hold && !ends, holdCode := if ends then 0 else x.holdCode,
    cleanRun := if x.highSeen then 0 else sat 8 x.cleanRun, highSeen := false,
    cmdA := ca, cmdB := cb, offCycle := !(ca && cb) }

/-! ## The output watchdog (R166) -/

/-- At a boundary the watchdog notes whether a vote reached it in the cycle just ended. It counts from the first vote since
reset on (DEDUCED, log entry 84: in R352's start the lanes are in self-test and cannot vote, and the module reaches ROWING
without a clearing). -/
def watchdogCycle (s : State) : State :=
  let w := s.fld.wd
  let on := w.on || w.seen
  { s with fld := { s.fld with wd := { w with
      on := on, seen := false, missed := if w.seen || !on then 0 else min 2 (w.missed + 1),
      okRun := if w.seen then sat 8 w.okRun else 0 } } }

def wdTripDue (s : State) : Bool := decide (2 ≤ s.fld.wd.missed) && !s.fld.wd.tripped

/-- Every SO and OUTPUT_SAFE pin off, OUT_WD to the Umpire. -/
def wdTrip (s : State) : State :=
  report 1 codeOutWd 0 (refreshAll
    { s with fld := { s.fld with wd := { s.fld.wd with tripped := true, trips := s.fld.wd.trips + 1 } } })

def execOutputWatchdogTrip (s : State) : Host.Outcome State Fault Refusal := run s (fun s => whenever (wdTripDue s) wdTrip s)

def wdReleaseDue (s : State) : Bool := s.fld.wd.tripped && decide (8 ≤ s.fld.wd.okRun)

def wdRelease (s : State) : State :=
  refreshAll { s with fld := { s.fld with wd := { s.fld.wd with tripped := false } } }

def execOutputWatchdogRelease (s : State) : Host.Outcome State Fault Refusal :=
  run s (fun s => whenever (wdReleaseDue s) wdRelease s)

end Sys2Proof.Machine
end

