-- ==== Sys2Proof/Machine/Cio.lean ====
section
/-!
DEFINITION. Configurable pins (R167 to R171): sampling and readback, command and heartbeat frames, silence, and the host's
command registers (R173).
-/
namespace Sys2Proof.Machine

open Sys2Proof

def cioCfg (s : State) (n : Nat) : CioCfg := look {} s.img.cio n

/-- One reading of CIOn: the input filter, or the readback of an output. -/
def sampleCio (r : CioReading) (n : Nat) (s : State) : State :=
  let c := cioCfg s n
  let x := s.cio n
  match c.mode with
  | .input =>
    let (lv, run) := countSample r.raw 32 x.runLevel x.run
    s.setCio n { x with runLevel := lv, run := run, level := if c.filter ≤ run then lv else x.level }
  | _ =>
    let offHigh := !x.out && decide (x.changed + 10200 ≤ s.now) && r.high
    s.setCio n { x with
      high := r.high, lamp := decide (10 ≤ r.mA) || (x.lamp && decide (4 ≤ r.mA)),
      limRun := if r.limit then sat 128 x.limRun else 0, shortDue := x.shortDue || offHigh,
      highSeen := x.highSeen || r.high }

/-- A boundary for one pin: its hold and its diagnoses count the cycle just ended, an OUTPUT_SAFE pin takes the command of
both driving votes (R51), and a named OUTPUT_STD pin leaves silence (R171). `start` is the tick that cycle began at. -/
def boundaryCio (a b : Word) (start : Nat) (s : State) (n : Nat) : State :=
  let c := cioCfg s n
  let x := s.cio n
  let ends := x.held && x.offCycle
  let lowCycle := !x.out && decide (x.changed ≤ start) && !x.highSeen
  let clean := if lowCycle then sat 8 x.cleanRun else 0
  let y := { x with
    held := x.held && !ends, overload := x.overload && !ends, cleanRun := clean, highSeen := false,
    short := x.short && decide (clean < 8), silent := x.silent && !x.wake, wake := false }
  match c.mode with
  | .input => s
  | .outputSafe => s.setCio n { y with cmd := a.getLsbD n && b.getLsbD n, offCycle := !(a.getLsbD n && b.getLsbD n) }
  | .outputStd => s.setCio n { y with offCycle := !stdLevel c y }

/-! ## Silence (R171) -/

def silentDue (s : State) (n : Nat) : Bool :=
  let c := cioCfg s n
  let x := s.cio n
  decide (c.mode = .outputStd) && !x.silent && decide (8 * c.timeoutMs + 1 ≤ s.seat.cycle - x.since)

def cioSilence (n : Nat) (s : State) : State :=
  let c := cioCfg s n
  let y := { s.cio n with silent := true, wake := false, keep := stdLevel c (s.cio n) }
  report 38 codeCioSilent n (refreshCio (s.setCio n { y with offCycle := y.offCycle && !stdLevel c y }) n)

def execCioSilent (n : Nat) (s : State) : Host.Outcome State Fault Refusal :=
  run s (fun s => whenever (silentDue s n) (cioSilence n) s)

/-! ## Commands (R170) -/

/-- A frame of a source starts the measurement of each of its pins anew; one that comes in the cycle of N_hb + 1 is too
late for the pin. -/
def cioHeard (src : Nat) (s : State) : State :=
  (List.range 24).foldl (fun t n =>
    let c := cioCfg t n
    if c.mode = .outputStd ∧ c.src = src then
      let t1 := whenever (silentDue t n) (cioSilence n) t
      t1.setCio n { t1.cio n with since := t1.seat.cycle }
    else t) s

/-- One pin of a command frame: it takes its VALUE bit, a silent one from the next cycle on (R171), or the setting is refused
and counted. -/
def cioSet (src : Nat) (mask value : Word) (s : State) (n : Nat) : State :=
  if mask.getLsbD n then
    let c := cioCfg s n
    let x := s.cio n
    if c.mode = .outputStd ∧ c.src = src then
      let y := { x with cmd := value.getLsbD n, named := true, wake := x.silent }
      refreshCio (s.setCio n { y with offCycle := y.offCycle && !stdLevel c y }) n
    else { s with fld := { s.fld with cioRefused := satInc s.fld.cioRefused } }
  else s

/-- A pin setting of a command frame is refused (R170). -/
def cioRefuses (src : Nat) (mask : Word) (s : State) : Bool :=
  (List.range 24).any (fun n => mask.getLsbD n && !(decide ((cioCfg s n).mode = .outputStd) && decide ((cioCfg s n).src = src)))

/-- A command frame: class 0x2, MASK and VALUE. A refused setting of a host's frame counts in SYS_REFUSED as well (R10). -/
def cioCommand (src : Nat) (mask value : Word) (s : State) : State :=
  let s1 := (List.range 24).foldl (cioSet src mask value) (cioHeard src s)
  if (src = 0x410 ∨ src = 0x411) ∧ cioRefuses src mask s = true then refuse 0x00070414 s1 else s1

def execCioCommandFrame (src : Nat) (mask value : Word) (s : State) : Host.Outcome State Fault Refusal :=
  run s (hookedFrame src 2 0 (.cioCommandFrame src mask value) (cioCommand src mask value))

def execCioHeartbeatFrame (src : Nat) (s : State) : Host.Outcome State Fault Refusal :=
  run s (hookedFrame src 3 0 (.cioHeartbeatFrame src) (cioHeard src))

/-- The SRC of a host port's frames (R170), and its CIO_CMD_MASK. -/
def portSrc : Port → Nat
  | .spi => 0x410 | .udp _ => 0x411

/-- A write of CIO_CMD_VALUE sends a command frame with the port's last MASK; one of CIO_HEARTBEAT a heartbeat frame (R173). -/
def cioValueWrite (p : Port) (value : Word) (s : State) : State :=
  let m : Word := (look 0 s.fld.cioMask (portSrc p)).setWidth 32
  hookedFrame (portSrc p) 2 0 (.cioCommandFrame (portSrc p) m value) (cioCommand (portSrc p) m value) s
def cioBeatWrite (p : Port) (s : State) : State :=
  hookedFrame (portSrc p) 3 0 (.cioHeartbeatFrame (portSrc p)) (cioHeard (portSrc p)) s

def execCioCmdValueWrite (port : Port) (value : Word) (s : State) : Host.Outcome State Fault Refusal :=
  run s (cioValueWrite port value)

def execCioHeartbeatWrite (port : Port) (_value : Word) (s : State) : Host.Outcome State Fault Refusal :=
  run s (cioBeatWrite port)

/-! ## Overload and short (R160, R169) -/

def cioOverloadDue (s : State) (n : Nat) : Bool := decide (128 ≤ (s.cio n).limRun) && !(s.cio n).held

def cioOverload (n : Nat) (s : State) : State :=
  report 38 codeCioOverload n (refreshCio (s.setCio n { s.cio n with
    limRun := 0, held := true, offCycle := false, overload := true }) n)

def execCioOverload (n : Nat) (s : State) : Host.Outcome State Fault Refusal :=
  run s (fun s => whenever (cioOverloadDue s n) (cioOverload n) s)

def cioShortDue (s : State) (n : Nat) : Bool := (s.cio n).shortDue

def cioShort (n : Nat) (s : State) : State :=
  let x := s.cio n
  let s1 := s.setCio n { x with shortDue := false, short := true, cleanRun := 0 }
  if x.short then s1 else report 38 codeCioShort n s1

def execCioShortVfld (n : Nat) (s : State) : Host.Outcome State Fault Refusal :=
  run s (fun s => whenever (cioShortDue s n) (cioShort n) s)

end Sys2Proof.Machine
end

