-- ==== Sys2Proof/Machine/Umpire.lean ====
section
/-!
DEFINITION. The Umpire (R307 to R321): latching of reports, first source, merging, the forced-off lines, the self-checks,
ALIVE, and the clearing of status bits.
-/
namespace Sys2Proof.Machine

open Sys2Proof

/-- The scopes of the fault lines (R308, R309); lines 32 and above carry events and warnings. -/
inductive Scope where | group | lockout | start | event
  deriving DecidableEq, Repr

/-- Every code of a line below 32 has the line's scope (R309). -/
def lineScope (line : Nat) : Scope :=
  if 32 ≤ line then .event
  else if 2 ≤ line ∧ line ≤ 5 then .group
  else if 11 ≤ line ∧ line ≤ 13 then .start
  else .lockout

/-- SCOPE of a first-source record (R322). -/
def scopeNo : Scope → Nat
  | .group => 0 | .lockout => 1 | .start => 2 | .event => 3

/-- The lines of scope L or S in UMP_STATUS_LO. -/
def allGroupsMask : Word := 0x00007FC3#32
def lockoutMask : Word := 0x000047C3#32
def startMask : Word := 0x00003800#32

/-- The forced-off lines the Umpire asserts (R314, R315): all four from reset to the first passing self-check,
under FULL (R376) and while an L or S bit is set, otherwise those of the G bits. -/
def umpLines (u : Ump) : BitVec 4 :=
  if !u.booted || u.full || decide (u.lo &&& allGroupsMask ≠ 0) then 0xF else (u.lo >>> 2).setWidth 4

/-- The lines at the field die follow the Umpire's; its own assertion is released together with the Umpire's. -/
def linesFollow (s : State) : State :=
  let l := umpLines s.ump
  forcedLines l (s.fld.local' &&& l) s

/-- The field die's own detection on lines 2 to 7 (R316): the groups concerned are shut down at once. -/
def localAssert (gs : BitVec 4) (s : State) : State := forcedLines s.fld.forced (s.fld.local' ||| gs) s

/-- The handling window of R312, in ticks. -/
def windowTicks : Nat := 15000

/-- The first-source logic for one fault (R311 to R313). -/
def firstSource (r : Report) (now : Nat) (u : Ump) : Ump :=
  match u.first with
  | none => { u with
      first := some { line := r.line, code := r.code, scope := scopeNo (lineScope r.line), merged := 0, time := r.time },
      handling := some now }
  | some f =>
    match u.handling with
    | some h => if now < h + windowTicks then { u with first := some { f with merged := sat 63 f.merged } }
                else { u with ovf := true, later := sat 0xFFFF u.later }
    | none => { u with ovf := true, later := sat 0xFFFF u.later }

/-- The per-block registers of a line (R310). -/
def blkUpdate (r : Report) (u : Ump) : Ump :=
  { u with blk := upd {} u.blk r.line (fun b =>
      { code := r.code, count := b.count + 1, time := r.time, detail := r.detail, res := r.res }) }

/-- ALIVE keeps its level from the latch of an L or S bit (R318). -/
def aliveStop (s : State) : State :=
  if s.fld.aliveOn then { s with fld := { s.fld with aliveOn := false, aliveStops := s.fld.aliveStops + 1 } } else s

/-- A lock-out fault disarms the release qualifier, and a release is awaited (R142). -/
def lockoutFault (s : State) : State :=
  let s1 := lorDisarm s
  { s1 with fld := { s1.fld with lor := { s1.fld.lor with awaited := true } } }

/-- One report latches (R310 to R314), and is an event of the event queue (R407). -/
def latchOne (s : State) (r : Report) : State :=
  let u := blkUpdate r s.ump
  let s1 :=
    if 32 ≤ r.line then { s with ump := { u with hi := u.hi ||| BitVec.ofNat 32 (1 <<< (r.line - 32)) } }
    else
      let v := firstSource r s.now u
      let s2 := { s with ump := { v with lo := v.lo ||| BitVec.ofNat 32 (1 <<< r.line) },
                         host := { s.host with irqStat := s.host.irqStat ||| 2 } }
      match lineScope r.line with
      | .lockout => aliveStop (lockoutFault s2)
      | .start => aliveStop s2
      | _ => s2
  pushEvent 0x402 4 r.code [] r.time s1

/-- Reports in the order of their lines; those of one line keep their order. -/
def insertReport (r : Report) : List Report → List Report
  | [] => [r]
  | x :: xs => if r.line < x.line then r :: x :: xs else x :: insertReport r xs

def sortReports (rs : List Report) : List Report := rs.foldl (fun a r => insertReport r a) []

/-- The reports that wait latch on one Umpire clock edge, the lower line first (R311, R321). -/
def latchAll (s : State) : State :=
  match s.ump.reports with
  | [] => s
  | rs => linesFollow ((sortReports rs).foldl latchOne { s with ump := { s.ump with reports := [] } })

/-- R310, UMPIRE_ERROR_LATCH. -/
def execUmpireErrorLatch (s : State) : Host.Outcome State Fault Refusal := run s latchAll

/-! ## Self-checks (R317) -/

/-- The period of the fixed schedule, 10 ms in ticks, from the release of the module reset. -/
def checkTicks : Nat := 1000000

/-- The next self-check of the Umpire (0), of a group monitor (1 to 4) or of the field die (5) is due on the fixed schedule. -/
def checkDue (s : State) (k : Nat) : Bool := decide ((look 0 s.ump.checks k + 1) * checkTicks ≤ s.now)

/-- The check that has fallen due is spent, whether it runs now or is postponed; the schedule does not move. -/
def checkTaken (k : Nat) (s : State) : State :=
  { s with ump := { s.ump with checks := put 0 s.ump.checks k (look 0 s.ump.checks k + 1) } }

/-- A self-check at its place in the schedule; before it nothing happens. -/
def scheduled (k : Nat) (f : State → State) (s : State) : State := if checkDue s k then f (checkTaken k s) else s

/-- The Umpire's self-check runs, with its outcome. -/
def umpCheck (pass : Bool) (s : State) : State :=
  let u := s.ump
  let s1 := linesFollow { s with ump := { u with
    selfOk := pass, selfRuns := u.selfRuns + 1, booted := u.booted || pass, selfCause := !pass, selfPostponed := none } }
  if pass then s1 else report 14 codeUmpSelf 0 s1

/-- A handling window is open. -/
def handlingOpen (s : State) : Bool := s.ump.handling.isSome

/-- A check that falls due within a handling window waits for its end (R317). -/
def umpSelfCheck (pass : Bool) (s : State) : State :=
  if handlingOpen s then { s with ump := { s.ump with selfPostponed := some pass } } else umpCheck pass s

def execUmpSelfCheck (pass : Bool) (s : State) : Host.Outcome State Fault Refusal :=
  run s (scheduled 0 (umpSelfCheck pass))

def handlingDue (s : State) : Bool :=
  match s.ump.handling with
  | some h => decide (h + windowTicks ≤ s.now)
  | none => false

/-- The window closes; an error that latches on this edge is no longer merged (R312, R321). -/
def handlingClose (s : State) : State :=
  let s1 := latchAll { s with ump := { s.ump with handling := none } }
  match s1.ump.selfPostponed with
  | some pass => if handlingOpen s1 then s1 else umpCheck pass s1
  | none => s1

def execHandlingWindowClose (s : State) : Host.Outcome State Fault Refusal :=
  run s (fun s => whenever (handlingDue s) handlingClose s)

/-- A group monitor's self-check: a failing one raises GRP_MON_FAIL, and the group is shut down at once (R316). -/
def groupCheck (g : Group) (pass : Bool) (s : State) : State :=
  let bit : BitVec 4 := BitVec.ofNat 4 (1 <<< groupNo g)
  if pass then { s with ump := { s.ump with grpCause := s.ump.grpCause &&& ~~~bit } }
  else report (2 + groupNo g) codeGrpMonFail 0
    (localAssert bit { s with ump := { s.ump with grpCause := s.ump.grpCause ||| bit } })

def execGroupMonitorSelfCheck (g : Group) (pass : Bool) (s : State) : Host.Outcome State Fault Refusal :=
  run s (scheduled (1 + groupNo g) (groupCheck g pass))

/-- The field die's self-check: a failing one raises FLD_INTERNAL, and all four groups are shut down at once. -/
def fieldCheck (pass : Bool) (s : State) : State :=
  if pass then { s with ump := { s.ump with fldCause := false } }
  else report 6 codeFldInternal 0 (localAssert 0xF { s with ump := { s.ump with fldCause := true } })

def execFieldDieSelfCheck (pass : Bool) (s : State) : Host.Outcome State Fault Refusal :=
  run s (scheduled 5 (fieldCheck pass))

/-! ## Clearing (R319 to R321) -/

/-- The release temperature of DIE_OVERTEMP, in °C (R429). -/
def releaseTemp : Int := 110

/-- The cause of a latched fault line persists (R319). -/
def causePersists (s : State) (n : Nat) : Bool :=
  if n = 0 then decide ((activeLanes s).length < 2)
  else if n = 1 then false
  else if n ≤ 5 then s.ump.grpCause.getLsbD (n - 2)
  else if n = 6 then s.ump.fldCause
  else if n ≤ 8 then decide (s.sys.clkOut ≠ 0) || !s.sys.pllA || !s.sys.pllB
  else if n = 9 then s.sys.vsysCause || decide (s.sys.rails &&& 0x0F8 ≠ 0)
  else if n = 10 then s.sys.temps.any (fun t => decide (releaseTemp < t))
  else if n ≤ 13 then true
  else if n = 14 then s.ump.selfCause
  else false

/-- UMP_CAUSE_LO. -/
def causeWord (s : State) : Word :=
  (List.range 15).foldl (fun w n => if s.ump.lo.getLsbD n && causePersists s n then w ||| BitVec.ofNat 32 (1 <<< n) else w) 0

/-- A write of 1 to fault bit `n`: `busy` are the lines with an error on this edge. -/
def clearBit (busy : List Nat) (s : State) (n : Nat) : State :=
  if !s.ump.lo.getLsbD n then s
  else if handlingOpen s || busy.contains n || causePersists s n then
    { s with ump := { s.ump with clrLine := n, clrRefused := sat 0xFFFF s.ump.clrRefused } }
  else { s with ump := { s.ump with lo := s.ump.lo &&& ~~~(BitVec.ofNat 32 (1 <<< n)) } }

/-- An accepted clearing (R320): the record moves to UMP_PREV, and for a lock-out the qualifier is armed at the next
boundary. A release is awaited from the latching of a lock-out cause until acceptance, in START as well (R142). -/
def acceptClear (s : State) : State :=
  let s1 := { s with ump := { s.ump with prev := s.ump.first, first := none, ovf := false, later := 0 } }
  let x := s1.fld.lor
  if s1.seat.state = .lockout ∨ x.awaited then { s1 with fld := { s1.fld with lor := { x with arming := true } } } else s1

/-- A write to UMP_STATUS_LO: each bit is judged on its own, before the errors of the same edge latch (R321); a new
fault leaves the qualifier unarmed. A write with a refused bit is a refused access (R10). -/
def clearLo (bits : Word) (s : State) : State :=
  let busy := (s.ump.reports.filter (fun r => decide (r.line < 32))).map (·.line)
  let s0 := ((List.range 32).filter (fun n => bits.getLsbD n)).foldl (clearBit busy) s
  let s1 := if s0.ump.lo &&& bits = 0 then s0 else refuse 0x00010004 s0
  let s2 := if s.ump.lo ≠ 0 ∧ s1.ump.lo = 0 then acceptClear s1 else s1
  let s3 := if busy.isEmpty then s2
    else { s2 with fld := { s2.fld with lor := { s2.fld.lor with arming := s2.fld.lor.arming && s.fld.lor.arming } } }
  match s3.ump.reports with
  | [] => linesFollow s3
  | _ => latchAll s3

def execUmpStatusLoClear (_port : Port) (bits : Word) (s : State) : Host.Outcome State Fault Refusal := run s (clearLo bits)

/-- A write to UMP_STATUS_HI clears, with bit 0 also FAB_STATUS.LINK_FAIL (R45); the bit of an error on the same edge is set again. -/
def clearHi (bits : Word) (s : State) : State :=
  latchAll { s with ump := { s.ump with hi := s.ump.hi &&& ~~~bits },
                    fab := { s.fab with linkFail := if bits.getLsbD 0 then 0 else s.fab.linkFail } }

def execUmpStatusHiClear (_port : Port) (bits : Word) (s : State) : Host.Outcome State Fault Refusal := run s (clearHi bits)

/-! ## ALIVE at a boundary (R318) -/

/-- ALIVE runs from the first boundary in ROWING or TWO_OAR with no L or S bit, and changes level at every boundary
whose cycle number is a multiple of 4. -/
def aliveCycle (s : State) : State :=
  let f := s.fld
  let on := f.aliveOn || (decide (s.seat.state = .rowing ∨ s.seat.state = .twoOar) && decide (s.ump.lo &&& allGroupsMask = 0))
  { s with fld := { f with aliveOn := on, alive := if on && decide (s.seat.cycle % 4 = 0) then !f.alive else f.alive } }

end Sys2Proof.Machine
end

