-- ==== Sys2Proof/Machine/Nvm.lean ====
section
/-!
DEFINITION. The flash (R340 to R343), the image as its bytes spell it and the judgement of a bank (R344 to R348), and the
change log (R358 to R363).
-/
namespace Sys2Proof.Machine

open Sys2Proof

/-! ## The flash -/

/-- A byte of the flash; an erased byte reads 0xFF. -/
def flashAt (n : Nvm) (a : Nat) : Byte := look 0xFF n.mem a

def flashRead (n : Nvm) (a len : Nat) : List Byte := (List.range len).map (fun i => flashAt n (a + i))

def flashErase (n : Nvm) (a len : Nat) : Nvm :=
  { n with mem := n.mem.filter (fun e => decide (e.1 < a) || decide (a + len ≤ e.1)) }

/-- Bytes programmed from address `a` on: a program clears bits and sets none. -/
def flashProgram (n : Nvm) : Nat → List Byte → Nvm
  | _, [] => n
  | a, b :: bs => flashProgram { n with mem := put 0xFF n.mem a (flashAt n a &&& b) } (a + 1) bs

/-- The bank size BS (R343). -/
def bankSize (n : Nvm) : Nat := (2 ^ n.sizeLog2 - 0x120000) / 2

/-- The start of a bank: 0 is A, 1 is B. -/
def bankBase (n : Nvm) (b : Nat) : Nat := b * bankSize n

/-- A little-endian field of a byte string. -/
def field (h : List Byte) (off n : Nat) : Nat := ofLe ((h.drop off).take n)

/-! ## The image (R344, R345) -/

def hdrSeq (h : List Byte) : Nat := field h 0x08 4
def hdrLength (h : List Byte) : Nat := field h 0x0C 4
def hdrHmac (h : List Byte) : Bool := decide (field h 0x07 1 % 2 = 1)
def hdrRes (h : List Byte) : Nat := field h 0x06 1
def hdrPrev (h : List Byte) : Nat := field h 0xC4 4
def hdrAuth (h : List Byte) : Word := BitVec.ofNat 32 (field h 0xC8 4)

/-- OFFSET, SIZE and SCRC of section `i`: 0 SAFETY, 1 CM, 2 USER, 3 NET. -/
def secOff (h : List Byte) (i : Nat) : Nat := field h (0x14 + 16 * i) 4
def secSize (h : List Byte) (i : Nat) : Nat := field h (0x18 + 16 * i) 4
def secCrc (h : List Byte) (i : Nat) : Nat := field h (0x1C + 16 * i) 4

def secBytes (n : Nvm) (base : Nat) (h : List Byte) (i : Nat) : List Byte := flashRead n (base + secOff h i) (secSize h i)

/-- The sections lie within LENGTH and do not overlap. -/
def sectionsOk (h : List Byte) : Bool :=
  (List.range 4).all (fun i =>
    decide (secOff h i + secSize h i ≤ hdrLength h) &&
    (List.range i).all (fun j =>
      decide (secSize h i = 0) || decide (secSize h j = 0) ||
      decide (secOff h j + secSize h j ≤ secOff h i) || decide (secOff h i + secSize h i ≤ secOff h j)))

/-- The part of a header that Sprinbiser writes is valid (R346). -/
def imageHeadOk (bs : Nat) (h : List Byte) : Bool :=
  decide (field h 0 4 = 0x9640C0F6) && decide (field h 4 2 = 1) &&
  decide (field h 0xBC 4 = (crc32cBytes (h.take 0xBC)).toNat) && decide (hdrLength h ≤ bs) && sectionsOk h

/-- The commit record is valid. -/
def commitOk (h : List Byte) : Bool :=
  decide (field h 0xC0 4 = 0x3C9A51E7) && decide (field h 0xFC 4 = (crc32cBytes ((h.drop 0xC0).take 0x3C)).toNat)

def headerOk (bs : Nat) (h : List Byte) : Bool := imageHeadOk bs h && commitOk h

/-- The header of a bank. -/
def bankHeader (n : Nvm) (b : Nat) : List Byte := flashRead n (bankBase n b) 256

def bankHeaderOk (n : Nvm) (b : Nat) : Bool := n.usable && headerOk (bankSize n) (bankHeader n b)

/-- All section bytes in table order. -/
def allSections (n : Nvm) (base : Nat) (h : List Byte) : List Byte :=
  (List.range 4).flatMap (fun i => secBytes n base h i)

/-- The image key as the HMAC engine can read it (R373, R381). -/
def imageKeyOpen (s : State) : Option (List Byte) := if s.sys.keyClosed then none else s.otp.imageKey

/-- The tag of an image (R345). -/
def imageTag (key : List Byte) (n : Nvm) (base : Nat) (h : List Byte) : List Byte :=
  hmac key (h.take 0xBC ++ allSections n base h)

/-- The image's tag is checked and does not match. -/
def hmacFails (s : State) (base : Nat) (h : List Byte) : Bool :=
  match imageKeyOpen s with
  | some k => hdrHmac h && decide (flashRead s.nvm (base + hdrLength h - 32) 32 ≠ imageTag k s.nvm base h)
  | none => false

/-- R347: the bank is invalid through its authentication. -/
def hmacInvalid (s : State) (base : Nat) (h : List Byte) : Bool :=
  (s.otp.authReq && (!hdrHmac h || hmacFails s base h)) || (hdrHmac h && (imageKeyOpen s).isNone)

/-- FIELD_LEN lies outside its range (R345). -/
def fieldLenBad (safety : List Byte) : Bool :=
  let l := field safety 0 4
  decide (l < 4) || decide (65536 < l) || decide (l % 4 ≠ 0) || decide (safety.length < l + 4)

/-- Why the body of an image is not valid (R346), as CFG_BOOT.REASON numbers it; 0 where it is. -/
def bodyReason (s : State) (base : Nat) (h : List Byte) : Nat :=
  if (List.range 4).any (fun i => decide (secCrc h i ≠ (crc32cBytes (secBytes s.nvm base h i)).toNat)) then 2
  else if field h 0x50 4 ≠ (crc32cBytes (h.take 0x50 ++ allSections s.nvm base h)).toNat then 3
  else if hmacInvalid s base h then 4
  else if s.otp.small ∧ hdrRes h ≠ 0 then 6
  else if fieldLenBad (secBytes s.nvm base h 0) || Config.loadRefused (allSections s.nvm base h) then 7
  else 0

/-- Section `i` counts as changed against the other bank `y` (R348). -/
def secChanged (h : List Byte) (y : Option (List Byte)) (i : Nat) : Bool :=
  match y with
  | some g => if hdrSeq g = hdrPrev h then decide (secCrc h i ≠ secCrc g i) else true
  | none => true

/-- The bank carries the authority its changes need (R348). -/
def hasAuthority (h : List Byte) (y : Option (List Byte)) : Bool :=
  let a := hdrAuth h
  let slot := a.getLsbD 8
  (a.getLsbD 4 || !secChanged h y 0) && (slot || a.getLsbD 9 || !secChanged h y 1) &&
  (slot || (!secChanged h y 2 && !secChanged h y 3))

/-- The header of a bank where it is valid. -/
def validHeader (n : Nvm) (b : Nat) : Option (List Byte) := if bankHeaderOk n b then some (bankHeader n b) else none

/-- Why a bank is not valid (R346 to R348); 0 where it is. -/
def bankReason (s : State) (b : Nat) : Nat :=
  let h := bankHeader s.nvm b
  if !bankHeaderOk s.nvm b then 1
  else
    let r := bodyReason s (bankBase s.nvm b) h
    if r ≠ 0 then r else if hasAuthority h (validHeader s.nvm (1 - b)) then 0 else 5

/-- SEQ of the bank in force. -/
def inForceSeq (s : State) : Nat := if s.nvm.armed then hdrSeq (bankHeader s.nvm s.nvm.bank) else 0

/-- `a` is newer than `b` in serial arithmetic modulo 2³² (R349, R358). -/
def newer (a b : Nat) : Bool :=
  let d := (a + 4294967296 - b) % 4294967296
  decide (0 < d) && decide (d < 2147483648)

/-! ## The change log (R358 to R363) -/

def logBase (n : Nvm) (area : Nat) : Nat := 2 * bankSize n + area * 0x90000
def logHead (n : Nvm) (area : Nat) : Nat := logBase n area + 0x80000

/-- An area header is valid (R358). -/
def areaOk (n : Nvm) (area : Nat) : Bool :=
  let h := flashRead n (logHead n area) 64
  decide (field h 0 4 = 0x1A609640) &&
  decide (field h 0x3C 4 = (crc32cBytes (leBytes (logHead n area) 4 ++ h.take 0x3C)).toNat)

def areaGen (n : Nvm) (area : Nat) : Nat := field (flashRead n (logHead n area) 64) 4 4
def areaFirst (n : Nvm) (area : Nat) : Nat := field (flashRead n (logHead n area) 64) 8 4

/-- An area is erased and its header written. -/
def areaStart (area gen first : Nat) (n : Nvm) : Nvm :=
  let n1 := flashErase n (logBase n area) 0x81000
  let h := leBytes 0x1A609640 4 ++ leBytes gen 4 ++ leBytes first 4 ++ List.replicate 48 0
  flashProgram n1 (logHead n area) (h ++ leBytes (crc32cBytes (leBytes (logHead n area) 4 ++ h)).toNat 4)

def slotAddr (n : Nvm) (area slot : Nat) : Nat := logBase n area + 64 * slot
def slotBytes (n : Nvm) (area slot : Nat) : List Byte := flashRead n (slotAddr n area slot) 64

/-- A slot that holds nothing. -/
def slotBlank (n : Nvm) (area slot : Nat) : Bool := (slotBytes n area slot).all (fun b => decide (b = 0xFF))

/-- An entry's CRC matches (R359). -/
def slotOk (n : Nvm) (area slot : Nat) : Bool :=
  let e := slotBytes n area slot
  decide (field e 60 4 = (crc32cBytes (leBytes (slotAddr n area slot) 4 ++ e.take 60)).toNat)

/-- FREE: the slots that can be written (R361); none before the scan is complete. -/
def logFree (n : Nvm) : Nat := if n.logReady then 8192 - n.logNext + (if n.logOther then 8192 else 0) else 0

/-- UNEXPORTED. -/
def logUnexported (n : Nvm) : Nat := (n.logSeq + 4294967296 - n.logAck) % 4294967296

/-- LOG_FULL applies. -/
def logFull (n : Nvm) : Bool := n.logReady && decide (logFree n < 16)

/-- Every entry of the area that is not current is acknowledged: its erase begins (R361). -/
def logReclaim (n : Nvm) : Nvm :=
  if !n.logOther && !n.logErasing && decide ((n.logAck + 4294967296 - n.logFirst) % 4294967296 < 2147483648) then
    { n with logErasing := true }
  else n

def four (ws : List Word) : List Word := (ws ++ [0, 0, 0, 0]).take 4

/-- The fifteen words of an entry before its CRC (R359). -/
def entryWords (seq actor kind time : Nat) (param : Nat) (old new : List Word) (target : Nat) : List Word :=
  [BitVec.ofNat 32 seq, BitVec.ofNat 32 (actor + 256 * kind), BitVec.ofNat 32 time, BitVec.ofNat 32 (time / 4294967296),
   BitVec.ofNat 32 param] ++ four old ++ four new ++ [BitVec.ofNat 32 target, 0]

/-- The area that is not current becomes current where the current one is full and the other is ready. -/
def logTurn (n : Nvm) : Nvm :=
  if n.logNext = 8192 ∧ n.logOther then
    logReclaim { n with logArea := 1 - n.logArea, logNext := 0, logOther := false, logFirst := n.logSeq,
                        logGen := (n.logGen + 1) % 4294967296 }
  else n

/-- The address of the next slot, in the area that takes it. -/
def nextSlot (n : Nvm) : Nat :=
  let m := logTurn n
  slotAddr m m.logArea m.logNext

/-- The bytes of an entry for the next slot, its CRC folded with the slot's address (R359). -/
def entryBytes (actor kind param : Nat) (old new : List Word) (target : Nat) (s : State) : List Byte :=
  let ws := entryWords (logTurn s.nvm).logSeq actor kind s.timeNow param old new target
  (ws ++ [crc32c (BitVec.ofNat 32 (nextSlot s.nvm) :: ws)]).flatMap (fun w => leBytes w.toNat 4)

/-- An entry is programmed in the next slot; IRQ_STAT.LOG is set with LOG_STAT.FULL (R409). -/
def logAppend (actor kind param : Nat) (old new : List Word) (target : Nat) (s : State) : State :=
  let n := logTurn s.nvm
  let n1 := flashProgram n (nextSlot s.nvm) (entryBytes actor kind param old new target s)
  let n2 := { n1 with logNext := n.logNext + 1, logSeq := (n.logSeq + 1) % 4294967296 }
  { s with nvm := n2, host := if logFull n2 && !logFull s.nvm then { s.host with irqStat := s.host.irqStat ||| 8 } else s.host }

/-- The order of R360: the entry is programmed and read back, and only then the change is applied. An entry that does not read
back refuses the change with NVM_FAIL; its slot is spent, its number is not. -/
def logThen (actor kind param : Nat) (old new : List Word) (target : Nat) (refusal apply : State → State) (s : State) : State :=
  let bytes := entryBytes actor kind param old new target s
  let s1 := logAppend actor kind param old new target s
  if flashRead s1.nvm (nextSlot s.nvm) bytes.length = bytes then apply s1
  else refusal (report 49 codeNvmFail 0 { s1 with nvm := { s1.nvm with fail := true, logSeq := s.nvm.logSeq } })

/-- A seal change, a security event or an image commit is logged; where no slot is left it is counted (R361). -/
def logEvent (actor kind param : Nat) (old new : List Word) (s : State) : State :=
  if logFree s.nvm = 0 then { s with nvm := { s.nvm with logLost := satInc s.nvm.logLost } }
  else logAppend actor kind param old new 0 s

end Sys2Proof.Machine
end

