-- ==== Sys2Proof/Machine/Sec.lean ====
section
/-!
DEFINITION. Who may change what (R366 to R372): the seal, sessions and logins, and the one gate of every password-class
request. The lifecycle, the debug levels and the power states are in Debug.lean.
-/
namespace Sys2Proof.Machine

open Sys2Proof

/-! ## Refusals -/

/-- A request to the security block or a password-class request is refused (R372, R383): its code is raised on line 50,
and it is counted in SEC_REFUSED and as a refused access (R10). That report, with its event, is how R16's refused change is
logged: the change log takes what the rules name for it (DEDUCED, log entry 143). -/
def secRefuse (addr code : Nat) (s : State) : State :=
  let s1 := refuse addr s
  report 50 code 0 { s1 with sec := { s1.sec with refused := if s1.sec.refused = 0xFFFF then 0xFFFF else s1.sec.refused + 1,
                                                   lastCode := code } }

/-! ## Sessions (R370) -/

/-- The table key of a port. -/
def portKey : Port → Nat
  | .spi => 0
  | .udp p => p + 1

def sessionTicks : Nat := 600 * secTicks

/-- The session of a port, where it has not timed out. -/
def sessionOf (s : State) (p : Port) : Option Session :=
  s.sec.sessions.find? (fun x => decide (x.port = p) && decide (s.now ≤ x.last + sessionTicks))

def dropSession (p : Port) (s : State) : State :=
  { s with sec := { s.sec with sessions := s.sec.sessions.filter (fun x => decide (x.port ≠ p)) } }

/-- A password-class request renews its port's session. -/
def touchSession (p : Port) (s : State) : State :=
  { s with sec := { s.sec with sessions := s.sec.sessions.map (fun x => if x.port = p then { x with last := s.now } else x) } }

/-- The rights of R369. -/
def rightCm : Nat := 0
def rightUser : Nat := 1
def rightNet : Nat := 2
def rightOps : Nat := 3

def hasRight (s : State) (p : Port) (r : Nat) : Bool :=
  match sessionOf s p with
  | some x => x.rights.getLsbD r
  | none => false

def slotOf (s : State) (p : Port) : Nat :=
  match sessionOf s p with
  | some x => x.slot
  | none => 0

/-- Contexts 1 and 2 refuse every START while the known-answer test fails (R303). -/
def katBlocks (s : State) : Bool := s.crc.katFail

/-- The gate of a password-class request (R372, R360): the right, the value, the log, the entry in flash, and only then
the change. `kind` is 1 for a CM parameter, 2 for an operational command. -/
def gate (p : Port) (right : Nat) (valueOk : Bool) (kind addr : Nat) (old new : List Word) (apply : State → State)
    (s : State) : State :=
  let s1 := touchSession p s
  if !hasRight s p right || !valueOk then secRefuse addr codeAccessRefused s1
  else if !s.nvm.logReady || katBlocks s then secRefuse addr codeAccessRefused s1
  else if logFull s.nvm then secRefuse addr codeLogFull s1
  else if s.nvm.wp then
    secRefuse addr codeAccessRefused (report 49 codeNvmFail 0 { s1 with nvm := { s1.nvm with fail := true } })
  else
    let target := if kind = 1 then (inForceSeq s + 1) % 4294967296 else 0
    logThen (slotOf s p) kind addr old new target (secRefuse addr codeAccessRefused) apply s1

/-! ## The seal (R366 to R368) -/

/-- The seal is closed. -/
def sealClosed (s : State) : Bool := s.sec.sealA && s.sec.sealB && !s.sec.sealDisc

/-- The filtered states of A and B in bits 0 and 1. -/
def sealBits (s : State) : Word := pack [(if s.sec.sealA then 1 else 0, 0, 1), (if s.sec.sealB then 1 else 0, 1, 1)]

/-- The address of SEC_STATE, the identity under which seal changes are logged. -/
def addrSecState : Nat := 0x00110004

/-- Every change is raised, and logged once the log is ready (R367). -/
def sealReport (old : Word) (s : State) : State :=
  let s1 := report 50 codeSealChange 0 s
  if s1.nvm.logReady then logEvent 0xFE 4 addrSecState [old] [sealBits s1] s1 else s1

/-- The seal counts as closed throughout a write only while it stays closed (R368). -/
def sealWatch (s : State) : State :=
  if sealClosed s then s else { s with nvm := { s.nvm with wr := { s.nvm.wr with sealOk := false } } }

/-- A filtered state changes. -/
def sealChange (b closed : Bool) (s : State) : State :=
  let x := s.sec
  sealWatch (sealReport (sealBits s) { s with sec := { x with
    sealA := if b then x.sealA else closed, sealB := if b then closed else x.sealB, cntSeal := x.cntSeal + 1 } })

/-- One sample of an input: its filtered state changes after 20 consecutive agreeing samples. -/
def sealSample (b closed : Bool) (s : State) : State :=
  let x := s.sec
  let run := if closed = (if b then x.sealB else x.sealA) then 0 else (if b then x.sealRunB else x.sealRunA) + 1
  let s1 := { s with sec := { x with
    sealRunA := if b then x.sealRunA else run % 20, sealRunB := if b then run % 20 else x.sealRunB } }
  if run = 20 then sealChange b closed s1 else s1

/-- A discrepancy ends once both inputs have been open together for 20 samples; the samples at which the filtered states
differ are counted. -/
def sealRuns (a b : Bool) (s : State) : State :=
  let x := s.sec
  let o := if !a && !b then min 20 (x.sealOpenRun + 1) else 0
  { s with sec := { x with
    sealSamples := x.sealSamples + 1, sealOpenRun := o, sealDisc := x.sealDisc && decide (o < 20),
    sealDiffRun := if x.sealA = x.sealB then 0 else min 1000 (x.sealDiffRun + 1) } }

/-- The next sample of the two inputs is due: one every 1 ms. -/
def sealDue (s : State) : Bool := decide ((s.sec.sealSamples + 1) * 100000 ≤ s.now)

/-- The two inputs are sampled (R367). -/
def sealInputs (a b : Bool) (s : State) : State := sealRuns a b (sealSample true b (sealSample false a s))

def execSealInputChange (a b : Bool) (s : State) : Host.Outcome State Fault Refusal :=
  run s (fun s => whenever (sealDue s) (sealInputs a b) s)

/-- The filtered states have differed for 1,000 consecutive samples. -/
def sealDiscDue (s : State) : Bool := decide (s.sec.sealDiffRun = 1000) && !s.sec.sealDisc

def sealDiscSet (s : State) : State :=
  sealWatch (sealReport (sealBits s) { s with sec := { s.sec with sealDisc := true, cntDisc := s.sec.cntDisc + 1 } })

def execSealDisc (s : State) : Host.Outcome State Fault Refusal := run s (fun s => whenever (sealDiscDue s) sealDiscSet s)

/-! ## Logins (R370, R371) -/

def addrLogin : Nat := 0x00110020

def pwSlot (s : State) (k : Nat) : PwSlot := look {} s.nvm.net.slots k

def State.login (s : State) (p : Port) : LoginPort := look {} s.sec.ports (portKey p)
def State.setLogin (s : State) (p : Port) (v : LoginPort) : State :=
  { s with sec := { s.sec with ports := put {} s.sec.ports (portKey p) v } }
def State.slotCnt (s : State) (k : Nat) : SlotCnt := look {} s.sec.slots k
def State.setSlotCnt (s : State) (k : Nat) (v : SlotCnt) : State :=
  { s with sec := { s.sec with slots := put {} s.sec.slots k v } }

/-- Sixteen random bytes; the spec says that they are fresh, and not which. -/
def fresh16 (s : State) : List Byte × State :=
  let (a, s1) := fresh s
  let (b, s2) := fresh s1
  let (c, s3) := fresh s2
  let (d, s4) := fresh s3
  ([a, b, c, d].flatMap (fun w => leBytes w.toNat 4), s4)

def challenge (p : Port) (slot : Nat) (s : State) : State :=
  let (nonce, s1) := fresh16 s
  s1.setLogin p { s1.login p with slot := slot, salt := (pwSlot s1 slot).salt, nonce := some nonce, used := false, issued := s1.now }

def execLoginChallenge (port : Port) (slot : Nat) (s : State) : Host.Outcome State Fault Refusal :=
  run s (challenge port (slot % 8))

def nonceTicks : Nat := 10 * secTicks
def chalTicks : Nat := 60 * secTicks

/-- The slot is locked: a RESPOND on the tick at which the lock ends is judged. -/
def slotLocked (s : State) (k : Nat) : Bool :=
  match (s.slotCnt k).lockUntil with
  | some t => decide (s.now < t)
  | none => false

/-- The bytes that eight word registers hold, in little-endian word order. -/
def regBytes (t : Tab Word) : List Byte := (List.range 8).flatMap (fun i => leBytes (look 0 t i).toNat 4)

/-- A counted failure; the third in a row locks the slot for 60 s. -/
def loginFail (p : Port) (k : Nat) (s : State) : State :=
  let c := s.slotCnt k
  let s1 := s.setLogin p { s.login p with lastFail := true, used := true }
  if 2 ≤ c.fails then
    logEvent 0xFF 5 (0x00110080 + 4 * k) [] [1]
      (report 50 codePwdLock 0 (s1.setSlotCnt k { c with fails := 0, lockUntil := some (s.now + 60 * secTicks) }))
  else s1.setSlotCnt k { c with fails := c.fails + 1 }

/-- A matching response opens a session, at most four at a time. -/
def loginOpen (p : Port) (k : Nat) (s : State) : State :=
  let c := s.slotCnt k
  let s1 := dropSession p (s.setLogin p { s.login p with lastFail := false, used := true })
  let live := s1.sec.sessions.filter (fun x => decide (s.now ≤ x.last + sessionTicks))
  if 4 ≤ live.length then secRefuse addrLogin codeAccessRefused (s.setLogin p { s.login p with used := true, lastFail := true })
  else
    let s2 := s1.setSlotCnt k { c with fails := 0, lockUntil := none, logins := c.logins + 1 }
    { s2 with sec := { s2.sec with sessions := { port := p, slot := k, rights := (pwSlot s k).rights, last := s.now } :: live } }

/-- SEC_LOGIN with OP = RESPOND. -/
def respond (p : Port) (k : Nat) (s : State) : State :=
  let x := s.login p
  match x.nonce with
  | none => secRefuse addrLogin codeAccessRefused (s.setLogin p { x with lastFail := true })
  | some nonce =>
    if slotLocked s k || !(pwSlot s k).defined || decide (x.issued + nonceTicks ≤ s.now) then
      secRefuse addrLogin codeAccessRefused (s.setLogin p { x with lastFail := true })
    else if x.used || decide (regBytes x.resp ≠ hmac (pwSlot s k).hash (nonce ++ [BitVec.ofNat 8 k])) then loginFail p k s
    else loginOpen p k s

def execLoginRespond (port : Port) (slot : Nat) (s : State) : Host.Outcome State Fault Refusal :=
  run s (respond port (slot % 8))

def execLogout (port : Port) (s : State) : Host.Outcome State Fault Refusal := run s (dropSession port)

/-- The nonce of a port expires 10 s after its challenge, the debug challenge after 60 s. -/
def nonceExpiry (p : Option Port) (s : State) : State :=
  match p with
  | some q =>
    let x := s.login q
    if x.issued + nonceTicks ≤ s.now then s.setLogin q { x with nonce := none } else s
  | none => if s.sec.chalAt + chalTicks ≤ s.now then { s with sec := { s.sec with chal := none } } else s

def execNonceExpiry (port : Option Port) (s : State) : Host.Outcome State Fault Refusal := run s (nonceExpiry port)

/-- A session ends 600 s after its last password-class request; one on that tick is still judged (R382). -/
def sessionTimeout (p : Port) (s : State) : State :=
  let live := s.sec.sessions.filter (fun x => decide (x.port ≠ p) || decide (s.now ≤ x.last + sessionTicks))
  { s with sec := { s.sec with sessions := live } }

def execSessionTimeout (port : Port) (s : State) : Host.Outcome State Fault Refusal := run s (sessionTimeout port)

def slotLockEnd (k : Nat) (s : State) : State :=
  if slotLocked s k then s else s.setSlotCnt k { s.slotCnt k with lockUntil := none }

def execSlotLockEnd (slot : Nat) (s : State) : Host.Outcome State Fault Refusal := run s (slotLockEnd slot)

end Sys2Proof.Machine
end

