-- ==== Sys2Proof/Machine/Boat.lean ====
section
/-!
DEFINITION. The Boathouse (R252 to R270): pages, requests, captures, eviction, scrub, streams, and the host's window.
-/
namespace Sys2Proof.Machine

open Sys2Proof

/-! ## Pages -/

/-- The bank a page lies in (R252). -/
def pageBank (p : Nat) : Nat := (p % 16) ^^^ (p / 16 % 16) ^^^ (p / 256 % 16)

/-- The stream pages are those below 0x320 (R253). -/
def isStreamPage (p : Nat) : Bool := decide (p < 800)

def poolPages : List Nat := (List.range 3296).map (· + 800)

def State.page (s : State) (p : Nat) : BoatPage := look {} s.boat.pages p
def State.setPage (s : State) (p : Nat) (v : BoatPage) : State :=
  { s with boat := { s.boat with pages := put {} s.boat.pages p v } }

/-- The free pages, lowest first; none before the stream pages are reserved. -/
def freePages (s : State) : List Nat :=
  if s.boat.ready then poolPages.filter (fun p => decide ((s.page p).state = .free)) else []

/-- The pages a holder holds. -/
def heldPages (s : State) (h : Nat) : List Nat :=
  poolPages.filter (fun p => decide ((s.page p).state = .held) && decide ((s.page p).holder = h))

/-- A page reference (R256). -/
def pageRef (r : Nat × Nat) : Word := pack [(r.1, 0, 12), (r.2, 12, 12), (1, 31, 1)]

/-- A null reference: 1 STARVED, 2 BUDGET, 3 BUSY. -/
def nullRef (reason : Nat) : Word := pack [(reason, 24, 2)]

/-- The task a holder SRC names. -/
def holderTask (h : Nat) : Option Nat := if 0x100 ≤ h ∧ h < 0x300 then some (h - 0x100) else none

/-- The budget of a holder (R255). -/
def budgetOf (s : State) (h : Nat) : Nat :=
  match holderTask h with
  | some t => bits (s.task t).w4 27 16
  | none => s.boat.hostBudget

/-- PRIO of a task holder (R229); the host has 0. -/
def holderPrio (s : State) (h : Nat) : Nat :=
  match holderTask h with
  | some t => bits (s.task t).w0 12 10
  | none => 0

/-- The outcome of a request for pages. -/
inductive Grant where
  | pages (refs : List (Nat × Nat))
  | starved
  | budget
  deriving DecidableEq, Repr

/-- A page goes to a holder: its generation counts on. -/
def takePage (h cap p : Nat) (s : State) : State :=
  s.setPage p { state := .held, gen := ((s.page p).gen + 1) % 4096, holder := h, time := s.now, cap := cap }

def noteLow (s : State) : State :=
  { s with boat := { s.boat with lowFree := min s.boat.lowFree (freePages s).length } }

/-- A request for `n` pages is served whole or not at all (R257, R258). `replies` null references are counted where it
is refused. A starved request sets the task's STARVED and starts an eviction. -/
def allocate (h n cap replies : Nat) (s : State) : Grant × State :=
  let s0 := { s with boat := { s.boat with cntReq := satAdd s.boat.cntReq n } }
  if budgetOf s h < (heldPages s h).length + n then
    (.budget, { s0 with boat := { s0.boat with cntBudget := satAdd s0.boat.cntBudget replies } })
  else
    let free := freePages s
    if free.length < n then
      let s1 := match holderTask h with
        | some t => s0.setTask t { s0.task t with starved := true }
        | none => s0
      (.starved, { s1 with boat := { s1.boat with cntNull := satAdd s1.boat.cntNull replies, evicting := true } })
    else
      let got := free.take n
      let s1 := got.foldl (fun t p => takePage h cap p t) s0
      (.pages (got.map (fun p => (p, (s1.page p).gen))), noteLow s1)

/-- A page leaves its holder and waits for its scrub (R263). -/
def dropPage (p : Nat) (s : State) : State :=
  let s1 := s.setPage p { s.page p with state := .scrub, holder := 0, cap := 0 }
  let caps := s1.boat.caps.map (fun c => { c with pages := c.pages.filter (fun r => decide (r.1 ≠ p)) })
  { s1 with boat := { s1.boat with caps := caps.filter (fun c => c.filling || !c.pages.isEmpty) } }

/-- The page a reference names, where `h` holds it under that generation (R262). -/
def refPage (s : State) (h : Nat) (ref : Word) : Option Nat :=
  let p := bits ref 11 0
  let x := s.page p
  if ref.getLsbD 31 ∧ 800 ≤ p ∧ x.state = .held ∧ x.holder = h ∧ x.gen = bits ref 23 12 then some p else none

/-! ## Requests at the ports (R255 to R257) -/

/-- One single-page request is decided and answered by a reference from SRC 0x405. -/
def servePage (r : PageReq) (s : State) : State :=
  let (g, s1) := allocate r.holder 1 0 1 s
  let ref := match g with
    | .pages (x :: _) => pageRef x
    | .pages [] => nullRef 1
    | .starved => nullRef 1
    | .budget => nullRef 2
  sendFrame 0x405 5 [ref] s1

/-- The requests of one FCLK cycle: of three or more, the rotating pointer picks the first two ports at or after it;
the lower of the two is served first. -/
def pickTwo (ptr : Nat) (rs : List PageReq) : List PageReq × Nat :=
  if rs.length ≤ 2 then
    match rs with
    | [a, b] => (if a.port ≤ b.port then [a, b] else [b, a], ptr)
    | _ => (rs, ptr)
  else
    let key (r : PageReq) : Nat := (r.port + 13 - ptr) % 13
    let first := rs.foldl (fun (m : Option PageReq) r => match m with
      | none => some r
      | some x => if key r < key x then some r else m) none
    let second := (rs.filter (fun r => decide (some r ≠ first))).foldl (fun (m : Option PageReq) r => match m with
      | none => some r
      | some x => if key r < key x then some r else m) none
    match first, second with
    | some a, some b => (if a.port ≤ b.port then [a, b] else [b, a], (b.port + 1) % 13)
    | _, _ => (rs, ptr)

/-- Every waiting request is decided, two in each FCLK cycle. The fuel is the number of requests. -/
def serveAll : Nat → List PageReq → State → State
  | 0, _, s => s
  | n + 1, rs, s =>
    let (now, ptr) := pickTwo s.boat.ptr rs
    let s1 := now.foldl (fun t r => servePage r t) { s with boat := { s.boat with ptr := ptr } }
    serveAll n (rs.filter (fun r => !now.contains r)) s1

def execBoatPageRequest (reqs : List PageReq) (s : State) : Host.Outcome State Fault Refusal :=
  run s (serveAll reqs.length reqs)

/-! ## Waveform memory -/

/-- A word of the waveform memory, little-endian, at a byte address. -/
def memWord (s : State) (a : Nat) : Word :=
  BitVec.ofNat 32 (ofLe ((List.range 4).map (fun i => look 0 s.boat.mem (a + i))))

def memBytes (a : Nat) (bs : List Byte) (m : Tab Byte) : Tab Byte :=
  match bs with
  | [] => m
  | b :: r => memBytes (a + 1) r (put 0 m a b)

def memPut (a : Nat) (w : Word) (s : State) : State :=
  { s with boat := { s.boat with mem := memBytes a (leBytes w.toNat 4) s.boat.mem } }

def memPuts (a : Nat) (ws : List Word) (s : State) : State :=
  { s with boat := { s.boat with mem := memBytes a (ws.flatMap (fun w => leBytes w.toNat 4)) s.boat.mem } }

/-! ## The banks (R264) -/

/-- `n` stream words are queued for a bank: each takes the next reserved slot, one in 16 MCLK cycles, and the last one's wait
counts in STREAM_MAX. The words stand in the memory at once (DESIGN CHOICE, log entry 160). -/
def streamSlots (b n : Nat) (s : State) : State :=
  if n = 0 then s
  else
    let first := max (look 0 s.boat.slots b) ((s.now + 1) / 2)
    let w := look (0, 0) s.boat.waits b
    { s with boat := { s.boat with
        slots := put 0 s.boat.slots b (first + n),
        waits := put (0, 0) s.boat.waits b (max w.1 (16 * (first + n - 1) - 8 * s.now), w.2) } }

/-- An accessor of the unreserved slots is granted its access, and the bank's pointer moves past it: 0 to 7 the cores, 8 COPY,
9 the host window, 10 the scrub. Accesses come one at a time here, so the pointer never has to choose. -/
def accessBank (b who : Nat) (s : State) : State :=
  { s with boat := { s.boat with turns := put 0 s.boat.turns b ((who + 1) % 11) } }

/-- A page's bytes are zero. -/
def memZero (p : Nat) (s : State) : State :=
  { s with boat := { s.boat with mem := s.boat.mem.filter (fun e => decide (e.1 < 4096 * p) || decide (4096 * (p + 1) ≤ e.1)) } }

/-- The scrub of a page ends and the page rejoins the pool (R263). -/
def scrubDone (p : Nat) (s : State) : State :=
  if (s.page p).state = .scrub then
    let s1 := accessBank (pageBank p) 10 (memZero p s)
    s1.setPage p { s1.page p with state := .free }
  else s

def execPageScrubComplete (page : Nat) (s : State) : Host.Outcome State Fault Refusal := run s (scrubDone page)

/-! ## Captures (R259, R260) -/

/-- The delivery frame of a capture to its holder (R260). -/
def capFrame (kind : Nat) (c : Capture) (count : Nat) (stamp : Nat) (refs : List (Nat × Nat)) (s : State) : State :=
  sendFrame 0x405 5 ([pack [(refs.length, 0, 12), (c.ctx, 16, 6), (kind, 24, 8)], BitVec.ofNat 32 stamp, BitVec.ofNat 32 count]
    ++ refs.map pageRef) s

/-- A context number that no capture in progress has: which of them, the spec leaves open. -/
def pickCtx (s : State) : Nat × State :=
  let free := (List.range 64).filter (fun k => s.boat.caps.all (fun c => !c.filling || decide (c.ctx ≠ k)))
  let (w, s1) := fresh s
  (look 0 ((List.range free.length).zip free) (w.toNat % max 1 free.length), s1)

/-- The captures in progress. -/
def fillingCount (s : State) : Nat := (s.boat.caps.filter (fun c => c.filling)).length

/-- Pages that `count` samples need. -/
def pagesFor (count : Nat) : Nat := (count + 1023) / 1024

/-- A new capture record. -/
def newCapture (h prio : Nat) (evict : Bool) (chan : Option Nat) (refs : List (Nat × Nat)) (count : Nat) (s : State) : State :=
  let (ctx, s1) := pickCtx s
  { s1 with boat := { s1.boat with
      serial := s1.boat.serial + 1,
      caps := s1.boat.caps ++ [{ serial := s1.boat.serial + 1, ctx, holder := h, prio, evict, chan, pages := refs, count }] } }

/-- The channel is in RUN or SETTLING as AFE_STAT shows it. -/
def channelReady (s : State) (ch : Nat) : Bool :=
  let x := s.ain ch
  decide (x.state = .settling) || (decide (x.state = .run) && !x.calRun)

/-- An AFE capture is requested; the reason of a refusal (1 STARVED, 2 BUDGET, 3 BUSY, 4 NOCHAN), 0 for none. -/
def requestCapture (h prio : Nat) (evict : Bool) (ch count : Nat) (s : State) : Nat × State :=
  if 64 ≤ fillingCount s then (3, { s with boat := { s.boat with cntNull := satAdd s.boat.cntNull 1 } })
  else if !channelReady s ch then (4, s)
  else
    let (g, s1) := allocate h (pagesFor count) (s.boat.serial + 1) 1 s
    match g with
    | .budget => (2, s1)
    | .starved => (1, s1)
    | .pages refs => (0, newCapture h prio evict (some ch) refs count s1)

/-- A task's capture command (R259): a refusal is answered at once with the REFUSED frame. -/
def taskCapture (src : Nat) (w0 w1 : Word) (s : State) : State :=
  if bits w0 31 24 = 0x10 ∧ (holderTask src).isSome then
    let (r, s1) := requestCapture src (min (bits w0 10 8) (holderPrio s src)) (w0.getLsbD 11) (bits w0 4 0) (bits w1 15 0 + 1) s
    if r = 0 then s1 else sendFrame 0x405 5 [pack [(4, 24, 8)], 0, BitVec.ofNat 32 r] s1
  else s

def execAfeCaptureRequest (src : Nat) (w0 w1 : Word) (s : State) : Host.Outcome State Fault Refusal :=
  run s (taskCapture src w0 w1)

/-- The host's capture: PRIO 0; the outcome stands in BOAT_HOST_CAP_STAT. -/
def hostCapture (v : Word) (s : State) : State :=
  let count := bits v 31 16 + 1
  let (r, s1) := requestCapture 0x400 0 (v.getLsbD 5) (bits v 4 0) count s
  let st := if r = 0 then 1 else if r = 4 then 7 else r + 2
  let ctx := match s1.boat.caps.getLast? with
    | some c => if r = 0 then c.ctx else 0
    | none => 0
  let s2 := if r = 0 then s1 else refuse 0x000C00A0 s1
  { s2 with boat := { s2.boat with hostStatus := st, hostCtx := ctx, hostPages := if r = 0 then pagesFor count else 0 } }

def execBoatHostCapWrite (_port : Port) (value : Word) (s : State) : Host.Outcome State Fault Refusal :=
  run s (hostCapture value)

/-- The host's capture with this serial number is its last one. -/
def hostCapEnd (st : Nat) (c : Capture) (s : State) : State :=
  if c.holder = 0x400 ∧ c.chan.isSome ∧ c.ctx = s.boat.hostCtx ∧ s.boat.hostStatus = 1 then
    { s with boat := { s.boat with hostStatus := st } }
  else s

def setCap (c : Capture) (s : State) : State :=
  { s with boat := { s.boat with caps := s.boat.caps.map (fun x => if x.serial = c.serial then c else x) } }

/-- A capture ends with every page filled. -/
def capComplete (c : Capture) (s : State) : State :=
  hostCapEnd 2 c (capFrame 1 c c.written (c.stamp.getD 0) c.pages (setCap { c with filling := false } s))

/-- A capture ends before that: the pages filled so far are delivered, the others return to the pool (R260). -/
def capAbort (c : Capture) (s : State) : State :=
  let full := c.pages.take (pagesFor c.written)
  let s1 := setCap { c with filling := false, pages := full } s
  let s2 := (c.pages.drop (pagesFor c.written)).foldl (fun t r => dropPage r.1 t) s1
  let s3 := hostCapEnd 6 c (capFrame 3 c c.written (c.stamp.getD 0) full s2)
  { s3 with boat := { s3.boat with caps := s3.boat.caps.filter (fun x => x.filling || !x.pages.isEmpty) } }

/-- Every capture in progress that satisfies `f` is aborted. -/
def abortCaps (f : Capture → Bool) (s : State) : State :=
  (s.boat.caps.filter (fun c => c.filling && f c)).foldl (fun t c => capAbort c t) s

/-- Samples are written into a capture in arrival order (R259). -/
def capWrite (c : Capture) (stamp : Word) (ws : List Word) (s : State) : State :=
  let take := ws.take (c.count - c.written)
  let idx := (List.range take.length).zip take
  let s1 := idx.foldl (fun t e =>
    let i := c.written + e.1
    match (c.pages[i / 1024]?) with
    | some r => streamSlots (pageBank r.1) 1 (memPut (4096 * r.1 + 4 * (i % 1024)) e.2 t)
    | none => t) s
  let c1 := { c with written := c.written + take.length, stamp := some (c.stamp.getD stamp.toNat) }
  let s2 := setCap c1 s1
  if c1.count ≤ c1.written then capComplete c1 s2 else s2

/-! ## Streams (R254) -/

/-- A full-rate frame reaches the Boathouse: it is written as a record and into the channel's captures, or dropped. -/
def streamWrite (ch : Nat) (intact : Bool) (s : State) : State :=
  let x := s.ain ch
  match x.frame with
  | none => s
  | some ws =>
    let s0 := s.setAin ch { x with frame := none }
    let st := look {} s0.boat.streams ch
    if intact then
      let s1 := streamSlots (pageBank (25 * ch + 68 * st.next / 4096)) ws.length (memPuts (4096 * 25 * ch + 4 * 17 * st.next) ws s0)
      let st' : Stream := { st with next := if st.next < 1504 then st.next + 1 else 0, count := st.count + 1 }
      let s2 := { s1 with boat := { s1.boat with streams := put {} s1.boat.streams ch st' } }
      (s2.boat.caps.filter (fun c => c.filling && decide (c.chan = some ch))).foldl
        (fun t c => capWrite c (ws.headD 0) (ws.drop 1) t) s2
    else
      { s0 with boat := { s0.boat with
          streams := put {} s0.boat.streams ch { st with drop := if st.drop = 0xFFFF then 0xFFFF else st.drop + 1 } } }

/-- A frame's write meets the channel's hook; the hold counts in BOAT_BANK_WAIT of the record's bank (R472). -/
def streamArrives (ch : Nat) (intact : Bool) (s : State) : State :=
  match hookMet s (onStream ch) with
  | some n =>
    let s1 := holdItem (onStream ch) n (.streamFrameWrite ch intact) s
    let b := pageBank (25 * ch + 68 * (look {} s1.boat.streams ch).next / 4096)
    let w := look (0, 0) s1.boat.waits b
    { s1 with boat := { s1.boat with waits := put (0, 0) s1.boat.waits b (max w.1 (8 * (holdTick (onStream ch) n s - s.now)), w.2) } }
  | none => streamWrite ch intact s

def execStreamFrameWrite (ch : Nat) (intact : Bool) (s : State) : Host.Outcome State Fault Refusal :=
  run s (streamArrives ch intact)

/-! ## Eviction (R261, R262) -/

/-- The holder may lose pages now. -/
def evictable (s : State) (c : Capture) : Bool :=
  !c.filling && c.evict && !c.pages.isEmpty &&
  (match holderTask c.holder with
   | some t => decide ((s.task t).state = .waiting ∨ (s.task t).state = .suspended ∨ (s.task t).state = .disabled)
   | none => true)

/-- The oldest page of a capture, the lower number first among equals. -/
def oldestPage (s : State) (c : Capture) : Option Nat :=
  c.pages.foldl (fun (m : Option Nat) r => match m with
    | none => some r.1
    | some p => if (s.page r.1).time < (s.page p).time ∨ ((s.page r.1).time = (s.page p).time ∧ r.1 < p) then some r.1 else m) none

/-- `a` is chosen before `b`: PRIO, then the oldest page, then the holder. -/
def capBefore (s : State) (a b : Capture) : Bool :=
  let ta := (oldestPage s a).elim 0 (fun p => (s.page p).time)
  let tb := (oldestPage s b).elim 0 (fun p => (s.page p).time)
  decide (a.prio < b.prio) || (decide (a.prio = b.prio) && (decide (ta < tb) || (decide (ta = tb) && decide (a.holder < b.holder))))

def evictChoice (s : State) : Option Capture :=
  (s.boat.caps.filter (evictable s)).foldl (fun (m : Option Capture) c => match m with
    | none => some c
    | some x => if capBefore s c x then some c else m) none

/-- Pages leave one after another, the chosen capture until it is empty; what each capture lost is kept, newest
first. The fuel is RECLAIM. -/
def evictPages : Nat → Option Capture → List (Capture × List (Nat × Nat)) → State → List (Capture × List (Nat × Nat)) × State
  | 0, _, lost, s => (lost, s)
  | n + 1, cur, lost, s =>
    let now := cur.bind (fun c => s.boat.caps.find? (fun x => decide (x.serial = c.serial) && evictable s x))
    let c := match now with
      | some x => some x
      | none => evictChoice s
    match c with
    | none => (lost, s)
    | some x =>
      match oldestPage s x with
      | none => (lost, s)
      | some p =>
        let ref := (p, (s.page p).gen)
        let s1 := dropPage p { s with boat := { s.boat with cntEvict := satInc s.boat.cntEvict } }
        let lost1 := match lost with
          | (y, rs) :: r => if y.serial = x.serial then (y, rs ++ [ref]) :: r else (x, [ref]) :: lost
          | [] => [(x, [ref])]
        evictPages n (some x) lost1 s1

/-- The pages a capture still holds. -/
def capPages (s : State) (serial : Nat) : Nat :=
  match s.boat.caps.find? (fun c => decide (c.serial = serial)) with
  | some c => c.pages.length
  | none => 0

/-- The eviction frees up to RECLAIM pages and ends; each holder is told once per capture. -/
def evictionDone (s : State) : State :=
  if s.boat.evicting then
    let (lost, s1) := evictPages s.boat.reclaim none [] s
    let s2 := { s1 with boat := { s1.boat with evicting := false } }
    lost.reverse.foldl (fun t e => capFrame 2 e.1 (capPages t e.1.serial) 0 e.2 t) s2
  else s

def execEvictionComplete (s : State) : Host.Outcome State Fault Refusal := run s evictionDone

/-! ## The host's registers and window (R262, R267) -/

/-- A refused write is counted in BOAT_CNT_WINREF and as a refused access (R10). -/
def countWinref (addr : Nat) (s : State) : State :=
  refuse addr { s with boat := { s.boat with cntWinref := satInc s.boat.cntWinref } }

def hostFree (ref : Word) (s : State) : State :=
  match refPage s 0x400 ref with
  | some p => dropPage p s
  | none => countWinref 0x000C00A8 s

def execBoatHostFreeWrite (_port : Port) (ref : Word) (s : State) : Host.Outcome State Fault Refusal := run s (hostFree ref)

/-- The base of the waveform window. -/
def windowBase : Nat := 0x01000000

/-- A host read of the window: a free or scrubbing page reads 0. -/
def windowRead (s : State) (addr : Nat) : Word :=
  let a := addr - windowBase
  let p := a / 4096
  if isStreamPage p ∨ (s.page p).state = .held then memWord s (a / 4 * 4) else 0

/-- A host write of the window: only into a page that 0x400 holds. -/
def windowWrite (addr : Nat) (v : Word) (s : State) : State :=
  let a := addr - windowBase
  let x := s.page (a / 4096)
  if windowBase ≤ addr ∧ 800 ≤ a / 4096 ∧ a / 4096 < 4096 ∧ x.state = .held ∧ x.holder = 0x400 then
    accessBank (pageBank (a / 4096)) 9 (memPut (a / 4 * 4) v s)
  else countWinref addr s

def execBoatWindowWrite (_port : Port) (addr : Nat) (value : Word) (s : State) : Host.Outcome State Fault Refusal :=
  run s (windowWrite addr value)

end Sys2Proof.Machine
end

