-- ==== Sys2Proof/Machine/Afe.lean ====
section
/-!
DEFINITION. The analog front end (R174 to R189): samples and their flags, bias supervision, settling, calibration,
enabling and shutting down.
-/
namespace Sys2Proof.Machine

open Sys2Proof

/-! ## Sample words (R187) -/

/-- An IEPE channel loses its supply in a sag of VFLD_IN and passes through SETTLING afterwards (R180). -/
def supplyTrack (n : Nat) (s : State) : State :=
  let x := s.ain n
  let lost := decide (x.cfg.mode = .iepe) && sagIn s && decide (x.state ≠ .off)
  if lost = x.supply then s
  else if lost then s.setAin n { x with supply := true, inRun := 0, outRun := 0, flagOpen := false, flagShort := false }
  else s.setAin n { x with supply := false, inRun := 0, state := if x.state = .run then .settling else x.state }

/-- The channel's factor applied to a sample, in LSBs of R176. -/
def gained (x : Ain) (v : Int) : Int :=
  let p := v * x.gain
  p / 4194304 + (if p % 4194304 ≠ 0 && Config.gainRound p then 1 else 0)

/-- Clipping to 24 bits (R176): the value, and whether it was clipped. -/
def clip24 (v : Int) : Int × Bool :=
  if 8388607 < v then (8388607, true) else if v < -8388608 then (-8388608, true) else (v, false)

/-- A sample word from a value. -/
def sampleWord (valid ovr : Bool) (flags : Word) (v : Int) : Word :=
  (if valid then (0x80000000 : Word) else 0) ||| (if ovr then (0x40000000 : Word) else 0) ||| flags |||
  (if valid then (BitVec.ofInt 24 v).setWidth 32 else 0)

/-- One full-rate sample of a channel. -/
def fullSample (x : Ain) (v : Int) : Word :=
  let (w, ovr) := clip24 (gained x v)
  sampleWord (chanValid x) ovr (chanFlags x) w

/-- One input of a sample period through the decimation filter and the high-pass filter (R175, R176): the filters after it,
what the decimation filter gives, and what the high-pass filter makes of it; HP = DC passes it on. -/
def filterOne (c : AfeCfg) (f : Filt) (v : Int) : Filt × Int × Int :=
  let (a, u) := Config.aaFilter c.aa f.aa v
  let (h, y) := if c.hp = 0 then (f.hp, u) else Config.hpFilter c.hp f.hp u
  ({ f with aa := a, hp := h }, u, y)

/-- The inputs of several sample periods through both filters. -/
def filterRun (c : AfeCfg) : Filt → List Int → Filt × List (Int × Int)
  | f, [] => (f, [])
  | f, v :: vs =>
    let (f1, u, y) := filterOne c f v
    let (f2, r) := filterRun c f1 vs
    (f2, (u, y) :: r)

/-- The inputs of the high-pass filter, and its outputs before the gain. -/
def highPassIn (x : Ain) (samples : List Int) : List Int := (filterRun x.cfg x.filt samples).2.map (·.1)
def filtered (x : Ain) (samples : List Int) : List Int := (filterRun x.cfg x.filt samples).2.map (·.2)

/-- The corrected stream through the low-pass filter (R186): its content, and its last output. -/
def lowPassRun (lp : List Int) (ys : List Int) : List Int × Int :=
  ys.foldl (fun a y => Config.lowPass a.1 y) (lp, 0)

/-- A running calibration takes a sample of the reference (R183): 20 ms (1,000 samples) of settling, then 2,500 samples that
are summed. -/
def calTake (x : Ain) (u : Int) : Ain :=
  if x.calRun then
    if x.calCount < 1000 then { x with calCount := x.calCount + 1 }
    else if x.calCount < 3500 then { x with calCount := x.calCount + 1, calSum := x.calSum + u }
    else x
  else x

/-- Samples of a frame in progress at the start of a shut-down (R189): those converted before it stand, the later ones carry
VALID = 0. The instants are those of the nominal interval of 20 µs (DESIGN CHOICE, log entry 139). -/
def tailWords (x : Ain) (stamp start : Nat) (flags : Word) (valid : Bool) (ys : List Int) : List Word :=
  ys.mapIdx (fun i y =>
    if stamp + 2000 * i < start then sampleWord valid (clip24 (gained x y)).2 flags (clip24 (gained x y)).1
    else sampleWord false false (chanFlags x) 0)

/-- The 16 sample words of a frame. -/
def frameSamples (x : Ain) (stamp : Nat) (samples : List Int) : List Word :=
  match x.tail with
  | some (start, flags, valid) => tailWords x stamp start flags valid (filtered x samples)
  | none => (filtered x samples).map (fullSample x)

/-- A channel takes the samples of a frame: its filters, its calibration, and the decimated sample they complete (R186). -/
def takeFrame (x : Ain) (samples : List Int) : Ain :=
  let (f, r) := filterRun x.cfg x.filt samples
  let (lp, v) := lowPassRun f.lp ((filtered x samples).map (fun y => (clip24 (gained x y)).1))
  let y := (r.map (·.1)).foldl calTake x
  { y with filt := { f with lp }, inputs := r.map (·.1), accValue := v, accNew := decide (x.state ≠ .shutdown), tail := none }

/-- The samples of a frame join the report interval of their stamp (R271). -/
def featTake (s : State) (ch stamp : Nat) (ws : List Word) (x : Ain) : Ain :=
  match s.nvm.cm.features.find? (fun e => decide (e.1 = ch)) with
  | none => x
  | some e =>
    let k := stamp / max 1 e.2.interval
    let y := if x.featNow.idx = k then x else { x with featLast := x.featNow, featNow := { idx := k } }
    { y with featNow := { y.featNow with
        count := y.featNow.count + ws.length,
        ovr := y.featNow.ovr || ws.any (fun w => w.getLsbD 30),
        bad := y.featNow.bad || ws.any (fun w => !w.getLsbD 31 && !w.getLsbD 30) } }

/-- The channel sends a full-rate frame: its modulator runs, or the frame was in progress when it stopped (R189). -/
def frameDue (x : Ain) : Bool := channelLive x || (decide (x.state = .shutdown) && x.tail.isSome)

/-- 16 full-rate samples are complete: the frame sets out for the Boathouse (R185). Inputs are in LSB of R176; `stamp` is the
raw tick count at the conversion of the first. -/
def fullFrame (ch stamp : Nat) (samples : List Int) (s : State) : State :=
  let s0 := supplyTrack ch s
  let x := s0.ain ch
  if frameDue x = false ∨ samples.length ≠ 16 then s0
  else
    let ws := frameSamples x stamp samples
    let ovr := ws.any (fun w => w.getLsbD 30)
    let bad := (ws.filter (fun w => !w.getLsbD 31)).length
    let s1 := s0.setAin ch { featTake s0 ch stamp ws (takeFrame x samples) with
      last := ws.getLastD 0, inval := satAdd x.inval bad,
      accFlags := ws.foldl (fun a w => a ||| (w &&& 0x7F000000)) x.accFlags,
      accValid := x.accValid && decide (bad = 0), frame := some (BitVec.ofNat 32 stamp :: ws) }
    sendFrame (0x080 + ch) 0 (BitVec.ofNat 32 stamp :: ws)
      { s1 with afe := { s1.afe with ovr := if ovr then s1.afe.ovr ||| BitVec.ofNat 32 (1 <<< ch) else s1.afe.ovr } }

def execAfeFullRateFrame (ch stamp : Nat) (samples : List Int) (s : State) : Host.Outcome State Fault Refusal :=
  run s (fullFrame ch stamp samples)

/-! ## Supervision and settling (R178 to R181) -/

/-- A bias above the window of R178, and below it; a reading is in 10 mV, each threshold somewhere in its tolerance of
±0.2 V. -/
def biasAbove (ch : Nat) (v : Int) : Bool := decide ((2080 + Config.biasHigh ch % 41 : Nat) < v)
def biasBelow (ch : Nat) (v : Int) : Bool := decide (v < (80 + Config.biasLow ch % 41 : Nat))

/-- One bias reading is judged on an IEPE channel with supply; a VOLT channel only counts it. -/
def biasJudge (ch : Nat) (v : Int) (x : Ain) : Ain :=
  let x0 := { x with bias := v }
  let counts := decide (x.state = .settling)
  match x.cfg.mode with
  | .iepe =>
    if x.supply then { x0 with inRun := 0 }
    else if biasAbove ch v then
      { x0 with flagOpen := true, flagShort := false, inRun := 0, runDec := 0,
                outRun := if x.outAbove && decide (0 < x.outRun) then sat 16 x.outRun else 1, outAbove := true }
    else if biasBelow ch v then
      { x0 with flagShort := true, flagOpen := false, inRun := 0, runDec := 0,
                outRun := if !x.outAbove && decide (0 < x.outRun) then sat 16 x.outRun else 1, outAbove := false }
    else if x.flagOpen || x.flagShort then
      { x0 with flagOpen := false, flagShort := false, outRun := 0, inRun := 1,
                state := if x.state = .run then .settling else x.state }
    else { x0 with outRun := 0, inRun := if counts then x.inRun + 1 else 0 }
  | _ => { x0 with inRun := if counts then x.inRun + 1 else 0 }

/-- A latched diagnosis ends with one decimated sample in RUN (R178). -/
def unlatch (x : Ain) : Ain :=
  if x.state = .run ∧ !x.flagOpen ∧ !x.flagShort then { x with openL := false, shortL := false, runDec := sat 1 x.runDec } else x

/-- A decimated sample is ready for the next image. -/
def decimReady (ch : Nat) (word : Word) (s : State) : State := s.setAin ch { s.ain ch with ready := some word }

/-- A decimated sample (R186), once 16 full-rate samples are complete: its flags are those of the sixteen, and the bias is
measured and judged with it (R178). -/
def decimate (ch : Nat) (bias : Int) (s : State) : State :=
  let s0 := supplyTrack ch s
  let x := s0.ain ch
  if channelLive x = false ∨ x.accNew = false then s0
  else
    let (v, _) := clip24 x.accValue
    let y := unlatch (biasJudge ch bias x)
    let flags := (x.accFlags &&& 0x7F000000) ||| (chanFlags y &&& 0x30000000)
    let valid := x.accValid && !y.flagOpen && !y.flagShort
    let word := sampleWord valid false flags v
    let s1 := s0.setAin ch { y with accFlags := 0, accValid := true, accNew := false }
    hooked (onDecim ch) (.afeDecimatedSample ch s.now word.toNat) (decimReady ch word) s1

def execAfeDecimatedSample (ch tick : Nat) (bias : Int) (s : State) : Host.Outcome State Fault Refusal :=
  run s (fun s => whenever (beforeBoundary s tick) (decimate ch bias) s)

def ainOpenDue (s : State) (ch : Nat) : Bool :=
  let x := s.ain ch
  x.flagOpen && x.outAbove && decide (16 ≤ x.outRun) && !x.openL

def ainOpen (ch : Nat) (s : State) : State := report 39 codeAinOpen ch (s.setAin ch { s.ain ch with openL := true })

def ainShortDue (s : State) (ch : Nat) : Bool :=
  let x := s.ain ch
  x.flagShort && !x.outAbove && decide (16 ≤ x.outRun) && !x.shortL

def ainShort (ch : Nat) (s : State) : State := report 39 codeAinShort ch (s.setAin ch { s.ain ch with shortL := true })

def execAinOpen (ch : Nat) (s : State) : Host.Outcome State Fault Refusal :=
  run s (fun s => whenever (ainOpenDue s ch) (ainOpen ch) s)
def execAinShort (ch : Nat) (s : State) : Host.Outcome State Fault Refusal :=
  run s (fun s => whenever (ainShortDue s ch) (ainShort ch) s)

/-- 3,125 consecutive readings are complete and no calibration runs (R181). -/
def settledDue (s : State) (ch : Nat) : Bool :=
  let x := s.ain ch
  decide (x.state = .settling) && decide (3125 ≤ x.inRun) && !x.calRun

/-- RUN, with the high-pass filter preset to the mean of its last 16 inputs (R181). -/
def settled (ch : Nat) (s : State) : State :=
  let x := s.ain ch
  s.setAin ch { x with state := .run, inRun := 0, runDec := 0,
                       filt := { x.filt with hp := if x.cfg.hp = 0 then x.filt.hp
                                                   else Config.hpPreset x.cfg.hp (x.inputs.foldl (· + ·) 0) } }

def execAinSettlingComplete (ch : Nat) (s : State) : Host.Outcome State Fault Refusal :=
  run s (fun s => whenever (settledDue s ch) (settled ch) s)

/-! ## Calibration (R183, R184) -/

/-- The factor 5.000 V / average lies between 0.97 and 1.03; 5.000 V is 4,194,304 LSB, and the average is a 2,500th of the
sum. -/
def gainOk (sum : Int) : Bool :=
  decide (97 * sum ≤ 1048576000000) && decide (1048576000000 ≤ 103 * sum) && decide (0 < sum)

/-- The factor in units of 2⁻²². -/
def newGain (sum : Int) : Nat :=
  let p := 4194304 * 4194304 * 2500
  p / sum.toNat + (if p % sum.toNat ≠ 0 && Config.gainRound p then 1 else 0)

/-- The measurement has taken its 70 ms. -/
def calDue (x : Ain) : Bool := x.calRun && decide (3500 ≤ x.calCount)

/-- The measurement ends: the factor is applied, or the channel keeps its own and raises AIN_CAL_FAIL. -/
def calComplete (ch : Nat) (s : State) : State :=
  let x := s.ain ch
  if calDue x then
    if gainOk x.calSum then s.setAin ch { x with calRun := false, calFail := false, gain := newGain x.calSum }
    else
      let s1 := s.setAin ch { x with calRun := false, calFail := true }
      if x.calFail then s1 else report 39 codeAinCalFail ch s1
  else s

def execAfeCalComplete (ch tick : Nat) (s : State) : Host.Outcome State Fault Refusal :=
  run s (fun s => whenever (beforeBoundary s tick) (calComplete ch) s)

def addrAfeCtrl (ch : Nat) : Nat := 0x00080104 + 0x20 * ch

/-- A guard channel and an absent one refuse every write (R188). -/
def chanWritable (s : State) (ch : Nat) : Bool := ainPresent s ch && !(s.ain ch).guard

/-- A channel write passes the gate as an operational change (R188, R356). -/
def chanGate (p : Port) (ch : Nat) (ok : Bool) (new : Word) (f : State → State) (s : State) : State :=
  if chanWritable s ch then
    gate p rightOps ok 2 (addrAfeCtrl ch) [if (s.ain ch).en then 1 else 0] [new] f s
  else secRefuse (addrAfeCtrl ch) codeAccessRefused s

/-- A calibration starts; one that runs goes on. -/
def calStart (ch : Nat) (s : State) : State :=
  let x := s.ain ch
  if x.calRun then s else s.setAin ch { x with calRun := true, calCount := 0, calSum := 0 }

def execAfeCalRequest (port : Port) (ch : Nat) (s : State) : Host.Outcome State Fault Refusal :=
  run s (fun s => chanGate port ch (channelLive (s.ain ch)) 3 (calStart ch) s)

/-! ## Enabling and shutting down (R189) -/

def execAfeChannelEnable (port : Port) (ch : Nat) (s : State) : Host.Outcome State Fault Refusal :=
  run s (chanGate port ch true 1 (chanEnable ch))
def execAfeChannelDisable (port : Port) (ch : Nat) (s : State) : Host.Outcome State Fault Refusal :=
  run s (chanGate port ch true 0 (chanDisable ch))

/-- The source current is below 0.1 mA and the frame in progress and a ready decimated sample are sent: the shut-down is
complete (R189). Captures of the channel end ABORTED (R260), and a held enable is applied. -/
def chanOff (ch : Nat) (s : State) : State :=
  let x := s.ain ch
  if x.state = .shutdown ∧ x.tail = none ∧ x.ready = none then
    let s1 := abortCaps (fun c => decide (c.chan = some ch)) s
    let s2 := s1.setAin ch { x with state := .off, pending := false, supply := false, flagOpen := false, flagShort := false }
    if x.pending then channelOn ch s2 else s2
  else s

def execAfeShutdownComplete (ch : Nat) (s : State) : Host.Outcome State Fault Refusal := run s (chanOff ch)

end Sys2Proof.Machine
end

