-- ==== Sys2Proof/Machine/Tachs.lean ====
section
/-!
DEFINITION. The capture timers (R190 to R196): counted edges, compare matches, the capture frame of a boundary, enabling
and shutting down.
-/
namespace Sys2Proof.Machine

open Sys2Proof

/-- One compare value after an increment (R193, R194): whether it matches, and its value after the step. -/
def cmpMatch (per count : Nat) (cmp step : Word) : Bool × Word :=
  if cmp.toNat = count then (true, if step = 0 then cmp else BitVec.ofNat 32 ((cmp.toNat + step.toNat) % per)) else (false, cmp)

/-- A counted edge with its stamp (R191). -/
def countEdge (stamp : Nat) (x : Tach) : Tach :=
  let per := max 1 x.cfg.per
  let c := (x.edgeCnt + 1) % per
  let cap := decide (x.total % max 1 x.cfg.n = 0)
  let (m0, v0) := cmpMatch per c x.cmp0 x.step0
  let (m1, v1) := cmpMatch per c x.cmp1 x.step1
  let m := (if m0 then 1 else 0) + (if m1 then 1 else 0)
  { x with
    edgeCnt := c, wrap := x.wrap || decide (c = 0), total := x.total + 1,
    caps := if cap then x.caps + 1 else x.caps, prevCap := if cap then x.cap else x.prevCap,
    cap := if cap then stamp else x.cap, newCap := x.newCap || cap,
    cmp0 := v0, cmp1 := v1, matchStamp := if 0 < m then stamp else x.matchStamp, matches' := x.matches' + m }

/-- The stamp of an edge accepted at `tick` is that of the first agreeing filter sample. -/
def edgeStamp (c : TachCfg) (tick : Nat) : Nat := tick - (c.filt - 1) * 2 ^ c.fdiv

/-- The comparator (R190), for an input in mV: the threshold is in 0.1 V, and the hysteresis lies evenly about it (DESIGN
CHOICE, log entry 140). -/
def comparator (c : TachCfg) (level : Bool) (mV : Int) : Bool :=
  if 100 * c.threshold + 50 * (c.hysteresis : Int) ≤ mV then true
  else if mV ≤ 100 * c.threshold - 50 * (c.hysteresis : Int) then false
  else level

/-- EDGE selects an edge to a level (R190). -/
def edgeSelected (c : TachCfg) (rise : Bool) : Bool :=
  match c.edge with | .rising => rise | .falling => !rise | .both => true

/-- One sample of the digital filter (R190): its level changes after F consecutive agreeing samples; and whether that is a
counted edge. -/
def filterTach (mV : Int) (x : Tach) : Tach × Bool :=
  let c := comparator x.cfg x.comp mV
  if c = x.level then ({ x with comp := c, agree := 0 }, false)
  else if x.cfg.filt ≤ x.agree + 1 then ({ x with comp := c, level := c, agree := 0 }, edgeSelected x.cfg c)
  else ({ x with comp := c, agree := x.agree + 1 }, false)

/-- An edge accepted at `tick` is counted; one at or after the next boundary `b` waits for the frame of the boundary (R192). -/
def acceptEdge (b tick : Nat) (x : Tach) : Tach :=
  if x.state = .run then
    if tick < b then countEdge (edgeStamp x.cfg tick) x else { x with later := x.later ++ [tick] }
  else x

/-- Filter samples in order, each with its tick: D ticks apart. -/
def tachSamples (b : Nat) : List (Nat × Int) → Tach → Tach
  | [], x => x
  | (tick, v) :: vs, x =>
    let (y, edge) := filterTach v x
    tachSamples b vs (if edge then acceptEdge b tick y else y)

/-- The ticks of filter samples of which the last is taken at `tick` (R190). -/
def sampleTicks (c : TachCfg) (tick : Nat) (volts : List Int) : List (Nat × Int) :=
  volts.mapIdx (fun i v => (tick - (volts.length - 1 - i) * 2 ^ c.fdiv, v))

/-- R190, R191: filter samples of a timer's input since the last ones, in mV, the last at `tick`; edges that the filter
accepts are counted. -/
def tachEdge (t tick : Nat) (volts : List Int) (s : State) : State :=
  let s1 := advance tick s
  let x := s1.tachT t
  s1.setTach t (tachSamples (s1.t0 + cycleTicks) (sampleTicks x.cfg tick volts) x)

def execTachCountedEdge (t : Nat) (r : TachRun) (s : State) : Host.Outcome State Fault Refusal :=
  run s (tachEdge t r.tick r.volts)

/-! ## The capture frame (R192) -/

/-- A quotient of the frame: rounded down, at least 1, saturated; and whether it saturated. -/
def frameQuot (d n : Nat) : Nat × Bool :=
  let q := max 1 (d / n)
  if 0xFFFFFFFF < q then (0xFFFFFFFF, true) else (q, false)

/-- The frame for boundary `b`, and the timer after it. -/
def captureFrame (b : Nat) (x : Tach) : TachFrame × Tach :=
  let n := max 1 x.cfg.n
  let seen := decide (1 ≤ x.caps)
  let valid := decide (2 ≤ x.caps)
  let (p, po) := if valid then frameQuot (x.cap - x.prevCap) n else (0, false)
  let (q, qo) := if seen then frameQuot (b - x.cap) n else (0, false)
  let ofs := if 0 < x.matches' then min 16383 (max 1 (b - x.matchStamp)) else 0
  let w0 := pack [(if seen then 1 else 0, 0, 1), (if valid then 1 else 0, 1, 1), (if x.newCap then 1 else 0, 2, 1),
    (if po || qo then 1 else 0, 3, 1), (if 0 < x.matches' then 1 else 0, 4, 1), (if 1 < x.matches' then 1 else 0, 5, 1),
    (ofs, 8, 14), (x.caps, 22, 10)]
  (⟨w0, BitVec.ofNat 32 p, BitVec.ofNat 32 q⟩,
   { x with period := BitVec.ofNat 32 p, sinceCap := BitVec.ofNat 32 q, ovf := x.ovf || po || qo,
            multi := x.multi || decide (1 < x.matches'), newCap := false, matches' := 0 })

/-! ## Compare values (R193, R194) -/

def addrTach (t off : Nat) : Nat := 0x00090000 + off + 0x40 * t

/-- A compare value below PER is taken; any other is refused and counted, a DSP task's as the host's (DESIGN CHOICE, log
entry 141: R193 counts both as refused accesses, and SYS_REFUSED is the count of these). -/
def cmpWrite (t k : Nat) (v : Word) (s : State) : State :=
  let x := s.tachT t
  if v.toNat < max 1 x.cfg.per then s.setTach t (if k = 0 then { x with cmp0 := v } else { x with cmp1 := v })
  else refuse (addrTach t (0x128 + 4 * k)) s

def stepWrite (t k : Nat) (v : Word) (s : State) : State :=
  let x := s.tachT t
  if v.toNat < max 1 x.cfg.per then s.setTach t (if k = 0 then { x with step0 := v } else { x with step1 := v })
  else refuse (addrTach t (0x130 + 4 * k)) s

def execTachCmpWrite (_by : CmpWriter) (t k : Nat) (value : Word) (s : State) : Host.Outcome State Fault Refusal :=
  run s (cmpWrite t k value)
def execTachStepWrite (_by : CmpWriter) (t k : Nat) (value : Word) (s : State) : Host.Outcome State Fault Refusal :=
  run s (stepWrite t k value)

/-! ## Enabling and shutting down (R196) -/

/-- A safety timer refuses writes of EN; another takes them as an operational password-class change. -/
def tachGate (p : Port) (t : Nat) (new : Word) (f : State → State) (s : State) : State :=
  if (s.tachT t).safety ∨ 8 ≤ t then secRefuse (addrTach t 0x108) codeAccessRefused s
  else gate p rightOps true 2 (addrTach t 0x108) [if (s.tachT t).state = .run then 1 else 0] [new] f s

def execTachEnable (port : Port) (t : Nat) (s : State) : Host.Outcome State Fault Refusal :=
  run s (tachGate port t 1 (tachEnable t))
def execTachDisable (port : Port) (t : Nat) (s : State) : Host.Outcome State Fault Refusal :=
  run s (tachGate port t 0 (tachDisable t))

/-- Edges accepted since the boundary before its command came are counted after its frame. -/
def countLater (b : Nat) (x : Tach) : Tach :=
  x.later.foldl (fun y tick => acceptEdge b tick y) { x with later := [] }

/-- At a boundary a shut-down is complete and sends no frame; a held enable is applied (R196). The frame requests from
B + 0.5 µs on (R192). -/
def tachBoundary (s : State) (t : Nat) : Option TachFrame × State :=
  let x := s.tachT t
  match x.state with
  | .off => (none, s)
  | .run =>
    let (f, y) := captureFrame s.t0 x
    (some f, sendFrom (0x0A0 + t) 0 0 (3 * (s.t0 + 50)) [f.w0, f.period, f.since]
      (s.setTach t (countLater (s.t0 + cycleTicks) y)))
  | .shutdown =>
    let s1 := s.setTach t { x with state := .off, pending := false }
    (none, if x.pending then tachOn t s1 else s1)

end Sys2Proof.Machine
end

