-- ==== Sys2Proof/Machine/CrcUnit.lean ====
section
/-!
DEFINITION. The sixteen contexts of the CM check-value unit (R292 to R303).
-/
namespace Sys2Proof.Machine

open Sys2Proof

def State.ctx (s : State) (n : Nat) : CrcCtx := look {} s.crc.ctx n
def State.setCtx (s : State) (n : Nat) (c : CrcCtx) : State := { s with crc := { s.crc with ctx := put {} s.crc.ctx n c } }

/-! ## Parameters (R294) -/

def crcWidth (c : CrcCtx) : Nat := bits c.cfg 5 0
def crcRefin (c : CrcCtx) : Bool := c.cfg.getLsbD 8
def crcRefout (c : CrcCtx) : Bool := c.cfg.getLsbD 9
def crcFoldN (c : CrcCtx) : Nat := bits c.cfg 11 10
def crcIrq (c : CrcCtx) : Bool := c.cfg.getLsbD 12
def crcLen (c : CrcCtx) : Nat := bits c.cfg 21 16

/-- The bits below WIDTH. -/
def crcMask (c : CrcCtx) : Word := BitVec.ofNat 32 (2 ^ crcWidth c - 1)

/-! ## The algorithm (R295) -/

/-- One bit into the register. -/
def crcStep (c : CrcCtx) (reg : Word) (b : Bool) : Word :=
  let top := reg.getLsbD (crcWidth c - 1) != b
  let r := (reg <<< 1) &&& crcMask c
  if top then r ^^^ c.poly else r

/-- The bits of a word in the order they are fed. -/
def feedBits (c : CrcCtx) (d : Word) (len : Nat) : List Bool :=
  (List.range len).map (fun i => if crcRefin c then d.getLsbD i else d.getLsbD (len - 1 - i))

def crcFeed (c : CrcCtx) (d : Word) (len : Nat) (reg : Word) : Word := (feedBits c d len).foldl (crcStep c) reg

/-- The W-bit register reflected. -/
def reflect (w : Nat) (x : Word) : Word :=
  (List.range w).foldl (fun a i => if x.getLsbD i then a ||| BitVec.ofNat 32 (1 <<< (w - 1 - i)) else a) 0

/-- RESULT; 0 before the first START, data word or load. -/
def crcResult (c : CrcCtx) : Word :=
  if c.live then (if crcRefout c then reflect (crcWidth c) c.reg else c.reg) ^^^ c.xorout else 0

/-- START: INIT, then the fold words (R295, R297). -/
def crcStart (c : CrcCtx) : CrcCtx :=
  let r1 := if 1 ≤ crcFoldN c then crcFeed c c.fold0 32 c.init else c.init
  let r2 := if 2 ≤ crcFoldN c then crcFeed c c.fold1 32 r1 else r1
  { c with reg := r2, live := true, words := 0 }

/-- A data word. -/
def crcDin (d : Word) (c : CrcCtx) : CrcCtx := { c with reg := crcFeed c d (crcLen c) c.reg, live := true, words := sat 0xFFFF c.words }

/-- The compare of R298. -/
def crcCheck (c : CrcCtx) : CrcCtx :=
  if crcResult c = c.expect then { c with isMatch := true }
  else { c with isMatch := false, mismatch := true, mismatches := c.mismatches + 1 }

/-! ## The host's writes (R293) -/

def addrCtx (n off : Nat) : Nat := 0x000E0100 + 0x40 * n + off

/-- A refused write is counted in CRC_REFUSED and as a refused access (R10). -/
def crcRefuse (addr : Nat) (s : State) : State :=
  refuse addr { s with crc := { s.crc with refused := satInc s.crc.refused } }

/-- A host write to a host context; to contexts 0 to 7 it is refused. -/
def hostCtx (n off : Nat) (f : CrcCtx → CrcCtx) (s : State) : State :=
  if 8 ≤ n ∧ n < 16 then s.setCtx n (f (s.ctx n)) else crcRefuse (addrCtx n off) s

def execCrcStart (_port : Port) (ctx : Nat) (s : State) : Host.Outcome State Fault Refusal :=
  run s (hostCtx ctx 0x18 crcStart)

/-- A mismatch in a host context with IRQ_EN raises the CRC source of IRQ_N. -/
def hostCheck (n : Nat) (s : State) : State :=
  let s1 := hostCtx n 0x18 crcCheck s
  if 8 ≤ n ∧ n < 16 ∧ !(s1.ctx n).isMatch ∧ crcIrq (s1.ctx n) then
    { s1 with host := { s1.host with irqStat := s1.host.irqStat ||| 4 } }
  else s1

def execCrcCheck (_port : Port) (ctx : Nat) (s : State) : Host.Outcome State Fault Refusal := run s (hostCheck ctx)

/-- A data word: the unit feeds one word in a PCLK cycle, long before the host's next access, so each word is fed as it is
written and no other context has one waiting (DEDUCED, log entry 164); the round-robin pointer moves past the context
served (R292). -/
def hostDin (n : Nat) (v : Word) (s : State) : State :=
  let s1 := hostCtx n 0x1C (crcDin v) s
  if 8 ≤ n ∧ n < 16 then { s1 with crc := { s1.crc with ptr := (n + 1) % 16 } } else s1

def execCrcDinWrite (_port : Port) (ctx : Nat) (value : Word) (s : State) : Host.Outcome State Fault Refusal :=
  run s (hostDin ctx value)

/-- VALUE is loaded to resume a stream (R296). -/
def crcLoad (v : Word) (c : CrcCtx) : CrcCtx := { c with reg := v &&& crcMask c, live := true }

def execCrcValueWrite (_port : Port) (ctx : Nat) (value : Word) (s : State) : Host.Outcome State Fault Refusal :=
  run s (hostCtx ctx 0x20 (crcLoad value))

/-! ## The module's own contexts -/

/-- A module context ends a check with this outcome; the register and the word count are those of its stream, which the
spec does not give. -/
def moduleCheck (n : Nat) (ok : Bool) (s : State) : State :=
  let (r, s1) := fresh s
  let (w, s2) := fresh s1
  let c := s2.ctx n
  s2.setCtx n { c with reg := r, live := true, words := w.toNat % 65536, isMatch := ok, mismatch := c.mismatch || !ok,
                       mismatches := if ok then c.mismatches else c.mismatches + 1 }

/-! ## The known-answer test (R303) -/

/-- Context 7 over "123456789". -/
def katCtx : CrcCtx :=
  let c := crcDin 0x38373635 (crcDin 0x34333231 (crcStart {}))
  crcCheck { crcDin 0x39 { c with cfg := 0x00080320 } with expect := 0xE3069283 }

/-- The test's outcome: a failing one raises CRC_KAT, of scope S before the first ROWING. -/
def katRun (ok : Bool) (s : State) : State :=
  let s1 := if ok then s.setCtx 7 katCtx else moduleCheck 7 false s
  let s2 := { s1 with crc := { s1.crc with katPass := ok, katFail := !ok, katRuns := s1.crc.katRuns + 1 } }
  if ok then s2 else report (if s2.seat.rotAt = 0 then 13 else 47) codeCrcKat 0 s2

def execCrcKatRun (ok : Bool) (s : State) : Host.Outcome State Fault Refusal := run s (katRun ok)

end Sys2Proof.Machine
end

