-- ==== Sys2Proof/Machine/Alarms.lean ====
section
/-!
DEFINITION. Alarm levels as the standard alarm task evaluates them (R271 to R275), with the binary32 arithmetic of R222.
-/
namespace Sys2Proof.Machine

open Sys2Proof

/-! ## binary32 (R222): a number is held in units of 2⁻¹⁴⁹ -/

/-- The value of a binary32 word; none for a NaN. Subnormals are zero, an infinity lies beyond every number. -/
def f32 (w : Word) : Option Int :=
  let e := bits w 30 23
  let m := bits w 22 0
  let mag : Option Int :=
    if e = 255 then (if m = 0 then some ((2 : Int) ^ 300) else none)
    else if e = 0 then some 0
    else some (((8388608 + m) * 2 ^ (e - 1) : Nat) : Int)
  mag.map (fun v => if w.getLsbD 31 then -v else v)

def f32Finite (w : Word) : Bool := decide (bits w 30 23 ≠ 255)

/-- A number in units of 2⁻²⁹⁸ as a binary32 word: to nearest and ties to even, below 2⁻¹²⁶ to zero of its sign, an overflow
to infinity. -/
def enc32 (neg : Bool) (x : Nat) : Word :=
  let l := Nat.log2 x
  let sign : Word := if neg then 0x80000000 else 0
  if l < 172 then sign
  else
    let u := 2 ^ (l - 23)
    let r := x % u
    let q := if u < 2 * r ∨ (2 * r = u ∧ x / u % 2 = 1) then x / u + 1 else x / u
    if 425 < l ∨ (l = 425 ∧ q = 16777216) then sign ||| 0x7F800000
    else sign ||| BitVec.ofNat 32 ((l - 171) * 8388608 + (q - 8388608))

/-- The fused multiply-add of every slot (R221, R222), a × b + c rounded once. A sum has the 1.0 as `b`, a product the zero
as `c`. Subnormal inputs are zero of their sign, a NaN propagates, and nothing traps. -/
def fma32 (a b c : Word) : Word :=
  let nan : Word := 0x7FC00000 ||| Config.nanBits a b c
  match f32 a, f32 b, f32 c with
  | some x, some y, some z =>
    let inf (v : Int) : Bool := decide (2 ^ 300 ≤ v.natAbs)
    let sp := xor (a.getLsbD 31) (b.getLsbD 31)
    let sc := c.getLsbD 31
    if (inf x && decide (y = 0)) || (inf y && decide (x = 0)) then nan
    else if inf x || inf y then (if inf z && xor sp sc then nan else if sp then 0xFF800000 else 0x7F800000)
    else if inf z then c
    else
      let e := x * y + z * 2 ^ 149
      if e = 0 then (if sp && sc then 0x80000000 else 0) else enc32 (decide (e < 0)) e.natAbs
  | _, _, _ => nan

/-! ## Frames of a task (R226) -/

/-- A frame that a task sends: its SEQ is the task's own, and the transmit unit appends the CRC word where R30 asks for it
(R228). A class 0x4 alarm reaches the management core and is an event
(R407). -/
def taskSend (t cls : Nat) (words : List Word) (s : State) : State :=
  let x := s.task t
  let s1 := sendAs (0x100 + t) x.seq cls 0 (3 * s.now) words s
  let s2 := s1.setTask t { x with seq := (x.seq + 1) % 256 }
  if cls = 4 then pushEvent (0x100 + t) 4 0 words s2.timeNow s2 else s2

/-! ## Features of local channels (R271) -/

/-- A quiet NaN; its payload is free. -/
def quietNan (w : Word) : Word := 0x7FC00000 ||| w

/-- The samples of the last closed report interval. -/
def featClosed (x : Ain) (k : Nat) : FeatSpan :=
  if x.featNow.idx + 1 = k then x.featNow else if x.featLast.idx + 1 = k then x.featLast else { idx := k - 1 }

/-- The 12 words of a report. What the task computes from the samples is free (the manual gives its accuracy and not its
arithmetic); values 0 to 8 are NaN where a sample had VALID = 0 but for clipping, the temperature always, the speed where no
timer is named or no edge has been seen. -/
def featWords (c : FeatureCfg) (seen : Bool) (p : FeatSpan) (f : Nat) : List Word :=
  (List.range 9).map (fun i => if p.bad then quietNan (Config.freeWord (f + i)) else Config.freeWord (f + i)) ++
  [quietNan (Config.freeWord (f + 9)),
   if c.timer.isSome && seen then Config.freeWord (f + 10) else quietNan (Config.freeWord (f + 10)),
   pack [(if p.ovr then 1 else 0, 0, 1), (if p.bad then 1 else 0, 1, 1), (min 0xFFFF p.count, 16, 16)]]

/-- The report of a channel, once in each interval. -/
def featReport (t : Nat) (s : State) (e : Nat × FeatureCfg) : State :=
  let x := s.ain e.1
  let k := s.now / max 1 e.2.interval
  if e.2.task ≠ t ∨ k ≤ x.featSent then s
  else
    let seen := e.2.timer.any (fun i => decide (1 ≤ (s.tachT i).caps))
    taskSend t 1 (featWords e.2 seen (featClosed x k) s.fresh) { s.setAin e.1 { x with featSent := k } with fresh := s.fresh + 11 }

/-- A run of the feature task reports each channel assigned to it. -/
def featRun (t : Nat) (s : State) : State := s.nvm.cm.features.foldl (featReport t) s

/-! ## An entry (R272) -/

def alarmWord (a : List Word) (i : Nat) : Word := (a[i]?).getD 0
def alarmSrc (a : List Word) : Nat := bits (alarmWord a 0) 11 0
def alarmIndex (a : List Word) : Nat := bits (alarmWord a 0) 15 12
def alarmOn (a : List Word) : Bool := (alarmWord a 0).getLsbD 16
def alarmLow (a : List Word) : Bool := (alarmWord a 0).getLsbD 17
def alarmConf (a : List Word) : Nat := bits (alarmWord a 0) 21 18 + 1
def alarmTask (a : List Word) : Nat := bits (alarmWord a 4) 8 0

/-- The entry is accepted (R272). -/
def alarmOk (a : List Word) : Bool :=
  match f32 (alarmWord a 1), f32 (alarmWord a 2), f32 (alarmWord a 3) with
  | some al, some da, some h =>
    f32Finite (alarmWord a 1) && f32Finite (alarmWord a 2) && f32Finite (alarmWord a 3) && decide (0 ≤ h) &&
    (if alarmLow a then decide (da ≤ al) else decide (al ≤ da)) && (decide (da = al) || decide (h < (da - al).natAbs))
  | _, _, _ => false

/-- The level less the hysteresis, mirrored for DIR = LOW: ±level × 1 − hysteresis. -/
def alarmBack (a : List Word) (i : Nat) : Word :=
  fma32 (alarmWord a i) (if alarmLow a then 0xBF800000 else 0x3F800000) (alarmWord a 3 ^^^ 0x80000000)

/-- The target of a value (R273). For DIR = LOW every comparison is mirrored. -/
def alarmTarget (a : List Word) (st : AlarmState) (v : Int) : AlarmState :=
  match f32 (alarmWord a 1), f32 (alarmWord a 2), f32 (alarmBack a 1), f32 (alarmBack a 2) with
  | some al, some da, some alBack, some daBack =>
    let m (x : Int) : Int := if alarmLow a then -x else x
    let x := m v
    if m da ≤ x ∨ (st = .danger ∧ daBack ≤ x) then .danger
    else if m al ≤ x ∨ (st ≠ .normal ∧ alBack ≤ x) then .alert
    else .normal
  | _, _, _, _ => .normal

def alarmStateNo : AlarmState → Nat
  | .normal => 0 | .alert => 1 | .danger => 2

/-! ## The frames and states of an entry (R274) -/

/-- The alarm frame of an entry: 0x20 state change, 0x21 NODATA set, 0x22 data back (R274). -/
def alarmFrame (kind n : Nat) (a : Alarm) (v stamp : Word) (s : State) : State :=
  taskSend (alarmTask a.words) 4 [pack [(n, 0, 12), (alarmStateNo a.state, 22, 2), (kind, 24, 8)], v, stamp] s

def State.alarmE (s : State) (n : Nat) : Alarm := look {} s.alarm n
def State.setAlarm (s : State) (n : Nat) (a : Alarm) : State := { s with alarm := put {} s.alarm n a }

/-- A report without data: the count restarts and NODATA is set (R274). -/
def alarmNoData (n : Nat) (v stamp : Word) (s : State) : State :=
  let a := s.alarmE n
  let a1 := { a with run := 0, nodata := true }
  if a.nodata then s.setAlarm n a1 else alarmFrame 0x21 n a1 v stamp (s.setAlarm n a1)

/-- A report with data: the target is formed and confirmed (R273). -/
def alarmValue (n : Nat) (v : Int) (w stamp : Word) (s : State) : State :=
  let a := s.alarmE n
  let t := alarmTarget a.words a.state v
  let r := if t = a.target then a.run + 1 else 1
  let s1 := if a.nodata then alarmFrame 0x22 n a w stamp s else s
  let change := decide (t ≠ a.state) && decide (alarmConf a.words ≤ r)
  let a1 := { a with nodata := false, target := t, run := if change then 0 else r, state := if change then t else a.state }
  if change then alarmFrame 0x20 n a1 w stamp (s1.setAlarm n a1) else s1.setAlarm n a1

/-- A clipped local report (R271): for HIGH a value below every level, for LOW every value, counts as no data. -/
def alarmClipped (a : List Word) (v : Int) : Bool :=
  alarmLow a || (match f32 (alarmWord a 1), f32 (alarmWord a 2) with
    | some al, some da => decide (v < al) && decide (v < da)
    | _, _ => true)

/-- One entry takes a report frame. A report without the value named is one without data; the frame's VALUE is then free
(DESIGN CHOICE, log entry 161). -/
def alarmReport (f : TrigFrame) (stamp : Word) (s : State) (n : Nat) : State :=
  let a := (s.alarmE n).words
  let clipped := decide (f.src < 0x300) && ((f.words[11]?).getD 0).getLsbD 0
  match f.words[alarmIndex a]? with
  | none => alarmNoData n (fresh s).1 stamp (fresh s).2
  | some w =>
    match f32 w with
    | none => alarmNoData n w stamp s
    | some v => if clipped && alarmClipped a v then alarmNoData n w stamp s else alarmValue n v w stamp s

/-- The entries an alarm task evaluates for a source. -/
def alarmEntries (s : State) (t src : Nat) : List Nat :=
  (s.alarm.filter (fun e => alarmOn e.2.words && decide (alarmTask e.2.words = t) && decide (alarmSrc e.2.words = src))).map (·.1)

/-- A run of an alarm task on a feature report evaluates every entry that names the task and the source. -/
def alarmRun (t : Nat) (f : TrigFrame) (stamp : Nat) (s : State) : State :=
  if f.cls = 1 then (alarmEntries s t f.src).foldl (alarmReport f (BitVec.ofNat 32 stamp)) s else s

/-- A node address becomes STALE: its entries have no data (R274). There is no report, so VALUE and STAMP are free (DESIGN
CHOICE, log entry 161). -/
def alarmStale (src : Nat) (s : State) : State :=
  ((s.alarm.filter (fun e => alarmOn e.2.words && decide (alarmSrc e.2.words = src))).map (·.1)).foldl
    (fun t n => alarmNoData n (fresh t).1 (fresh (fresh t).2).1 (fresh (fresh t).2).2) s

/-- R275: a changed entry is applied; its state stays, its count restarts, and a disabled one is NORMAL. -/
def alarmUpdate (n : Nat) (s : State) : State :=
  let a := s.alarmE n
  match a.next with
  | some ws => s.setAlarm n { a with words := ws, next := none, run := 0, state := if alarmOn ws then a.state else .normal }
  | none => s

def execAlarmEntryUpdate (entry : Nat) (s : State) : Host.Outcome State Fault Refusal := run s (alarmUpdate entry)

end Sys2Proof.Machine
end

