-- ==== Sys2Proof/Machine/Fabric.lean ====
section
/-!
DEFINITION. The tag fabric as its receivers see it (R22 to R45): word check, reassembly, sequence window, routes, counters,
link failures and LAST resets.
-/
namespace Sys2Proof.Machine

open Sys2Proof

/-! ## Sources (R25) -/

/-- A reserved source identity (R25). -/
def reservedSrc (n : Nat) : Bool :=
  decide (n = 0x9FF ∨ n = 0xBFF ∨ n = 0xDFF ∨ n = 0xFFF) ||
  !(decide (n ≤ 2) || decide (0x80 ≤ n ∧ n ≤ 0x9F) || decide (0xA0 ≤ n ∧ n ≤ 0xA7) || decide (0xC0 ≤ n ∧ n ≤ 0xDF) ||
    decide (0x100 ≤ n ∧ n ≤ 0x2FF) || (decide (0x300 ≤ n ∧ n ≤ 0x34F) && decide (1 ≤ n % 16 ∧ n % 16 ≤ 3)) ||
    decide (0x400 ≤ n ∧ n ≤ 0x405) || decide (0x408 ≤ n ∧ n ≤ 0x40B) || decide (n = 0x410 ∨ n = 0x411) ||
    decide (0x600 ≤ n ∧ n ≤ 0x63F) || decide (0x800 ≤ n))

/-! ## Ports, endpoints and links (R44) -/

/-- The endpoint of a receiving port; none for the CM switch. -/
def portEndpoint (p : Nat) : Option Nat :=
  if p < 16 then some (p / 4) else if p < 20 then none else some (p - 16)

/-- The two receiving ports of a link. -/
def linkPorts : List (Nat × Nat) := [(0, 4), (1, 8), (2, 12), (3, 16), (5, 9), (6, 13), (10, 14), (7, 17), (11, 18), (15, 19)]

/-- The link a port receives from. -/
def portLink (p : Nat) : Option Nat :=
  ((List.range 10).zip linkPorts).find? (fun e => decide (e.2.1 = p ∨ e.2.2 = p)) |>.map (·.1)

/-- The port's link carries a safety route (R39): image and streams to the lanes, votes, captures over the links of the CM
die with the lanes (7 to 9) and of the tach block, state copies between lanes. -/
def portSafe (p : Nat) : Bool := decide (p < 3) || decide (4 ≤ p ∧ p < 16) || decide (17 ≤ p ∧ p ≤ 19) || decide (p = 23)

/-- FAB_STATUS.LINK_UP. -/
def linkUp (s : State) : BitVec 10 :=
  ((List.range 10).zip linkPorts).foldl (fun a e =>
    if s.fab.portGood.getLsbD e.2.1 && s.fab.portGood.getLsbD e.2.2 then a ||| BitVec.ofNat 10 (1 <<< e.1) else a) 0

/-! ## Counts on their way to the CM die (R44) -/

/-- The counts of a port with those a diagnostic frame brings. -/
def PortCnt.merge (c n : PortCnt) : PortCnt :=
  let f (a b : Word) (i : Nat) (o : BitVec 6) : Word × BitVec 6 := wrapAdd a b.toNat i o
  let (c0, o0) := f c.chk n.chk 0 (c.ovf ||| n.ovf)
  let (c1, o1) := f c.seqdrop n.seqdrop 1 o0
  let (c2, o2) := f c.lost n.lost 2 o1
  let (c3, o3) := f c.crc n.crc 3 o2
  let (c4, o4) := f c.len n.len 4 o3
  let (c5, o5) := f c.route n.route 5 o4
  { chk := c0, seqdrop := c1, lost := c2, crc := c3, len := c4, route := c5, ovf := o5 }

/-- The diagnostic frame of a die: the six counts of each of its four ports. -/
def diagWords (f : Fab) (die : Nat) : List Word :=
  (List.range 4).flatMap (fun i =>
    let c := look {} f.cntNew (4 * die + i)
    [c.chk, c.seqdrop, c.lost, c.crc, c.len, c.route])

/-- Once per cycle the field die and the lanes send their counts in class 0x7 frames, and the CM die adds them (R44). -/
def sendCounts (s : State) : State :=
  let s1 := sendFrame 0x002 7 (diagWords s.fab 0) s
  let s2 := allLanes.foldl (fun t l => laneFrame l 0x330 7 (diagWords t.fab (laneNo l)) t) s1
  { s2 with fab := { s2.fab with
      cnt := s2.fab.cntNew.foldl (fun m e => put {} m e.1 (PortCnt.merge (look {} m e.1) e.2)) s2.fab.cnt, cntNew := [] } }

/-! ## Link failures (R27) -/

/-- A receiver's link has failed: LINK_FAIL goes to the Umpire. -/
def reportLink (s : State) : State := report 32 codeLinkFail 0 s

/-- LINK_UP of a link falls with LINK_FAIL, until a word passes CHK in each direction again: the spec gives no other
instant at which a link stops passing CHK (DESIGN CHOICE, log entry 117). -/
def linkFailed (link : Nat) (s : State) : State :=
  let ports := (linkPorts[link]?).getD (31, 31)
  let m : BitVec 32 := BitVec.ofNat 32 (1 <<< ports.1) ||| BitVec.ofNat 32 (1 <<< ports.2)
  reportLink
    { s with fab := { s.fab with linkFail := s.fab.linkFail ||| BitVec.ofNat 10 (1 <<< link), portGood := s.fab.portGood &&& ~~~m } }

def execLinkFail (link : Nat) (s : State) : Host.Outcome State Fault Refusal :=
  run s (fun s => whenever (decide (link < 10)) (linkFailed link) s)

/-! ## Reassembly (R28 to R33) -/

def State.rx (s : State) (ep src : Nat) : Rx := look {} s.fab.rx (ep * 4096 + src)
def State.setRx (s : State) (ep src : Nat) (r : Rx) : State :=
  { s with fab := { s.fab with rx := put {} s.fab.rx (ep * 4096 + src) r } }

/-- A word fails its check: the word and every frame open at the port are discarded. -/
def chkFail (p : Nat) (s : State) : State :=
  let s1 := countPort p 0 1 s
  let rx := s1.fab.rx.map (fun e => match e.2.frame with
    | some f => if f.port = p then (e.1, { e.2 with frame := none }) else e
    | none => e)
  let s2 := { s1 with fab := { s1.fab with rx := rx.filter (fun e => decide (e.2 ≠ ({} : Rx))) } }
  let n := (s2.fcnt p).chkInCycle + 1
  let s3 := s2.setFcnt p { s2.fcnt p with chkInCycle := n }
  let s4 := if portSafe p then report 32 codeChkFail 0 s3 else s3
  if n = 4 then
    match portLink p with
    | some l => linkFailed l s4
    | none => reportLink s4
  else s4

/-- A frame is accepted at an endpoint: an alarm frame at the Umpire is a report on its line (R307), at the management core an
event (R407). -/
def acceptFrame (ep src cls : Nat) (data : List Word) (s : State) : State :=
  let s1 := { s with fab := { s.fab with inbox := put (0, 0, []) s.fab.inbox ep (src, cls, data) } }
  if ep = 8 ∧ cls = 4 then alarmEvent src data s1.timeNow s1
  else if ep = 13 ∧ cls = 4 then
    match alarmReportOf data with
    | some r => if lineSrc r.line = some src ∨ (r.line = 52 ∧ 0x321 ≤ src ∧ src ≤ 0x323) ∨
        (41 ≤ r.line ∧ r.line ≤ 44 ∧ r.line + 0x3DF = src) then atUmpire r s1 else s1
    | none => s1
  else s1

/-- A frame with its last word is checked and accepted or discarded (R31, R33). -/
def frameEnd (p ep src : Nat) (r : Route) (f : OpenFrame) (s : State) : State :=
  let x := s.rx ep src
  let data := if needsCrc r f.cls then f.payload.dropLast else f.payload
  let good := !needsCrc r f.cls || (!data.isEmpty && decide (f.payload.getLast? = some (frameCrc src f.seq f.cls data)))
  if f.drop then s.setRx ep src { x with frame := none }
  else if good then
    let d := (f.seq + 256 - x.last) % 256
    acceptFrame ep src f.cls data (countPort p 2 (d - 1) (s.setRx ep src { last := f.seq, sync := true, frame := none }))
  else
    let s1 := countPort p 3 1 (s.setRx ep src { x with frame := none })
    if r.safe then report 32 codeFrameCrc 0 s1 else s1

/-- An open frame is discarded: a frame length error (R29), unless the sequence window had already dropped it whole (R32). -/
def frameLen (p ep src : Nat) (r : Route) (dropped : Bool) (s : State) : State :=
  let s0 := s.setRx ep src { s.rx ep src with frame := none }
  if dropped then s0
  else
    let s1 := countPort p 4 1 s0
    if r.safe then report 32 codeFrameLen 0 s1 else s1

/-- The first word of a frame, judged by the sequence window (R32). -/
def frameStart (p ep src : Nat) (r : Route) (w : Word × Word) (s : State) : State :=
  let x := s.rx ep src
  let d := (tagSeq w.1 + 256 - x.last) % 256
  let inWindow := decide (1 ≤ d) && decide (d ≤ 128)
  let s1 := if inWindow then s else
    let s2 := countPort p 1 1 s
    if r.safe then report 32 codeSeqWindow 0 s2 else s2
  let f : OpenFrame := { port := p, seq := tagSeq w.1, cls := tagCls w.1, payload := [w.2], drop := !inWindow }
  if tagLast w.1 then frameEnd p ep src r f (s1.setRx ep src { s1.rx ep src with frame := some f })
  else s1.setRx ep src { s1.rx ep src with frame := some f }

/-- A routed word at a destination endpoint. A frame that reaches 256 words without L = 1 is discarded at its 256th word; that
arriving word then starts a new frame, as after a word that differs: R29's last sentence is read for both cases (DEDUCED,
log entry 118). -/
def wordAt (p : Nat) (r : Route) (w : Word × Word) (s : State) (ep : Nat) : State :=
  let src := tagSrc w.1
  match (s.rx ep src).frame with
  | none => frameStart p ep src r w s
  | some f =>
    if f.seq = tagSeq w.1 ∧ f.cls = tagCls w.1 then
      let g := { f with payload := f.payload ++ [w.2] }
      if tagLast w.1 then frameEnd p ep src r g s
      else if 256 ≤ g.payload.length then frameStart p ep src r w (frameLen p ep src r f.drop s)
      else s.setRx ep src { s.rx ep src with frame := some g }
    else frameStart p ep src r w (frameLen p ep src r f.drop s)

/-- A word is discarded as a route miss; on a safety route it is reported (R35, R44). -/
def routeMiss (p : Nat) (safe : Bool) (s : State) : State :=
  let s1 := countPort p 5 1 s
  if safe then report 32 codeRouteMiss 0 s1 else s1

/-- The CM switch copies a word of another die into the output queue of each destination endpoint (R36). -/
def switchWord (p i : Nat) (r : Route) (w : Word × Word) (s : State) : State :=
  let q : QWord := { word := { src := tagSrc w.1, seq := tagSeq w.1, cls := tagCls w.1, seat := tagSeat w.1, last := tagLast w.1,
                               payload := w.2 }, route := i, safe := r.safe, since := 3 * s.now }
  match switchCopies (cmEps r.dest) with
  | [] => routeMiss p r.safe s
  | cs => { s with fab := cs.foldl (fun f e => f.queueWord e.1 (r.queue % 16) { q with dest := e.2 }) s.fab }

/-- A word at a receiving port (R26, R27, R23, R24, R25, R35): at an endpoint, or at the CM switch. A word that reaches an
endpoint its route does not name is discarded as a route miss: the spec gives only the case of no matching entry (DESIGN
CHOICE, log entry 119). -/
def receiveWord (p : Nat) (s : State) (w : Word × Word) : State :=
  if !wordOk w then chkFail p s
  else
    let s1 := { s with fab := { s.fab with portGood := s.fab.portGood ||| BitVec.ofNat 32 (1 <<< p) } }
    if !tagValid w.1 then s1
    else if 10 ≤ tagCls w.1 ∨ reservedSrc (tagSrc w.1) then routeMiss p false s1
    else match routeIdx s1 (tagSrc w.1) (tagCls w.1) with
      | none => routeMiss p false s1
      | some i =>
        let r := routeAt s1 i
        match portEndpoint p with
        | some ep => if r.dest.getLsbD ep then wordAt p r w s1 ep else routeMiss p r.safe s1
        | none => switchWord p i r w s1

/-- The words of a frame arrive at a port; idle words count as no traffic (R23). -/
def receiveFrame (p : Nat) (words : List (Word × Word)) (wait : Nat) (s : State) : State :=
  words.foldl (receiveWord p) (match words.find? (fun w => tagValid w.1) with
    | some w => noteWait (tagSrc w.1) (tagCls w.1) wait s
    | none => s)

/-- A frame meets its route's hook, or arrives. -/
def frameArrives (p : Nat) (words : List (Word × Word)) (wait : Nat) (s : State) : State :=
  match words.find? (fun w => tagValid w.1) with
  | none => receiveFrame p words wait s
  | some w =>
    hookedFrame (tagSrc w.1) (tagCls w.1) wait (.fabricFrameReceive p words wait) (receiveFrame p words wait) s

def execFabricFrameReceive (port : Nat) (words : List (Word × Word)) (wait : Nat) (s : State) : Host.Outcome State Fault Refusal :=
  run s (fun s => whenever (decide (port < 32)) (frameArrives port words wait) s)

/-- A DSP task or Boathouse endpoint has had no credit for 4,096 FCLK cycles: the held copy is discarded and counts as a
route miss (R36). -/
def creditDue (s : State) (p : Nat) : Bool :=
  decide (p = 20 ∨ p = 21) && !(s.fab.point p).queues.isEmpty && decide (4096 ≤ (s.fab.point p).starved)

def creditDiscard (p : Nat) (s : State) : State := countPort p 5 1 { s with fab := dropHeld p s.fab }

def execCreditTimeoutDiscard (port : Nat) (s : State) : Host.Outcome State Fault Refusal :=
  run s (fun s => whenever (creditDue s port) (creditDiscard port) s)

/-! ## LAST resets (R34) -/

/-- The block that may reset LAST of a source. -/
def resetter (src : Nat) : Option Nat :=
  if 0x301 ≤ src ∧ src ≤ 0x343 then some 1
  else if 0x100 ≤ src ∧ src ≤ 0x2FF then some 0x400
  else if 0x800 ≤ src ∧ src ≤ 0xFFF then some (0x408 + (src - 0x800) / 0x200)
  else none

/-- The port by which a configuration frame of a block reaches an endpoint. -/
def configPort (ep who : Nat) : Nat :=
  if srcDie who = 4 then switchPort ep else if 1 ≤ ep ∧ ep < 4 then 4 * ep else switchPort ep

/-- A LAST reset reaches an endpoint; one from another block is a route miss. The frame in reassembly goes with its LAST: the
spec says only that LAST becomes 0xFF, and SYNC counts from that reset (DESIGN CHOICE, log entry 120). -/
def lastResetFrame (ep src who : Nat) (s : State) : State :=
  if resetter src = some who then s.setRx ep src {} else routeMiss (configPort ep who) false s

/-- The seat manager's LAST resets reach a lane only in the command window of R40. -/
def lastResetDue (s : State) (ep who : Nat) : Bool :=
  !(decide (1 ≤ ep ∧ ep < 4) && decide (who = 1)) || decide (s.t0 + 11000 ≤ s.now)

def execLastResetFrame (endpoint src who : Nat) (s : State) : Host.Outcome State Fault Refusal :=
  run s (fun s => whenever (lastResetDue s endpoint who) (lastResetFrame endpoint src who) s)

end Sys2Proof.Machine
end

