-- ==== Sys2Proof/Machine/Pmus.lean ====
section
/-!
DEFINITION. The performance monitor (R241 to R249).
-/
namespace Sys2Proof.Machine

open Sys2Proof

/-- DCLK cycles in one tick of 10 ns, without spread (R221). -/
def dclkPerTick : Nat := 6

/-- The cycle counter now (R241). -/
def cycNow (s : State) (c : Nat) : Nat :=
  let p := s.pmu c
  match p.since with
  | some t => (p.cyc + dclkPerTick * (s.now - t)) % 18446744073709551616
  | none => p.cyc

/-- The counters of a core count: it is not shut down and the counters are not frozen. -/
def counting (s : State) (c : Nat) : Bool :=
  let st := (s.core c).state
  !s.cox.freeze && decide (st ≠ .off) && decide (st ≠ .bist) && decide (st ≠ .halt)

/-! ## Events (R242) -/

def evEvent (e : Word) : Nat := bits e 7 0
def evFilt (e : Word) : Bool := e.getLsbD 8
def evTask (e : Word) : Nat := bits e 17 9
def evIrq (e : Word) : Bool := e.getLsbD 18
def evEn (e : Word) : Bool := e.getLsbD 31

/-- The task that runs on a core, 0 for none. -/
def coreTask (s : State) (c : Nat) : Nat := (s.core c).task.getD 0

/-- Counter `k` of a core has wrapped in a run of task `t` (R244, R246): with IRQ it records a sample; the sampled address is
free within its skid. -/
def counterWrap (c k t : Nat) (s : State) : State :=
  let p := s.pmu c
  let s1 := s.setPmu c { p with ovf := p.ovf ||| BitVec.ofNat 32 (1 <<< k) }
  if k < 8 ∧ evIrq (look 0 p.evsel k) then
    let (a, s2) := fresh s1
    let w := pack [(a.toNat, 0, 15), (if p.sample.getLsbD 31 then 1 else 0, 15, 1), (t, 16, 9), (k, 25, 3), (1, 31, 1)]
    let s3 := s2.setPmu c { s2.pmu c with sample := w }
    let s4 := sendFrame 0x400 7 [w] s3
    pushEvent 0x400 7 0 [w] s4.timeNow { s4 with host := { s4.host with irqStat := s4.host.irqStat ||| 0x80 } }
  else s1

/-! ## The pipeline's cycles (R243) -/

/-- The codes of what a core's pipeline does from clock to clock. -/
def pipelineEvent (e : Word) : Bool := evEn e && decide (1 ≤ evEvent e) && decide (evEvent e ≤ 0x0D)

/-- The counts over some busy cycles: stalled ones by their cause, then the slots of the others by their class. -/
structure Cycles where
  wave : Nat
  send : Nat
  bank : Nat
  operand : Nat
  bundles : Nat
  retired : Nat
  wasted : Nat
  front : Nat
  macs : Nat
  branches : Nat
  deriving DecidableEq, Repr

/-- What `n` busy cycles of a core did. A task's program is not the model's to run, so the counts are free within R243: each
cycle is stalled, by one cause, or its four slots are each retired, wasted or starved-front; a COPY_WAIT is a
waveform-memory stall, a SEND that waits for room a transmit-buffer stall (R242). -/
def cyclesOf (r : CoreRun) (n f : Nat) : Cycles :=
  let d (i m : Nat) : Nat := Config.pipelineCount (f + i) % (m + 1)
  match r with
  | .idle => ⟨0, 0, 0, 0, 0, 0, 0, 0, 0, 0⟩
  | .waits _ => ⟨n, 0, 0, 0, 0, 0, 0, 0, 0, 0⟩
  | .sends _ => ⟨0, n, 0, 0, 0, 0, 0, 0, 0, 0⟩
  | .runs _ =>
    let wave := d 0 n
    let send := d 1 (n - wave)
    let bank := d 2 (n - wave - send)
    let operand := d 3 (n - wave - send - bank)
    let go := n - wave - send - bank - operand
    let bundles := d 4 go
    let retired := d 5 (4 * bundles)
    let wasted := d 6 (4 * go - retired)
    ⟨wave, send, bank, operand, bundles, retired, wasted, 4 * go - retired - wasted, d 7 retired, d 8 bundles⟩

/-- Stalled cycles. -/
def Cycles.stalled (c : Cycles) : Nat := c.wave + c.send + c.bank + c.operand

/-- The count of each event of R242 that the pipeline makes, of `n` busy cycles. Every instruction that retires holds a slot. -/
def Cycles.count (c : Cycles) (n : Nat) : Nat → Nat
  | 0x01 => n
  | 0x02 => c.bundles
  | 0x03 => c.retired
  | 0x04 => c.retired
  | 0x05 => c.wasted
  | 0x06 => c.front
  | 0x07 => 4 * c.stalled
  | 0x08 => c.macs
  | 0x09 => c.bank
  | 0x0A => c.wave
  | 0x0B => c.send
  | 0x0C => c.operand
  | 0x0D => c.branches
  | _ => 0

/-- What a core does with its cycles now. -/
def coreRun (k : Core) : CoreRun :=
  match k.task with
  | none => .idle
  | some t =>
    if decide (k.state ≠ .run) && decide (k.state ≠ .shutdown) then .idle
    else if k.waiting then .waits t
    else if k.stalled.isSome then .sends t
    else .runs t

def CoreRun.task : CoreRun → Option Nat
  | .idle => none
  | .runs t => some t
  | .waits t => some t
  | .sends t => some t

/-- Counter `k` takes the pipeline's counts over `n` cycles. -/
def countCycles (c n : Nat) (r : CoreRun) (q : Cycles) (s : State) (k : Nat) : State :=
  let p := s.pmu c
  let e := look 0 p.evsel k
  if pipelineEvent e && decide (r ≠ .idle) && (!evFilt e || decide (r.task = some (evTask e))) then
    let v := look 0 p.cnt k + q.count n (evEvent e)
    let s1 := s.setPmu c { p with cnt := put 0 p.cnt k (v % 281474976710656) }
    if 281474976710656 ≤ v then counterWrap c k (r.task.getD 0) s1 else s1
  else s

/-- The DCLK cycles since the counters were last brought up to date. -/
def cyclesSince (s : State) (c : Nat) : Nat :=
  match (s.pmu c).since with
  | some t => dclkPerTick * (s.now - t)
  | none => 0

/-- The counters of a core are brought up to date with what it did since, and go on or stop as its state now says. A wrap of
the cycle counter sets CYC of PMU_OVFc. -/
def pmuSync (c : Nat) (s : State) : State :=
  let p := s.pmu c
  let n := cyclesSince s c
  let s1 := s.setPmu c { p with
    cyc := cycNow s c, since := if counting s c then some s.now else none, run := coreRun (s.core c),
    ovf := if 18446744073709551616 ≤ p.cyc + n then p.ovf ||| 0x100 else p.ovf }
  if n = 0 ∨ p.run = .idle then s1
  else (List.range 8).foldl (countCycles c n p.run (cyclesOf p.run n s.fresh)) { s1 with fresh := s.fresh + 9 }

/-- A core changes its state; its counters follow. -/
def coreTo (c : Nat) (st : CoreState) (s : State) : State := pmuSync c (s.setCore c { s.core c with state := st })

/-! ## Single events -/

/-- Counter `k` takes an event of its code. -/
def countEvent (c code : Nat) (s : State) (k : Nat) : State :=
  let p := s.pmu c
  let e := look 0 p.evsel k
  if evEn e && decide (evEvent e = code) && (!evFilt e || decide ((s.core c).task = some (evTask e))) && counting s c then
    let v := look 0 p.cnt k + 1
    let s1 := s.setPmu c { p with cnt := put 0 p.cnt k (v % 281474976710656) }
    if 281474976710656 ≤ v then counterWrap c k (coreTask s c) s1 else s1
  else s

/-- An event on a core. -/
def pmuEvent (c code : Nat) (s : State) : State := (List.range 8).foldl (countEvent c code) s

/-- R246: a counter wraps where its count has come to its end: the counters are brought up to date. -/
def pmuWrap (c : Nat) (s : State) : State := if counting s c then pmuSync c s else s

def execPmuCounterWrap (core _k : Nat) (s : State) : Host.Outcome State Fault Refusal :=
  run s (fun s => whenever (decide (core < 8)) (pmuWrap core) s)

/-! ## Snapshot and freeze (R245) -/

def snapCore (s : State) (c : Nat) : State :=
  let s1 := pmuSync c s
  s1.setPmu c { s1.pmu c with snapCyc := cycNow s1 c, snap := (s1.pmu c).cnt }

def pmuSnap (s : State) : State :=
  let s1 := (List.range 8).foldl snapCore s
  { s1 with cox := { s1.cox with snapValid := true } }

def execPmuSnap (_port : Port) (s : State) : Host.Outcome State Fault Refusal := run s pmuSnap

/-- Every counter of every core stops or resumes on one edge. -/
def pmuFreeze (on : Bool) (s : State) : State :=
  let s1 := (List.range 8).foldl (fun t c => pmuSync c t) s
  (List.range 8).foldl (fun t c => pmuSync c t) { s1 with cox := { s1.cox with freeze := on } }

def execPmuFreeze (_port : Port) (on : Bool) (s : State) : Host.Outcome State Fault Refusal := run s (pmuFreeze on)

/-- A self-test slice of a core clears its counters (R248). -/
def pmuBistClear (c : Nat) (s : State) : State :=
  let p := s.pmu c
  s.setPmu c { p with cyc := 0, cnt := [], since := if counting s c then some s.now else none, ovf := p.ovf ||| 0x200 }

/-! ## The host's writes (R249): password class -/

def addrPmu (c off : Nat) : Nat := 0x000D0000 + 0x1000 * (c + 1) + off

/-- A counter takes a written half; that edge's increment is not counted (R244). -/
def writeCounter (c k : Nat) (hi : Bool) (v : Word) (s : State) : State :=
  let s1 := pmuSync c s
  let p := s1.pmu c
  let old := look 0 p.cnt k
  let new := if hi then bits v 15 0 * 4294967296 + old % 4294967296 else old / 4294967296 * 4294967296 + v.toNat
  s1.setPmu c { p with cnt := put 0 p.cnt k new }

def writeEvsel (c k : Nat) (v : Word) (s : State) : State :=
  let s1 := pmuSync c s
  s1.setPmu c { s1.pmu c with evsel := put 0 (s1.pmu c).evsel k (v &&& 0x8007FFFF) }

/-- A host access to a core's registers sees its counters as they are at that instant. -/
def pmuSeen (a : Nat) (s : State) : State :=
  let o := a % 0x10000
  if a / 0x10000 = 0x0D ∧ 0x1000 ≤ o ∧ o < 0x9000 then pmuSync (o / 0x1000 - 1) s else s

end Sys2Proof.Machine
end

