-- ==== Sys2Proof/Machine/Coxes.lean ====
section
/-!
DEFINITION. Cox (R223 to R239): descriptors, releases, dispatch, the service calls, overruns, task and core commands. A
task's own computation is its program's: what it computes comes with the command.
-/
namespace Sys2Proof.Machine

open Sys2Proof

/-! ## Descriptors (R229) -/

def taskValid (x : Task) : Bool := x.w0.getLsbD 9
def taskPrio (x : Task) : Nat := bits x.w0 12 10
def taskTrig (x : Task) : Bool := x.w0.getLsbD 13
def taskOn (x : Task) (c : Nat) : Bool := x.w0.getLsbD (14 + c)
def taskLimit (x : Task) : Nat := bits x.w0 25 22
def taskPeriod (x : Task) : Nat := 100 * bits x.w1 23 0
def taskPhase (x : Task) : Nat := 100 * bits x.w2 23 0
def taskDeadline (x : Task) : Nat := 100 * bits x.w3 23 0

/-- The frame matches the descriptor of a triggered task. -/
def taskMatches (x : Task) (f : TrigFrame) : Bool :=
  taskValid x && taskTrig x && decide (bits x.w1 11 0 ≤ f.src) && decide (f.src ≤ bits x.w1 23 12) &&
  (x.w1.getLsbD 28 || decide (bits x.w1 27 24 = f.cls))

def reducedNow (s : State) : Bool := decide (s.sec.power = 1)

/-! ## Releases (R230, R231) -/

/-- The last release tick of a periodic task, where one has been reached. -/
def releaseTick (s : State) (x : Task) : Option Nat :=
  if taskPeriod x = 0 ∨ s.now < taskPhase x then none else some (s.now - (s.now - taskPhase x) % taskPeriod x)

def periodicRelease (t : Nat) (s : State) : State :=
  let x := s.task t
  match releaseTick s x with
  | none => s
  | some k =>
    if !taskValid x || taskTrig x || decide (x.lastRel = some k) then s
    else
      let y := { x with lastRel := some k }
      if decide (x.state = .waiting) && !reducedNow s then
        hookTask t (s.setTask t { y with state := .ready, deadline := k + taskDeadline x, ran := false })
      else if decide (x.state = .disabled ∨ x.state = .disabling ∨ x.state = .suspended) || reducedNow s then
        s.setTask t { y with skipped := x.skipped + 1 }
      else s

def execPeriodicRelease (t : Nat) (s : State) : Host.Outcome State Fault Refusal := run s (periodicRelease t)

/-- A matching frame: in REDUCED it is discarded and counted as COALESCED (R239). -/
def taskTrigger (t : Nat) (f : TrigFrame) (s : State) : State :=
  let x := s.task t
  if !taskMatches x f then s
  else if reducedNow s then s.setTask t { x with coalesced := x.coalesced + 1 }
  else match x.state with
    | .waiting =>
      hookTask t (s.setTask t { x with state := .ready, deadline := s.now + taskDeadline x, trig := some (f, s.now), ran := false })
    | .ready | .running | .preempted =>
      s.setTask t { x with pend := some (f, s.now), coalesced := if x.pend.isSome then x.coalesced + 1 else x.coalesced }
    | .disabled | .suspended | .disabling => s.setTask t { x with skipped := x.skipped + 1 }

def execTaskTrigger (t : Nat) (f : TrigFrame) (s : State) : Host.Outcome State Fault Refusal := run s (taskTrigger t f)

/-! ## Dispatch (R232) -/

/-- Task `a` ranks before task `b`. -/
def outranks (s : State) (a b : Nat) : Bool :=
  let x := s.task a
  let y := s.task b
  decide (taskPrio y < taskPrio x) || (decide (taskPrio x = taskPrio y) &&
    (decide (x.deadline < y.deadline) || (decide (x.deadline = y.deadline) && decide (a < b))))

def coreIdle (s : State) (c : Nat) : Bool := decide ((s.core c).state = .idle)

/-- The lowest-numbered idle core of a task's mask. -/
def idleFor (s : State) (t : Nat) : Option Nat := (List.range 8).find? (fun c => taskOn (s.task t) c && coreIdle s c)

/-- The tasks in the ranking. -/
def rankedTasks (s : State) : List Nat :=
  (s.cox.tasks.filter (fun e => decide (e.2.state = .preempted) || (decide (e.2.state = .ready) && !taskHeld s e.1))).map (·.1)

def bestOf (s : State) (ts : List Nat) : Option Nat :=
  ts.foldl (fun (m : Option Nat) t => match m with
    | none => some t
    | some x => if outranks s t x then some t else m) none

/-- A trigger frame's tag and data words, as bytes of the data region. -/
def trigBytes (f : TrigFrame) : List Byte :=
  (tagWord f.src f.seq f.cls (decide (f.words.length ≤ 1)) (f.words.headD 0) :: f.words).flatMap (fun w => leBytes w.toNat 4)

/-! ## A core's registers and data region (R221, R224) -/

/-- A byte of the data region. -/
def dataByte (k : Core) (i : Nat) : Byte := ((Config.freeWord (k.seed + i / 4)) >>> (8 * (i % 4))).setWidth 8 ^^^ look 0 k.data i

/-- A general register. -/
def regValue (k : Core) (i : Nat) : Word := Config.freeWord (k.regSeed + i) ^^^ look 0 k.regs i

/-- Bytes are stored into the data region. -/
def dataPut (off : Nat) (bs : List Byte) (k : Core) : Core :=
  let held := { k with data := [] }
  { k with data := memBytes off (((List.range bs.length).zip bs).map (fun e => e.2 ^^^ dataByte held (off + e.1))) k.data }

/-- A task starts or resumes on a core. Nothing fixes what the data region holds then, nor the registers of a new run. -/
def startTask (t c : Nat) (s : State) : State :=
  let x := s.task t
  let k := s.core c
  let resume := decide (x.state = .preempted)
  let s1 := s.setTask t { x with state := .running, core := c, ran := true, ovrFlag := false, flagShown := x.ovrFlag }
  let k1 := { k with
    task := some t, seed := s.fresh, data := [], copies := [], waiting := false, stalled := none,
    regSeed := if resume then x.savedSeed else s.fresh + 40960, regs := if resume then x.saved else [],
    result := if resume then .preempted true else .none }
  let k2 := match x.trig with
    | some f => if resume then k1 else dataPut 0 (trigBytes f.1) k1
    | none => k1
  let s2 := s1.setCore c k2
  let s3 := coreTo c .run { s2 with fresh := s.fresh + 41024, cox := { s2.cox with cntDispatch := satInc s2.cox.cntDispatch } }
  pmuEvent c 0x10 s3

/-- One decision: the highest-ranked task that has an idle core in its mask. -/
def dispatch (s : State) : State :=
  match bestOf s ((rankedTasks s).filter (fun t => (idleFor s t).isSome)) with
  | some t => (match idleFor s t with
    | some c => startTask t c s
    | none => s)
  | none => s

def execCoxDispatch (s : State) : Host.Outcome State Fault Refusal := run s dispatch

/-! ## Cores (R238) -/

/-- Nothing keeps the core off. -/
def coreWanted (k : Core) : Bool := k.en && !k.bistOff && !k.eccOff && !k.failed && !k.reduced && !k.halt

/-- The state of a core that is shut down. -/
def offState (k : Core) : CoreState := if k.bistOff then .bist else if k.halt then .halt else .off

/-- The shut-down of a core is complete; what re-enables it is applied. -/
def coreOff (c : Nat) (s : State) : State :=
  let k := s.core c
  let s1 := s.setCore c { k with pending := false, task := none }
  coreTo c (if coreWanted k then .idle else offState k) s1

/-- A cause shuts the core down: at once when it is idle, otherwise at the end of the run or its next YIELD. -/
def coreDown (c : Nat) (s : State) : State :=
  match (s.core c).state with
  | .idle => coreOff c s
  | .run => coreTo c .shutdown s
  | .off | .bist | .halt => coreTo c (offState (s.core c)) s
  | .shutdown => s

/-- A cause is gone: the core returns, or the request is held until its shut-down is complete. -/
def coreUp (c : Nat) (s : State) : State :=
  let k := s.core c
  match k.state with
  | .off | .bist | .halt => if coreWanted k then coreTo c .idle s else coreTo c (offState k) s
  | .shutdown => s.setCore c { k with pending := true }
  | .idle | .run => s

/-- The core has no run any more. -/
def coreFree (c : Nat) (s : State) : State :=
  let k := s.core c
  let s1 := s.setCore c { k with task := none, copies := [], waiting := false, stalled := none }
  if k.state = .shutdown then coreOff c s1 else coreTo c .idle s1

def execCoreShutdownComplete (core : Nat) (s : State) : Host.Outcome State Fault Refusal :=
  run s (fun s => whenever (decide ((s.core core).state = .shutdown) && (s.core core).task.isNone) (coreOff core) s)

/-! ## Ends of a run -/

/-- The state of a task after its run: a DISABLING task is DISABLED, or WAITING by a held ENABLE (R237). -/
def afterRun (st : TaskState) (x : Task) : Task :=
  if x.state = .disabling then { x with state := if x.pending then .waiting else .disabled, pending := false }
  else { x with state := st }

/-- A run is preempted; that of a DISABLING task has ended, and with it, without DONE, its activation (R229). -/
def afterYield (x : Task) : Task :=
  if x.state = .disabling then { afterRun .preempted x with ovrFlag := true, trig := none } else { x with state := .preempted }

/-- The overrun of a task (R235, R236): one that reaches OVR_LIMIT suspends the task also where it was DISABLING. -/
def overrun (t : Nat) (s : State) : State :=
  let x := s.task t
  let reason := if x.state = .running ∨ x.state = .disabling then 0 else if x.ran then 1 else 2
  let run := sat 15 x.ovrRun
  let susp := decide (taskLimit x ≠ 0) && decide (taskLimit x ≤ run)
  let onCore := decide (x.state = .running ∨ x.state = .disabling)
  let x1 := { x with ovrFlag := true, overruns := x.overruns + 1, ovrRun := run, ovrReason := reason, trig := none }
  let y := if susp then { x1 with state := .suspended, pending := false } else afterRun .waiting x1
  let s1 := s.setTask t y
  let s2 := { s1 with cox := { s1.cox with cntOverrun := satInc s1.cox.cntOverrun, lastOvr := some (t, reason, x.deadline) } }
  let s3 := report 45 codeCoxOverrun t s2
  let s4 := if susp then report 45 codeCoxSuspend t s3 else s3
  let s5 := pmuEvent x.core 0x11 s4
  if onCore then coreFree x.core s5 else s5

def overrunDue (s : State) (t : Nat) : Bool :=
  let x := s.task t
  decide (x.deadline ≤ s.now) &&
  decide (x.state = .ready ∨ x.state = .running ∨ x.state = .preempted ∨ x.state = .disabling)

def execCoxOverrun (t : Nat) (s : State) : Host.Outcome State Fault Refusal :=
  run s (fun s => whenever (overrunDue s t) (overrun t) s)

/-- A run with a task, ready for a service call. -/
def runningTask (s : State) (c : Nat) : Option Nat :=
  let k := s.core c
  if decide (k.state = .run ∨ k.state = .shutdown) && !k.waiting && k.stalled.isNone then k.task else none

/-- DONE (R227): in time up to the deadline's own tick; a pending trigger makes the task READY again at once. -/
def taskDone (c : Nat) (s : State) : State :=
  match runningTask s c with
  | none => s
  | some t =>
    let x := s.task t
    if x.deadline < s.now then overrun t s
    else
      let s0 := featRun t (match x.trig with
        | some f => alarmRun t f.1 f.2 s
        | none => s)
      let x0 := s0.task t
      let y := { x0 with runs := x0.runs + 1, ovrRun := 0, trig := none }
      let z := if x0.state = .disabling then afterRun .waiting y
        else match x0.pend with
          | some (f, k) => { y with state := .ready, pend := none, trig := some (f, k), deadline := k + taskDeadline x0, ran := false }
          | none => { y with state := .waiting }
      let s1 := s0.setTask t z
      coreFree c (if z.state = .ready then hookTask t s1 else s1)

def execDone (core : Nat) (s : State) : Host.Outcome State Fault Refusal := run s (taskDone core)

/-- The register context of a preempted run is saved in its context page; the layout of the 128 words is not published,
so the words are free. -/
def saveContext (t : Nat) (s : State) : State :=
  match (s.task t).ctx with
  | some p =>
    let ws := (List.range 128).map (fun i => Config.freeWord (s.fresh + i))
    memPuts (4096 * p) ws { s with fresh := s.fresh + 128 }
  | none => s

/-- The task of a core is preempted. -/
def preempt (c t : Nat) (s : State) : State :=
  let s1 := saveContext t s
  let x := s1.task t
  let y := { afterYield x with saved := (s1.core c).regs, savedSeed := (s1.core c).regSeed }
  let s2 := s1.setTask t y
  let s3 := { s2 with cox := { s2.cox with cntPreempt := satInc s2.cox.cntPreempt } }
  coreFree c (pmuEvent c 0x0F s3)

/-- YIELD (R234): the highest-ranked task that has this core in its mask and no idle core preempts where it outranks; a
core that is being shut down preempts whatever the ranking says (R238). -/
def taskYield (c : Nat) (s : State) : State :=
  match runningTask s c with
  | none => s
  | some t =>
    let s0 := pmuEvent c 0x0E s
    if (s0.task t).deadline ≤ s0.now then overrun t s0
    else if (s0.core c).state = .shutdown then preempt c t s0
    else match bestOf s0 ((rankedTasks s0).filter (fun u => taskOn (s0.task u) c && (idleFor s0 u).isNone)) with
      | some u => if outranks s0 u t then startTask u c (preempt c t s0)
                  else s0.setCore c { s0.core c with result := .preempted false }
      | none => s0.setCore c { s0.core c with result := .preempted false }

def execYield (core : Nat) (s : State) : Host.Outcome State Fault Refusal := run s (taskYield core)

/-! ## SEND (R228) -/

def sendOk (cls : Nat) (words : List Word) : Bool :=
  decide (cls = 1 ∨ cls = 2 ∨ cls = 3 ∨ cls = 4 ∨ cls = 7) && decide (1 ≤ words.length) && decide (words.length ≤ 255)

def setResult (c : Nat) (r : CallResult) (s : State) : State := s.setCore c { s.core c with result := r }

/-- The call: refused, stalled while the buffer has no room, or done. -/
def taskSendCall (c cls : Nat) (words : List Word) (room : Bool) (s : State) : State :=
  match runningTask s c with
  | none => s
  | some t =>
    if !sendOk cls words then
      setResult c .refused { s with cox := { s.cox with cntRefused := satInc s.cox.cntRefused } }
    else if room then setResult c .sent (taskSend t cls words s)
    else pmuSync c (s.setCore c { s.core c with stalled := some (cls, words) })

def execSend (core cls : Nat) (words : List Word) (room : Bool) (s : State) : Host.Outcome State Fault Refusal :=
  run s (taskSendCall core cls words room)

def sendRoom (c : Nat) (s : State) : State :=
  let k := s.core c
  match k.stalled, k.task with
  | some (cls, words), some t => setResult c .sent (taskSend t cls words (pmuSync c (s.setCore c { k with stalled := none })))
  | _, _ => s

def execSendBufferRoom (core : Nat) (s : State) : Host.Outcome State Fault Refusal := run s (sendRoom core)

/-! ## Pages and copies (R227) -/

/-- PAGE_REQ: one page for the running task. -/
def pageReq (c : Nat) (s : State) : State :=
  match runningTask s c with
  | none => s
  | some t =>
    let (g, s1) := allocate (0x100 + t) 1 0 1 (pmuEvent c 0x12 s)
    match g with
    | .pages (r :: _) => setResult c (.page (pageRef r)) (s1.setTask t { s1.task t with starved := false })
    | .budget => setResult c (.noPage false) (pmuEvent c 0x13 (s1.setTask t { s1.task t with starved := false }))
    | _ => setResult c (.noPage true) (pmuEvent c 0x13 s1)

def execPageReq (core : Nat) (s : State) : Host.Outcome State Fault Refusal := run s (pageReq core)

/-- PAGE_FREE: the context page stays; a reference no longer held returns EVICTED (R262). -/
def pageFree (c : Nat) (ref : Word) (s : State) : State :=
  match runningTask s c with
  | none => s
  | some t =>
    match refPage s (0x100 + t) ref with
    | some p => if (s.task t).ctx = some p then setResult c .refused s else setResult c .freed (dropPage p s)
    | none => setResult c .evicted s

def execPageFree (core : Nat) (ref : Word) (s : State) : Host.Outcome State Fault Refusal := run s (pageFree core ref)

/-- An access outside the task's resources (R223): the run ends, the task is suspended. -/
def memFault (c : Nat) (s : State) : State :=
  match (s.core c).task with
  | none => s
  | some t => report 45 codeCoxMemfault t (coreFree c (s.setTask t { s.task t with state := .suspended, ovrFlag := true, trig := none, pending := false }))

def execCoxMemfault (core : Nat) (s : State) : Host.Outcome State Fault Refusal := run s (memFault core)

/-- The data region as the task has left it for a copy into a page. -/
def copyStaged (q : CopyReq) (k : Core) : Core := if q.toPage then dataPut q.dataOff (q.data.take q.bytes) k else k

/-- COPY starts, and returns at once; a page not held, or a range outside the page or the 160 KB data region, is an
access outside the task's resources. -/
def copyCall (c : Nat) (q : CopyReq) (s : State) : State :=
  match runningTask s c with
  | none => s
  | some t =>
    if (refPage s (0x100 + t) q.ref).isSome ∧ 1 ≤ q.bytes ∧ q.bytes ≤ 4096 ∧ q.pageOff + q.bytes ≤ 4096 ∧
        q.dataOff + q.bytes ≤ 163840 then
      s.setCore c { copyStaged q (s.core c) with copies := (s.core c).copies ++ [q] }
    else memFault c s

def execCopy (core : Nat) (c : CopyReq) (s : State) : Host.Outcome State Fault Refusal := run s (copyCall core c)

/-- The oldest started copy finishes; a COPY_WAIT ends with the last one. A page lost meanwhile ends the run. -/
def copyDone (c : Nat) (s : State) : State :=
  let k := s.core c
  match k.copies, k.task with
  | q :: rest, some t =>
    let s1 := pmuSync c (s.setCore c { k with copies := rest, waiting := k.waiting && !rest.isEmpty })
    match refPage s (0x100 + t) q.ref with
    | none => memFault c s1
    | some p =>
      let s1 := accessBank (pageBank p) 8 s1
      if q.toPage then
        { s1 with boat := { s1.boat with mem := memBytes (4096 * p + q.pageOff) ((List.range q.bytes).map (fun i => dataByte k (q.dataOff + i))) s1.boat.mem } }
      else
        let bs := (List.range q.bytes).map (fun i => look 0 s1.boat.mem (4096 * p + q.pageOff + i))
        s1.setCore c (dataPut q.dataOff bs (s1.core c))
  | _, _ => s

def execCopyComplete (core : Nat) (s : State) : Host.Outcome State Fault Refusal := run s (copyDone core)

def copyWait (c : Nat) (s : State) : State :=
  match runningTask s c with
  | none => s
  | some _ => pmuSync c (s.setCore c { s.core c with waiting := !(s.core c).copies.isEmpty })

def execCopyWait (core : Nat) (s : State) : Host.Outcome State Fault Refusal := run s (copyWait core)

/-! ## TIME, PMU_READ, LVT_READ -/

def timeCall (c : Nat) (s : State) : State :=
  match runningTask s c with
  | none => s
  | some _ => setResult c (.time (BitVec.ofNat 32 s.now) (BitVec.ofNat 32 (s.now / 4294967296))) s

def execTime (core : Nat) (s : State) : Host.Outcome State Fault Refusal := run s (timeCall core)

/-- A counter of the running core; 8 is the cycle counter (R247). -/
def pmuRead (c idx : Nat) (s : State) : State :=
  match runningTask s c with
  | none => s
  | some _ =>
    if s.cox.userEn.getLsbD c then
      if idx = 8 then setResult c (.counter (cycNow s c)) s
      else
        let s1 := pmuSync c s
        setResult c (.counter (look 0 (s1.pmu c).cnt idx)) s1
    else setResult c (.counter 0) { s with cox := { s.cox with denied := sat 0xFFFF s.cox.denied } }

def execPmuRead (core idx : Nat) (s : State) : Host.Outcome State Fault Refusal := run s (pmuRead core idx)

/-- One entry of a ring's latest-values table, all from one report. -/
def lvtRead (c r addr : Nat) (s : State) : State :=
  match runningTask s c with
  | none => s
  | some _ =>
    let n := look {} (s.rg r).nodes addr
    setResult c (.lvt n.lv (n.stamp.getD 0) n.seq.toNat) s

def execLvtRead (core r addr : Nat) (s : State) : Host.Outcome State Fault Refusal := run s (lvtRead core r addr)

/-! ## Errors (R223, R268) -/

/-- A run ends by an uncorrectable error: the task waits with OVR_FLAG set. -/
def eccEnd (c : Nat) (s : State) : State :=
  match (s.core c).task with
  | none => s
  | some t => coreFree c (s.setTask t { afterRun .waiting (s.task t) with ovrFlag := true, trig := none })

/-- DSP_ECC: the core is shut down until its slice has passed. -/
def dspEcc (c : Nat) (s : State) : State :=
  let t := coreTask s c
  let s1 := s.setCore c { s.core c with eccBit := true, eccOff := true }
  report 45 codeDspEcc t (coreDown c (eccEnd c s1))

def execDspEcc (core : Nat) (s : State) : Host.Outcome State Fault Refusal :=
  run s (fun s => whenever (decide (core < 8)) (dspEcc core) s)

/-- An error of the waveform memory (R268). A corrected one is counted. Another is BOAT_ECC: counted and reported; a core load
that meets it ends the run, the core stays on; a host read that meets it has returned 0. -/
def boatEcc (reader : BoatReader) (corrected : Bool) (s : State) : State :=
  if corrected then
    { s with boat := { s.boat with eccCorr := if s.boat.eccCorr = 0xFFFF then 0xFFFF else s.boat.eccCorr + 1 } }
  else
  let n := s.boat.eccUncorr
  let s1 := report 46 codeBoatEcc 0 { s with boat := { s.boat with eccUncorr := if n = 0xFFFF then n else n + 1 } }
  match reader with
  | .core c => eccEnd c s1
  | .host => { s1 with host := { s1.host with resp := [0] } }
  | .other => s1

def execBoatEcc (e : BoatError) (s : State) : Host.Outcome State Fault Refusal :=
  run s (boatEcc e.reader e.corrected)

/-! ## Task commands (R237) -/

def addrTaskCmd : Nat := 0x000B0070

def taskStateNo : TaskState → Nat
  | .disabled => 0 | .waiting => 1 | .ready => 2 | .running => 3 | .preempted => 4 | .suspended => 5 | .disabling => 6

/-- DISABLE: captures of the task end ABORTED (R260); an activation that it ends has ended without DONE (R229). -/
def taskDisable (t : Nat) (s : State) : State :=
  let x := s.task t
  let s1 := abortCaps (fun c => decide (c.holder = 0x100 + t)) s
  match x.state with
  | .waiting => s1.setTask t { s1.task t with state := .disabled, trig := none, pend := none }
  | .ready | .preempted => s1.setTask t { s1.task t with state := .disabled, ovrFlag := true, trig := none, pend := none }
  | .running => s1.setTask t { s1.task t with state := .disabling }
  | .disabling => s1.setTask t { s1.task t with pending := false }
  | _ => s1

def taskEnable (t : Nat) (s : State) : State :=
  let x := s.task t
  match x.state with
  | .disabled => if taskValid x then s.setTask t { x with state := .waiting } else s
  | .disabling => s.setTask t { x with pending := true }
  | _ => s

/-- The context page holds the task's initial state (R225). -/
def loadImage (t : Nat) (s : State) : State :=
  match (s.task t).ctx with
  | some p => memPuts (4096 * p) (s.task t).image (memZero p s)
  | none => s

/-- RELOAD of a SUSPENDED or DISABLED task: image restored, pages returned, LAST reset everywhere, SEQ at 0. OVR_RUN begins
again at 0 (DESIGN CHOICE, log entry 154). -/
def taskReload (t : Nat) (s : State) : State :=
  let x := s.task t
  if x.state = .suspended ∨ x.state = .disabled then
    let s1 := abortCaps (fun c => decide (c.holder = 0x100 + t)) s
    let s2 := ((heldPages s1 (0x100 + t)).filter (fun p => decide (x.ctx ≠ some p))).foldl (fun u p => dropPage p u) s1
    let s3 := loadImage t (resetSources 0x400 [0x100 + t] s2)
    s3.setTask t { s3.task t with seq := 0, state := .waiting, ovrRun := 0, trig := none, pend := none }
  else s

/-- RELOAD is refused for a task in another state; the other commands always have a meaning. -/
def taskGate (p : Port) (t op : Nat) (ok : Bool) (f : State → State) (s : State) : State :=
  gate p rightOps ok 2 addrTaskCmd [BitVec.ofNat 32 (taskStateNo (s.task t).state)] [BitVec.ofNat 32 (t + 512 * op)] f s

def execTaskDisable (port : Port) (t : Nat) (s : State) : Host.Outcome State Fault Refusal :=
  run s (taskGate port t 0 true (taskDisable t))
def execTaskEnable (port : Port) (t : Nat) (s : State) : Host.Outcome State Fault Refusal :=
  run s (taskGate port t 1 true (taskEnable t))
def execTaskReload (port : Port) (t : Nat) (s : State) : Host.Outcome State Fault Refusal :=
  run s (fun s => taskGate port t 2 (decide ((s.task t).state = .suspended ∨ (s.task t).state = .disabled)) (taskReload t) s)

/-! ## Core commands (R238) -/

def addrCoreCtrl : Nat := 0x000B0004

/-- COX_CORE_CTRL.EN. -/
def coreEnBits (s : State) : Word :=
  (List.range 8).foldl (fun w c => if (s.core c).en then w ||| BitVec.ofNat 32 (1 <<< c) else w) 0

def coreEnable (c : Nat) (s : State) : State := coreUp c (s.setCore c { s.core c with en := true })

def coreDisable (c : Nat) (s : State) : State :=
  if (s.core c).en then coreDown c (s.setCore c { s.core c with en := false, pending := false }) else s

def coreGate (p : Port) (c : Nat) (on : Bool) (f : State → State) (s : State) : State :=
  let m : Word := BitVec.ofNat 32 (1 <<< c)
  let old := coreEnBits s
  gate p rightOps (decide (c < 8)) 2 addrCoreCtrl [old] [if on then old ||| m else old &&& ~~~m] f s

def execCoreEnable (port : Port) (core : Nat) (s : State) : Host.Outcome State Fault Refusal :=
  run s (coreGate port core true (coreEnable core))
def execCoreDisable (port : Port) (core : Nat) (s : State) : Host.Outcome State Fault Refusal :=
  run s (coreGate port core false (coreDisable core))

/-- The module enters or leaves REDUCED: every core is shut down or returns (R239). A halt is released first (R380). -/
def coresReduced (on : Bool) (s : State) : State :=
  (List.range 8).foldl (fun t c =>
    let k := t.core c
    if on then coreDown c (t.setCore c { k with reduced := true, halt := false }) else coreUp c (t.setCore c { k with reduced := false })) s

/-! ## Halts (R375, R380) -/

def haltRelease (c : Nat) (s : State) : State :=
  if (s.core c).halt then coreUp c (s.setCore c { s.core c with halt := false }) else s

def execCoreHaltRelease (core : Nat) (s : State) : Host.Outcome State Fault Refusal := run s (haltRelease core)

end Sys2Proof.Machine
end

