-- ==== Sys2Proof/Machine/Bist.lean ====
section
/-!
DEFINITION. The self-test controller (R323 to R336): requests, starts, ends, and what a result means for the unit.
-/
namespace Sys2Proof.Machine

open Sys2Proof

/-- The unit is a lane die, a DSP core. -/
def isLaneUnit (u : Nat) : Bool := decide (1 ≤ u) && decide (u ≤ 3)
def isCoreUnit (u : Nat) : Bool := decide (8 ≤ u) && decide (u ≤ 15)

/-- Lane slices that are requested of the controller. -/
def lanePending (s : State) : Bool := (s.unit 1).pending || (s.unit 2).pending || (s.unit 3).pending

/-- Some lane slice runs or is requested (R333). -/
def laneBusy (s : State) : Bool :=
  lanePending s || (match s.bist.running with | some u => isLaneUnit u | none => false)

/-- BIST_FAIL: of scope S for units 4 and 5 and for the controller itself at boot, otherwise an event (R309, R331). -/
def bistFail (scopeS : Bool) (detail : Nat) (s : State) : State := report (if scopeS then 12 else 48) codeBistFail detail s

/-! ## Requests (R332 to R334) -/

/-- The seat manager's request goes out: one lane slice at a time; in START the lanes in ascending order (R331). The mode is
destructive at a lock-out release, transparent otherwise (R329). -/
def sliceRequest (l : Lane) (s : State) : State :=
  let first := allLanes.find? (fun k => (s.mgr k).sliceReq)
  let inStart := decide (s.seat.state = .start)
  if s.bist.bootDone && (s.mgr l).sliceReq && !laneBusy s && (!inStart || decide (first = some l)) then
    let s1 := seatCommand 3 l (s.setMgr l { s.mgr l with sliceReq := false })
    s1.setUnit (laneNo l) { s1.unit (laneNo l) with pending := true, mode := if inStart then 0 else 1 }
  else s

def execBistSliceRequest (lane : Lane) (s : State) : Host.Outcome State Fault Refusal := run s (sliceRequest lane)

/-- A core is shut down for a slice. -/
def corePend (c : Nat) (s : State) : State :=
  let s1 := s.setUnit (8 + c) { s.unit (8 + c) with pending := true, mode := 2 }
  coreDown c (s1.setCore c { s1.core c with bistOff := true })

def corePeriodDue (s : State) : Bool :=
  s.bist.bootDone && s.bist.coreEn && decide (s.sec.power = 0) && decide (s.bist.coreAt + s.bist.period * secTicks ≤ s.now)

/-- The next core in turn is due: shut down for its slice, skipped where it is shut down for another cause, and left running
while CTRL_FAIL stands (R338). -/
def coreSliceDue (s : State) : State :=
  let c := s.bist.turn
  let k := s.core c
  let s1 := { s with bist := { s.bist with turn := (c + 1) % 8, coreAt := s.bist.coreAt + s.bist.period * secTicks } }
  if s.bist.ctrlFail || !(decide (k.state = .idle) || decide (k.state = .run)) then s1 else corePend c s1

def execCoreSliceDue (s : State) : Host.Outcome State Fault Refusal := run s (fun s => whenever (corePeriodDue s) coreSliceDue s)

def addrBistCmd : Nat := 0x000F000C

/-- The requests of R334. -/
def cmdOk (s : State) (u : Nat) : Bool :=
  !s.bist.ctrlFail && s.bist.bootDone &&
  ((isCoreUnit u && decide (s.sec.power = 0 ∨ s.sec.power = 2)) ||
    (isLaneUnit u && decide (s.sec.power = 2) && notRetired s (laneOf u)))

/-- An accepted request waits for the controller. -/
def cmdTake (u : Nat) (s : State) : State :=
  if isCoreUnit u then corePend (u - 8) s else s.setUnit u { s.unit u with pending := true, mode := 1 }

/-- A write of BIST_CMD: a password-class change; every refused one is counted in BIST_REFUSED too. -/
def bistCmd (p : Port) (v : Word) (s : State) : State :=
  let u := bits v 3 0
  let s1 := gate p rightOps (cmdOk s u) 2 addrBistCmd [] [BitVec.ofNat 32 u] (cmdTake u) s
  if s1.nvm.logSeq = s.nvm.logSeq then { s1 with bist := { s1.bist with refused := satInc s1.bist.refused } } else s1

def execBistCmdWrite (port : Port) (value : Word) (s : State) : Host.Outcome State Fault Refusal := run s (bistCmd port value)

/-! ## Starts (R325, R328, R338) -/

/-- A core that waits for the recovery slice of R333. -/
def recoveryWaits (s : State) (c : Nat) : Bool :=
  (s.core c).eccOff && !(s.core c).failed && decide (s.sec.power = 0) && decide ((s.core c).state = .off ∨ (s.core c).state = .bist)

/-- The unit's slice may start: the next of the boot sequence; afterwards a requested lane slice, then a recovery slice, then
a core whose shut-down is complete. -/
def startable (s : State) (u : Nat) : Bool :=
  s.bist.running.isNone && !s.bist.ctrlFail &&
  (match s.bist.boot with
   | b :: _ => decide (u = b)
   | [] =>
     s.bist.bootDone &&
     (if isLaneUnit u then (s.unit u).pending && decide (s.seat.state ≠ .lockout) && notRetired s (laneOf u)
      else isCoreUnit u && !laneBusy s &&
        (recoveryWaits s (u - 8) ||
         ((s.unit u).pending && decide ((s.core (u - 8)).state = .bist) && (List.range 8).all (fun c => !recoveryWaits s c)))))

/-- A lane whose slice starts leaves the seats' business: the Spare of a step goes to TESTING (R58), an out lane to its
retest (R68). Its own fault flag ends. -/
def laneSliceStart (l : Lane) (s : State) : State :=
  let m := s.mgr l
  let s1 := (s.setLane l { s.laneD l with faulty := none, out := .none, lclkOut := 0 }).setMgr l { m with gone := false }
  if m.phase = .shadow then
    let s2 := enterState .testing 12 (some l) (s1.setMgr l { m with phase := .slice, agree := 0, sliceResult := none, gone := false })
    { s2 with seat := { s2.seat with step := false, change := true } }
  else if m.phase = .out then s1.setMgr l { m with phase := .slice, sliceResult := none, gone := false }
  else s1

/-- A core's slice starts: its counters are cleared (R248). -/
def coreSliceStart (c : Nat) (s : State) : State :=
  pmuBistClear c (coreTo c .bist (s.setCore c { s.core c with bistOff := true }))

/-- The slice starts with a seeded MISR. -/
def sliceStart (u : Nat) (s : State) : State :=
  let b := s.unit u
  let s1 := s.setUnit u { b with
    done := false, pending := false, runs := b.runs + 1, sig := 0xFFFFFFFFFFFFFFFF, count := 0,
    mode := if isCoreUnit u then 2 else if s.bist.boot.isEmpty then b.mode else 0 }
  let s2 := { s1 with bist := { s1.bist with running := some u, started := s1.now } }
  if isLaneUnit u then laneSliceStart (laneOf u) s2 else if isCoreUnit u then coreSliceStart (u - 8) s2 else s2

/-- The slice of a core is aborted or its request withdrawn; the core returns, but after DSP_ECC stays off. -/
def coreSliceAbort (c : Nat) (s : State) : State :=
  let s1 := dropSlice (8 + c) (abortSlice (8 + c) s)
  if (s1.core c).bistOff then coreUp c (s1.setCore c { s1.core c with bistOff := false }) else s1

/-- REDUCED and HOLD abort every core slice. -/
def coreSlicesAbort (s : State) : State := (List.range 8).foldl (fun t c => coreSliceAbort c t) s

/-- The controller's own check fails (R328): at boot with scope S; in RUN every slice is refused, the waiting ones too, so the
Spare goes on shadowing and a core that waits for its slice keeps running (R338). -/
def controllerFail (s : State) : State :=
  let s1 := bistFail (!s.bist.bootDone) 0xFF { s with bist := { s.bist with ctrlFail := true } }
  if s.bist.bootDone then coreSlicesAbort ((List.range 4).foldl (fun t u => dropSlice u t) s1) else s1

def sliceBegin (u : Nat) (ctrlOk : Bool) (s : State) : State :=
  if startable s u then (if ctrlOk then sliceStart u s else controllerFail s) else s

def execBistSliceStart (unit : Nat) (ctrlOk : Bool) (s : State) : Host.Outcome State Fault Refusal := run s (sliceBegin unit ctrlOk)

/-! ## Ends (R325, R336) -/

/-- The boot sequence goes on to its next unit, and is complete after the last (R330). -/
def bootNext (u : Nat) (again : Bool) (s : State) : State :=
  match s.bist.boot with
  | b :: rest =>
    if b = u then
      let left := if again then rest ++ [u] else rest
      { s with bist := { s.bist with boot := left, bootDone := left.isEmpty, coreAt := if left.isEmpty then s.now else s.bist.coreAt } }
    else s
  | [] => s

/-- The lane returns its signature in a class 0x7 frame of its diagnostic identity, and the controller reports the outcome to
the seat manager in a class 0x2 frame from SRC 0x403 (R332). -/
def resultFrames (u : Nat) (s : State) : State :=
  let b := s.unit u
  let s1 := laneFrame (laneOf u) 0x330 7 [b.sig.setWidth 32, (b.sig >>> 32).setWidth 32, BitVec.ofNat 32 b.count] s
  sendFrame 0x403 2 [pack [(u, 0, 4), (b.last, 8, 2)]] s1

/-- A lane's passed slice: the stamp of LANE_TEST, and what waits for it. In START the lane restarts there, and the seat
manager resets LAST of its identities (R34). -/
def lanePass (l : Lane) (s : State) : State :=
  let m := { s.mgr l with lastPass := some s.timeNow }
  match m.phase with
  | .slice => s.setMgr l { m with sliceResult := some true }
  | .start => resetSources 0x001 (laneSrcs l) (s.setMgr l { m with tested := true })
  | _ => s.setMgr l m

/-- A lane's failed slice counts one failure (R67). At boot it is tested once more after L3 (R331). -/
def laneFail (l : Lane) (s : State) : State :=
  let s1 := countFailure l 0x12 s
  let m := s1.mgr l
  match (s.mgr l).phase with
  | .slice => s1.setMgr l { m with sliceResult := some false }
  | .start => if m.phase = .retired then s1 else s1.setMgr l { m with tested := false, sliceReq := s1.bist.bootDone && !s1.seat.holdInForce }
  | _ => s1

/-- A core's passed slice lets the core return, its data region zero. -/
def corePass (c : Nat) (s : State) : State :=
  coreUp c (s.setCore c { s.core c with bistOff := false, eccOff := false, data := [] })

/-- A core's failed slice keeps it off until the next power cycle (R238). -/
def coreFailed (c : Nat) (s : State) : State :=
  let s1 := s.setCore c { s.core c with bistOff := false, failed := true }
  coreTo c (offState (s1.core c)) s1

/-- The DSP cores are tested inside the CM die's slice (R330). -/
def bootCores (s : State) : State :=
  (List.range 8).foldl (fun t c =>
    let x := t.unit (8 + c)
    t.setUnit (8 + c) { x with last := 1, done := true, runs := x.runs + 1, mode := 0, count := fullCount (8 + c),
                               sig := expectedSig (8 + c), passTime := t.timeNow }) s

/-- The slice of unit `u` has passed. -/
def slicePass (u : Nat) (s : State) : State :=
  let s1 := s.setUnit u { s.unit u with
    last := 1, done := true, cause := 0, sig := expectedSig u, count := fullCount u, passTime := s.timeNow }
  let s2 := { s1 with bist := { s1.bist with running := none } }
  let s3 := if isLaneUnit u then lanePass (laneOf u) (resultFrames u s2) else if isCoreUnit u then corePass (u - 8) s2
    else if u = 5 then bootCores s2 else s2
  bootNext u false s3

/-- The slice of unit `u` has failed. -/
def sliceFail (u cause : Nat) (f : BUnit → BUnit) (s : State) : State :=
  let b := f (s.unit u)
  let s1 := s.setUnit u { b with last := 2, cause, fails := b.fails + 1 }
  let s2 := bistFail (decide (u = 4 ∨ u = 5)) u { s1 with bist := { s1.bist with running := none } }
  let s3 := if isLaneUnit u then laneFail (laneOf u) (resultFrames u s2) else if isCoreUnit u then coreFailed (u - 8) s2 else s2
  bootNext u (isLaneUnit u && decide ((s3.mgr (laneOf u)).phase ≠ .retired)) s3

/-- The regulator of the lane is switched off (R423). -/
def laneUnpowered (s : State) (l : Lane) : Bool := s.sys.laneOff.getLsbD (laneNo l - 1)

/-- 110 % of the slice's duration has passed (R325). -/
def sliceLate (s : State) (u : Nat) : Bool := decide (11 * sliceTicks u ≤ 10 * (s.now - s.bist.started))

/-- The full count is applied by then, so that the unit sets DONE: the signature and, in transparent mode, the segment checks
decide (R326, R329). A lane whose regulator is off reaches no count, so that its slice fails by timeout (R423). -/
def sliceComplete (u applied : Nat) (segOk : Bool) (misr : U64) (s : State) : State :=
  let sig := sliceSig misr applied
  if s.bist.running = some u ∧ applied = fullCount u ∧ 10 * (s.now - s.bist.started) ≤ 11 * sliceTicks u ∧
      (isLaneUnit u && laneUnpowered s (laneOf u)) = false then
    if decide (sig = expectedSig u) && segOk then slicePass u s
    else sliceFail u (if sig = expectedSig u then 3 else 1) (fun b => { b with done := true, sig, count := fullCount u }) s
  else s

def execBistSliceComplete (unit applied : Nat) (segOk : Bool) (misr : U64) (s : State) : Host.Outcome State Fault Refusal :=
  run s (sliceComplete unit applied segOk misr)

/-- 110 % of the slice's duration has passed without the full count. What the MISR then holds is a free value. -/
def sliceTimeout (u : Nat) (s : State) : State :=
  if s.bist.running = some u ∧ sliceLate s u then
    let (a, s1) := fresh s
    let (b, s2) := fresh s1
    sliceFail u 2 (fun x => { x with done := false, sig := a ++ b, count := appliedCount u (s.now - s.bist.started) }) s2
  else s

def execBistSliceTimeout (unit : Nat) (s : State) : Host.Outcome State Fault Refusal := run s (sliceTimeout unit)

/-! ## Aborts of core slices (R335) -/

/-- HOLD begins (R377, R378): the four groups are shut down, the cores return from REDUCED, core slices are aborted. -/
def holdEntry (s : State) : State :=
  coreSlicesAbort (coresReduced false (holdGroups
    { s with seat := { s.seat with holdReq := false }, sec := { s.sec with power := 2 } }))

/-! ## Halts (R375, R380) -/

/-- A halt under CM_DEBUG or FULL is a core shut-down; it is refused in REDUCED. A step runs one bundle and leaves the
core halted; the registers it changes are free. A slice of the core is aborted (R335). -/
def coreHalt (c : Nat) (step : Bool) (s : State) : State :=
  if s.sec.debug = 0 ∨ reducedNow s ∨ 8 ≤ c then s
  else
    let k := s.core c
    if step ∧ k.state = .halt then
      let (w, s1) := fresh s
      s1.setCore c { s1.core c with regs := put 0 (s1.core c).regs (w.toNat % 64) w }
    else if k.halt then s
    else
      let s1 := coreSliceAbort c s
      coreDown c (s1.setCore c { s1.core c with halt := true })

def execCoreHalt (core : Nat) (step : Bool) (s : State) : Host.Outcome State Fault Refusal := run s (coreHalt core step)

end Sys2Proof.Machine
end

