-- ==== Sys2Proof/Machine/Reset.lean ====
section
/-!
DEFINITION. Reset (R427, R428, R355, R362): what a reset leaves of the module, and the start of a boot.
-/
namespace Sys2Proof.Machine

open Sys2Proof

/-- The flash where a reset interrupts it: a header page being programmed is torn after a number of bytes that nothing
fixes, and an area being erased has no valid header. -/
def tornFlash (cut : Nat) (n : Nvm) : Nvm :=
  let n1 := if n.wr.step = 5 then flashProgram n (bankBase n n.wr.target) (n.wr.header.take (cut % 257)) else n
  if n.logErasing then flashErase n1 (logHead n1 (1 - n.logArea)) 4096 else n1

/-- Every die is reset and held. The flash, the OTP, the nodes on the rings and the power-cycle record stay, and so does what
only a power cycle ends (R428): two-oar time with STOP_REQ (R69), the cores whose slice failed (R238) and the lane regulators
that are switched off (R423). The rails are as they are; a node's last
beacon counts from the raw tick count's new 0. -/
def resetAll (s : State) : State :=
  let (w, s1) := fresh s
  let kept (l : Lane) : LaneMgr := if (s1.mgr l).phase = .retired then { phase := .retired } else {}
  let y := s1.sys
  { State.reset with
    fresh := s1.fresh, pending := s1.pending, otp := s1.otp,
    node := s1.node.map (fun e => (e.1, { e.2 with beaconAt := 0 })),
    nvm := { mem := (tornFlash w.toNat s1.nvm).mem },
    seat := { lanes := ⟨kept .l1, kept .l2, kept .l3⟩, twoOarTicks := s1.seat.twoOarTicks, stopReq := s1.seat.stopReq },
    cox := { cores := s1.cox.cores.filterMap (fun e => if e.2.failed then some (e.1, { failed := true }) else none) },
    sys := { cause := y.cause, boots := y.boots, fullSeen := y.fullSeen, keyClosed := y.keyClosed, vsys := y.vsys,
             vsysGood := y.vsysGood, rstLow := y.rstLow, off := y.off, rails := y.rails, laneOff := y.laneOff } }

/-- The power-cycle record is cleared; the lane regulators are switched on again (R423). -/
def recordClear (s : State) : State :=
  { s with
    seat := { s.seat with lanes := ⟨{}, {}, {}⟩, twoOarTicks := 0, stopReq := false },
    cox := { s.cox with cores := [] },
    sys := { s.sys with boots := 0, fullSeen := false, keyClosed := false, rails := s.sys.rails &&& ~~~7#9, laneOff := 0 } }

/-- The release of the module reset and of the BIST controller (R425): the lifecycle state is loaded, the boot's tests wait
(R330), the groups are in the HOLD shut-down (R164), and a record that shows FULL brings FULL back (R375). Between VSYS good, or the
release of SYS_RST_N, and the release of the module reset pass at most 30 ms. -/
def bootUp (s : State) : State :=
  let (w, s1) := fresh s
  let full := s1.sys.fullSeen
  let tested := (allLanes.filter (fun l => decide ((s1.mgr l).phase ≠ .retired))).map laneNo
  groupsAtReset { s1 with
    otp := { s1.otp with lc := s1.otp.lcNext },
    bist := { s1.bist with boot := [5, 4] ++ tested },
    ump := { s1.ump with full := full },
    sec := { s1.sec with debug := if full then 2 else 0, zeroised := full },
    sys := { s1.sys with
      up := true, off := false, boots := s1.sys.boots + 1, releaseMs := w.toNat % 31,
      xtalOk := true, pllA := true, pllB := true } }

end Sys2Proof.Machine
end

