-- ==== Sys2Proof/Machine/Debug.lean ====
section
/-!
DEFINITION. Keys, lifecycle, debug levels and power states (R373 to R381), and the cells of R380 in which the validation
hooks are open (R474).
-/
namespace Sys2Proof.Machine

open Sys2Proof

/-! ## The cells marked P (R380, R473, R474) -/

/-- The present lifecycle, debug level and power state form a cell marked P. A HOLD release under FIELD leaves the cell at its
acceptance. -/
def cellOpen (s : State) : Bool :=
  let p := s.sec.power
  s.sys.up &&
  (match s.otp.lc with
   | 0 => decide (s.sec.debug = 0) || (decide (s.sec.debug = 1) && decide (p ≠ 1)) || decide (p = 2)
   | 1 => decide (p = 2) && decide (s.sec.debug ≠ 2) && !(s.fld.lor.accepted && s.fld.lor.forHold)
   | _ => decide (p = 2))

def addrPerturb : Nat := 0x001F0000

/-- The log entry of R474, once the log is ready. -/
def cellsLogged (s : State) : State :=
  if s.hook.owed ∧ s.nvm.logReady then
    logEvent 0xFF 5 (addrPerturb + 0x104) [] [] { s with hook := { s.hook with owed := false } }
  else s

/-- Every CFG becomes 0. -/
def hooksEnd (s : State) : State :=
  cellsLogged { s with hook := { s.hook with owed := true, hooks := s.hook.hooks.map (fun e => (e.1, { e.2 with cfg := 0 })) } }

/-- A change that may leave a cell marked P. -/
def leaving (f : State → State) (s : State) : State :=
  let t := f s
  if cellOpen s && !cellOpen t then hooksEnd t else t

/-! ## Tokens (R373) -/

/-- A wrong token is counted; the third in a row refuses every token for 60 s. -/
def tokenFail (s : State) : State :=
  let x := s.sec
  if 2 ≤ x.tokFails then { s with sec := { x with tokFails := 0, tokLock := some (s.now + 60 * secTicks), chalUsed := true } }
  else { s with sec := { x with tokFails := x.tokFails + 1, chalUsed := true } }

def tokenLocked (s : State) : Bool :=
  match s.sec.tokLock with
  | some t => decide (s.now < t)
  | none => false

/-- A key as the HMAC engine can read it. -/
def keyOpen (s : State) (k : Option (List Byte)) : Option (List Byte) := if s.sys.keyClosed then none else k

/-- The token in SEC_DBG_TOK is judged against a key and a level: whether it is valid, and what the judging leaves. -/
def judgeToken (key : Option (List Byte)) (level : Nat) (s : State) : Bool × State :=
  match s.sec.chal with
  | none => (false, s)
  | some c =>
    if tokenLocked s || decide (s.sec.chalAt + chalTicks ≤ s.now) then (false, s)
    else match keyOpen s key with
      | none => (false, tokenFail s)
      | some k =>
        let msg := c ++ leBytes s.otp.uid.toNat 8 ++ [BitVec.ofNat 8 level]
        if !s.sec.chalUsed && decide (regBytes s.sec.tok = hmac k msg) then
          (true, { s with sec := { s.sec with chalUsed := true, tokFails := 0, tokLock := none } })
        else (false, tokenFail s)

def addrLcCtrl : Nat := 0x001100A0
def addrDbgCtrl : Nat := 0x001100A4
def addrKeyCtrl : Nat := 0x001100E0

/-- SEC_DBG_CTRL CHALLENGE. -/
def debugChallenge (s : State) : State :=
  let (c, s1) := fresh16 s
  { s1 with sec := { s1.sec with chal := some c, chalUsed := false, chalAt := s1.now } }

def execDbgChallenge (_port : Port) (s : State) : Host.Outcome State Fault Refusal := run s debugChallenge

/-! ## Lifecycle (R374) -/

def inHold (s : State) : Bool := decide (s.sec.power = 2)

/-- A transition blows its fuse, is logged, and takes effect at the next boot. -/
def lcMove (lc : Nat) (s : State) : State :=
  logEvent 0xFF 5 addrLcCtrl [BitVec.ofNat 32 s.otp.lc] [BitVec.ofNat 32 lc] { s with otp := { s.otp with lcNext := max s.otp.lcNext lc } }

def lcField (s : State) : State :=
  if s.otp.lc = 0 ∧ inHold s ∧ s.sec.debug = 0 ∧ sealClosed s then lcMove 1 s else secRefuse addrLcCtrl codeAccessRefused s

def execLcField (_port : Port) (s : State) : Host.Outcome State Fault Refusal := run s lcField

/-- RMA destroys the image key and the debug key. -/
def lcRma (s : State) : State :=
  if s.otp.lc ≤ 1 ∧ inHold s ∧ sealClosed s then
    let (ok, s1) := judgeToken s.otp.vendorKey 3 s
    if ok then lcMove 2 { s1 with otp := { s1.otp with imageKey := none, debugKey := none } }
    else secRefuse addrLcCtrl codeAccessRefused s1
  else secRefuse addrLcCtrl codeAccessRefused s

def execLcRma (_port : Port) (s : State) : Host.Outcome State Fault Refusal := run s lcRma

/-! ## Debug levels (R375, R376) -/

def openCmLevel (s : State) : State := { s with sec := { s.sec with debug := 1 } }

/-- OPEN_CM: without a token in FACTORY, with the debug key's in FIELD, with the vendor key's in RMA. -/
def openCm (s : State) : State :=
  if s.sec.debug ≠ 0 then s
  else if s.otp.lc = 0 then openCmLevel s
  else
    let (ok, s1) := judgeToken (if s.otp.lc = 1 then s.otp.debugKey else s.otp.vendorKey) 1 s
    if ok then openCmLevel s1 else secRefuse addrDbgCtrl codeDebugRefused s1

def execOpenCm (_port : Port) (s : State) : Host.Outcome State Fault Refusal := run s (leaving openCm)

/-- Everything that the security block holds outside OTP goes (R381). -/
def secretsGone (s : State) : State :=
  { s with
    sec := { s.sec with sessions := [], ports := [], chal := none, chalUsed := false, tok := [], keyData := [] },
    nvm := { s.nvm with net := { s.nvm.net with slots := [] } } }

/-- The security block zeroises, and the key read path closes (R337). -/
def zeroise (s : State) : State :=
  let s1 := secretsGone s
  { s1 with sec := { s1.sec with zeroised := true }, sys := { s1.sys with keyClosed := true } }

/-- A new HOLD request disarms the qualifier of a HOLD release (R379); a valid press in progress is ignored thereby (R142). -/
def holdDisarm (s : State) : State :=
  let x := s.fld.lor
  let keep := x.armed && !x.forHold
  let cut := x.armed && x.forHold && x.st.press.any Prod.snd
  { s with fld := { s.fld with lor := { x with
      armed := keep, holdRun := false, accepted := x.accepted && !x.forHold, st := if keep then x.st else {},
      void := if cut then x.void + 1 else x.void } } }

/-- HOLD is entered by FULL (R376) as by a HOLD request: its group shut-downs start at the boundary (R164). -/
def fullHold (s : State) : State :=
  holdDisarm { s with seat := { s.seat with holdReq := true, holdInForce := true }, sec := { s.sec with power := 2 } }

/-- The steps of R376. -/
def fullEntry (s : State) : State :=
  let s1 := fullHold s
  let s2 := linesFollow { s1 with ump := { s1.ump with full := true } }
  let s3 := zeroise s2
  { s3 with sec := { s3.sec with debug := 2 }, sys := { s3.sys with fullSeen := true } }

def openFull (s : State) : State :=
  if s.otp.lc = 1 ∨ s.nvm.wr.step ≠ 0 then secRefuse addrDbgCtrl codeDebugRefused s
  else
    let (ok, s1) := judgeToken s.otp.vendorKey 2 s
    if ok then fullEntry s1 else secRefuse addrDbgCtrl codeDebugRefused s1

def execOpenFull (_port : Port) (s : State) : Host.Outcome State Fault Refusal := run s (leaving openFull)

/-- CLOSE releases every halt; FULL is closed by a power cycle only. -/
def debugClose (s : State) : State :=
  match s.sec.debug with
  | 1 => (List.range 8).foldl (fun t c => haltRelease c t) { s with sec := { s.sec with debug := 0 } }
  | 2 => secRefuse addrDbgCtrl codeDebugRefused s
  | _ => s

def execDbgClose (_port : Port) (s : State) : Host.Outcome State Fault Refusal := run s (leaving debugClose)

/-! ## Keys (R373) -/

def provisioning (s : State) : Bool := decide (s.otp.lc = 0) && inHold s && sealClosed s

/-- A key can be programmed once; keys that RMA has destroyed stay so (R373, R374). -/
def keyBlank (k : Option (List Byte)) (s : State) : Bool := provisioning s && k.isNone && decide (s.otp.lcNext ≠ 2)

/-- SEC_KEY_CTRL.GO: the key is programmed once, and the data registers are cleared. -/
def keyProgram (v : Word) (s : State) : State :=
  let k := regBytes s.sec.keyData
  let done (o : Otp) : State := { s with otp := o, sec := { s.sec with keyData := [] } }
  if !v.getLsbD 3 then s
  else match bits v 1 0 with
    | 1 => if keyBlank s.otp.imageKey s then done { s.otp with imageKey := some k } else secRefuse addrKeyCtrl codeAccessRefused s
    | 2 => if keyBlank s.otp.debugKey s then done { s.otp with debugKey := some k } else secRefuse addrKeyCtrl codeAccessRefused s
    | _ => s

def execKeyProgram (_port : Port) (value : Word) (s : State) : Host.Outcome State Fault Refusal := run s (keyProgram value)

/-- SET_AUTH_REQ needs the image key. -/
def setAuthReq (s : State) : State :=
  if provisioning s && s.otp.imageKey.isSome then { s with otp := { s.otp with authReq := true } }
  else secRefuse addrKeyCtrl codeAccessRefused s

def execSetAuthReq (_port : Port) (s : State) : Host.Outcome State Fault Refusal := run s setAuthReq

/-! ## Power states (R377 to R379) -/

def addrPwrCtrl : Nat := 0x00000004

/-- SYS_PWR_STAT.LAST_REQ and LAST_REFUSED of a request. -/
def requested (req : Nat) (s : State) : State :=
  { s with sys := { s.sys with reqBits := BitVec.ofNat 2 req, reqRefused := false } }

def pwrRefuse (s : State) : State :=
  let s1 := secRefuse addrPwrCtrl codeAccessRefused s
  { s1 with sys := { s1.sys with reqRefused := true } }

/-- A fault of scope S at start-up: HOLD lasts until the next boot. -/
def startFault (s : State) : Bool := decide (s.ump.lo &&& startMask ≠ 0)

/-- RUN and REDUCED are out of reach (R378, R380). -/
def runBarred (s : State) : Bool := startFault s || decide (s.sec.debug = 2) || decide (s.otp.lc = 2)

/-- RUN: from REDUCED the cores return; from a requested HOLD the HOLD release begins. -/
def pwrRun (s : State) : State :=
  let s1 := requested 0 s
  if s.seat.holdInForce && !runBarred s then { s1 with fld := { s1.fld with lor := { s1.fld.lor with holdRun := true } } }
  else if s.sec.power = 1 ∧ s.seat.holdReq = false then coresReduced false { s1 with sec := { s1.sec with power := 0 } }
  else pwrRefuse s1

def execPwrReqRun (_port : Port) (s : State) : Host.Outcome State Fault Refusal := run s (leaving pwrRun)

/-- REDUCED, from RUN only: core slices are aborted and every core is shut down. -/
def pwrReduced (s : State) : State :=
  let s1 := requested 1 s
  if s.sec.power = 0 ∧ s.seat.holdReq = false then coresReduced true (coreSlicesAbort { s1 with sec := { s1.sec with power := 1 } })
  else pwrRefuse s1

def execPwrReqReduced (_port : Port) (s : State) : Host.Outcome State Fault Refusal := run s (leaving pwrReduced)

/-- HOLD, taken up at the next boundary. -/
def pwrHold (s : State) : State :=
  let s1 := requested 2 s
  if s.sec.power = 2 ∧ startFault s then pwrRefuse s1
  else holdDisarm { s1 with seat := { s1.seat with holdReq := true, holdInForce := true } }

def execPwrReqHold (_port : Port) (s : State) : Host.Outcome State Fault Refusal := run s pwrHold

/-- OFF, from HOLD only: the dies are unpowered, so CM_DEBUG closes. The flash, the OTP and the power-cycle record stay. -/
def pwrOff (s : State) : State :=
  let s1 := requested 3 s
  if inHold s then
    let s2 := resetAll (if cellOpen s1 then hooksEnd s1 else s1)
    { s2 with sys := { s2.sys with off := true } }
  else pwrRefuse s1

def execPwrReqOff (_port : Port) (s : State) : Host.Outcome State Fault Refusal := run s pwrOff

end Sys2Proof.Machine
end

