-- ==== Sys2Proof/Machine/Envelope.lean ====
section
/-!
DEFINITION. The frame envelope of the Rinly rings (R207 to R210): headers, tagged words, the CRC field, and the words of the
module's and the nodes' frames.
-/
namespace Sys2Proof.Machine

open Sys2Proof

/-- SRC of a controller and of a node address (R208); 0x1FF is the broadcast identity of the ring. -/
def ringSrc (r : Nat) : Nat := 0x408 + r
def nodeSrc (r a : Nat) : Nat := 0x800 + r * 0x200 + a

/-! ## Headers (R207) -/

def hdrType (h : U64) : Nat := bits h 63 60
def hdrRing (h : U64) : Nat := bits h 59 58
def hdrNode (h : U64) : Nat := bits h 57 49
def hdrLen (h : U64) : Nat := bits h 48 40
def hdrWrap (h : U64) : Bool := h.getLsbD 39
def hdrRestart (h : U64) : Bool := h.getLsbD 38
def hdrResend (h : U64) : Bool := h.getLsbD 37
def hdrSensor (h : U64) : Bool := h.getLsbD 36
def hdrLate (h : U64) : Bool := h.getLsbD 35
def hdrSf (h : U64) : Nat := bits h 31 8

/-- The flags of a header. -/
structure RFlags where
  wrap : Bool := false
  restart : Bool := false
  resend : Bool := false
  sensor : Bool := false
  late : Bool := false
  deriving DecidableEq, Repr

/-- A header with its HCRC; bits [34:32] are 0. -/
def ringHeader (ty r node len : Nat) (f : RFlags) (sf : Nat) : U64 :=
  let h := BitVec.ofNat 64 (ty <<< 60 ||| r <<< 58 ||| node <<< 49 ||| len <<< 40 ||| bit f.wrap <<< 39 |||
    bit f.restart <<< 38 ||| bit f.resend <<< 37 ||| bit f.sensor <<< 36 ||| bit f.late <<< 35 ||| (sf % 16777216) <<< 8)
  h ||| (hcrc8 h).setWidth 64

/-- A frame as it is sent: header, tagged words of which the last has L = 1, and the CRC field for its destination (R208). -/
def ringMsg (ty r node dest src seq cls : Nat) (f : RFlags) (sf : Nat) (data : List Word) : RingMsg :=
  { header := ringHeader ty r node data.length f sf, words := (tagged src seq cls 0 data).map TWord.onLink,
    crc := ringCrc src seq cls r dest data }

/-- DEST of a frame by its type: broadcast, the target node of a command, or the module (R208). -/
def ringDest (ty node : Nat) : Nat := if ty = 1 ∨ ty = 6 then 0x1FF else if ty = 2 then node else 0x200

/-- The SRC that a frame's sender has: the controller, or the node in the header. -/
def ringSender (ty r node : Nat) : Nat := if ty = 1 ∨ ty = 2 ∨ ty = 6 then ringSrc r else nodeSrc r node

/-- The frame passes R209: HCRC, TYPE, its words' number and CHK, and the CRC field for the sender that the header names. -/
def ringFrameOk (r : Nat) (f : RingFrame) : Bool :=
  let first := (f.words.headD (0, 0)).1
  let ty := hdrType f.header
  decide ((hcrc8 f.header).toNat = bits f.header 7 0) && decide (1 ≤ ty ∧ ty ≤ 7) && decide (hdrRing f.header = r) &&
  decide (1 ≤ hdrLen f.header ∧ hdrLen f.header ≤ 81 ∧ f.words.length = hdrLen f.header) && f.words.all wordOk &&
  decide (tagSrc first = ringSender ty r (hdrNode f.header)) &&
  decide (f.crc = ringCrc (tagSrc first) (tagSeq first) (tagCls first) r (ringDest ty (hdrNode f.header)) (f.words.map (·.2)))

/-! ## Words (R210) -/

def uidWords (uid : U64) : List Word := [(uid >>> 32).setWidth 32, uid.setWidth 32]
def uidOf (hi lo : Word) : U64 := (hi.setWidth 64 <<< 32) ||| lo.setWidth 64

def slotKindNo : SlotKind → Nat
  | .report => 0 | .reply => 1 | .resend => 2

/-- One entry of the slot table: VALID, KIND, ADDR. -/
def slotEntry (e : Option (Nat × SlotKind)) : Nat :=
  match e with
  | some (a, k) => 0x8000 + slotKindNo k * 0x2000 + a % 512
  | none => 0

/-- The ten words of a beacon. -/
def beaconWords (sf : Nat) (slots : List (Nat × SlotKind)) (burst : Option Burst) : List Word :=
  BitVec.ofNat 32 sf ::
  ((List.range 8).map (fun w => pack [(slotEntry slots[2 * w]?, 0, 16), (slotEntry slots[2 * w + 1]?, 16, 16)])) ++
  [match burst with
    | some b => pack [(b.addr, 0, 9), (b.offset, 9, 16), (1, 31, 1)]
    | none => 0]

/-- Slots and kinds that beacon words give an address. -/
def ownedSlots (ws : List Word) (a : Nat) : List (Nat × Nat) :=
  (List.range 16).filterMap (fun i =>
    let w := (ws[1 + i / 2]?).getD 0
    let e := if i % 2 = 0 then bits w 15 0 else bits w 31 16
    if 0x8000 ≤ e ∧ e % 512 = a then some (i, e / 0x2000 % 4) else none)

/-- OFFSET of the burst, where beacon words give an address the burst region. -/
def ownedBurst (ws : List Word) (a : Nat) : Option Nat :=
  let w := (ws[9]?).getD 0
  if w.getLsbD 31 ∧ bits w 8 0 = a then some (bits w 24 9) else none

/-- The words of a command: OP and target, then its further words (R211). -/
def commandWords (c : Nat × Nat × List Word) : List Word := pack [(c.2.1, 0, 9), (c.1, 24, 8)] :: c.2.2

/-- The bit times at which a report slot, the burst region and the discovery window begin (R205), in ticks of 10 ns: four to
a bit time. -/
def slotAt (i : Nat) : Nat := 4 * (2200 + 1000 * i)
def burstAt : Nat := 4 * 18200

/-- A node repeats after 25 bit times (R201). -/
def repeatTicks : Nat := 100

end Sys2Proof.Machine
end

