-- ==== Sys2Proof/Machine/Node.lean ====
section
/-!
DEFINITION. What a Rinly node does (R201 to R203, R207 to R213). A node is known by its UID.
-/
namespace Sys2Proof.Machine

open Sys2Proof

/-! ## Outputs (R201 to R203) -/

/-- A node that has lost signal on one input wraps (R203). -/
def wraps (n : Node) : Bool := n.lostA != n.lostB

/-- A frame of the stream on one input leaves by the opposite output, and while the node wraps also by the output of the side
that still has signal (R201, R203). An unpowered node sends nothing. -/
def nodePut (fromA : Bool) (tick : Nat) (m : RingMsg) (n : Node) : Node :=
  if n.powered then
    { n with outD := if fromA || (wraps n && n.lostA) then some (tick, m) else n.outD,
             outU := if !fromA || (wraps n && n.lostB) then some (tick, m) else n.outU }
  else n

/-- A node inserts a frame of its own into the output of the stream it follows (R202), with its next SEQ or the one given. -/
def nodeSend (at' ty seq cls : Nat) (f : RFlags) (data : List Word) (n : Node) : Node :=
  let a := n.addr.getD 0x1FF
  let m := ringMsg ty n.ring a 0x200 (nodeSrc n.ring a) seq cls { f with wrap := wraps n } n.sf data
  let n1 := nodePut n.followA (n.beaconAt + at') m n
  { n1 with sent := n1.sent ++ [m] }

/-- The same with the node's next SEQ. -/
def nodeSendNext (at' ty cls : Nat) (f : RFlags) (data : List Word) (n : Node) : Node :=
  { nodeSend at' ty n.seq cls f data n with seq := (n.seq + 1) % 256 }

/-! ## Slots (R206, R211) -/

/-- A report window of the node closes in a superframe. -/
def reportWindow (n : Node) : Bool :=
  n.addr.isSome && decide (0 < n.interval) && decide ((n.sf + n.interval - n.phase % n.interval) % n.interval = 0)

/-- The newest report goes out in a slot; LATE where it was due in an earlier superframe. -/
def sendNewest (slot : Nat) (n : Node) : Node :=
  { nodeSendNext (slotAt slot) 3 1 { sensor := n.sensor, late := decide (n.reportSf ≠ n.sf) } n.report n with
    newReport := false, lastSent := some (n.seq, n.report, n.sensor) }

/-- The words of an IDENT reply (R210). -/
def identWords (uid : U64) : List Word := uidWords uid ++ Config.nodeIdent uid

/-- A node in a slot that it owns. A report owner sends its newest report, a resend owner repeats its last one, or sends a
newer one instead; a reply owner sends its IDENT. A report owner whose window closes in this superframe sends after that. -/
def nodeSlot (uid : U64) (n : Node) (e : Nat × Nat) : Node :=
  if e.2 = 1 then
    (if n.identDue then { nodeSendNext (slotAt e.1) 4 7 {} (identWords uid) n with identDue := false } else n)
  else if n.newReport ∧ ¬ (e.2 = 0 ∧ reportWindow n = true ∧ n.reportSf ≠ n.sf) then sendNewest e.1 n
  else if e.2 = 0 then { n with owed := n.owed ++ [e.1] }
  else match n.lastSent with
    | some (seq, vs, sensor) => nodeSend (slotAt e.1) 3 seq 1 { resend := true, sensor } vs n
    | none => n

/-- The burst region: the samples acquired from OFFSET on, up to 80, or word 0 alone (R211). -/
def nodeBurstSend (offset : Nat) (acquired : List Word) (n : Node) : Node :=
  if n.burst.isSome then nodeSendNext burstAt 5 0 {} (BitVec.ofNat 32 offset :: acquired.take 80) n else n

/-! ## Beacons (R202, R212) -/

/-- The stream the beacon came in on is the one the node follows: the upstream input's, or the downstream input's when the
upstream one has no signal or has carried no beacon for a whole superframe (R202). -/
def takesBeacon (n : Node) (b : Beacon) : Bool :=
  if b.fromA then !n.lostA else !n.lostB && (n.lostA || !n.followA || decide (n.sf + 2 ≤ b.sf))

/-- The sequence window of the stream a node follows (R209). A node that returns to the upstream stream takes up its beacon
with the SEQ that the other stream's copy has had. -/
def beaconFresh (n : Node) (b : Beacon) : Bool :=
  let d := (b.seq + 256 - n.ctlLast) % 256
  (decide (1 ≤ d) && decide (d ≤ 128)) || (decide (d = 0) && b.fromA && !n.followA)

/-- A beacon is accepted (R212): RESTART ends the address, the burst and a parking. -/
def beaconTaken (b : Beacon) (now : Nat) (n : Node) : Node :=
  let m := { n with followA := b.fromA, sf := b.sf, beaconAt := now, ctlLast := b.seq % 256, announced := false,
                    ring := b.ring, sent := [], owed := [] }
  if b.restart then { m with addr := none, burst := none, parked := false } else m

/-- The node sends in the regions that the beacon gives it. -/
def nodeRegions (uid : U64) (b : Beacon) (n : Node) : Node :=
  match n.addr with
  | none => n
  | some a =>
    let n1 := (ownedSlots b.words a).foldl (nodeSlot uid) n
    match ownedBurst b.words a with
    | some off => nodeBurstSend off b.acquired n1
    | none => n1

def nodeBeacon (uid : U64) (b : Beacon) (s : State) : State :=
  let n := s.nd uid
  if n.powered && takesBeacon n b && (b.restart || beaconFresh n b) then
    s.setNd uid (nodeRegions uid b (beaconTaken b s.now n))
  else s

def execNodeBeacon (uid : U64) (b : Beacon) (s : State) : Host.Outcome State Fault Refusal := run s (nodeBeacon uid b)

/-! ## Discovery (R213) -/

/-- The DISCOVER of a port's stream in this superframe has been turned into an ANNOUNCE already. -/
def turned (x : Ring) (streamA : Bool) : Bool := if streamA then x.turnedA else x.turnedB

/-- The node would turn the DISCOVER that reaches it: it is powered, unaddressed and unparked, the first on the stream. -/
def turns (x : Ring) (n : Node) (fromA streamA : Bool) : Bool :=
  n.powered && decide (n.followA = fromA) && n.addr.isNone && !n.parked && !turned x streamA

/-- The words of an ANNOUNCE (R210). -/
def announceWords (uid : U64) : List Word := uidWords uid ++ (Config.nodeIdent uid).take 1

/-- The first unaddressed, unparked node on the stream turns DISCOVER into its ANNOUNCE, in place (R213). -/
def nodeDiscover (r : Nat) (uid : U64) (fromA streamA : Bool) (s : State) : State :=
  let n := s.nd uid
  if decide (r < 4) && turns (s.rg r) n fromA streamA then
    let m := ringMsg 7 r 0x1FF 0x200 (nodeSrc r 0x1FF) n.seq 7 { wrap := wraps n } n.sf (announceWords uid)
    let n1 := nodePut fromA (s.now + repeatTicks) m n
    let s1 := s.setNd uid { n1 with announced := true, ring := r, sent := n1.sent ++ [m] }
    let x := s1.rg r
    s1.setRg r { x with turnedA := x.turnedA || streamA, turnedB := x.turnedB || !streamA }
  else s

def execNodeDiscover (r : Nat) (d : DiscoverIn) (s : State) : Host.Outcome State Fault Refusal :=
  run s (nodeDiscover r d.uid d.fromA d.streamA)

/-! ## Commands (R211) -/

/-- A command reaches a powered node on the stream it follows. -/
def heeds (n : Node) (fromA : Bool) : Bool := n.powered && decide (n.followA = fromA)

/-- A command on the followed stream whose target is the node, or every node, is obeyed. -/
def obeys (n : Node) (c : NodeCmd) : Bool :=
  heeds n c.fromA && (decide (n.addr = some c.target) || decide (c.target = 0x1FF))

/-- ASSIGN: a node that holds the address already only changes interval and phase. -/
def nodeAssign (uid : U64) (fromA : Bool) (target : U64) (addr interval phase : Nat) (s : State) : State :=
  let n := s.nd uid
  if uid = target ∧ heeds n fromA then
    let m := { n with interval, phase, parked := false }
    s.setNd uid (if n.addr = some addr then m else { m with addr := some addr, seq := 0 })
  else s

def execNodeAssign (node : NodeIn) (target : U64) (addr interval phase : Nat) (s : State) : Host.Outcome State Fault Refusal :=
  run s (nodeAssign node.uid node.fromA target addr interval phase)

/-- The ring and address at which a UID is present. -/
def nodePlace (s : State) (uid : U64) : Option (Nat × Nat) :=
  (List.range 4).findSome? (fun r => ((s.rg r).nodes.find? (fun e => decide (e.2.uid = uid) && decide (e.2.state = .present))).map (fun e => (r, e.1)))

/-- IDENT: the node owes its IDENT, and the controller a reply slot (R206). -/
def nodeIdent (uid : U64) (c : NodeCmd) (s : State) : State :=
  let n := s.nd uid
  if n.addr.isSome ∧ obeys n c then
    let s1 := s.setNd uid { n with identDue := true }
    match nodePlace s1 uid with
    | some (r, a) => s1.setRg r { s1.rg r with replies := (s1.rg r).replies ++ [a] }
    | none => s1
  else s

def execNodeIdent (node : CmdIn) (s : State) : Host.Outcome State Fault Refusal := run s (nodeIdent node.uid node.how)

def nodeBurst (uid : U64) (c : NodeCmd) (rate count : Nat) (s : State) : State :=
  let n := s.nd uid
  if n.addr.isSome ∧ obeys n c then s.setNd uid { n with burst := some (rate, count) } else s

def execNodeBurst (node : CmdIn) (rate count : Nat) (s : State) : Host.Outcome State Fault Refusal :=
  run s (nodeBurst node.uid node.how rate count)

def nodeBurstAbort (uid : U64) (c : NodeCmd) (s : State) : State :=
  let n := s.nd uid
  if obeys n c then s.setNd uid { n with burst := none } else s

def execNodeBurstAbort (node : CmdIn) (s : State) : Host.Outcome State Fault Refusal := run s (nodeBurstAbort node.uid node.how)

/-- PARK: an unaddressed node answers no DISCOVER until the next RESTART. -/
def nodePark (uid : U64) (fromA : Bool) (target : U64) (s : State) : State :=
  let n := s.nd uid
  if uid = target ∧ n.addr = none ∧ heeds n fromA then s.setNd uid { n with parked := true } else s

def execNodePark (node : NodeIn) (target : U64) (s : State) : Host.Outcome State Fault Refusal :=
  run s (nodePark node.uid node.fromA target)

/-- RELEASE: the node drops its address. -/
def nodeRelease (uid : U64) (c : NodeCmd) (s : State) : State :=
  let n := s.nd uid
  if obeys n c then s.setNd uid { n with addr := none } else s

def execNodeRelease (node : CmdIn) (s : State) : Host.Outcome State Fault Refusal := run s (nodeRelease node.uid node.how)

/-- The words of a COMMAND frame are obeyed. -/
def nodeCommand (uid : U64) (fromA : Bool) (ws : List Word) (s : State) : State :=
  let w (i : Nat) : Word := (ws[i]?).getD 0
  let c : NodeCmd := { fromA, target := bits (w 0) 8 0 }
  match bits (w 0) 31 24 with
  | 1 => nodeAssign uid fromA (uidOf (w 1) (w 2)) c.target (bits (w 3) 31 16) (bits (w 3) 15 0) s
  | 2 => nodeIdent uid c s
  | 3 => nodeBurst uid c (bits (w 2) 2 0) (bits (w 1) 16 0 + 1) s
  | 4 => nodeBurstAbort uid c s
  | 5 => nodePark uid fromA (uidOf (w 1) (w 2)) s
  | 6 => nodeRelease uid c s
  | _ => s

/-! ## Report windows -/

/-- A report window closes at every superframe whose number less the phase is a multiple of the interval; the report built
goes out in a slot of this superframe that the node still owes (R211). -/
def nodeReport (uid : U64) (values : List Word) (sensor : Bool) (s : State) : State :=
  let n := s.nd uid
  if n.powered && reportWindow n then
    let n1 := { n with report := values, sensor, newReport := true, reportSf := n.sf, owed := n.owed.tail }
    s.setNd uid (match n.owed with
      | slot :: _ => sendNewest slot n1
      | [] => n1)
  else s

def execNodeReportWindow (uid : U64) (r : SensorReading) (s : State) : Host.Outcome State Fault Refusal :=
  run s (nodeReport uid r.values r.sensor)

/-- No beacon in 50 superframes (R212): the node drops its address. -/
def nodeBeaconLoss (uid : U64) (s : State) : State :=
  let n := s.nd uid
  if n.beaconAt + 5000000 ≤ s.now then s.setNd uid { n with addr := none } else s

def execNodeBeaconLoss (uid : U64) (s : State) : Host.Outcome State Fault Refusal := run s (nodeBeaconLoss uid)

/-! ## Frames at a node (R201, R209) -/

/-- The beacon that a frame carries. -/
def beaconOf (r : Nat) (fromA : Bool) (f : RingFrame) : Beacon :=
  { restart := hdrRestart f.header, seq := tagSeq (f.words.headD (0, 0)).1, sf := (f.words.headD (0, 0)).2.toNat, fromA, ring := r,
    words := f.words.map (·.2), acquired := f.acquired }

/-- A command frame on the followed stream passes the window, and is obeyed. -/
def nodeTakes (uid : U64) (fromA : Bool) (f : RingFrame) (s : State) : State :=
  let n := s.nd uid
  let seq := tagSeq (f.words.headD (0, 0)).1
  let d := (seq + 256 - n.ctlLast) % 256
  if heeds n fromA = true ∧ 1 ≤ d ∧ d ≤ 128 then
    nodeCommand uid fromA (f.words.map (·.2)) (s.setNd uid { n with ctlLast := seq })
  else s

/-- A frame at a node: it is repeated, a DISCOVER turned into an ANNOUNCE; a module frame of the followed stream that passes
its checks takes effect. The TYPE alone decides the turning (R213). -/
def nodeFrame (r : Nat) (uid : U64) (fromA : Bool) (f : RingFrame) (s : State) : State :=
  let n := s.nd uid
  let ty := hdrType f.header
  if !n.powered then s
  else if ty = 6 ∧ turns (s.rg r) n fromA f.streamA then nodeDiscover r uid fromA f.streamA s
  else
    let s1 := s.setNd uid (nodePut fromA (s.now + repeatTicks) ⟨f.header, f.words, f.crc⟩ n)
    if ringFrameOk r f then
      if ty = 1 then nodeBeacon uid (beaconOf r fromA f) s1
      else if ty = 2 then nodeTakes uid fromA f s1
      else if ty = 6 ∧ heeds n fromA then s1.setNd uid { s1.nd uid with ctlLast := tagSeq (f.words.headD (0, 0)).1 }
      else s1
    else s1

end Sys2Proof.Machine
end

