-- ==== Sys2Proof/Machine/Ring.lean ====
section
/-!
DEFINITION. The ring controllers (R200 to R220): superframes and slots, frames at a port, enumeration, reports and resends,
the ring's conditions, bursts, enable and shut-down.
-/
namespace Sys2Proof.Machine

open Sys2Proof

/-- The PRD-9620-E has RING0 and RING1 only (R3). -/
def ringPresent (s : State) (r : Nat) : Bool := decide (r < if s.otp.small then 2 else 4)

def addrRing (r off : Nat) : Nat := 0x000A0000 + 0x4000 * r + off

def State.rnode (s : State) (r a : Nat) : RNode := look {} (s.rg r).nodes a
def State.setRnode (s : State) (r a : Nat) (n : RNode) : State :=
  s.setRg r { s.rg r with nodes := put {} (s.rg r).nodes a n }

/-- A running ring sends beacons. -/
def ringRuns (x : Ring) : Bool := decide (x.state ≠ .off) && decide (x.state ≠ .shutdown)

/-- A condition of R204: reported once, in a class 0x4 alarm frame from the controller, to the Umpire's line and to the
management core (R309, R407). `detail` is the node concerned (R322). -/
def ringAlarm (r code detail : Nat) (s : State) : State :=
  emitFrom (some (ringSrc r)) { line := 41 + r, code, detail, time := s.timeNow } s

/-! ## Bursts (R217) -/

/-- STATUS is that of the host's bursts, GAPS that of every burst (R220). -/
def burstEndStatus (b : Burst) (st : BurstStatus) (x : Ring) : Ring :=
  { x with status := if b.src = 0x400 then st else x.status, gaps := b.gaps }

def capOf (s : State) (b : Burst) : Option Capture := s.boat.caps.find? (fun c => decide (c.serial = b.cap) && c.filling)

/-- A burst ends before its last sample; the pages filled so far are delivered. -/
def burstCut (r : Nat) (st : BurstStatus) (b : Burst) (s : State) : State :=
  let s1 := match capOf s b with
    | some c => capAbort c s
    | none => s
  s1.setRg r (burstEndStatus b st (s1.rg r))

/-- The command that starts a burst at its node (R211). -/
def burstCmd (b : Burst) : Nat × Nat × List Word := (3, b.addr, [pack [(b.count - 1, 0, 17)], pack [(b.rate, 0, 3)]])

/-- The next queued burst takes its turn; one whose node is not present ends LOST. The fuel is the queue's length. -/
def burstNext (r : Nat) : Nat → State → State
  | 0, s => s
  | n + 1, s =>
    let x := s.rg r
    match x.burst, x.queue with
    | none, b :: rest =>
      let s1 := s.setRg r { x with queue := rest }
      if (s.rnode r b.addr).state = .present then
        s1.setRg r { s1.rg r with burst := some b, gaps := 0, cmds := (s1.rg r).cmds ++ [burstCmd b] }
      else burstNext r n (burstCut r .lost b s1)
    | _, _ => s

/-- The running burst ends, and the next one takes its turn. -/
def burstEnd (r : Nat) (st : BurstStatus) (s : State) : State :=
  match (s.rg r).burst with
  | none => s
  | some b =>
    let s1 := s.setRg r { s.rg r with burst := none }
    let s2 := if st = .done then s1.setRg r (burstEndStatus b st (s1.rg r)) else burstCut r st b s1
    burstNext r 9 s2

/-- The burst and the queue end ABORTED. -/
def burstAbortAll (r : Nat) (s : State) : State :=
  let x := s.rg r
  let s1 := s.setRg r { x with burst := none, queue := [] }
  ((match x.burst with | some b => [b] | none => []) ++ x.queue).foldl (fun t b => burstCut r .aborted b t) s1

/-- A refused request; the host's status shows why. -/
def burstRefuse (r : Nat) (st : BurstStatus) (b : BurstReq) (s : State) : State :=
  if b.src = 0x400 then s.setRg r { s.rg r with status := st } else s

/-- A burst request: REDUCED, a full queue and a missing page refuse it; a ring that does not run has no burst to give. -/
def burstRequest (r : Nat) (b : BurstReq) (s : State) : Bool × State :=
  let x := s.rg r
  let count := b.countM1 % 65536 + 1
  let n := pagesFor count
  if reducedNow s then (false, burstRefuse r .reduced b s)
  else if !ringRuns x then (false, burstRefuse r .aborted b s)
  else if x.burst.isSome && decide (8 ≤ x.queue.length) then (false, burstRefuse r .qFull b s)
  else if 64 ≤ fillingCount s then
    (false, burstRefuse r .noPage b { s with boat := { s.boat with cntNull := satAdd s.boat.cntNull n } })
  else
    let (g, s1) := allocate b.src n (s.boat.serial + 1) n s
    match g with
    | .pages refs =>
      let prio := if b.src = 0x400 then 0 else min b.prio (holderPrio s b.src)
      let s2 := newCapture b.src prio b.evict none refs count s1
      let y := s2.rg r
      let s3 := s2.setRg r { y with
        queue := y.queue ++ [{ src := b.src, addr := b.addr % 512, rate := b.rate % 8, count, cap := s2.boat.serial }],
        status := if b.src = 0x400 then .running else y.status }
      (true, burstNext r 9 s3)
    | _ => (false, burstRefuse r .noPage b s1)

/-- R217: a command frame of a task requests a burst. -/
def execRingBurstRequest (r : Nat) (b : BurstReq) (s : State) : Host.Outcome State Fault Refusal :=
  run s (fun s => whenever (ringPresent s r) (fun t => (burstRequest r b t).2) s)

/-- R220: the host's request; a refused one is a refused access (R10). -/
def burstCmdWrite (r : Nat) (v : Word) (s : State) : State :=
  if ringPresent s r then
    let (ok, s1) := burstRequest r { src := 0x400, addr := bits v 8 0, rate := bits v 11 9, countM1 := bits v 31 16 } s
    if ok then s1 else refuse (addrRing r 0x40) s1
  else refuse (addrRing r 0x40) s

def execRingBurstCmdWrite (_port : Port) (r : Nat) (value : Word) (s : State) : Host.Outcome State Fault Refusal :=
  run s (burstCmdWrite r value)

/-- Samples enter the burst's capture, and OFFSET advances by them; the last one completes the burst. -/
def burstSamples (r : Nat) (gap : Bool) (ws : List Word) (s : State) : State :=
  match (s.rg r).burst with
  | none => s
  | some b =>
    match capOf s b with
    | none => burstEnd r .aborted s
    | some c =>
      let took := ws.take (b.count - b.offset)
      let b1 := { b with
        offset := b.offset + took.length, retries := 0,
        gaps := if gap then min 0xFFFF (b.gaps + took.length) else b.gaps }
      let s1 := capWrite c (BitVec.ofNat 32 s.now) took s
      let s2 := s1.setRg r (burstEndStatus b1 .running { s1.rg r with burst := some b1 })
      if b.count ≤ b1.offset then burstEnd r .done s2 else s2

/-- The burst region of this superframe is judged once: it holds one BURST frame (R205). -/
def burstOnce (r : Nat) (f : State → State) (s : State) : State :=
  if (s.rg r).burstMet then s else f (s.setRg r { s.rg r with burstMet := true })

/-- An accepted BURST frame from the burst owner, at the offset the beacon named. -/
def burstFrame (r addr offset : Nat) (ws : List Word) (s : State) : State :=
  match (s.rg r).burst with
  | some b => if b.addr = addr ∧ b.offset = offset then burstOnce r (burstSamples r false ws) s else s
  | none => s

/-- A failing frame in the burst region: the same OFFSET is named again, at most twice; then the frame's samples are written
as VALID = 0. -/
def burstFail (r samples : Nat) (s : State) : State :=
  match (s.rg r).burst with
  | none => s
  | some b =>
    burstOnce r (fun s =>
      if b.retries < 2 then s.setRg r { s.rg r with burst := some { b with retries := b.retries + 1 } }
      else burstSamples r true (List.replicate samples 0) s) s

/-! ## Starting and stopping (R212, R218) -/

/-- An address whose binding ends keeps its latest values (R215). -/
def unbound (n : RNode) : RNode :=
  { lv := n.lv, stamp := n.stamp, seq := n.seq, sensor := n.sensor, stale := n.stale, interval := n.interval }

/-- The ring starts: bindings end, SEQ and the superframe count begin at 0, the settings of the CM section apply. -/
def ringStart (r : Nat) (s : State) : State :=
  let s1 := burstAbortAll r s
  let x := s1.rg r
  let cfg := look { } s1.nvm.cm.rings r
  s1.setRg r { cfg, en := true, state := .start, status := x.status, gaps := x.gaps, cntCrc := x.cntCrc, cntSeqdrop := x.cntSeqdrop,
               cntLost := x.cntLost, cntResend := x.cntResend, cntLate := x.cntLate, nodeSel := x.nodeSel, lostA := x.lostA, lostB := x.lostB,
               nodes := x.nodes.foldl (fun m e => put {} m e.1 (unbound e.2)) [] }

/-- EN = 1 starts the ring, or waits for the shut-down that runs. -/
def ringOn (r : Nat) (s : State) : State :=
  let x := s.rg r
  match x.state with
  | .off => ringStart r s
  | .shutdown => s.setRg r { x with en := true, pending := true }
  | _ => s

/-- EN = 0: RELEASE goes out in the next command window, beacons stop, bursts end. -/
def ringOff (r : Nat) (s : State) : State :=
  let x := s.rg r
  match x.state with
  | .off => s
  | .shutdown => s.setRg r { x with en := false, pending := false }
  | _ =>
    let s1 := burstAbortAll r s
    s1.setRg r { s1.rg r with en := false, state := .shutdown, cmds := [(6, 0x1FF, [])], slots := [], replies := [] }

/-- A write of RING_CTRL.EN passes the gate as an operational change (R188, R218). -/
def ringGate (p : Port) (r : Nat) (new : Word) (f : State → State) (s : State) : State :=
  if ringPresent s r then gate p rightOps true 2 (addrRing r 4) [if (s.rg r).en then 1 else 0] [new] f s
  else secRefuse (addrRing r 4) codeAccessRefused s

def execRingEnable (port : Port) (r : Nat) (s : State) : Host.Outcome State Fault Refusal := run s (ringGate port r 1 (ringOn r))
def execRingDisable (port : Port) (r : Nat) (s : State) : Host.Outcome State Fault Refusal := run s (ringGate port r 0 (ringOff r))

/-- RELEASE has gone out and the superframe has ended: both drivers are off (R218). -/
def shutdownDue (s : State) (x : Ring) : Bool :=
  decide (x.state = .shutdown) && x.cmds.isEmpty && decide (x.sfAt + 100000 ≤ s.now)

/-- The shut-down is complete; a held enable starts the ring. -/
def ringShutdownDone (r : Nat) (s : State) : State :=
  let x := s.rg r
  if shutdownDue s x then
    if x.pending then ringStart r s
    else s.setRg r { x with
      state := .off, cmds := [], window := [], out := [], wrapA := none, wrapB := none,
      nodes := x.nodes.map (fun e => (e.1, { e.2 with state := .free, due := none, resendDue := false })) }
  else s

def execRingShutdownComplete (r : Nat) (s : State) : Host.Outcome State Fault Refusal := run s (ringShutdownDone r)

/-! ## The ring's conditions (R204) -/

/-- The port of either end has waited 640 µs for the other's beacon copy. -/
def copyTime (s : State) (x : Ring) : Bool := decide (x.sfAt + 64000 ≤ s.now)

def breakDue (s : State) (x : Ring) : Bool :=
  ringRuns x && !x.broken && (decide (2 ≤ x.missRun) || (copyTime s x && !(x.copyA && x.copyB) && decide (1 ≤ x.missRun)))

def ringBreak (r : Nat) (s : State) : State :=
  let x := s.rg r
  ringAlarm r codeRingBreak 0 (s.setRg r { x with broken := true, bothRun := 0, state := if x.state = .down then .down else .split })

def execRingBreak (r : Nat) (s : State) : Host.Outcome State Fault Refusal :=
  run s (fun s => whenever (breakDue s (s.rg r)) (ringBreak r) s)

def closedDue (x : Ring) : Bool :=
  ringRuns x && x.broken && (decide (16 ≤ x.bothRun) || (x.copyA && x.copyB && decide (15 ≤ x.bothRun)))

def ringClosed (r : Nat) (s : State) : State :=
  let x := s.rg r
  ringAlarm r codeRingClosed 0 (s.setRg r { x with
    broken := false, wrapA := none, wrapB := none, state := if x.state = .down then .down else .loop })

def execRingClosed (r : Nat) (s : State) : Host.Outcome State Fault Refusal :=
  run s (fun s => whenever (closedDue (s.rg r)) (ringClosed r) s)

def downDue (x : Ring) : Bool := ringRuns x && decide (x.state ≠ .down) && decide (8 ≤ x.silentRun)

def ringDown (r : Nat) (s : State) : State := ringAlarm r codeRingDown 0 (s.setRg r { s.rg r with state := .down })

def execRingDown (r : Nat) (s : State) : Host.Outcome State Fault Refusal :=
  run s (fun s => whenever (downDue (s.rg r)) (ringDown r) s)

/-- A valid frame at either port ends RING_DOWN. -/
def validFrame (r : Nat) (s : State) : State :=
  let x := s.rg r
  s.setRg r { x with validSeen := true, state := if x.state = .down then (if x.broken then .split else .loop) else x.state }

/-! ## Node addresses -/

def lostDue (n : RNode) : Bool := decide (n.state = .present) && decide (3 ≤ n.missed)

/-- NODE_LOST; a burst it owns ends LOST (R219). -/
def nodeLost (r a : Nat) (s : State) : State :=
  let n := s.rnode r a
  let s1 := ringAlarm r codeNodeLost a (s.setRnode r a { n with state := .lost, due := none, resendDue := false, tries := 0 })
  match (s1.rg r).burst with
  | some b => if b.addr = a then burstEnd r .lost s1 else s1
  | none => s1

def execNodeLost (r addr : Nat) (s : State) : Host.Outcome State Fault Refusal :=
  run s (fun s => whenever (ringRuns (s.rg r) && lostDue (s.rnode r addr)) (nodeLost r addr) s)

/-- The last accepted report is older than 2 × interval + 3 ms (R215). -/
def staleDue (s : State) (n : RNode) : Bool :=
  !n.stale && (match n.stamp with
    | some t => decide (t + (2 * n.interval + 3) * 100000 < s.now)
    | none => false)

def nodeStale (r a : Nat) (s : State) : State := alarmStale (nodeSrc r a) (s.setRnode r a { s.rnode r a with stale := true })

def execNodeStale (r addr : Nat) (s : State) : Host.Outcome State Fault Refusal :=
  run s (fun s => whenever (staleDue s (s.rnode r addr)) (nodeStale r addr) s)

/-- The first slot of this superframe that an address owns and that is not judged yet. -/
def openSlot (x : Ring) (a : Nat) : Option Nat :=
  (List.range x.slots.length).find? (fun i => decide (x.slots[i]?.map (·.1) = some a) && !x.met.contains i)

/-- A valid frame of a node: its slot is met. -/
def nodeHeard (r a : Nat) (s : State) : State :=
  let n := s.rnode r a
  if n.state = .free then s
  else
    let x := s.rg r
    let s1 := match openSlot x a with
      | some i => s.setRg r { x with met := x.met ++ [i] }
      | none => s
    s1.setRnode r a { n with missed := 0, tries := 0, resendDue := false }

/-! ## Loads, addresses and assignments (R206, R214) -/

/-- The load of R206, exactly, as a fraction: 1 / interval summed. -/
def addLoad (q : Nat × Nat) (interval : Nat) : Nat × Nat :=
  let n := q.1 * interval + q.2
  let d := q.2 * interval
  (n / Nat.gcd n d, d / Nat.gcd n d)

/-- The intervals of the bound nodes, and of the booked ones not yet bound. -/
def ringIntervals (x : Ring) : List Nat :=
  let bound := x.nodes.filter (fun e => decide (e.2.state = .present ∨ e.2.state = .lost))
  bound.map (fun e => e.2.interval) ++
    (x.cfg.book.filter (fun b => bound.all (fun e => decide (e.2.uid ≠ b.1)))).map (fun b => b.2.2)

def ringLoad (x : Ring) : Nat × Nat := ((ringIntervals x).filter (fun i => decide (0 < i))).foldl addLoad (0, 1)

/-- The shortest interval not below the default that keeps the load within 14. -/
def fitInterval (x : Ring) : Option Nat :=
  let (n, d) := ringLoad x
  if 14 * d ≤ n then none
  else
    let least := (d + (14 * d - n) - 1) / (14 * d - n)
    let i := max x.cfg.defInterval least
    if i ≤ 10000 then some i else none

/-- An address that no node holds and no book entry claims. -/
def addrFree (x : Ring) (a : Nat) : Bool :=
  let n := look {} x.nodes a
  decide (n.state = .free ∨ n.state = .parked) && x.cfg.book.all (fun b => decide (b.2.1 ≠ a))

def lowestFree (x : Ring) : Option Nat := (List.range 511).find? (addrFree x)

/-- ASSIGN: the address is bound, LAST of the node's identity is reset in every receiver (R34), and the command goes out in
the next command window. -/
def assignNode (r a : Nat) (uid : U64) (interval phase : Nat) (booked : Bool) (s : State) : State :=
  let s1 := resetSources (ringSrc r) [nodeSrc r a] s
  let n := s1.rnode r a
  let s2 := s1.setRnode r a { n with
    state := .present, reason := 0, uid, interval, phase, booked, missed := 0, tries := 0, resendDue := false, due := none, late := false, last := 255, lost := 0 }
  s2.setRg r { s2.rg r with cmds := (s2.rg r).cmds ++ [(1, a, uidWords uid ++ [pack [(phase, 0, 16), (interval, 16, 16)]])] }

/-- PARK, with NODE_PARKED. The reason stands at the address bound to the UID, otherwise at the lowest free one. -/
def parkNode (r : Nat) (uid : U64) (reason : Nat) (s : State) : State :=
  let x := s.rg r
  let s1 := s.setRg r { x with cmds := x.cmds ++ [(5, 0x1FF, uidWords uid)] }
  let old := x.nodes.find? (fun e => decide (e.2.uid = uid) && decide (e.2.state ≠ .free))
  let s2 := match old with
    | some (a, n) => s1.setRnode r a { n with reason := reason }
    | none =>
      match (List.range 511).find? (fun a => addrFree x a && decide ((look {} x.nodes a).state = .free)) with
      | some a => s1.setRnode r a { s1.rnode r a with state := .parked, reason := reason, uid := uid }
      | none => s1
  report (41 + r) codeNodeParked (match old with
    | some (a, _) => a
    | none => ((List.range 511).find? (fun a => addrFree x a && decide ((look {} x.nodes a).state = .free))).getD 0) s2

/-- The entry a UID is bound to. -/
def boundTo (x : Ring) (uid : U64) : Option (Nat × RNode) :=
  x.nodes.find? (fun e => decide (e.2.uid = uid) && decide (e.2.state = .present ∨ e.2.state = .lost))

/-- A phase to level the load: which, the spec leaves open. -/
def pickPhase (interval : Nat) (s : State) : Nat × State :=
  let (w, s1) := fresh s
  (w.toNat % max 1 interval, s1)

/-- The interval that the CM section gives a booked node now. -/
def bookedInterval (s : State) (r : Nat) (uid : U64) : Option Nat :=
  ((look {} s.nvm.cm.rings r).book.find? (fun b => decide (b.1 = uid))).map (fun b => b.2.2)

/-- A changed interval takes effect through a new ASSIGN to the present node, at the next superframe (R214). -/
def newIntervals (r : Nat) (s : State) : State :=
  (s.rg r).nodes.foldl (fun t e =>
    match bookedInterval t r e.2.uid with
    | some i =>
      if e.2.state = .present ∧ e.2.booked = true ∧ e.2.interval ≠ i then
        let (ph, t1) := pickPhase i t
        assignNode r e.1 e.2.uid i ph true t1
      else t
    | none => t) s

/-! ## The superframe (R205, R206) -/

/-- A report of the node falls due in superframe `sf`. -/
def reportDue (sf : Nat) (n : RNode) : Bool :=
  decide (n.state = .present) && decide (0 < n.interval) && decide ((sf + n.interval - n.phase % n.interval) % n.interval = 0)

/-- `a` is due before `b`: the earlier superframe, then the lower address. -/
def dueBefore (a b : Nat × Nat) : Bool := decide (a.2 < b.2) || (decide (a.2 = b.2) && decide (a.1 < b.1))

def insertDue (a : Nat × Nat) : List (Nat × Nat) → List (Nat × Nat)
  | [] => [a]
  | b :: r => if dueBefore a b then a :: b :: r else b :: insertDue a r

/-- The items that want a slot, in the order of R206. -/
def slotItems (x : Ring) : List (Nat × SlotKind) :=
  let resends := (x.nodes.filter (fun e => e.2.resendDue)).map (fun e => (e.1, SlotKind.resend))
  let dues := x.nodes.filterMap (fun e => e.2.due.map (fun d => (e.1, d)))
  resends ++ x.replies.map (fun a => (a, SlotKind.reply)) ++
    (dues.foldl (fun l e => insertDue e l) []).map (fun e => (e.1, SlotKind.report))

/-- What being granted a slot does to a node's entry. -/
def granted (n : RNode) : SlotKind → RNode
  | .resend => { n with resendDue := false, tries := n.tries + 1 }
  | .reply => n
  | .report => { n with due := none, late := false }

/-- The 16 slots are allocated; what finds none is due again, a report then LATE. -/
def allocateSlots (r : Nat) (s : State) : State :=
  let x := s.rg r
  let items := slotItems x
  let got := items.take 16
  let put1 (m : Tab RNode) (e : Nat × SlotKind) := upd {} m e.1 (fun n => granted n e.2)
  let nodes := got.foldl put1 x.nodes
  let late := (items.drop 16).filter (fun e => decide (e.2 = .report) && !(look {} nodes e.1).late)
  let nodes1 := late.foldl (fun m e => upd {} m e.1 (fun n => { n with late := true })) nodes
  s.setRg r { x with
    slots := got, nodes := nodes1, replies := x.replies.drop (got.filter (fun e => decide (e.2 = .reply))).length,
    cntResend := satAdd x.cntResend (got.filter (fun e => decide (e.2 = .resend))).length, cntLate := satAdd x.cntLate late.length }

/-- What the superframe just ended leaves: the counts of copies and silence. -/
def closeSuperframe (r : Nat) (s : State) : State :=
  let x := s.rg r
  if x.next = 0 then s
  else
    let both := x.copyA && x.copyB
    s.setRg r { x with
      missRun := if both then 0 else min 2 (x.missRun + 1), bothRun := if both then sat 16 x.bothRun else 0,
      silentRun := if x.validSeen then 0 else min 8 (x.silentRun + 1), copyA := false, copyB := false, validSeen := false }

/-- Every condition of the ring and its addresses that is due. -/
def ringSettle (r : Nat) (s : State) : State :=
  let s1 := whenever (breakDue s (s.rg r)) (ringBreak r) s
  let s2 := whenever (closedDue (s1.rg r)) (ringClosed r) s1
  let s3 := whenever (downDue (s2.rg r)) (ringDown r) s2
  ((s3.rg r).nodes.map (·.1)).foldl (fun t a =>
    let t1 := whenever (lostDue (t.rnode r a)) (nodeLost r a) t
    whenever (staleDue t1 (t1.rnode r a)) (nodeStale r a) t1) s3

/-- A frame of the module with its next SEQ, sent from both ports (R202). -/
def moduleSends (r ty cls node : Nat) (f : RFlags) (data : List Word) (x : Ring) : Ring :=
  { x with out := x.out ++ [ringMsg ty r node (ringDest ty node) (ringSrc r) x.seq cls f x.sf data], seq := (x.seq + 1) % 256 }

/-- The commands of the window, in order. A command to one address names it in the header (R207). -/
def sendCommands (r : Nat) (x : Ring) : Ring :=
  x.window.foldl (fun y c => moduleSends r 2 2 c.2.1 {} (commandWords c) y) x

/-- The frames of a superframe (R205, R210, R212): the beacon, with RESTART in the first four, up to three commands, and
DISCOVER from superframe 4 on. -/
def moduleFrames (r n : Nat) (x : Ring) : Ring :=
  let y := sendCommands r (moduleSends r 1 3 0x1FF { restart := decide (n < 4) } (beaconWords n x.slots x.burst) { x with out := [] })
  if 4 ≤ n then moduleSends r 6 6 0x1FF {} [0] y else y

/-- What is judged once in every superframe starts anew. -/
def superframeOpens (x : Ring) : Ring :=
  { x with met := [], burstMet := false, answered := false, turnedA := false, turnedB := false }

/-- A superframe of a running ring. -/
def superframeRun (r : Nat) (s : State) : State :=
  let s0 := closeSuperframe r s
  let s1 := newIntervals r (ringSettle r s0)
  let x := s1.rg r
  let n := x.next
  let state := if x.state = .start ∧ 4 ≤ n then .loop else x.state
  let nodes := x.nodes.map (fun e => if reportDue n e.2 ∧ e.2.due.isNone then (e.1, { e.2 with due := some n }) else e)
  let s2 := allocateSlots r (s1.setRg r (superframeOpens { x with
    sf := n, next := n + 1, sfAt := s1.now, state, nodes, window := x.cmds.take 3, cmds := x.cmds.drop 3 }))
  s2.setRg r (moduleFrames r n (s2.rg r))

/-- A superframe in a shut-down carries only the command window with RELEASE. -/
def superframeStop (r : Nat) (s : State) : State :=
  let x := s.rg r
  s.setRg r (sendCommands r (superframeOpens { x with
    window := x.cmds.take 3, cmds := x.cmds.drop 3, sf := x.next, next := x.next + 1, sfAt := s.now, slots := [], out := [] }))

def superframe (r : Nat) (s : State) : State :=
  match (s.rg r).state with
  | .off => s
  | .shutdown => superframeStop r s
  | _ => superframeRun r s

/-- R205: a superframe begins at raw tick `tick`. -/
def execRingSuperframeStart (r tick : Nat) (s : State) : Host.Outcome State Fault Refusal :=
  run s (fun s => superframe r (advance tick s))

/-! ## Reports, replies, resends (R210, R215, R216) -/

/-- The latest values of the address, and the report onto the fabric with its own SEQ. -/
def reportStore (r : Nat) (rep : RingReport) (s : State) : State :=
  let m := s.rnode r rep.addr
  if m.state = .free then s
  else
  let s2 := s.setRnode r rep.addr { m with
    lv := rep.values, stamp := some s.now, seq := BitVec.ofNat 8 rep.seq, sensor := rep.sensor, stale := false }
  sendAs (nodeSrc r rep.addr) (rep.seq % 256) 1 0 (3 * s2.now) rep.values s2

/-- A frame of a node on the ring passes the sequence window (R32, R33, R209): frames between count as lost, those counted when
their resends failed apart (R216). A frame with WRAP names the wrap node of the side it arrived at (R203). -/
def nodeAccept (r a seq : Nat) (wrap sideA : Bool) (go : State → State) (s : State) : State :=
  let n := s.rnode r a
  let d := (seq + 256 - n.last) % 256
  if ringRuns (s.rg r) = false ∨ n.state = .free then s
  else
    let s1 := validFrame r s
    let x := s1.rg r
    if 1 ≤ d ∧ d ≤ 128 then
      let s2 := s1.setRg r { x with
        cntLost := satAdd x.cntLost (d - 1 - n.lost),
        wrapA := if wrap && sideA then some a else x.wrapA, wrapB := if wrap && !sideA then some a else x.wrapB }
      go (nodeHeard r a (s2.setRnode r a { s2.rnode r a with last := seq % 256, lost := 0 }))
    else s1.setRg r { x with cntSeqdrop := satInc x.cntSeqdrop }

/-- A report is accepted; a hook holds it before the latest-values table. -/
def ringReport (r : Nat) (rep : RingReport) (s : State) : State :=
  nodeAccept r rep.addr rep.seq rep.wrap rep.sideA (hooked (onNode r rep.addr) (.ringReportReceive r rep) (reportStore r rep)) s

def execRingReportReceive (r : Nat) (rep : RingReport) (s : State) : Host.Outcome State Fault Refusal := run s (ringReport r rep)

/-- An IDENT reply: the node has sent it, and no reply slot is owed any more. -/
def replyTaken (r addr : Nat) (words : List Word) (s : State) : State :=
  let uid := (s.rnode r addr).uid
  let s1 := s.setRnode r addr { s.rnode r addr with ident := words }
  let s2 := s1.setRg r { s1.rg r with replies := (s1.rg r).replies.erase addr }
  s2.setNd uid { s2.nd uid with identDue := false }

def ringReply (r addr seq : Nat) (words : List Word) (wrap sideA : Bool) (s : State) : State :=
  nodeAccept r addr seq wrap sideA (replyTaken r addr words) s

def execRingReplyReceive (r addr : Nat) (at' : RingArrival) (words : List Word) (s : State) : Host.Outcome State Fault Refusal :=
  run s (ringReply r addr at'.seq words false at'.sideA)

/-- A BURST frame: its first word is the index of its first sample. -/
def ringBurst (r addr seq offset : Nat) (samples : List Word) (wrap sideA : Bool) (s : State) : State :=
  nodeAccept r addr seq wrap sideA (burstFrame r addr offset samples) s

def execRingBurstFrameReceive (r addr : Nat) (part : BurstPart) (samples : List Word) (s : State) : Host.Outcome State Fault Refusal :=
  run s (ringBurst r addr part.seq part.offset samples false part.sideA)

/-- An empty slot, or a failing frame of its owner: a resend slot, at most twice for one frame; then the frame is lost and
its slot counts towards NODE_LOST. -/
def slotFail (r addr : Nat) (s : State) : State :=
  let x := s.rg r
  match openSlot x addr with
  | some i =>
    if ringRuns x && decide ((s.rnode r addr).state = .present) then
      let n := s.rnode r addr
      let s1 := s.setRg r { x with met := x.met ++ [i] }
      if n.tries < 2 then s1.setRnode r addr { n with resendDue := true }
      else
        let s2 := s1.setRnode r addr { n with tries := 0, missed := n.missed + 1, lost := n.lost + 1 }
        let s3 := s2.setRg r { s2.rg r with cntLost := satInc (s2.rg r).cntLost }
        whenever (lostDue (s3.rnode r addr)) (nodeLost r addr) s3
    else s
  | none => s

def execRingSlotFail (r addr : Nat) (s : State) : Host.Outcome State Fault Refusal := run s (slotFail r addr)

/-! ## Enumeration (R213, R214) -/

/-- The first row of the table of R214 that applies. A UID that an ASSIGN of this superframe names is answered again with
the same address (R219), and so is one that returns after NODE_LOST. -/
def announceRow (r : Nat) (uid : U64) (s : State) : State :=
  let x := s.rg r
  let again (a : Nat) : Bool := x.window.any (fun c => decide (c.1 = 1) && decide (c.2.1 = a) && decide (c.2.2.take 2 = uidWords uid))
  match boundTo x uid with
  | some (a, n) =>
    if n.state = .present && !again a then parkNode r uid 2 s
    else assignNode r a uid n.interval n.phase n.booked s
  | none =>
    match x.cfg.book.find? (fun b => decide (b.1 = uid)) with
    | some (_, a, i) =>
      let (ph, s1) := pickPhase i s
      assignNode r a uid i ph true s1
    | none =>
      if !x.cfg.auto then parkNode r uid 4 s
      else match lowestFree x with
        | none => parkNode r uid 1 s
        | some a =>
          match fitInterval x with
          | none => parkNode r uid 3 s
          | some i =>
            let s0 := s.setRg r { x with stretched := x.stretched || decide (i ≠ x.cfg.defInterval) }
            let (ph, s1) := pickPhase i s0
            assignNode r a uid i ph false s1

/-- An ANNOUNCE is answered once in a superframe, and in none with RESTART (R205, R212, R213). -/
def announceDue (x : Ring) : Bool := ringRuns x && !x.answered && decide (4 ≤ x.sf)

/-- An accepted ANNOUNCE: its address is assigned or its node parked, and its type and firmware kept. -/
def announce (r : Nat) (uid : U64) (kind : Word) (s : State) : State :=
  if announceDue (s.rg r) then
    let s1 := validFrame r s
    let s2 := announceRow r uid (s1.setRg r { s1.rg r with answered := true })
    match boundTo (s2.rg r) uid with
    | some (a, n) => s2.setRnode r a { n with kind }
    | none => s2
  else s

def execRingAnnounceReceive (r : Nat) (node : Announced) (s : State) : Host.Outcome State Fault Refusal :=
  run s (announce r node.uid node.kind)

/-! ## Frames at a port (R207 to R209, R216) -/

/-- The copy of the other port's beacon has arrived in time (R204). -/
def isCopy (s : State) (x : Ring) (sideA : Bool) (f : RingFrame) : Bool :=
  decide (hdrType f.header = 1) && decide (f.streamA ≠ sideA) && decide (hdrSf f.header = x.sf % 16777216) && !copyTime s x

/-- A frame of the module comes back to a port: the sequence window of its SRC at that port, and the beacon's copy. -/
def ownFrame (r : Nat) (sideA : Bool) (f : RingFrame) (s : State) : State :=
  let x := s.rg r
  let seq := tagSeq (f.words.headD (0, 0)).1
  let d := (seq + 256 - (if sideA then x.lastA else x.lastB)) % 256
  let copy := isCopy s x sideA f
  if 1 ≤ d ∧ d ≤ 128 then
    s.setRg r { x with
      cntLost := satAdd x.cntLost (d - 1), lastA := if sideA then seq else x.lastA, lastB := if sideA then x.lastB else seq,
      copyA := x.copyA || (copy && sideA), copyB := x.copyB || (copy && !sideA) }
  else s.setRg r { x with cntSeqdrop := satInc x.cntSeqdrop }

/-- A failing frame in a region of the superframe is its owner's (R216, R217): the slot's, or the burst owner's. Its number of
samples is that of the header, or a free number where that does not pass. -/
def regionFail (r : Nat) (f : RingFrame) (s : State) : State :=
  if f.region < 16 then
    match (s.rg r).slots[f.region]? with
    | some (a, _) => slotFail r a s
    | none => s
  else if f.region = 16 then
    if (hcrc8 f.header).toNat = bits f.header 7 0 then burstFail r (min 80 (hdrLen f.header - 1)) s
    else
      let (w, s1) := fresh s
      burstFail r (w.toNat % 81) s1
  else s

/-- The beacon names a node for the region its report or reply arrives in (R205). -/
def ownsRegion (x : Ring) (f : RingFrame) : Bool := decide ((x.slots[f.region]?).map (·.1) = some (hdrNode f.header))

/-- The report that a frame carries. -/
def reportOf (sideA : Bool) (f : RingFrame) : RingReport :=
  { addr := hdrNode f.header, seq := tagSeq (f.words.headD (0, 0)).1, wrap := hdrWrap f.header, sensor := hdrSensor f.header,
    values := f.words.map (·.2), late := hdrLate f.header, resend := hdrResend f.header, sideA }

/-- An accepted frame takes effect by its type. A report or a reply outside a slot of its sender is no frame of R205, and is
not taken (DESIGN CHOICE, log entry 147). -/
def frameTaken (r : Nat) (sideA : Bool) (f : RingFrame) (s : State) : State :=
  let h := f.header
  let seq := tagSeq (f.words.headD (0, 0)).1
  let ws := f.words.map (·.2)
  match hdrType h with
  | 3 => if ownsRegion (s.rg r) f then ringReport r (reportOf sideA f) s else s
  | 4 => if ownsRegion (s.rg r) f then ringReply r (hdrNode h) seq ws (hdrWrap h) sideA s else s
  | 5 => ringBurst r (hdrNode h) seq (ws.headD 0).toNat ws.tail (hdrWrap h) sideA s
  | 7 => announce r (uidOf (ws.headD 0) ((ws[1]?).getD 0)) ((ws[2]?).getD 0) s
  | _ => ownFrame r sideA f s

/-- A frame at port A or B. -/
def portFrame (r : Nat) (sideA : Bool) (f : RingFrame) (s : State) : State :=
  let x := s.rg r
  if !ringRuns x then s
  else if !ringFrameOk r f then regionFail r f (s.setRg r { x with cntCrc := satInc x.cntCrc })
  else frameTaken r sideA f (validFrame r s)

/-- R209: a port or a node takes a frame. -/
def ringFrame (r : Nat) (f : RingFrame) (s : State) : State :=
  match f.at' with
  | .portA => portFrame r true f s
  | .portB => portFrame r false f s
  | .node uid fromA => nodeFrame r uid fromA f s
  | .supply _ => s

def execRingFrameReceive (r : Nat) (f : RingFrame) (s : State) : Host.Outcome State Fault Refusal := run s (ringFrame r f)

/-! ## Loss and return of signal (R200, R203) -/

/-- A receiver's input has signal or not; a node that has lost one input wraps. A node that loses its supply repeats nothing
and forgets its address; its neighbours lose their signals (R201). -/
def setSignal (lost : Bool) (r : Nat) (rx : RingReceiver) (s : State) : State :=
  match rx with
  | .portA => s.setRg r { s.rg r with lostA := lost }
  | .portB => s.setRg r { s.rg r with lostB := lost }
  | .node uid true => s.setNd uid { s.nd uid with lostA := lost }
  | .node uid false => s.setNd uid { s.nd uid with lostB := lost }
  | .supply uid =>
    if (s.nd uid).powered = !lost then s
    else s.setNd uid { lostA := (s.nd uid).lostA, lostB := (s.nd uid).lostB, powered := !lost }

def execLossOfSignal (r : Nat) (rx : RingReceiver) (s : State) : Host.Outcome State Fault Refusal := run s (setSignal true r rx)
def execSignalReturn (r : Nat) (rx : RingReceiver) (s : State) : Host.Outcome State Fault Refusal := run s (setSignal false r rx)

end Sys2Proof.Machine
end

