-- ==== Sys2Proof/Machine/Boot.lean ====
section
/-!
DEFINITION. Start-up from the flash (R341 to R353, R363): the controller's start, the full pass, loading the dies, the arm
frame, and the scan of the change log.
-/
namespace Sys2Proof.Machine

open Sys2Proof

/-! ## The controller's start (R341, R342, R349) -/

/-- The device is one the module uses (R340, R342). -/
def flashUsable (f : FlashFacts) : Bool :=
  f.sfdp && f.read114 && f.erase4k && decide (22 ≤ f.sizeLog2) && decide (f.sizeLog2 ≤ 26)

/-- The flash as the controller finds it. -/
def flashFound (f : FlashFacts) (n : Nvm) : Nvm :=
  let ok := flashUsable f
  { n with
    started := true, usable := ok, jedec := if ok then f.jedec else 0, sizeLog2 := if ok then f.sizeLog2 else 0,
    addr4 := ok && f.addr4, suspend := ok && f.suspend, wp := ok && f.wp, fail := n.fail || !ok,
    mem := match f.fitted with
      | some m => m.foldl (fun t e => put 0xFF t e.1 e.2) []
      | none => n.mem }

/-- The banks with a valid header, in the order of R349. -/
def bankOrder (n : Nvm) : List Nat :=
  match validHeader n 0, validHeader n 1 with
  | some a, some b => if newer (hdrSeq b) (hdrSeq a) then [1, 0] else [0, 1]
  | some _, none => [0]
  | none, some _ => [1]
  | none, none => []

/-- The pages that stage the SAFETY section (R350): 384 pool pages lent to the NVM controller. -/
def stagingPages : List Nat := poolPages.take 384

/-- The pass over a bank begins: SAFETY goes to staging. -/
def passBegin (b : Nat) (rest : List Nat) (s : State) : State :=
  let h := bankHeader s.nvm b
  { s with nvm := { s.nvm with
      passing := some b, order := rest, staged := secBytes s.nvm (bankBase s.nvm b) h 0,
      stagedCrc := BitVec.ofNat 32 (secCrc h 0), digestFails := ⟨0, 0, 0⟩ } }

def noBank (s : State) : State := report 11 (if s.nvm.reasonA = 6 ∨ s.nvm.reasonB = 6 then codeCfgVariant else codeCfgNone) 0 s

/-- The Boathouse reserves the stream pages and lends the staging pages. -/
def boatStart (s : State) : State :=
  let s1 := { s with boat := { s.boat with ready := true, lowFree := 3296 } }
  noteLow (stagingPages.foldl (fun t p => takePage 0x401 0 p t) s1)

/-- The CM die has passed its slice: the controller identifies the device, reads both headers and begins the pass. In RMA it
arms no configuration (R374). -/
def nvmStart (f : FlashFacts) (s : State) : State :=
  if (s.unit 5).last = 1 ∧ s.nvm.started = false then
    let s1 := boatStart { s with nvm := flashFound f s.nvm }
    if !s1.nvm.usable then report 11 codeNvmFail 0 s1
    else if s1.otp.lc = 2 then s1
    else
      let n := s1.nvm
      let s2 := { s1 with nvm := { n with
        reasonA := if bankHeaderOk n 0 then 0 else 1, reasonB := if bankHeaderOk n 1 then 0 else 1 } }
      match bankOrder n with
      | b :: rest => passBegin b rest s2
      | [] => noBank s2
  else s

def execNvmControllerStart (f : FlashFacts) (s : State) : Host.Outcome State Fault Refusal := run s (nvmStart f)

/-! ## Loading (R350 to R352) -/

/-- The words of a byte string, in little-endian order. -/
def wordsOf (bs : List Byte) : List Word :=
  (List.range ((bs.length + 3) / 4)).map (fun i => BitVec.ofNat 32 (ofLe ((bs.drop (4 * i)).take 4)))

/-- Configuration goes out as class 0x6 frames from SRC 0x401, 255 data words and the CRC word to a frame (R30, R350). -/
def sendConfig (ws : List Word) (s : State) : State :=
  (List.range ((ws.length + 254) / 255)).foldl (fun t i => sendFrame 0x401 6 ((ws.drop (255 * i)).take 255) t) s

/-- The SAFETY section a die is loaded from: staging, or after the arm frame the bank in force. -/
def safetySource (s : State) : Option (List Byte × Word) :=
  if s.nvm.armed then some (secBytes s.nvm (bankBase s.nvm s.nvm.bank) (bankHeader s.nvm s.nvm.bank) 0, s.nvm.digest)
  else if s.nvm.passing.isSome then some (s.nvm.staged, s.nvm.stagedCrc)
  else none

/-- The CRC-32C that a lane computes over its copy (R351); over one that does not arrive as sent, some other value. -/
def copyDigest (bytes : List Byte) (crc : Word) (ok : Bool) (s : State) : Word × State :=
  if ok then (crc32cBytes bytes, s)
  else
    let (w, s1) := fresh s
    (if w = crc then ~~~w else w, s1)

/-- A lane receives the whole section, its SCRC in the first frame. A digest that differs is loaded once more; a second
difference is CFG_DIGEST. -/
def laneLoad (l : Lane) (ok : Bool) (s : State) : State :=
  let m := s.mgr l
  match safetySource s with
  | some (bytes, crc) =>
    if m.phase = .start ∧ m.tested = true ∧ m.loaded = false ∧ laneUnpowered s l = false then
      let (d, s0) := copyDigest bytes crc ok (sendConfig (crc :: wordsOf bytes) s)
      if d = crc then
        let s1 := s0.setLane l { s0.laneD l with
          image := some (Config.parseSafety bytes), digest := d, blocks := [], sig := [], evaluated := none, buf := none,
          tel := [], telDue := [], passOk := true }
        s1.setMgr l { s1.mgr l with loaded := true }
      else
        let n := triGet s0.nvm.digestFails l + 1
        let s1 := s0.setLane l { s0.laneD l with image := none, digest := d }
        let s1 := { s1 with nvm := { s1.nvm with digestFails := triSet s1.nvm.digestFails l n } }
        if n = 2 then report 11 codeCfgDigest 0 s1 else s1
    else s
  | none => s

def execLaneConfigLoad (lane : Lane) (ok : Bool) (s : State) : Host.Outcome State Fault Refusal := run s (laneLoad lane ok)

/-- The guard channels take their settings and settle (R184); a fused-off channel is inert (R3, R4). -/
def guardChannels (img : SafetyImage) (s : State) : State :=
  img.afe.foldl (fun t e =>
    if ainPresent t e.1 then channelOn e.1 (t.setAin e.1 { t.ain e.1 with cfg := e.2, guard := true }) else t) s

/-- The safety timers take their settings and run. -/
def safetyTimers (img : SafetyImage) (s : State) : State :=
  img.tach.foldl (fun t e => tachOn e.1 (t.setTach e.1 { t.tachT e.1 with cfg := e.2, safety := true })) s

/-- The measurement of an OUTPUT_STD pin runs from the load on until a first frame comes (DESIGN CHOICE, log entry 138). -/
def pinsFrom (img : SafetyImage) (s : State) : State :=
  img.cio.foldl (fun t e =>
    if e.2.mode = .outputStd then t.setCio e.1 { t.cio e.1 with since := t.seat.cycle } else t) s

/-- The field part, section bytes 4 to 3 + FIELD_LEN: the settings of SAFETY that the field die uses (R345). -/
def fieldLoad (s : State) : State :=
  match safetySource s with
  | some (bytes, _) =>
    if (s.unit 4).last = 1 ∧ s.nvm.fieldLoaded = false then
      let img := Config.parseSafety bytes
      let s0 := sendConfig (wordsOf ((bytes.drop 4).take (field bytes 0 4))) s
      let s1 := { s0 with fld := { s0.fld with safety := some img }, nvm := { s0.nvm with fieldLoaded := true } }
      safetyTimers img (guardChannels img (pinsFrom img s1))
    else s
  | none => s

def execFieldPartLoad (s : State) : Host.Outcome State Fault Refusal := run s fieldLoad

/-! ## The arm frame (R352) -/

/-- Channels and timers of the CM section. -/
def armChannels (cm : CmImage) (s : State) : State :=
  let s1 := cm.afe.foldl (fun t e =>
    let x := t.ain e.1
    if x.guard ∨ ainPresent t e.1 = false then t
    else
      let t1 := t.setAin e.1 { x with cfg := e.2 }
      if e.2.enabled ∧ e.2.mode ≠ .off then channelOn e.1 t1 else t1) s
  cm.tach.foldl (fun t e =>
    let x := t.tachT e.1
    if x.safety then t
    else
      let t1 := t.setTach e.1 { x with cfg := e.2 }
      if e.2.enabled then tachOn e.1 t1 else t1) s1

/-- A task's code is copied into the instruction region of each core in its mask (R225), behind that of the tasks before it;
the region holds 24,576 words (R221; the place is a DESIGN CHOICE, log entry 155). -/
def copyCode (mask : Word) (code : List Word) (s : State) : State :=
  (List.range 8).foldl (fun t c =>
    if mask.getLsbD (14 + c) then t.setCore c { t.core c with instr := ((t.core c).instr ++ code).take 24576 } else t) s

/-- A task of the USER section: its code, its descriptor, its context page, its initial state; it waits for its first
release. -/
def armTask (s : State) (e : Nat × TaskImage) : State :=
  let w (i : Nat) : Word := (e.2.desc[i]?).getD 0
  let s1 := (copyCode (w 0) e.2.code s).setTask e.1 {
    w0 := w 0, w1 := w 1, w2 := w 2, w3 := w 3, w4 := w 4, image := e.2.image,
    state := if (w 0).getLsbD 9 then .waiting else .disabled }
  match allocate (0x100 + e.1) 1 0 1 s1 with
  | (.pages ((p, _) :: _), s2) => loadImage e.1 (s2.setTask e.1 { s2.task e.1 with ctx := some p })
  | (_, s2) => s2

def armCores (cm : CmImage) (s : State) : State :=
  (List.range 8).foldl (fun t c => if cm.cores.getLsbD c then coreUp c (t.setCore c { t.core c with en := true }) else t) s

def armRings (cm : CmImage) (s : State) : State :=
  (List.range 4).foldl (fun t r =>
    let cfg := look {} cm.rings r
    let t1 := t.setRg r { t.rg r with cfg := cfg }
    if cfg.en && ringPresent t r then ringStart r t1 else t1) s

/-- The staging pages return to the pool through scrub. -/
def staffOut (s : State) : State :=
  stagingPages.foldl (fun t p => if (t.page p).holder = 0x401 then dropPage p t else t)
    { s with nvm := { s.nvm with staged := [] } }

/-- CM, USER and NET reach their consumers during the pass (R350). -/
def deliverSections (b : Nat) (s : State) : State :=
  let h := bankHeader s.nvm b
  [1, 2, 3].foldl (fun t i => sendConfig (wordsOf (secBytes s.nvm (bankBase s.nvm b) h i)) t) s

/-- The arm frame, then every consumer takes up bank `b`. The spread ramp begins (R415). The word of the arm frame is the
bank's SEQ: the spec gives it no layout (DESIGN CHOICE, log entry 121). -/
def arm (b : Nat) (s0 : State) : State :=
  let s := sendFrame 0x401 6 [BitVec.ofNat 32 (hdrSeq (bankHeader s0.nvm b))] s0
  let n := s.nvm
  let h := bankHeader n b
  let sec (i : Nat) : List Byte := secBytes n (bankBase n b) h i
  let cm := Config.parseCm (sec 1)
  let user := Config.parseUser (sec 2)
  let net := { Config.parseNet (sec 3) with slots := pwTable (Config.pwBytes (sec 3)) }
  let s1 := { s with
    nvm := { n with
      passing := none, order := [], armed := true, bank := b, digest := BitVec.ofNat 32 (secCrc h 0), cm, user, net,
      cmBytes := sec 1, cmChanges := [], cmChanged := false, cmUnsaved := none, imgPending := false },
    bist := { s.bist with period := cm.bistPeriod, coreEn := cm.bistCoreEn },
    boat := { s.boat with reclaim := cm.reclaim, hostBudget := cm.hostBudget },
    alarm := cm.alarms.foldl (fun t e => put {} t e.1 { words := e.2 }) [],
    fab := { s.fab with routes := (user.routes ++ net.routes).foldl (fun t e => put {} t e.1 e.2) [] },
    sys := { s.sys with spread := net.spread, spreadFrom := some s.now } }
  armRings cm (armCores cm (user.tasks.foldl armTask (armChannels cm (staffOut s1))))

/-- The field die drops a field part: the guard channels, safety timers and pins it set are as before it. -/
def dropField (s : State) : State :=
  match s.fld.safety with
  | none => s
  | some img =>
    let s1 := img.afe.foldl (fun t e => t.setAin e.1 {}) s
    let s2 := img.tach.foldl (fun t e => t.setTach e.1 {}) s1
    img.cio.foldl (fun t e => t.setCio e.1 { t.cio e.1 with since := 0 }) s2

/-- The field die and the lanes discard what they hold unarmed. -/
def discard (s0 : State) : State :=
  let s := dropField s0
  let s1 := allLanes.foldl (fun t l =>
    (t.setLane l { t.laneD l with image := none, digest := 0 }).setMgr l { t.mgr l with loaded := false }) s
  { s1 with fld := { s1.fld with safety := none }, nvm := { s1.nvm with fieldLoaded := false, staged := [], stagedCrc := 0 } }

/-- Milliseconds since VSYS good. -/
def msSinceGood (s : State) : Nat := s.sys.releaseMs + s.now / 100000

def setReason (b r : Nat) (n : Nvm) : Nvm := if b = 0 then { n with reasonA := r } else { n with reasonB := r }

/-- A bank fails its full pass: its reason, CFG_BANK, and AUTH_FAIL for a failing tag or missing authority. -/
def bankFails (b r : Nat) (s : State) : State :=
  let s1 := report 49 codeCfgBank 0 { s with nvm := setReason b r s.nvm }
  if r = 5 then report 50 codeAuthFail 0 s1 else s1

/-- The end of the pass (R349, R350). -/
def passComplete (s : State) : State :=
  match s.nvm.passing with
  | none => s
  | some b =>
    let r := bankReason s b
    let h := bankHeader s.nvm b
    let s0 := deliverSections b (moduleCheck 0 (decide (r ≠ 2 ∧ r ≠ 3)) { s with nvm := { s.nvm with passMs := msSinceGood s } })
    let s1 := if r ≠ 1 ∧ r ≠ 2 ∧ r ≠ 3 ∧ hmacFails s (bankBase s.nvm b) h then report 50 codeAuthFail 0 s0 else s0
    if r = 0 then arm b s1
    else
      let s2 := bankFails b r { s1 with nvm := { s1.nvm with passing := none } }
      let s3 := discard s2
      match s3.nvm.order with
      | b2 :: rest => passBegin b2 rest { s3 with nvm := { s3.nvm with fallback := true } }
      | [] => noBank s3

def execFullPassComplete (s : State) : Host.Outcome State Fault Refusal := run s passComplete

/-! ## The scan of the log (R363) -/

/-- The valid entries of an area as (ENTRY_SEQ, KIND, TARGET_SEQ). -/
def areaEntries (n : Nvm) (area : Nat) : List (Nat × Nat × Nat) :=
  ((List.range 8192).filter (fun i => !slotBlank n area i && slotOk n area i)).map (fun i =>
    let e := slotBytes n area i
    (field e 0 4, field e 5 1, field e 52 4))

/-- The area in use: the newer of two, area 0 of equals. -/
def currentArea (n : Nvm) : Option Nat :=
  match areaOk n 0, areaOk n 1 with
  | true, true => some (if newer (areaGen n 1) (areaGen n 0) then 1 else 0)
  | true, false => some 0
  | false, true => some 1
  | false, false => none

/-- The newest of the entries' numbers, and the oldest, in serial arithmetic. -/
def newestSeq (es : List (Nat × Nat × Nat)) : Option Nat :=
  es.foldl (fun m e => match m with | none => some e.1 | some x => if newer e.1 x then some e.1 else m) none
def oldestSeq (es : List (Nat × Nat × Nat)) : Option Nat :=
  es.foldl (fun m e => match m with | none => some e.1 | some x => if newer x e.1 then some e.1 else m) none

/-- Without a valid area, area 0 is erased and started with AREA_GEN 1; its first ENTRY_SEQ is not stated. -/
def logCreate (s : State) : State :=
  if (currentArea s.nvm).isSome ∨ s.nvm.wp then s
  else
    let (w, s1) := fresh s
    { s1 with nvm := areaStart 0 1 w.toNat s1.nvm }

/-- What the scan finds. -/
def logScan (n : Nvm) : Nvm :=
  let cur := (currentArea n).getD 0
  let e0 := areaEntries n 0
  let e1 := areaEntries n 1
  let all := (if areaOk n 0 then e0 else []) ++ (if areaOk n 1 then e1 else [])
  let mine := if cur = 0 then e0 else e1
  let seq := match newestSeq all with
    | some q => (q + 1) % 4294967296
    | none => areaFirst n cur
  let booted := hdrSeq (bankHeader n n.bank)
  { n with
    logArea := cur, logReady := true, logNext := ((List.range 8192).find? (slotBlank n cur)).getD 8192, logSeq := seq,
    logAck := (oldestSeq all).getD seq, logFirst := (oldestSeq mine).getD seq, logGen := areaGen n cur,
    logOther := areaOk n (1 - cur) && slotBlank n (1 - cur) 0, logErasing := !areaOk n (1 - cur),
    lostChanges := all.any (fun e => decide (e.2.1 = 1) && newer e.2.2 booted) }

/-- The scan after the arm frame; the seal states found at boot are then logged (R367). -/
def scanComplete (s : State) : State :=
  if s.nvm.armed ∧ s.nvm.logReady = false then
    let s1 := logCreate s
    let s2 := { s1 with nvm := logScan s1.nvm }
    let s3 := { s2 with host := if logFull s2.nvm then { s2.host with irqStat := s2.host.irqStat ||| 8 } else s2.host }
    cellsLogged (logEvent 0xFE 4 addrSecState [0] [sealBits s3] s3)
  else s

def execLogScanComplete (s : State) : Host.Outcome State Fault Refusal := run s scanComplete

end Sys2Proof.Machine
end

