-- ==== Sys2Proof/Machine/Perturb.lean ====
section
/-!
DEFINITION. The PERTURB block (R469 to R475): the writing of its registers, and the release of held items.
-/
namespace Sys2Proof.Machine

open Sys2Proof

def addrTgt (n : Nat) : Nat := addrPerturb + 0x100 + 16 * n
def addrCfg (n : Nat) : Nat := addrPerturb + 0x104 + 16 * n
def addrSeed : Nat := addrPerturb + 8

/-! ## Writes (R469, R471, R473) -/

/-- A refused write is counted, raised and logged. -/
def perturbRefuse (addr : Nat) (v : Word) (s : State) : State :=
  let s1 := report 55 codePerturbRefused 0 (refuse addr s)
  logEvent 0xFF 5 addr [] [v] { s1 with hook := { s1.hook with refused := satInc s1.hook.refused } }

/-- The conditions of R473: the cell, a session, the log. -/
def perturbOpen (s : State) (p : Port) : Bool :=
  cellOpen s && (sessionOf s p).isSome && s.nvm.logReady && !logFull s.nvm && !s.nvm.wp

/-- A write is logged and applied, or refused as a whole. -/
def perturbWrite (p : Port) (ok : Bool) (addr : Nat) (old v : Word) (apply : State → State) (s : State) : State :=
  if perturbOpen s p && ok then
    logThen (slotOf s p) 2 addr [old] [v] 0 (perturbRefuse addr v) apply s
  else perturbRefuse addr v s

/-- The target overlaps that of another hook in force. -/
def overlapsOther (s : State) (n : Nat) (tgt : Word) : Bool :=
  (List.range 16).any (fun m => decide (m ≠ n) && decide ((s.hk m).cfg ≠ 0) && overlap tgt (s.hk m).tgt)

def tgtWrite (p : Port) (n : Nat) (v : Word) (s : State) : State :=
  let h := s.hk n
  let t := v &&& 0x000FFFFF#32
  perturbWrite p (decide (h.cfg = 0) && decide (bits t 3 0 ≤ 5) && !overlapsOther s n t) (addrTgt n) h.tgt v
    (fun s => s.setHk n { s.hk n with tgt := t }) s

def execPerturbTgtWrite (port : Port) (n : Nat) (value : Word) (s : State) : Host.Outcome State Fault Refusal :=
  run s (fun s => whenever (decide (n < 16)) (tgtWrite port n value) s)

/-- The bound on DELAY + JITTER of the target (R469). -/
def hookBound (s : State) (tgt cfg : Word) : Nat :=
  match bits tgt 3 0 with
  | 1 => if cfg.getLsbD 28 && !(routeAt s (bits tgt 11 4)).safe then 4000 else 4095
  | 2 => 1000
  | 3 => 10000
  | 4 => 16
  | _ => 16383

/-- A setting within its bounds: a unit of safety cycles and back-pressure only for a route with SAFE = 0. -/
def cfgOk (s : State) (n : Nat) (v : Word) : Bool :=
  let t := (s.hk n).tgt
  let free := decide (bits t 3 0 = 1) && !(routeAt s (bits t 11 4)).safe
  decide (v = 0) ||
  (decide (bits t 3 0 ≠ 0) && decide (bits v 13 0 + bits v 27 14 ≤ hookBound s t v) &&
   (free || decide (bits v 31 28 = 0)) && !overlapsOther s n t)

def cfgWrite (p : Port) (n : Nat) (v : Word) (s : State) : State :=
  perturbWrite p (cfgOk s n v) (addrCfg n) (s.hk n).cfg v (fun s => s.setHk n { s.hk n with cfg := v, lfsr := s.hook.seed }) s

def execPerturbCfgWrite (port : Port) (n : Nat) (value : Word) (s : State) : Host.Outcome State Fault Refusal :=
  run s (fun s => whenever (decide (n < 16)) (cfgWrite port n value) s)

def seedWrite (p : Port) (v : Word) (s : State) : State :=
  perturbWrite p (decide (v ≠ 0)) addrSeed s.hook.seed v (fun s => { s with hook := { s.hook with seed := v } }) s

def execPerturbSeedWrite (port : Port) (value : Word) (s : State) : Host.Outcome State Fault Refusal := run s (seedWrite port value)

/-! ## Releases (R470) -/

/-- A released item proceeds on its path. -/
def deliver (item : Instr) (s : State) : State :=
  match item with
  | .fabricFrameReceive p ws w => receiveFrame p ws w s
  | .telegramFrameArrival l c b => telArrive l c b s
  | .cioCommandFrame src m v => cioCommand src m v s
  | .cioHeartbeatFrame src => cioHeard src s
  | .ringReportReceive r rep => reportStore r rep s
  | .afeDecimatedSample ch _ v => decimReady ch (BitVec.ofInt 32 v) s
  | .streamFrameWrite ch ok => streamWrite ch ok s
  | _ => s

/-- A decimated sample waits while the one before it has not gone into an image. -/
def itemBlocked (s : State) (item : Instr) : Bool :=
  match item with
  | .afeDecimatedSample ch _ _ => (s.ain ch).ready.isSome
  | _ => false

/-- An item that came before on a target that overlaps is released first (R470). -/
def heldBehind (s : State) (e : HeldItem) : Bool :=
  (s.hook.held.takeWhile (fun f => decide (f ≠ e))).any (fun f => overlap f.tgt e.tgt && decide (f.rel ≤ e.rel))

def releaseItem (e : HeldItem) (s : State) : State :=
  let s1 := advance e.rel s
  deliver e.item { s1 with hook := { s1.hook with held := s1.hook.held.erase e } }

/-- The oldest item of a hook, on its release tick. -/
def hookRelease (n : Nat) (s : State) : State :=
  match heldBy s n with
  | e :: _ =>
    if e.rel ≤ (advance e.rel s).now ∧ itemBlocked s e.item = false ∧ heldBehind s e = false then releaseItem e s else s
  | [] => s

def execPerturbRelease (hook : Nat) (s : State) : Host.Outcome State Fault Refusal := run s (hookRelease hook)

/-- Every item whose release time has come by `tick`. -/
def releaseUpTo (tick : Nat) (s : State) : State :=
  s.hook.held.foldl (fun t e => if e.rel ≤ tick ∧ itemBlocked t e.item = false then releaseItem e t else t) s

end Sys2Proof.Machine
end

