-- ==== Sys2Proof/Machine/Cycle.lean ====
section
/-!
DEFINITION. The field die's cycle (R17, R18): what has become due by itself, a sampling instant, and a cycle boundary.
-/
namespace Sys2Proof.Machine

open Sys2Proof

/-! ## What has become due

The events below are commands of their own, each with its condition in State. Those that have not come as commands take
place at the latest before the next sampling instant or boundary. -/

def each (n : Nat) (due : State → Nat → Bool) (f : Nat → State → State) (s : State) : State :=
  (List.range n).foldl (fun t k => whenever (due t k) (f k) t) s

def eachGroup (due : State → Group → Bool) (f : Group → State → State) (s : State) : State :=
  allGroups.foldl (fun t g => whenever (due t g) (f g) t) s

def eachSupply (due : State → Supply → Bool) (f : Supply → State → State) (s : State) : State :=
  [Supply.vin, .v1, .v2].foldl (fun t v => whenever (due t v) (f v) t) s

/-- Inputs, generators and supplies. -/
def settleIn (s : State) : State :=
  let s1 := each 16 windowDue windowEnd (each 16 overloadDue overload (each 64 filterDue filterChange s))
  eachSupply recoveryDue supplyRecovery (eachSupply missingDue supplyMissing (eachSupply sagDue supplySag (eachSupply warnDue supplyWarn s1)))

/-- Outputs, pins and groups. -/
def settleOut (s : State) : State :=
  let s1 := each 12 outClearDue outClear (each 12 outPulseEndDue outPulseEnd s)
  let s2 := each 12 openLoadDue outOpenLoad (each 12 outOverloadDue (outHold codeOutOverload)
    (each 12 outStuckDue outStuck (each 12 outShortDue outShort s1)))
  let s3 := each 24 silentDue cioSilence (each 24 cioShortDue cioShort (each 24 cioOverloadDue cioOverload s2))
  let s4 := eachGroup overtempDue groupOvertemp (eachGroup overcurDue groupOvercurrent s3)
  whenever (wdReleaseDue s4) wdRelease (whenever (wdTripDue s4) wdTrip s4)

/-- Analog channels, the release qualifier and the Umpire. -/
def settleRest (s : State) : State :=
  let s1 := each 32 settledDue settled (each 32 ainShortDue ainShort (each 32 ainOpenDue ainOpen s))
  let s2 := whenever (twoOarDue s1) twoOarLimit (whenever (lorHistDue s1) lorHist s1)
  latchAll (whenever (handlingDue s2) handlingClose s2)

/-- The pulses of the slot that has begun. -/
def settleBegin (s : State) : State := each 12 outPulseDue outPulseBegin (each 16 pulseDue pulseBegin s)

def settle (s : State) : State := settleBegin (settleRest (settleOut (settleIn s)))

/-! ## Sampling (R17, R101) -/

/-- The field die takes its readings in slot `q`. -/
def takeReadings (r : Readings) (q : Nat) (s : State) : State :=
  let s1 := sampleSupply r.v2 .v2 (sampleSupply r.v1 .v1 (sampleSupply r.vin .vin s))
  let s2 := (List.range 16).foldl (fun t k => sampleTp (r.tp.getLsbD k) (r.tpLimit.getLsbD k) q k t) s1
  let s3 := (List.range 64).foldl (fun t n => sampleSi (r.si.getLsbD n) q n t) s2
  let s4 := (List.range 12).foldl (fun t k => sampleSo (look {} r.so k) q k t) s3
  let s5 := (List.range 24).foldl (fun t n => sampleCio (look {} r.cio n) n t) s4
  sampleGroup r.ciog2 .ciog2 (sampleGroup r.ciog1 .ciog1 (sampleGroup r.sog2 .sog2 (sampleGroup r.sog1 .sog1 s5)))

/-- The next of the four sampling instants of the cycle; a fifth does not exist. A group's shut-down completes at the first
one at least 100 µs after its start (R164). -/
def samplingInstant (r : Readings) (s : State) : State :=
  if s.fld.sub < 4 then
    let tick := s.t0 + 1562 + slotTicks * s.fld.sub
    let s1 := advance tick (settle (releaseUpTo tick s))
    let s2 := eachGroup groupCompleteDue groupComplete s1
    let s3 := takeReadings r s2.slot s2
    { s3 with fld := { s3.fld with sub := s3.fld.sub + 1 } }
  else s

def execSamplingInstant (r : Readings) (s : State) : Host.Outcome State Fault Refusal := run s (samplingInstant r)

/-! ## The boundary (R18 step 1, R51, R52) -/

/-- A forced-off state of all four lines, or a HOLD request, that has arisen since step 6 (rows 18 and 20). -/
def boundaryRows (s : State) : State :=
  if seatFrozen s then s
  else if running s.seat.state && decide (s.linesLow = 0xF) then applyRow false 18 s
  else if running s.seat.state && s.seat.holdReq then applyRow false 20 s
  else s

/-- What the fabric counts per cycle starts at 0: CHK failures (R27), and the words of R40 and R42. -/
def nextFabric (f : Fab) : Fab :=
  { f with cnt := f.cnt.map (fun e => (e.1, { e.2 with chkInCycle := 0 })), laneIn := ⟨0, 0, 0⟩, laneAlarms := ⟨0, 0, 0⟩ }

/-- The cycle timer starts the next cycle; the fabric has granted up to the boundary. -/
def nextCycle (s : State) : State :=
  { s with
    t0 := s.t0 + cycleTicks, now := s.t0 + cycleTicks,
    fab := nextFabric (fabricTo (backPressure s) s.t0 (s.t0 + cycleTicks) s.fab),
    seat := { s.seat with
      cycle := s.seat.cycle + 1, judged := false,
      twoOarTicks := if s.seat.state = .twoOar then s.seat.twoOarTicks + cycleTicks else s.seat.twoOarTicks,
      lanes := ⟨{ s.seat.lanes.l1 with rx := .none }, { s.seat.lanes.l2 with rx := .none }, { s.seat.lanes.l3 with rx := .none }⟩ } }

/-- A due seat mapping takes effect. -/
def mappingDue (s : State) : State :=
  match s.seat.due with
  | some (b, t, p) => { s with seat := { s.seat with bow := b, stroke := t, spare := p, due := none } }
  | none => s

/-- The votes that drive switches A and B at this boundary: those of the seats, or while sculling the remaining one's for
both; none in START and LOCKOUT. -/
def drivingVotes (s : State) : Option Vote × Option Vote :=
  let at' (o : Option Lane) : Option Vote := o.bind (fun l => triGet s.seat.votes l)
  match s.seat.state with
  | .start | .lockout => (none, none)
  | .sculling => (at' (scullLane s), at' (scullLane s))
  | _ => (at' s.seat.bow, at' s.seat.stroke)

/-- SO_CMD and CIO_CMD of a vote; everything off without one. -/
def voteSo : Option Vote → Word
  | some v => v.w1
  | none => 0
def voteCio : Option Vote → Word
  | some v => v.w2
  | none => 0

/-- The votes are applied. `start` is the tick at which the cycle just ended began. -/
def applyVotes (start : Nat) (s : State) : State :=
  let (a, b) := drivingVotes s
  let s1 := (List.range 12).foldl (boundarySo (voteSo a) (voteSo b)) s
  (List.range 24).foldl (boundaryCio (voteCio a) (voteCio b) start) s1

/-- The groups at a boundary: requests that an off cycle meets, HOLD, and groups that become good. -/
def boundaryGroups (s : State) : State :=
  let s1 := groupOffRequests s
  let s2 := if s1.seat.holdReq && !running s1.seat.state then
      holdEntry s1
    else s1
  refreshAll (groupsGood s2)

/-- The slot count goes on; it begins at the first boundary after the arm frame, the field die having loaded the SAFETY section (R106, R352). -/
def nextSlots (s : State) : State :=
  if s.fld.slotOn then { s with fld := { s.fld with slotBase := s.fld.slotBase + 4, sub := 0 } }
  else if s.fld.safety.isSome && s.nvm.armed then
    let s1 := (List.range 16).foldl (fun t k => t.setTp k { t.tp k with offset := (tpCfg t k).start t.img.tpPeriod k, next := (tpCfg t k).start t.img.tpPeriod k }) s
    let s2 := (List.range 12).foldl (fun t k =>
      let o := (look {} t.img.so k).start t.img.tpPeriod k
      t.setSo k { t.so k with offset := o, next := o, nextB := false }) s1
    { s2 with fld := { s2.fld with slotOn := true, slotBase := 0, sub := 0 } }
  else { s with fld := { s.fld with sub := 0 } }

/-! ## SIN_CODEn, SIN_TP_GENk and SIN_SUPPLY (R124) -/

def supplyWord (low : Bool) (x : SupplySt) : Word :=
  pack [(bit x.warn, 0, 1), (bit low, 1, 1), (bit x.missing, 2, 1), (bit x.recov, 3, 1), (x.volt, 16, 16)]

def siCodeWord (s : State) (n : Nat) : Word :=
  let x := s.si n
  let c := siCodeNow s n
  pack [(c, 0, 16), (if c = codeTpCross then x.gen else 0, 16, 4), (x.count.toNat, 20, 12)]

def tpWord (s : State) (k : Nat) : Word :=
  let t := s.tp k
  pack [(t.offset, 0, 11), ((match (tpCfg s k).mode with | .off => 0 | .staticOn => 1 | .pulse => 2), 12, 2), (bit t.stuck, 14, 1),
    (bit t.overload, 15, 1), (t.walks.toNat, 16, 16)]

/-- Bits from a function of the position. -/
def bitsOf (w n : Nat) (f : Nat → Bool) : BitVec w :=
  (List.range n).foldl (fun a k => if f k then a ||| BitVec.ofNat w (1 <<< k) else a) 0

def tabOf (n : Nat) (f : Nat → Nat) : Tab Nat := (List.range n).foldl (fun m k => put 0 m k (f k)) []

/-- The capture frames of this boundary (R192). -/
def boundaryTachs (s : State) : Tab TachFrame × State :=
  (List.range 8).foldl (fun (e : Tab TachFrame × State) t =>
    match tachBoundary e.2 t with
    | (some f, s1) => (e.1 ++ [(t, f)], s1)
    | (none, s1) => (e.1, s1)) ([], s)

/-- The decimated samples that are ready belong to this image (R186). -/
def readySamples (s : State) : Tab Word × State :=
  (List.range 32).foldl (fun (e : Tab Word × State) ch =>
    let x := e.2.ain ch
    match x.ready with
    | some w => (e.1 ++ [(ch, w)], e.2.setAin ch { x with ready := none })
    | none => e) ([], s)

/-- The frozen image (R18, R75, R112). -/
def imageOf (s : State) (tach : Tab TachFrame) (dec : Tab Word) : Image :=
  { cycle := s.seat.cycle, slot := s.fld.slotBase,
    si := bitsOf 64 64 (fun n => (s.si n).level), raw := bitsOf 64 64 (fun n => (s.si n).hist.getLsbD 0),
    siCode := tabOf 64 (siCodeNow s), sagIn := sagIn s, offsets := tabOf 16 (fun k => (s.tp k).offset),
    so := bitsOf 12 12 (fun k => (s.so k).high), soCode := tabOf 12 (fun k => (s.so k).code),
    soHeld := bitsOf 12 12 (fun k => decide ((s.so k).holdCode ≠ 0)),
    cio := bitsOf 24 24 (fun n => if (cioCfg s n).mode = .input then (s.cio n).level else (s.cio n).high),
    cioLamp := bitsOf 24 24 (fun n => (s.cio n).lamp),
    cioDiag := bitsOf 24 24 (fun n => (s.cio n).short || (s.cio n).overload),
    sagOut := bitsOf 2 2 (fun i => let v := s.supply (if i = 0 then .v1 else .v2); v.low || v.missing),
    good := bitsOf 4 4 (fun i => (s.group ((allGroups[i]?).getD .sog1)).good), tach, dec,
    sinCodes := (List.range 64).foldl (fun m n => put 0 m n (siCodeWord s n)) [],
    sinTps := (List.range 16).foldl (fun m k => put 0 m k (tpWord s k)) [],
    sinSupply := supplyWord (sagIn s) s.fld.vin }

/-- The data words of the image frame: input states, readback, supply states and the diagnoses that are set. The spec names
what the frame carries and not its layout, which is the model's (DESIGN CHOICE, log entry 121). -/
def imageWords (im : Image) : List Word :=
  [BitVec.ofNat 32 im.cycle, BitVec.ofNat 32 im.slot, im.si.setWidth 32, (im.si >>> 32).setWidth 32,
   im.so.setWidth 32 ||| (im.good.setWidth 32 <<< 12) ||| (if im.sagIn then 0x10000 else 0) |||
     (im.sagOut.setWidth 32 <<< 17), im.cio.setWidth 32, im.cioLamp.setWidth 32, im.cioDiag.setWidth 32] ++ im.siCode.map (fun e => pack [(e.1, 0, 8), (e.2, 16, 16)]) ++
  im.soCode.map (fun e => pack [(e.1, 0, 8), (1, 8, 1), (e.2, 16, 16)]) ++ [im.soHeld.setWidth 32]

/-- The image is frozen; its frame requests from t0 + 0.5 µs on, and the decimated samples follow it (R40). -/
def freeze (s : State) : State :=
  let (tach, s1) := boundaryTachs s
  let (dec, s2) := readySamples s1
  let im := imageOf s2 tach dec
  let since := 3 * (s2.t0 + 50)
  let s3 := sendFrom 0x000 0 0 since (imageWords im) { s2 with fld := { s2.fld with image := im } }
  dec.foldl (fun t e => sendFrom (0x0C0 + e.1) 0 0 since [e.2] t) s3

/-- Words in groups of 255: the data words of the frames of a state copy (R60). -/
def frames255 (ws : List Word) : List (List Word) :=
  (List.range ((ws.length + 254) / 255)).map (fun i => (ws.drop (255 * i)).take 255)

/-- A lane that is the source of a copy freezes its state image at the boundary, and sends it from t0 + 1 µs on as class 0x6
frames of at most 255 data words (R60 steps 2 and 3). -/
def freezeCopy (src : Lane) (c : Nat) (s : State) : State :=
  let d := s.laneD src
  let s1 := s.setLane src { d with copySrc := some (c, d.blocks) }
  match d.image with
  | none => s1
  | some img => (frames255 (stateImage img (c - 1) d.blocks)).foldl (fun t ws =>
      sendFrom (0x310 + laneNo src) 6 (seatField t src) (3 * (t.t0 + 100)) ws t) s1

def freezeCopies (s : State) : State :=
  allLanes.foldl (fun t l =>
    match (t.mgr l).phase, (t.mgr l).copyFrom with
    | .copying c, some src => if c = t.seat.cycle then freezeCopy src c t else t
    | _, _ => t) s

/-- The boundary at which the next cycle begins. What was due and step 6, where they have not come as commands, come
first. -/
def boundary (s : State) : State :=
  let start := s.t0
  let s0 := (List.range 64).foldl (fun t n => declareShort n t) (settle (releaseUpTo (start + cycleTicks) s))
  let s1 := boundaryRows (latchAll (voteDeadline s0))
  let s2 := mappingDue (nextCycle s1)
  let s3 := watchdogCycle (boundaryGroups (applyVotes start s2))
  let s4 := sendCounts (freezeCopies (freeze (nextSlots s3)))
  aliveCycle (lorCycle (lorArm s4))

/-- R17, R18 steps 1 and 7. -/
def execSafetyCycleBoundary (s : State) : Host.Outcome State Fault Refusal := run s (leaving boundary)

/-- R50: step 6. -/
def execVoteDeadline (s : State) : Host.Outcome State Fault Refusal := run s (leaving voteDeadline)

/-- R65: sculling time has reached the limit. Step 6 of the cycle applies row 4, unless rows 18 or 1 to 3 come
first. -/
def execScullTimeout (s : State) : Host.Outcome State Fault Refusal :=
  run s (leaving (fun s => whenever (scullOver s) voteDeadline s))

end Sys2Proof.Machine
end

