-- ==== Sys2Proof/Machine/Net.lean ====
section
/-!
DEFINITION. The switch and its ports (R384 to R386), the time base and PTP (R387 to R392), and safe telegrams at the
management core (R395, R401).
-/
namespace Sys2Proof.Machine

open Sys2Proof

/-! ## The switch (R384, R385) -/

/-- The switch forwards from 120 ms after VSYS good. -/
def switchUp (s : State) : Bool := decide (12000000 ≤ s.now + s.sys.releaseMs * 100000)

/-- A group address: the first octet of the address is its most significant byte. -/
def isGroupMac (m : Nat) : Bool := decide (m / 2 ^ 40 % 2 = 1)

def macTicks : Nat := 300 * secTicks

/-- The port an address has been learned at. -/
def macPort (s : State) (m : Nat) : Option Nat := (s.net.macs.find? (fun e => decide (e.1 = m))).map (·.2.1)

/-- A source address is learned or renewed; a full table learns no more. -/
def learn (m p : Nat) (s : State) : State :=
  let rest := s.net.macs.filter (fun e => decide (e.1 ≠ m))
  if isGroupMac m || decide (2048 ≤ rest.length) then s
  else { s with net := { s.net with macs := rest ++ [(m, p, s.now)] } }

/-- The egress queue of a forwarded frame (R385): 3 for PTP event messages and safe telegrams, 0 without a PCP of 4 or more. -/
def egressQueue (s : State) (f : EthFrame) : Nat :=
  if f.kind = .udp 319 ∨ f.kind = .ptpFrame ∨ f.kind = .udp s.nvm.net.telPort then 3
  else if f.pcp < 4 then 0 else 1 + Config.pcpQueue f.pcp % 3

/-- At most 20,000 datagrams in a second of raw time are processed (R386): whether this one is, and its count. -/
def coreAdmits (s : State) : Bool × State :=
  let q := s.now / secTicks
  let c := if s.net.dgSec = q then s.net.dgCount else 0
  if 20000 ≤ c then (false, s) else (true, { s with net := { s.net with dgSec := q, dgCount := c + 1 } })

/-- What the management core does with a frame for it (R386). Telegrams, requests and PTP messages are commands of their
own. -/
def coreTakes (f : EthFrame) (s : State) : State :=
  match f.kind with
  | .arp => coreUnicast 0 64 s
  | .icmp => coreUnicast 0 f.length s
  | .udp port =>
    let (ok, s1) := coreAdmits s
    if !ok || !(decide (port = s.nvm.net.telPort ∨ port = s.nvm.net.regPort ∨ port = 319 ∨ port = 320)) then ethDrop 2 s1 else s1
  | .ptpFrame => s
  | .other => s

/-- The frame goes to the ports its destination names. -/
def forward (p : Nat) (f : EthFrame) (s : State) : State :=
  let own := s.nvm.armed && decide (f.dst = s.otp.mac)
  let core := own || (isGroupMac f.dst && s.nvm.armed)
  let out : List Nat :=
    if own then []
    else if isGroupMac f.dst then [1 - p]
    else match macPort s f.dst with
      | some q => if q = p then [] else [q]
      | none => [1 - p]
  let s1 := out.foldl (fun t q => ethTx q (egressQueue s f) f.length t) s
  if core then coreTakes f (ethTx 2 (egressQueue s f) f.length s1) else s1

/-- The broadcast and multicast limit of an ingress port, 10,000 frames in a second of raw time (R385): whether the frame lies
within it, and its count. -/
def groupAdmits (p : Nat) (f : EthFrame) (s : State) : Bool × State :=
  let e := s.eth p
  let q := s.now / secTicks
  let c := if e.groupSec = q then e.groupCount else 0
  if !isGroupMac f.dst then (true, s)
  else if 10000 ≤ c then (false, s)
  else (true, s.setEth p { e with groupSec := q, groupCount := c + 1 })

/-- A frame at port 0 or 1. Pause frames and frames of another length are discarded. -/
def ethFrame (p : Nat) (f : EthFrame) (s : State) : State :=
  if 2 ≤ p ∨ switchUp s = false then s
  else
    let s1 := ethRx p s
    if f.pause ∨ f.length < 64 ∨ 1522 < f.length then s1
    else
      let (ok, s2) := groupAdmits p f s1
      if ok then forward p f (learn f.src p s2) else ethDrop p s2

def execEthFrameReceive (inPort : Nat) (f : EthFrame) (s : State) : Host.Outcome State Fault Refusal := run s (ethFrame inPort f)

/-- An address is aged out 300 s after its last frame. -/
def macAge (m : Nat) (s : State) : State :=
  { s with net := { s.net with macs := s.net.macs.filter (fun e => decide (e.1 ≠ m) || decide (s.now < e.2.2 + macTicks)) } }

def execMacAgeOut (mac : Nat) (s : State) : Host.Outcome State Fault Refusal := run s (macAge mac)

/-- The sessions of UDP peers end when neither port has a link (R370). -/
def dropUdp (s : State) : State :=
  if (s.eth 0).link || (s.eth 1).link then s
  else { s with sec := { s.sec with sessions := s.sec.sessions.filter (fun x => decide (x.port = .spi)) } }

/-- A poll of a PHY is due: one every 100 ms (R384). -/
def pollDue (s : State) (p : Nat) : Bool := decide (p < 2) && decide (((s.eth p).polls + 1) * 10000000 ≤ s.now)

/-- The PHY's state as the MDIO master polls it; what waits for a port has left at its old speed. -/
def phyPoll (p : Nat) (link : Bool) (speed : Nat) (s : State) : State :=
  if pollDue s p = false then s
  else
    let e0 := egressTo s.now (s.eth p)
    let e := { e0 with polls := e0.polls + 1 }
    if e.link = link then s.setEth p { e with speed := speed % 4 }
    else report 51 codeEthLink 0 (dropUdp (s.setEth p { e with link := link, speed := speed % 4, changes := e.changes + 1 }))

def execPhyPoll (p : Nat) (link : Bool) (speed : Nat) (s : State) : Host.Outcome State Fault Refusal := run s (phyPoll p link speed)

/-! ## The time base (R387 to R389) -/

/-- The mappings that were in force after raw tick `cut`; `next` is when the newest of them ended. -/
def keepMaps (cut : Nat) : Nat → List TimeMap → List TimeMap
  | _, [] => []
  | next, m :: ms => if cut ≤ next then m :: keepMaps cut m.raw ms else []

/-- A new mapping is in force from now on; those of the last 16 s are kept. -/
def newMap (base : Nat) (rate : Int) (s : State) : State :=
  let t := s.time
  { s with time := { t with
      map := { raw := s.now, base, rate }, older := keepMaps (s.now - 16 * secTicks) s.now (t.map :: t.older) } }

/-- RATE is limited to ±500 ppm. -/
def rateLimit : Nat := 2147483

/-- Slewing: RATE takes a value that the spec does not give. -/
def slew (s : State) : State :=
  let (w, s1) := fresh s
  newMap s1.timeNow (((w.toNat % (2 * rateLimit + 1) : Nat) : Int) - rateLimit) s1

def shift (d : Int) (t : Nat) : Nat := Int.toNat ((t : Int) + d)

/-- The stamps by which intervals are measured move with a step (R388). The locks count raw ticks and need none. -/
def shiftLane (d : Int) (m : LaneMgr) : LaneMgr :=
  { m with fails := m.fails.map (shift d), lastPass := m.lastPass.map (shift d), lastFail := m.lastFail.map (shift d) }

def addrTimeStep : Nat := 0x00140018

/-- The two words of a step. -/
def stepWords (d : Int) : List Word := [BitVec.ofInt 32 d, BitVec.ofInt 32 (d / 4294967296)]

/-- The time base steps by D. -/
def timeStep (d : Int) (s : State) : State :=
  let s1 := newMap (shift d s.timeNow) s.time.map.rate s
  let l := s1.seat.lanes
  let s2 := { s1 with
    seat := { s1.seat with lanes := ⟨shiftLane d l.l1, shiftLane d l.l2, shiftLane d l.l3⟩ },
    time := { s1.time with valid := true, steps := s1.time.steps + 1, lastStep := d } }
  logEvent 0xFF 5 addrTimeStep [] (stepWords d) s2

/-! ## PTP (R391, R392) -/

/-- LOCKED, with IRQ_STAT.PTP on a change (R409). -/
def setLocked (b : Bool) (s : State) : State :=
  if s.net.ptpLocked = b then s
  else { s with net := { s.net with ptpLocked := b }, host := { s.host with irqStat := s.host.irqStat ||| 0x40 } }

def clampNs (x : Int) : Int := max (-2147483647) (min 2147483647 x)

/-- An offset measurement in ns. The first after a reset, and one beyond 1 s, steps the time base; every other slews RATE. -/
def measure (off : Int) (s : State) : State :=
  let x := s.net
  let inside := decide (-1000 ≤ off) && decide (off ≤ 1000)
  let far := decide (off < -100000) || decide (100000 < off)
  let good := if inside then sat 16 x.ptpGood else 0
  let s1 := { s with net := { x with
    ptpOffset := clampNs off, ptpGood := good, ptpState := 3, ptpBadAt := if far then some (x.ptpBadAt.getD s.now) else none } }
  let s2 := if !s1.time.valid || decide (off < -1000000000) || decide (1000000000 < off) then timeStep (-off / 10) s1 else slew s1
  setLocked (decide (16 ≤ good)) s2

/-- A complete Sync: its origin with every correction, and its reception. -/
def syncDone (t1 t2 : Int) (s : State) : State :=
  let s1 := { s with net := { s.net with ptpT12 := some (t1, t2), ptpPend := none } }
  match s.net.ptpDelay with
  | some d => measure (t2 - t1 - d) s1
  | none => s1

/-- The mean path delay from a Sync and a Delay_Req with its response. -/
def delayDone (t4 : Int) (s : State) : State :=
  match s.net.ptpT12, s.net.ptpT3 with
  | some (t1, t2), some t3 => { s with net := { s.net with ptpDelay := some (((t2 - t1) + (t4 - t3)) / 2), ptpT3 := none } }
  | _, _ => s

def ptpSlave (s : State) : Bool := decide (s.net.ptpState = 2 ∨ s.net.ptpState = 3)

/-- The order of the best master clock algorithm: the lower number wins at the first difference. -/
def clockBetter (a b : PtpClock) : Bool :=
  if a.prio1 ≠ b.prio1 then decide (a.prio1 < b.prio1)
  else if a.quality ≠ b.quality then decide (a.quality < b.quality)
  else if a.prio2 ≠ b.prio2 then decide (a.prio2 < b.prio2)
  else decide (a.ident < b.ident)

/-- The module's own clock. -/
def ownClock (s : State) : PtpClock :=
  { prio1 := s.nvm.net.prio1, quality := Config.clockQuality, prio2 := s.nvm.net.prio2, ident := Config.clockIdent s.otp.mac }

/-- The best clock announced so far, with a new Announce; a clock's newer Announce replaces its older one. -/
def bestClock (old : Option PtpClock) (c : PtpClock) : PtpClock :=
  match old with
  | some b => if b.ident = c.ident ∨ clockBetter c b = true then c else b
  | none => c

/-- A PTP message of the domain. A transparent clock's residence time is added to the correction of the message that carries
it. -/
def ptpMessage (m : PtpMsg) (s : State) : State :=
  match m with
  | .through corr r => { s with net := { s.net with
      ptpRes := BitVec.ofNat 32 (max s.net.ptpRes.toNat (min r 0xFFFFFFFF)), ptpCorr := corr + r } }
  | .announce c =>
    if !s.nvm.armed then s
    else
      let b := bestClock s.net.ptpBest c
      let s1 := { s with net := { s.net with ptpBest := some b } }
      if s.nvm.net.slaveOnly || clockBetter b (ownClock s) then
        (if ptpSlave s then s1 else { s1 with net := { s1.net with ptpState := 2 } })
      else { s1 with net := { s1.net with ptpState := 4 } }
  | .sync two origin received corr =>
    if !ptpSlave s then s
    else
      let s1 := { s with net := { s.net with ptpSyncAt := some s.now } }
      if two then { s1 with net := { s1.net with ptpPend := some (received, corr) } } else syncDone (origin + corr) received s1
  | .followUp origin corr =>
    if !ptpSlave s then s
    else match s.net.ptpPend with
      | some (received, c) => syncDone (origin + corr + c) received s
      | none => s
  | .delayReq => if s.net.ptpState = 4 then coreSends 0 (udpFrame 54) { s with net := { s.net with ptpSent := s.net.ptpSent + 1 } } else s
  | .delayResp received corr => if ptpSlave s then delayDone (received - corr) s else s

/-- The ordinary clock takes the messages of its domain; the transparent clock corrects those of every domain. -/
def ptpTakes (s : State) (domain : Nat) (m : PtpMsg) : Bool :=
  match m with
  | .through _ _ => true
  | _ => decide (domain = s.nvm.net.domain)

def execPtpMessage (at' : PtpIn) (m : PtpMsg) (s : State) : Host.Outcome State Fault Refusal :=
  run s (fun s => whenever (decide (at'.port < 2) && switchUp s && ptpTakes s at'.domain m) (ptpMessage m) s)

/-- The message interval: Sync and Follow_Up as master, Delay_Req as slave. A clock that may be master and hears none becomes
it. -/
def ptpInterval (s : State) : State :=
  if !s.nvm.armed then s
  else if s.net.ptpState ≤ 1 ∧ s.nvm.net.slaveOnly = false then { s with net := { s.net with ptpState := 4 } }
  else if s.net.ptpState = 4 then coreSends 0 (udpFrame 44) (coreSends 3 (udpFrame 44) { s with net := { s.net with ptpSent := s.net.ptpSent + 1 } })
  else if ptpSlave s then
    coreSends 3 (udpFrame 44) { s with net := { s.net with ptpT3 := some (10 * (s.timeNow : Int)), ptpSent := s.net.ptpSent + 1 } }
  else s

def execPtpSyncInterval (s : State) : Host.Outcome State Fault Refusal := run s ptpInterval

/-- No Sync for 4 s, or an offset above 100 µs for 10 s. -/
def ptpLostDue (s : State) : Bool :=
  (match s.net.ptpSyncAt with
   | some t => decide (t + 4 * secTicks ≤ s.now)
   | none => false) ||
  (match s.net.ptpBadAt with
   | some t => decide (t + 10 * secTicks ≤ s.now)
   | none => false)

def ptpLost (s : State) : State :=
  report 51 codePtpLost 0 (setLocked false { s with net := { s.net with ptpGood := 0, ptpSyncAt := none, ptpBadAt := none, ptpBest := none } })

def execPtpLost (s : State) : Host.Outcome State Fault Refusal := run s (fun s => whenever (ptpLostDue s) ptpLost s)

/-- PPS_OUT runs: while locked, or freely where the NET section says so. -/
def ppsRuns (s : State) : Bool := s.net.ptpLocked || (s.nvm.armed && s.nvm.net.ppsFree)

/-- A whole second of the time base: PPS_OUT rises where it runs. -/
def ppsSecond (s : State) : State :=
  let q := s.timeNow / secTicks
  if s.net.ppsAt = q then s else { s with net := { s.net with ppsAt := q, pps := ppsRuns s } }

def execPpsSecond (s : State) : Host.Outcome State Fault Refusal := run s ppsSecond

/-! ## Telegrams at the management core (R395, R401) -/

/-- The connection a datagram belongs to: its peer and its CONN_ID. -/
def connOf (s : State) (peer : Nat) (bytes : List Byte) : Option Nat :=
  (s.img.conns.find? (fun e => decide (e.2.peer = peer) && decide (e.2.id.toNat = field bytes 0 4))).map (·.1)

/-- The datagram goes to the lanes as one frame, or is dropped. -/
def telDatagram (peer : Nat) (bytes : List Byte) (s : State) : State :=
  if !s.nvm.armed then s
  else match (if 4 ≤ bytes.length then connOf s peer bytes else none) with
    | some i => sendFrame (0x600 + i) 9 (bytesToWords bytes) s
    | none => ethDrop 2 s

def execTelegramDatagram (peer : Nat) (bytes : List Byte) (s : State) : Host.Outcome State Fault Refusal :=
  run s (telDatagram peer bytes)

/-- The frame of a lane for a connection that is not yet dealt with. -/
def telFrameOf (s : State) (conn : Nat) (o : Option Lane) : Nat × List Byte :=
  match o with
  | some l => look (0, []) (s.laneD l).telOut conn
  | none => (0, [])

/-- The telegram leaves when the seated frames are identical; while sculling it is the driving lane's. -/
def outTelegram (conn : Nat) (s : State) : State :=
  if !running s.seat.state then s
  else
    let scull := decide (s.seat.state = .sculling)
    let a := telFrameOf s conn (if scull then scullLane s else s.seat.bow)
    let b := if scull then a else telFrameOf s conn s.seat.stroke
    let s1 := allLanes.foldl (fun t l => t.setLane l { t.laneD l with telOut := put (0, []) (t.laneD l).telOut conn (0, []) }) s
    if a = (0, []) ∧ b = (0, []) then s
    else if a = b then coreUnicast 3 (udpFrame a.2.length) { s1 with net := { s1.net with telSent := put (0, []) s1.net.telSent conn a } }
    else { s1 with net := { s1.net with telMismatch := satInc s1.net.telMismatch } }

def execOutboundTelegram (conn : Nat) (s : State) : Host.Outcome State Fault Refusal := run s (outTelegram conn)

end Sys2Proof.Machine
end

