-- ==== Sys2Proof/Machine/Store.lean ====
section
/-!
DEFINITION. Image writes (R354 to R357), the acknowledging and erasing of log areas (R361), and password-class changes of
CM parameters (R356, R372).
-/
namespace Sys2Proof.Machine

open Sys2Proof

/-! ## Ends of a write (R354) -/

/-- The end of each image write is an event (R407) and sets IRQ_STAT.CFG (R409). -/
def writeEnd (w : ImgWrite) (s : State) : State :=
  let s1 := pushEvent 0x401 7 0 [] s.timeNow { s with nvm := { s.nvm with wr := { w with step := 0 } } }
  { s1 with host := { s1.host with irqStat := s1.host.irqStat ||| 0x10 } }

/-- A write fails with a cause: the target bank is left without a valid header (R354; its header page is left erased). Changes
that a module write was to persist wait for the next one (R356). -/
def writeFail (cause : Nat) (s : State) : State :=
  let w := s.nvm.wr
  let s1 := writeEnd { w with state := 6, cause := cause } { s with nvm := flashErase s.nvm (bankBase s.nvm w.target) 256 }
  if s.nvm.wr.byModule then { s1 with nvm := { s1.nvm with cmUnsaved := some (s1.nvm.cmUnsaved.getD s1.now) } } else s1

/-- An erase or program that has timed out (R342). -/
def flashTimeout (s : State) : State :=
  let n := s.nvm
  let s1 := report 49 codeNvmFail 0 { s with nvm := { n with timeouts := n.timeouts + 1, fail := true } }
  if n.wr.step = 0 then s1 else writeFail 8 s1

/-- R342: at boot NVM_FAIL is of scope S and the module uses no flash; in RUN the write concerned fails. -/
def nvmFail (atBoot : Bool) (s : State) : State :=
  if atBoot then
    if s.nvm.armed then s
    else report 11 codeNvmFail 0 { s with nvm := { s.nvm with fail := true, usable := false, passing := none, order := [] } }
  else flashTimeout s

def execNvmFail (atBoot : Bool) (s : State) : Host.Outcome State Fault Refusal := run s (nvmFail atBoot)

/-! ## The host's OPEN, COMMIT, CANCEL -/

def addrWrCtrl : Nat := 0x00100030

/-- The bank that is not in force; B where none is. -/
def otherBank (s : State) : Nat := if s.nvm.armed then 1 - s.nvm.bank else 1

/-- A write begins: the header sector of the target bank is erased, and an image that waits there is gone. -/
def writeBegin (byModule : Bool) (slot : Option Nat) (s : State) : State :=
  let t := otherBank s
  let n := flashErase s.nvm (bankBase s.nvm t) 4096
  { s with nvm := { n with
      imgPending := false,
      wr := { state := 1, step := 1, byModule, target := t, sealOk := sealClosed s, slot, header := List.replicate 256 0xFF } } }

/-- OPEN. While the known-answer test fails, image writes are refused (R303). -/
def cfgOpen (s : State) : State :=
  let n := s.nvm
  if katBlocks s then refuse addrWrCtrl s
  else if n.wr.step ≠ 0 then refuse addrWrCtrl { s with nvm := { n with wr := { n.wr with cause := 1 } } }
  else if !n.usable || n.wp then
    refuse addrWrCtrl { s with nvm := { n with wr := { state := 6, cause := 8 } } }
  else writeBegin false none s

def execCfgOpen (_port : Port) (_value : Word) (s : State) : Host.Outcome State Fault Refusal := run s cfgOpen

/-- COMMIT of the image that has been received: it is read back with context 1. A commit is logged, so it needs room in the
log. -/
def cfgCommit (p : Port) (s : State) : State :=
  let n := s.nvm
  if n.wr.state ≠ 2 ∨ n.wr.byModule ∨ katBlocks s then refuse addrWrCtrl s
  else
    let s0 := touchSession p s
    if s.nvm.armed ∧ n.logReady = false then secRefuse addrWrCtrl codeAccessRefused s0
    else if logFull n then secRefuse addrWrCtrl codeLogFull s0
    else { s0 with nvm := { s0.nvm with wr := { n.wr with state := 3, step := 4, done64 := 0, slot := (sessionOf s p).map (·.slot) } } }

def execCfgCommit (port : Port) (_value : Word) (s : State) : Host.Outcome State Fault Refusal := run s (cfgCommit port)

/-- CANCEL, ignored after the end of step 5 and where no host write runs. -/
def cfgCancel (s : State) : State :=
  let w := s.nvm.wr
  if 1 ≤ w.step ∧ w.step ≤ 5 ∧ w.byModule = false then writeFail 9 s else s

def execCfgCancel (_port : Port) (s : State) : Host.Outcome State Fault Refusal := run s cfgCancel

/-- Received data is programmed at the bank offset named; the header page waits for step 5. Data at or beyond BS is refused
with LENGTH (R405), counts as refused (R10) and fails the write (R354). -/
def bulkData (offset : Nat) (bytes : List Byte) (s : State) : Bool × State :=
  let n := s.nvm
  if n.wr.state ≠ 2 ∨ n.wr.byModule then (false, refuse addrWrCtrl s)
  else if bankSize n < offset + bytes.length then (false, refuse addrWrCtrl (writeFail 3 s))
  else
    let idx := (List.range bytes.length).zip bytes
    let hdr := idx.foldl (fun h e => if offset + e.1 < 256 then h.set (offset + e.1) (((h[offset + e.1]?).getD 0xFF) &&& e.2) else h) n.wr.header
    let skip := 256 - offset
    let n1 := flashProgram n (bankBase n n.wr.target + max offset 256) (bytes.drop skip)
    (true, { s with nvm := { n1 with wr := { n.wr with header := hdr, done64 := max n.wr.done64 ((offset + bytes.length) / 65536) } } })

/-! ## The module's image (R356) -/

def pad4k (n : Nat) : Nat := (n + 4095) / 4096 * 4096

/-- The sections of the module's image: those of the bank in force, with the present CM parameters. -/
def moduleSections (s : State) : List (List Byte) :=
  let n := s.nvm
  let h := bankHeader n n.bank
  let sec (i : Nat) : List Byte := secBytes n (bankBase n n.bank) h i
  [sec 0, Config.cmForm n.cmBytes n.cmChanges, sec 2, sec 3]

/-- The sections with their offsets, each on a 4 KiB boundary, and the end of the last. -/
def placeSections : Nat → List (List Byte) → List (Nat × List Byte) × Nat
  | off, [] => ([], off)
  | off, b :: r =>
    let (rest, e) := placeSections (off + pad4k b.length) r
    ((off, b) :: rest, if r.isEmpty then off + b.length else e)

/-- The header (bytes 0x00 to 0xBF) and the body of the module's image. BUILD is the build stamp of the image in force. -/
def moduleImage (s : State) : List Byte × List (Nat × List Byte) :=
  let n := s.nvm
  let old := bankHeader n n.bank
  let (placed, stop) := placeSections 0x1000 (moduleSections s)
  let tagged := hdrHmac old
  let len := if tagged then (stop + 3) / 4 * 4 + 32 else (stop + 3) / 4 * 4
  let entry (i : Nat) (e : Nat × List Byte) : List Byte :=
    [BitVec.ofNat 8 (i + 1), if i = 0 then 1 else 2, 0, 0] ++ leBytes e.1 4 ++ leBytes e.2.length 4 ++ leBytes (crc32cBytes e.2).toNat 4
  let secs := ((List.range 4).zip placed).flatMap (fun e => entry e.1 e.2)
  let head := leBytes 0x9640C0F6 4 ++ leBytes 1 2 ++ leBytes (hdrRes old) 1 ++ leBytes (if tagged then 1 else 0) 1 ++
    leBytes ((hdrSeq old + 1) % 4294967296) 4 ++ leBytes len 4 ++ secs
  let all := placed.flatMap (·.2)
  let h1 := head ++ leBytes (crc32cBytes (head ++ all)).toNat 4 ++ (old.drop 0x54).take 8 ++ List.replicate 96 0
  let h2 := h1 ++ leBytes (crc32cBytes h1).toNat 4
  let tag := match imageKeyOpen s with
    | some k => if tagged then [(len - 32, hmac k (h2.take 0xBC ++ all))] else []
    | none => []
  (h2, placed ++ tag)

/-! ## The judgement of a commit (R354 step 4) -/

/-- A section differs from that of the bank in force. -/
def changedNow (s : State) (h : List Byte) (i : Nat) : Bool :=
  !s.nvm.armed || decide (secCrc h i ≠ secCrc (bankHeader s.nvm s.nvm.bank) i)

/-- The committing session's slot holds a right. -/
def slotRight (s : State) (w : ImgWrite) (r : Nat) : Bool :=
  match w.slot with
  | some k => (pwSlot s k).rights.getLsbD r
  | none => false

/-- The password table of the image differs from the table in force (R369). -/
def tableChanged (s : State) (h : List Byte) : Bool :=
  !s.nvm.armed ||
  decide (pwTable (Config.pwBytes (secBytes s.nvm (bankBase s.nvm s.nvm.wr.target) h 3)) ≠ s.nvm.net.slots)

/-- CFG_WR_STAT.CAUSE of the image at hand, 0 where it is good. -/
def commitCause (s : State) : Nat :=
  let w := s.nvm.wr
  let h := w.header
  let base := bankBase s.nvm w.target
  let r := bodyReason s base h
  if s.nvm.armed ∧ hdrSeq h ≠ (inForceSeq s + 1) % 4294967296 then 2
  else if bankSize s.nvm < hdrLength h then 3
  else if !imageHeadOk (bankSize s.nvm) h || (decide (r ≠ 0) && decide (r ≠ 4)) then 4
  else if r = 4 then 5
  else if !w.byModule && ((changedNow s h 1 && !slotRight s w rightCm) || (changedNow s h 2 && !slotRight s w rightUser) ||
      (changedNow s h 3 && !slotRight s w rightNet)) then 5
  else if !w.byModule && (changedNow s h 0 || tableChanged s h) && !w.sealOk then 6
  else if !w.byModule && s.nvm.cmChanged &&
      decide (secCrc h 1 ≠ (crc32cBytes (Config.cmForm s.nvm.cmBytes s.nvm.cmChanges)).toNat) then 7
  else 0

/-- The commit record (R344). -/
def commitRecord (s : State) (h : List Byte) : List Byte :=
  let w := s.nvm.wr
  let chg (i : Nat) : Nat := if changedNow s h i then 1 else 0
  let auth := pack [(chg 0, 0, 1), (chg 1, 1, 1), (chg 2, 2, 1), (chg 3, 3, 1), (if w.sealOk then 1 else 0, 4, 1),
    (w.slot.getD 0, 5, 3), (if w.slot.isSome then 1 else 0, 8, 1), (if w.byModule then 1 else 0, 9, 1)]
  let r := leBytes 0x3C9A51E7 4 ++ leBytes (inForceSeq s) 4 ++ leBytes auth.toNat 4 ++ leBytes s.timeNow 8 ++ List.replicate 40 0
  r ++ leBytes (crc32cBytes r).toNat 4

/-- The judgement: the header page with its commit record waits to be programmed, or the COMMIT is refused with its cause and
the write fails; a host's COMMIT then counts as a refused access (R10, R357, R369). -/
def judgeCommit (s : State) : State :=
  let c := commitCause s
  let s1 := moduleCheck 1 (decide (c ≠ 4)) s
  if c ≠ 0 then (if s.nvm.wr.byModule then writeFail c s1 else refuse addrWrCtrl (writeFail c s1))
  else
    let w := s1.nvm.wr
    { s1 with nvm := { s1.nvm with wr := { w with state := 4, step := 5, header := w.header.take 0xC0 ++ commitRecord s w.header } } }

/-- The image at hand lacks a CM change: one accepted after its judgement, which the next write persists (R356). -/
def cmMissing (s : State) : Bool :=
  s.nvm.cmChanged &&
  decide (secCrc s.nvm.wr.header 1 ≠ (crc32cBytes (Config.cmForm s.nvm.cmBytes s.nvm.cmChanges)).toNat)

/-- The header has been read back: the image is committed and takes effect at the next boot; the commit is logged. -/
def writeDone (s : State) : State :=
  let w := s.nvm.wr
  let s1 := writeEnd { w with state := 5, cause := 0 } s
  let s2 := { s1 with nvm := { s1.nvm with imgPending := true, cmUnsaved := if w.byModule || cmMissing s then s1.nvm.cmUnsaved else none } }
  let actor := if w.byModule then 0xFF else w.slot.getD 0xFE
  if s2.nvm.logReady then
    logEvent actor 3 addrWrCtrl [BitVec.ofNat 32 (inForceSeq s)] [BitVec.ofNat 32 (hdrSeq w.header)] s2
  else s2

/-- A flash operation of the write has ended well. -/
def flashNext (s : State) : State :=
  let n := s.nvm
  let w := n.wr
  let base := bankBase n w.target
  match w.step with
  | 1 => { s with nvm := { n with wr := { w with step := 2, done64 := 0 } } }
  | 2 =>
    let n1 := flashErase n (base + 65536 * w.done64) 65536
    let d := w.done64 + 1
    if bankSize n ≤ 65536 * d then
      { s with nvm := { n1 with wr := { w with step := 3, state := 2, done64 := 0 } } }
    else { s with nvm := { n1 with wr := { w with done64 := d } } }
  | 3 =>
    if w.byModule then
      let (head, body) := moduleImage s
      let n1 := body.foldl (fun m e => flashProgram m (base + e.1) e.2) n
      { s with nvm := { n1 with wr := { w with step := 4, state := 3, header := head ++ List.replicate 64 0xFF } } }
    else s
  | 4 => judgeCommit s
  | 5 => { s with nvm := { flashProgram n base w.header with wr := { w with step := 6 } } }
  | 6 => writeDone s
  | _ => s

/-- R354: a flash operation ends; a failed one ends the write with FLASH. -/
def flashComplete (ok : Bool) (s : State) : State :=
  if s.nvm.wr.step = 0 then s else if ok then flashNext s else writeFail 8 s

def execFlashOperationComplete (ok : Bool) (s : State) : Host.Outcome State Fault Refusal := run s (flashComplete ok)

/-- The module's own write is due: 1 s after the first change that is not persisted, no other write running (R356). -/
def persistDue (s : State) : Bool :=
  match s.nvm.cmUnsaved with
  | some t => decide (t + secTicks ≤ s.now) && decide (s.nvm.wr.step = 0) && s.nvm.usable && !s.nvm.wp && !katBlocks s
  | none => false

def persistStart (s : State) : State :=
  let s1 := writeBegin true (some s.nvm.cmSlot) s
  { s1 with nvm := { s1.nvm with cmUnsaved := none } }

def execCmPersistStart (s : State) : Host.Outcome State Fault Refusal :=
  run s (fun s => whenever (persistDue s) persistStart s)

/-! ## The log's areas (R361) -/

def addrLogAck : Nat := 0x0010004C

/-- LOG_ACK: an entry number within the range written and not yet acknowledged. -/
def logAckWrite (v : Word) (s : State) : State :=
  let n := s.nvm
  let d := (v.toNat + 4294967296 - n.logAck) % 4294967296
  if n.logReady && decide (d < logUnexported n) then
    { s with nvm := logReclaim { n with logAck := (v.toNat + 1) % 4294967296 } }
  else refuse addrLogAck s

def execLogAckWrite (_port : Port) (value : Word) (s : State) : Host.Outcome State Fault Refusal := run s (logAckWrite value)

/-- The background erase has ended: the area has its new header. FIRST_SEQ is the number that its first entry will have. -/
def areaErased (s : State) : State :=
  let n := s.nvm
  if n.logReady && n.logErasing && n.usable && !n.wp then
    let first := (n.logSeq + (8192 - n.logNext)) % 4294967296
    let n1 := areaStart (1 - n.logArea) ((n.logGen + 1) % 4294967296) first n
    { s with nvm := logTurn { n1 with logErasing := false, logOther := true } }
  else s

def execLogAreaEraseComplete (s : State) : Host.Outcome State Fault Refusal := run s areaErased

/-! ## Password-class changes of CM parameters (R372, R356, R275) -/

/-- The parameter identity of a change in the log, the key of the changed value, its old and its new value. -/
def cmParam : CmChange → Nat
  | .alarm n _ => Config.alarmParam n
  | .feature p _ => p
  | .interval r uid _ => Config.intervalParam r uid
def cmKey : CmChange → Nat
  | .alarm n _ => 2 * n
  | .feature p _ => 2 * p + 1
  | .interval r uid _ => 8192 + 2 * (r * 18446744073709551616 + uid.toNat)
def cmValue : CmChange → List Word
  | .alarm _ ws => ws
  | .feature _ v => v
  | .interval _ _ ms => [BitVec.ofNat 32 ms]
def cmOld (s : State) : CmChange → List Word
  | .alarm n _ => (s.alarmE n).words
  | .feature p _ => look [] s.nvm.cmChanges (2 * p + 1)
  | .interval r uid _ => ((bookedInterval s r uid).map (BitVec.ofNat 32)).toList

/-- The address book of a ring with an interval changed. -/
def bookWith (uid : U64) (ms : Nat) (book : List (U64 × Nat × Nat)) : List (U64 × Nat × Nat) :=
  book.map (fun b => if b.1 = uid then (b.1, b.2.1, ms) else b)

/-- The load of booked nodes lies within 14 slots in a superframe (R206). -/
def bookFits (book : List (U64 × Nat × Nat)) : Bool :=
  let q := ((book.map (fun b => b.2.2)).filter (fun i => decide (0 < i))).foldl addLoad (0, 1)
  decide (q.1 ≤ 14 * q.2)

/-- The value lies within the limits of the chapter that defines the parameter. -/
def cmValueOk (s : State) : CmChange → Bool
  | .alarm n ws => decide (n < 4096) && decide (ws.length = 8) && alarmOk ws
  | .feature p v => Config.featureOk p v
  | .interval r uid ms =>
    decide (10 ≤ ms ∧ ms ≤ 10000) && (bookedInterval s r uid).isSome && bookFits (bookWith uid ms (look {} s.nvm.cm.rings r).book)

/-- The change is applied: an alarm entry goes to its task, which takes it at its next activation. -/
def cmApply (p : Port) (c : CmChange) (s : State) : State :=
  let n := s.nvm
  let s1 := { s with nvm := { n with
    cmChanges := put [] n.cmChanges (cmKey c) (cmValue c), cmChanged := true, cmUnsaved := some (n.cmUnsaved.getD s.now),
    cmSlot := slotOf s p } }
  match c with
  | .alarm e ws => sendFrame 0x401 6 ws (s1.setAlarm e { s1.alarmE e with next := some ws })
  | .feature _ v => sendFrame 0x401 6 v s1
  | .interval r uid ms =>
    let g := look {} s1.nvm.cm.rings r
    { s1 with nvm := { s1.nvm with cm := { s1.nvm.cm with
        rings := put {} s1.nvm.cm.rings r { g with book := bookWith uid ms g.book } } } }

/-- A change is accepted in RUN (R16, R356), and refused while a host-written image waits for the next boot (R357). -/
def cmRequest (p : Port) (c : CmChange) (s : State) : State :=
  let hostPending := s.nvm.imgPending && !s.nvm.wr.byModule
  gate p rightCm (cmValueOk s c && !hostPending && s.nvm.armed && decide (s.sec.power = 0)) 1 (cmParam c) (cmOld s c) (cmValue c) (cmApply p c) s

def execPasswordClassChange (port : Port) (c : CmChange) (s : State) : Host.Outcome State Fault Refusal :=
  run s (cmRequest port c)

end Sys2Proof.Machine
end

