-- ==== Sys2Proof/Machine/Power.lean ====
section
/-!
DEFINITION. Supplies, clocks, reset sources and temperature (R412 to R430).
-/
namespace Sys2Proof.Machine

open Sys2Proof

/-! ## Reset sources (R420, R425, R427) -/

/-- The thresholds of R420 in 10 mV, each at a place within its tolerance: 0 VSYS good, 1 and 2 VSYS_FAULT, 3 brown-out. -/
def vsysEdge (i : Nat) : Nat :=
  match i with
  | 0 => 1720 + Config.vsysTol 0 % 61
  | 1 => 1620 + Config.vsysTol 1 % 61
  | 2 => 3320 + Config.vsysTol 2 % 61
  | _ => 1350 + Config.vsysTol 3 % 101

/-- VSYS lies outside its range. -/
def vsysBad (v : Nat) : Bool := decide (v < vsysEdge 1) || decide (vsysEdge 2 < v)

/-- VSYS as the supervisor samples it now. -/
def vsysSeen (v : Nat) (s : State) : State :=
  { s with sys := { s.sys with vsys := v, vsysOut := vsysBad v, vsysDecl := s.sys.vsysDecl && vsysBad v } }

/-- The power-on sequence (R425). A rail of the module that is out of its window stops it: the module reset is not released
(R430). -/
def powerUp (s : State) : State := if s.sys.rails &&& 0x1F8#9 = 0 then bootUp s else s

/-- VSYS has been above its threshold for 2 ms: the power-on sequence, unless SYS_RST_N is held low. How far above is free. -/
def vsysGood (s : State) : State :=
  if s.sys.vsysGood then s
  else
    let (w, s1) := fresh s
    let s2 := vsysSeen (vsysEdge 0 + 1 + w.toNat % 4096) { s1 with sys := { s1.sys with vsysGood := true } }
    if s2.sys.rstLow then s2 else powerUp s2

def execVsysGood (s : State) : Host.Outcome State Fault Refusal := always s vsysGood

/-- SYS_RST_CAUSE of the boot that follows: 2 EXT, 4 BROWNOUT, with OFF_EXIT where the module was OFF. -/
def causeOf (c : BitVec 4) (s : State) : BitVec 4 := if s.sys.off then c ||| 8 else c

/-- A brown-out, VSYS below its threshold for 5 µs, resets every die and clears the power-cycle record. How far below is
free. -/
def brownOut (s : State) : State :=
  if s.sys.vsysGood then
    let c := causeOf 4 s
    let (w, s1) := fresh (recordClear (resetAll s))
    { s1 with sys := { s1.sys with
        vsysGood := false, vsys := w.toNat % vsysEdge 3, vsysOut := true, off := false, cause := c } }
  else s

def execBrownOut (s : State) : Host.Outcome State Fault Refusal := always s brownOut

/-- SYS_RST_N has been low for 10 µs and resets. A shorter pulse is no such event (DEDUCED, log entry 184). -/
def rstLow (s : State) : State :=
  let s1 := { s with sys := { s.sys with rstLow := true } }
  if s.sys.up || s.sys.off then
    let c := causeOf 2 s
    let s2 := resetAll s1
    { s2 with sys := { s2.sys with off := false, cause := c } }
  else s1

def execSysRstN (s : State) : Host.Outcome State Fault Refusal := always s rstLow

/-- SYS_RST_N returns high: the boot follows where VSYS is good. -/
def rstHigh (s : State) : State :=
  let s1 := { s with sys := { s.sys with rstLow := false } }
  if s.sys.rstLow && s.sys.vsysGood && !s.sys.up then powerUp s1 else s1

def execSysRstNRelease (s : State) : Host.Outcome State Fault Refusal := always s rstHigh

/-- The management core is reset: what its firmware holds for the register protocol is gone. -/
def mcoreWd (s : State) : State := report 54 codeMcoreWd 0 { s with net := { s.net with subs := [], cache := [] } }

def execMcoreWd (s : State) : Host.Outcome State Fault Refusal := run s mcoreWd

/-! ## VSYS and the rails (R420, R422, R423) -/

/-- VSYS is outside its range: at the 51st sample one declaration for the excursion. -/
def vsysFault (v n : Nat) (s : State) : State :=
  let s1 := vsysSeen v s
  if vsysBad v && decide (51 ≤ n) then
    let s2 := { s1 with sys := { s1.sys with vsysDecl := true, vsysCause := true } }
    if s1.sys.vsysDecl then s2 else report 9 codeVsysFault 0 s2
  else s1

def execVsysFault (v : VsysReading) (s : State) : Host.Outcome State Fault Refusal := run s (vsysFault v.volt v.samples)

/-- VSYS between 17.5 V and 33.0 V for 100 ms: the cause is gone. -/
def vsysBack (v n : Nat) (s : State) : State :=
  let s1 := vsysSeen v s
  if 1750 ≤ v ∧ v ≤ 3300 ∧ 100001 ≤ n then { s1 with sys := { s1.sys with vsysCause := false } } else s1

def execVsysRecovered (v : VsysReading) (s : State) : Host.Outcome State Fault Refusal := run s (vsysBack v.volt v.samples)

/-- The window of a rail in mV (R422): 0 to 2 are the lanes' own, 3 VCCM, 4 VCF, 5 VIO25, 6 VA5, 7 V3V3, 8 V3V3_OUT. -/
def railWindow (n : Nat) : Nat × Nat :=
  if n < 4 then (760, 840) else match n with
  | 4 => (950, 1050)
  | 5 => (2375, 2625)
  | 6 => (4850, 5150)
  | _ => (3135, 3465)

def railIn (n mv : Nat) : Bool := decide ((railWindow n).1 ≤ mv) && decide (mv ≤ (railWindow n).2)

/-- The regulator of a lane is switched off and the lane held in reset: it sends nothing. -/
def laneOffNow (n : Nat) (s : State) : State :=
  let s1 := { s with sys := { s.sys with laneOff := s.sys.laneOff ||| BitVec.ofNat 3 (1 <<< n) } }
  s1.setLane (laneOf (n + 1)) {}

/-- A rail has left its window. V3V3 out of it at boot is also NVM_FAIL (R424). -/
def railLost (n : Nat) (s : State) : State :=
  let s1 := { s with sys := { s.sys with rails := s.sys.rails ||| BitVec.ofNat 9 (1 <<< n) } }
  if n < 3 then laneOffNow n s1
  else if s.sys.up && decide (n < 8) && !s.sys.rails.getLsbD n then
    let s2 := report 9 codeRegFail 0 s1
    if n = 7 ∧ s2.nvm.armed = false then nvmFail true s2 else s2
  else s1

/-- A rail as the supervisor samples it: outside its window for 10 samples it is out of range, inside it in range again; the
regulator of a lane once switched off stays off. The supervisor runs before the module reset is released. -/
def railSeen (n mv samples : Nat) (s : State) : State :=
  let bit : BitVec 9 := BitVec.ofNat 9 (1 <<< n)
  if railIn n mv then
    (if n < 3 ∧ s.sys.laneOff.getLsbD n = true then s else { s with sys := { s.sys with rails := s.sys.rails &&& ~~~bit } })
  else if 10 ≤ samples then railLost n s
  else s

def execRailOutOfRange (v : RailReading) (s : State) : Host.Outcome State Fault Refusal :=
  always s (railSeen v.rail v.mv v.samples)

/-! ## Clock supervision (R413, R417, R419) -/

/-- The nominal counts of the channels. -/
def clkNominal : List Nat :=
  [2500, 60000, 80000, 30000, 10000, 10000, 5000, 12500, 10000, 1000, 1250, 30000, 10000,
   40000, 30000, 40000, 30000, 40000, 30000, 3200]

def clkNom (c : Nat) : Nat := (clkNominal[c]?).getD 0

/-- The count lies within nominal ± 12 %. -/
def clkGood (c n : Nat) : Bool := decide (88 * clkNom c ≤ 100 * n) && decide (100 * n ≤ 112 * clkNom c)

/-- A deviation in units of 10 ppm. -/
def clkPpm (c d : Nat) : Nat := min 0xFFFF (d * 100000 / clkNom c)

/-- What a window leaves in the registers. A count of a PLL's clock in range shows the PLL locked again. -/
def clkNote (c n : Nat) (s : State) : State :=
  let y := s.sys
  let bit : BitVec 20 := BitVec.ofNat 20 (1 <<< c)
  let good := clkGood c n
  { s with sys := { y with
      clkOut := if good then y.clkOut &&& ~~~bit else y.clkOut ||| bit,
      clkCnt := put 0 y.clkCnt c (n % 1048576),
      clkMin := upd 0 y.clkMin c (fun m => max m (clkPpm c (clkNom c - n))),
      clkMax := upd 0 y.clkMax c (fun m => max m (clkPpm c (n - clkNom c))),
      pllA := y.pllA || (good && decide (1 ≤ c ∧ c ≤ 6)), pllB := y.pllB || (good && decide (c = 7 ∨ c = 8)) } }

/-- A channel has gone out of range. Channels 0 and 19 drive the forced-off lines directly; the field die's clocks shut its
groups down at once (R316). -/
def clkFail (c : Nat) (s : State) : State :=
  if c = 0 ∨ c = 19 then report 8 codeClkFail 0 (forcedLines 0xF s.fld.local' s)
  else if c ≤ 8 then report 8 codeClkFail 0 s
  else report 7 codeClkFail 0 (localAssert 0xF s)

/-- A lane's own clock: it withdraws with cause 0x02, unless its slice runs. -/
def laneClock (l : Lane) (s : State) : State :=
  if s.bist.running = some (laneNo l) ∨ laneUnpowered s l then s else flagFaulty l 0x02 s

def clkWindow (c n : Nat) (s : State) : State :=
  if 20 ≤ c then s
  else
    let before := s.sys.clkOut.getLsbD c
    let s1 := clkNote c n s
    if clkGood c n then s1
    else if 13 ≤ c ∧ c ≤ 18 then laneClock (laneOf ((c - 13) / 2 + 1)) s1
    else if before then s1
    else clkFail c s1

def execClockSupervisorWindow (ch count : Nat) (s : State) : Host.Outcome State Fault Refusal := run s (clkWindow ch count)

/-- Loss of lock is declared at once. -/
def pllLoss (b : Bool) (s : State) : State :=
  if (if b then s.sys.pllB else s.sys.pllA) then
    report 8 codeClkFail 0 { s with sys := { s.sys with pllA := s.sys.pllA && b, pllB := s.sys.pllB && !b } }
  else s

def execPllLockLoss (b : Bool) (s : State) : Host.Outcome State Fault Refusal := run s (pllLoss b)

/-- The ramp of 1 ms from the arm frame has ended (R415). -/
def rampDue (s : State) : Bool :=
  match s.sys.spreadFrom with
  | some t => decide (t + 100000 ≤ s.now) && !s.sys.applied
  | none => false

def rampDone (s : State) : State := { s with sys := { s.sys with applied := true } }

def execSpreadRampComplete (s : State) : Host.Outcome State Fault Refusal := run s (fun s => whenever (rampDue s) rampDone s)

/-! ## Temperature (R429) -/

/-- A reading is due, one every 1 ms. -/
def tempDue (s : State) : Bool := decide ((s.sys.tempReads + 1) * 100000 ≤ s.now)

/-- A reading of the five dies, F, L1, L2, L3, CM; a die that reaches 125 °C raises DIE_OVERTEMP. -/
def tempRead (ts : List Int) (s : State) : State :=
  let t5 := (ts ++ [0, 0, 0, 0, 0]).take 5
  let top := t5.foldl max (t5.headD 0)
  let rises := (t5.zip s.sys.temps).any (fun e => decide (125 ≤ e.1) && decide (e.2 < 125))
  let s1 := { s with sys := { s.sys with
    temps := t5, tempMax := some (max (s.sys.tempMax.getD top) top), tempReads := s.sys.tempReads + 1 } }
  if rises then report 10 codeDieOvertemp 0 s1 else s1

def execDieTempRead (temps : List Int) (s : State) : Host.Outcome State Fault Refusal :=
  run s (fun s => whenever (tempDue s) (tempRead temps) s)

end Sys2Proof.Machine
end

