-- ==== Sys2Proof/Machine/RegSafe.lean ====
section
/-!
DEFINITION. Registers of the SYS block, the fabric, the Umpire, the seat manager and the lane mirrors, as a read shows them
(R45, R72, R98, R147, R291, R322, R431). A register that the manual does not list, or whose content nothing fixes, shows none.
-/
namespace Sys2Proof.Machine

open Sys2Proof


/-- A 64-bit value as its low and its high word. -/
def loWord (n : Nat) : Word := BitVec.ofNat 32 n
def hiWord (n : Nat) : Word := BitVec.ofNat 32 (n / 4294967296)

/-- Lane numbers as bits i − 1. -/
def laneBits (f : Lane → Bool) : Nat := bit (f .l1) + 2 * bit (f .l2) + 4 * bit (f .l3)

def isRetired (s : State) (l : Lane) : Bool := decide ((s.mgr l).phase = .retired)

/-! ## SYS (R431) -/

def tempByte (t : Int) : Nat := (BitVec.ofInt 8 t).toNat

def sysLive (o : Nat) (s : State) : Option Word :=
  let y := s.sys
  let t (i : Nat) : Nat := tempByte ((y.temps[i]?).getD 0)
  let c := y.clkSel.toNat
  match o with
  | 0x00 => some (pack [(if s.otp.small then 0x20 else 0x40, 0, 8), (1, 8, 8), (0x9600, 16, 16)])
  | 0x04 => some 0
  | 0x08 => some (pack [(s.sec.power, 0, 2), (bit (s.fld.lor.armed && s.fld.lor.forHold), 2, 1), (y.reqBits.toNat, 8, 2),
      (bit y.reqRefused, 10, 1)])
  | 0x0C => some (pack [(y.cause.toNat, 0, 4), (y.boots.toNat, 16, 16)])
  | 0x10 => some (pack [(laneBits (isRetired s), 0, 3), (bit y.fullSeen, 3, 1), (bit y.keyClosed, 4, 1)])
  | 0x20 => some (pack [(y.spread, 0, 3), (bit y.applied, 3, 1)])
  | 0x24 => some (pack [(bit y.xtalOk, 0, 1), (bit y.pllA, 1, 1), (bit y.pllB, 2, 1), (y.clkOut.toNat, 4, 20)])
  | 0x28 => some (y.clkSel.setWidth 32)
  | 0x2C => some (if c < 20 then BitVec.ofNat 32 (look 0 y.clkCnt c) else 0)
  | 0x30 => some (if c < 20 then pack [(look 0 y.clkMin c, 0, 16), (look 0 y.clkMax c, 16, 16)] else 0)
  | 0x40 => some (pack [(y.vsys, 0, 16), (bit y.vsysGood, 16, 1), (bit y.vsysOut, 17, 1)])
  | 0x44 => some (pack [((~~~y.rails).toNat, 0, 9), (y.laneOff.toNat, 16, 3)])
  | 0x48 => some (pack [(t 0, 0, 8), (t 1, 8, 8), (t 2, 16, 8), (t 3, 24, 8)])
  | 0x4C => some (pack [(t 4, 0, 8), (tempByte (y.tempMax.getD 0), 8, 8)])
  | 0x60 => some y.refused
  | 0x64 => some y.refusedAddr
  | _ => none

/-! ## The fabric (R45), at offsets from 0x4000 -/

/-- FAB_ROUTE_LO and FAB_ROUTE_HI show the entry of FAB_ROUTE_IDX at every instant, so entry 0 from reset on: R45 gives them
reset 0, though FAB_ROUTE_IDX resets to 0 and entry 0 is in ROM (DESIGN CHOICE, log entry 126). A frame that the sequence
window has dropped is not in reassembly and does not show as OPEN. -/
def fabLive (o : Nat) (s : State) : Option Word :=
  let f := s.fab
  let c := s.shownCnt f.cntSel.toNat
  let x := s.rx f.seqSelEp.toNat f.seqSelSrc.toNat
  let r := routeAt s f.routeIdx.toNat
  match o with
  | 0x00 => some 0x01002001
  | 0x04 => some (pack [((linkUp s).toNat, 0, 10), (f.linkFail.toNat, 16, 10)])
  | 0x10 => some (f.cntSel.setWidth 32)
  | 0x14 => some c.chk
  | 0x18 => some c.seqdrop
  | 0x1C => some c.lost
  | 0x20 => some c.crc
  | 0x24 => some c.len
  | 0x28 => some c.route
  | 0x2C => some (c.ovf.setWidth 32)
  | 0x30 => some (pack [(f.waitSafe, 0, 8), (f.waitTel, 8, 8), (f.waitOther, 16, 16)])
  | 0x40 => some (pack [(f.seqSelSrc.toNat, 0, 12), (f.seqSelEp.toNat, 16, 4)])
  | 0x44 => some (pack [(x.last, 0, 8), (bit x.sync, 8, 1), (bit (x.frame.any (fun g => !g.drop)), 9, 1),
      ((match x.frame with | some g => if g.drop then 0 else g.payload.length | none => 0), 16, 9)])
  | 0x80 => some (f.routeIdx.setWidth 32)
  | 0x84 => some (pack [(r.srcLo, 0, 12), (r.srcHi, 12, 12), (r.cls, 24, 4), (bit r.anyCls, 28, 1), (bit r.valid, 31, 1)])
  | 0x88 => some (pack [(r.dest.toNat, 0, 16), (r.queue, 16, 4), (bit r.safe, 20, 1), (bit r.crc, 21, 1), (bit r.rom, 22, 1),
      (r.arbp, 23, 2)])
  | _ => none

/-! ## The Umpire (R322) -/

def firstWord (r : Option FirstRec) : Word :=
  match r with
  | some f => pack [(f.line, 0, 6), (1, 7, 1), (f.merged, 8, 6), (f.scope, 14, 2), (f.code, 16, 16)]
  | none => 0

def firstTime (r : Option FirstRec) : Nat :=
  match r with
  | some f => f.time
  | none => 0

def blkLive (n k : Nat) (u : Ump) : Option Word :=
  let b := look {} u.blk n
  match k with
  | 0 => some (pack [(b.code, 0, 16), (b.count.toNat, 16, 16)])
  | 4 => some (loWord b.time)
  | 8 => some (hiWord b.time)
  | 12 => some (pack [(b.detail, 0, 12), (bit b.res, 12, 1)])
  | _ => none

def umpLive (o : Nat) (s : State) : Option Word :=
  let u := s.ump
  match o with
  | 0x00 => some 0x00004001
  | 0x04 => some u.lo
  | 0x08 => some u.hi
  | 0x0C => some (causeWord s)
  | 0x10 => some (pack [(bit (decide (u.lo &&& lockoutMask ≠ 0)), 0, 1), (bit (decide (u.lo &&& startMask ≠ 0)), 1, 1),
      (bit (handlingOpen s), 2, 1), ((umpLines u).toNat, 4, 4), (bit u.selfOk, 8, 1), (u.selfRuns.toNat, 16, 16)])
  | 0x14 => some (firstWord u.first)
  | 0x18 => some (loWord (firstTime u.first))
  | 0x1C => some (hiWord (firstTime u.first))
  | 0x20 => some (pack [(bit u.ovf, 0, 1), (u.later, 16, 16)])
  | 0x24 => some (pack [(u.clrLine, 0, 6), (u.clrRefused, 16, 16)])
  | 0x28 => some (firstWord u.prev)
  | 0x2C => some (loWord (firstTime u.prev))
  | 0x30 => some (hiWord (firstTime u.prev))
  | 0x34 => some (pack [(bit s.fld.alive, 0, 1), (bit s.fld.aliveOn, 1, 1), (s.fld.aliveStops.toNat, 16, 16)])
  | _ => if 0x100 ≤ o ∧ o < 0x500 then blkLive ((o - 0x100) / 16) (o % 16) u else none

/-! ## The seat manager (R72, R147) -/

/-- The codes of R55. -/
def seatCode : SeatState → Nat
  | .start => 0 | .rowing => 1 | .testing => 2 | .resync => 3 | .sculling => 4 | .recovering => 5 | .twoOar => 6 | .lockout => 7

def spareElig (s : State) : Bool :=
  match s.seat.spare with
  | some l => isEligible (s.mgr l)
  | none => false

/-- A lane is out awaiting or in its retest. -/
def isOutNow (s : State) (l : Lane) : Bool :=
  let m := s.mgr l
  decide (m.phase = .out) || (decide (m.phase = .slice) && m.isOut)

def seatLive (o : Nat) (s : State) : Option Word :=
  let q := s.seat
  let x := s.fld.lor
  match o with
  | 0x00 => some (pack [(seatCode q.state, 0, 4), (laneNum q.bow, 4, 2), (laneNum q.stroke, 6, 2), (laneNum q.spare, 8, 2),
      (bit (spareElig s), 10, 1), (bit (decide (q.state = .sculling) && !q.scullBow), 11, 1), (bit q.stopReq, 12, 1),
      (laneBits (isRetired s), 16, 3), (laneBits (isOutNow s), 19, 3)])
  | 0x04 => some (pack [(s.img.rotMin, 0, 11), (s.img.scullMs, 16, 6)])
  | 0x08 => some (pack [(s.img.twoOarH, 0, 10)])
  | 0x0C => some (BitVec.ofNat 32 (q.rotAt - q.cycle))
  | 0x10 => some (BitVec.ofNat 32 (min 4294967295 (q.twoOarTicks / secTicks)))
  | 0x14 => some (loWord q.cycle)
  | 0x18 => some (hiWord q.cycle)
  | 0x20 => some q.cntChange
  | 0x24 => some q.cntCrab
  | 0x28 => some q.cntScull
  | 0x2C => some q.cntLate
  | 0x30 => some (pack [(q.lastEvt, 0, 8), (q.lastLane, 8, 2), (q.lastCycle, 16, 16)])
  | 0x34 => some (loWord q.lastTime)
  | 0x38 => some (hiWord q.lastTime)
  | 0x40 => some (pack [(if s.fld.safety.isSome then s.img.lorTerm else 0, 0, 6),
      (bit (s.fld.safety.isSome && decide (s.img.lorMode = .prd7)), 8, 1), (bit s.fld.safety.isSome, 31, 1)])
  | 0x44 => some (pack [(bit x.armed, 0, 1), (bit x.st.hist, 1, 1), (bit x.pressed, 2, 1), (bit x.st.stuck.isSome, 3, 1),
      (bit x.accepted, 4, 1), (x.void.toNat, 16, 16)])
  | _ => none

/-! ## The lane mirrors (R72, R98, R147, R291) -/

/-- LSTATE. -/
def lstate (s : State) (l : Lane) : Nat :=
  if s.seat.bow = some l then 0 else if s.seat.stroke = some l then 1
  else match (s.mgr l).phase with
    | .seated | .shadow => 2
    | .aborting | .ready | .copying _ | .agreeing _ => 3
    | .slice => 4
    | .out => 5
    | .retired => 6
    | .start => 7

/-- The blocks of a lane's graph with their states. -/
def laneBlocks (d : LaneDie) : List (Nat × Block × BlockState) :=
  match d.image with
  | some img => img.graph.zipIdx.map (fun e => (e.2, e.1, look .none d.blocks e.2))
  | none => []

/-- The words of the canonical state image (R79). -/
def stateWordCount (d : LaneDie) : Nat := (d.image.map imageWordCount).getD 0

/-- The engine that a lane's mirror shows: the three lanes show identical values (R98, R147), so a lane that is not evaluating
shows those of the seated lane (DEDUCED, log entry 134). -/
def shownDie (s : State) (l : Lane) : LaneDie :=
  match s.seat.bow, s.seat.stroke with
  | some b, _ => s.laneD b
  | none, some b => s.laneD b
  | none, none => s.laneD l

/-- The numbers and the lowest code of the blocks in a fault state. -/
def faultBlocks (d : LaneDie) : List (Nat × Nat) :=
  (laneBlocks d).filterMap (fun e =>
    match blockHeld e.2.2 with
    | [] => none
    | h :: t => some (e.1, t.foldl (fun m x => min m x.code) h.code))

/-- The RESET blocks that wait, and those with RESET_STUCK. -/
def waitingResets (d : LaneDie) : List Nat :=
  (laneBlocks d).filterMap (fun e => match e.2.2 with
    | .reset x => if x.permit && !x.q then some e.1 else none
    | _ => none)
def stuckResets (d : LaneDie) : List Nat :=
  (laneBlocks d).filterMap (fun e => match e.2.2 with
    | .reset x => if x.stuck.isSome then some e.1 else none
    | _ => none)

/-- The guards in ascending block number. -/
def laneGuards (d : LaneDie) : List (Nat × VibCfg × VibSt) :=
  (laneBlocks d).filterMap (fun e => match e.2.1, e.2.2 with
    | .vibguard c, .vib x => some (e.1, c, x)
    | .vibguard c, _ => some (e.1, c, {})
    | _, _ => none)

def lowCode (h : List Held) : Nat :=
  match h with
  | [] => 0
  | x :: t => t.foldl (fun m y => min m y.code) x.code

def velOf (v : VibChan) : Nat :=
  match v.vel with
  | some n => min n 0xFFFE
  | none => 0xFFFF

def vibLive (g k : Nat) (d : LaneDie) : Option Word :=
  match (laneGuards d)[g]? with
  | none => if k % 4 = 0 then some 0 else none
  | some (n, c, x) =>
    match k with
    | 0 => some (pack [(1, 0, 1), (bit x.q, 1, 1), (bit x.trip, 2, 1), (bit (winHas .notReady x.a || winHas .notReady x.b), 3, 1),
        (bit (decide (x.a.fill < 8) || decide (x.b.fill < 8)), 4, 1), (bit x.xSince.isSome, 5, 1), (lowCode x.held, 16, 16)])
    | 4 => some (pack [(velOf x.a, 0, 16), (velOf x.b, 16, 16)])
    | 8 => some (pack [(c.chA, 0, 5), (c.chB, 8, 5), (bit c.band2, 13, 1), (c.nWin / 1600, 16, 4), (n, 20, 12)])
    | 12 => some (pack [(c.limit, 0, 14), (c.hys, 16, 5)])
    | _ => none

def laneLive (l : Lane) (o : Nat) (s : State) : Option Word :=
  let m := s.mgr l
  let d := s.laneD l
  let e := shownDie s l
  let v := m.shown.getD ⟨0, 0, 0, 0⟩
  match o with
  | 0x00 => some (pack [(lstate s l, 0, 3), (bit (decide (s.seat.spare = some l) && isEligible m), 3, 1),
      (min 2 (within24h s.timeNow m.fails).length, 4, 2), (m.lastCause, 8, 8), (laneNo l, 16, 8)])
  | 0x04 => some d.digest
  | 0x08 => some (pack [(m.agreeRun, 0, 16), (m.late.toNat, 16, 16)])
  | 0x10 => some (loWord (m.lastPass.getD 0))
  | 0x14 => some (hiWord (m.lastPass.getD 0))
  | 0x18 => some (loWord (m.lastFail.getD 0))
  | 0x1C => some (hiWord (m.lastFail.getD 0))
  | 0x20 => some v.w0
  | 0x24 => some v.w1
  | 0x28 => some v.w2
  | 0x2C => some v.w3
  | 0x40 => some (match e.image with | some img => pack [(img.graph.length, 0, 13), (img.signals, 16, 15)] | none => 0)
  | 0x44 => some (pack [(stateWordCount e, 0, 14)])
  | 0x48 => some (pack [(min 0xFFFF d.timeLast, 0, 16), (d.timeMax, 16, 16)])
  | 0x4C =>
    let f := faultBlocks e
    some (pack [(f.length, 0, 13), ((f.map (·.1)).headD 0, 16, 12)])
  | 0x50 => some (pack [(((faultBlocks e).map (·.2)).headD 0, 0, 16)])
  | 0x54 => some (pack [((waitingResets e).length, 0, 13), ((stuckResets e).length, 16, 13)])
  | 0x58 => some (pack [((waitingResets e).headD 0, 0, 12), ((stuckResets e).headD 0, 16, 12)])
  | _ => if 0x100 ≤ o ∧ o < 0x200 then vibLive ((o - 0x100) / 16) (o % 16) e else none

end Sys2Proof.Machine
end

