-- ==== Sys2Proof/Machine/RegField.lean ====
section
/-!
DEFINITION. Registers of the safety inputs, the outputs, the analog front end and the capture timers, as a read shows
them (R123, R173, R198, R199). A register that the manual does not list shows none.
-/
namespace Sys2Proof.Machine

open Sys2Proof

/-- The register of entry `i` at `o` within `n` entries of 4 bytes from `base`. -/
def entryOf (base n o : Nat) : Option Nat :=
  if base ≤ o ∧ o < base + 4 * n ∧ o % 4 = 0 then some ((o - base) / 4) else none

/-! ## SIN (R123) -/

def siCfgWord (s : State) (n : Nat) : Word :=
  let c := siCfg s.img n
  pack [(c.filter, 0, 6), (c.gen.getD 0, 8, 4), (bit c.gen.isSome, 12, 1), (bit (s.fld.safety.isSome && hasForeign s n), 13, 1),
    ((match (siCfg s.img (n / 2 * 2)).pair with | .none => 0 | .equiv => 1 | .antiv => 2), 14, 2), (c.extUs, 16, 10)]

/-- The diagnoses in the frozen image, as bits. -/
def imageDiag (im : Image) : Nat := (bitsOf 64 64 (fun n => decide (look 0 im.siCode n ≠ (0 : Nat)))).toNat

def sinLive (o : Nat) (s : State) : Option Word :=
  let im := s.fld.image
  match o with
  | 0x00 => some (loWord im.si.toNat)
  | 0x04 => some (hiWord im.si.toNat)
  | 0x08 => some (loWord im.raw.toNat)
  | 0x0C => some (hiWord im.raw.toNat)
  | 0x10 => some (loWord (imageDiag im))
  | 0x14 => some (hiWord (imageDiag im))
  | 0x18 => some (loWord im.slot)
  | 0x1C => some (hiWord im.slot)
  | 0x20 => some (pack [(s.img.tpPeriod, 0, 11), (s.img.walkW, 11, 4), (s.img.walkI, 16, 12)])
  | 0x24 => some im.sinSupply
  | _ =>
    match entryOf 0x100 64 o, entryOf 0x200 64 o, entryOf 0x300 16 o with
    | some n, _, _ => some (siCfgWord s n)
    | _, some n, _ => some (look 0 im.sinCodes n)
    | _, _, some k => some (look 0 im.sinTps k)
    | none, none, none => none

/-! ## SOUT and CIO (R173) -/

def groupByte (x : GroupSt) : Nat :=
  bit x.good + 2 * bit x.shutdown.isSome + 4 * bit x.pending + 8 * bit x.sag + 16 * bit x.missing + 32 * bit x.forced +
    64 * bit x.overcur + 128 * bit x.overtemp

def soMask (f : Nat → Bool) : Nat := (bitsOf 12 12 f).toNat
def pinMask (f : Nat → Bool) : Option Word := some ((bitsOf 24 24 f).setWidth 32)

/-- SOUT_CODEn: a latched OUT_SHORT_VFLD or OUT_CROSS before a hold's code, and that before OUT_OPEN_LOAD (DESIGN CHOICE, log
entry 137). -/
def soCodeWord (x : So) : Word :=
  let c := if x.code ≠ 0 then x.code else if x.holdCode ≠ 0 then x.holdCode else if x.openLoad then codeOutOpenLoad else 0
  pack [(c, 0, 16), (x.partner, 16, 4), (x.count.toNat, 20, 12)]

def cioCfgWord (s : State) (n : Nat) : Word :=
  let c := cioCfg s n
  if s.fld.safety.isNone then 0
  else match c.mode with
    | .input => pack [(0, 0, 2), (c.filter, 2, 6)]
    | .outputSafe => pack [(1, 0, 2)]
    | .outputStd => pack [(2, 0, 2), ((match c.silence with | .off => 0 | .on => 1 | .hold => 2), 8, 2), (c.src, 10, 12)]

/-- Elapsed safety cycles in ms: eight cycles of 125 µs to a ms. -/
def elapsedMs (cycles : Nat) : Nat := cycles / 8 + bit (decide (cycles % 8 ≠ 0) && Config.unitRound cycles)

def soutLive (o : Nat) (s : State) : Option Word :=
  let f := s.fld
  match o with
  | 0x00 => some (pack [(soMask (switchA s), 0, 12), (soMask (switchB s), 16, 12)])
  | 0x04 => some (pack [(soMask (fun k => (s.so k).high), 0, 12), (soMask (fun k => decide ((s.so k).code ≠ 0 ∨ (s.so k).holdCode ≠ 0)), 16, 12)])
  | 0x08 => some (pack [(groupByte f.sog1, 0, 8), (groupByte f.sog2, 8, 8), (groupByte f.ciog1, 16, 8), (groupByte f.ciog2, 24, 8)])
  | 0x0C => some (supplyWord f.v1.low f.v1)
  | 0x10 => some (supplyWord f.v2.low f.v2)
  | 0x14 => some (pack [(f.sog1.mA, 0, 16), (f.sog2.mA, 16, 16)])
  | 0x18 => some (pack [(f.ciog1.mA, 0, 16), (f.ciog2.mA, 16, 16)])
  | 0x1C => some (pack [(tempByte f.sog1.temp, 0, 8), (tempByte f.sog2.temp, 8, 8), (tempByte f.ciog1.temp, 16, 8),
      (tempByte f.ciog2.temp, 24, 8)])
  | 0x20 => some (pack [(bit f.wd.tripped, 0, 1), (f.wd.missed, 1, 2), (f.wd.trips.toNat, 16, 16)])
  | 0x24 => some (pack [(bit f.sog1.hold, 0, 1), (bit f.sog2.hold, 1, 1), (bit f.ciog1.hold, 2, 1), (bit f.ciog2.hold, 3, 1)])
  | 0x400 => pinMask (fun n => if (cioCfg s n).mode = .input then (s.cio n).level else (s.cio n).high)
  | 0x404 => pinMask (fun n => (s.cio n).lamp)
  | 0x408 => pinMask (fun n => (s.cio n).silent)
  | 0x40C => pinMask (fun n => (s.cio n).short || (s.cio n).overload)
  | 0x410 => some 0
  | 0x414 => some 0
  | 0x418 => some 0
  | 0x41C => some f.cioRefused
  | _ =>
    match entryOf 0x100 12 o, entryOf 0x200 12 o, entryOf 0x300 12 o, entryOf 0x500 24 o, entryOf 0x600 24 o with
    | some k, _, _, _, _ => some (pack [((s.so k).offset, 0, 11), (bit (soPulse s k), 12, 1), (bit (s.so k).nextB, 13, 1),
        ((s.so k).given.toNat, 16, 16)])
    | _, some k, _, _, _ => some (soCodeWord (s.so k))
    | _, _, some k, _, _ => some (pack [((s.so k).mA, 0, 16), (bit (s.so k).limit, 16, 1)])
    | _, _, _, some n, _ => some (cioCfgWord s n)
    | _, _, _, _, some n => some (if (cioCfg s n).mode = .outputStd then
        pack [((cioCfg s n).timeoutMs, 0, 14), (min 0xFFFF (elapsedMs (s.seat.cycle - (s.cio n).since)), 16, 16)] else 0)
    | none, none, none, none, none => none

/-! ## AFE (R198) -/

def ainMask (s : State) (f : Ain → Bool) : Option Word := some (bitsOf 32 32 (fun n => ainPresent s n && f (s.ain n)))

def ainLive (s : State) (n k : Nat) : Option Word :=
  let x := s.ain n
  if !ainPresent s n then some 0
  else match k with
    | 0x00 => some (pack [((match x.cfg.mode with | .off => 0 | .iepe => 1 | .volt => 2), 0, 2), (x.cfg.aa, 2, 2), (x.cfg.hp, 4, 3),
        (bit x.guard, 7, 1)])
    | 0x04 => some (pack [(bit x.en, 0, 1), (bit x.calRun, 1, 1)])
    | 0x08 => some (pack [((match x.state with | .off => 0 | .settling => 1 | .run => if x.calRun then 3 else 2 | .shutdown => 4),
        0, 3), (bit x.pending, 3, 1), (bit x.openL, 4, 1), (bit x.shortL, 5, 1), (bit x.calFail, 6, 1), (bit x.supply, 7, 1),
        ((BitVec.ofInt 16 x.bias).toNat, 16, 16)])
    | 0x0C => some (pack [(x.gain, 0, 24)])
    | 0x10 => some x.last
    | 0x14 => some x.inval
    | _ => none

def afeLive (o : Nat) (s : State) : Option Word :=
  match o with
  | 0x00 => some (if s.otp.small then 0x1001 else 0x2001)
  | 0x04 => ainMask s (fun x => x.en)
  | 0x08 => ainMask s (fun x => decide (x.state = .settling))
  | 0x0C => ainMask s (fun x => x.openL || x.shortL || x.calFail)
  | 0x10 => some s.afe.ovr
  | _ => if 0x100 ≤ o ∧ o < 0x500 then ainLive s ((o - 0x100) / 32) ((o - 0x100) % 32) else none

/-! ## TACH (R199) -/

def timerLive (x : Tach) (k : Nat) : Option Word :=
  match k with
  | 0x00 => some (pack [((match x.cfg.edge with | .rising => 0 | .falling => 1 | .both => 2), 0, 2), (bit x.safety, 2, 1),
      (x.cfg.filt, 8, 8), (x.cfg.fdiv, 16, 3), (x.cfg.n - 1, 24, 8)])
  | 0x04 => some (BitVec.ofNat 32 (x.cfg.per - 1))
  | 0x08 => some (pack [(bit (decide (x.state = .run) || x.pending), 0, 1)])
  | 0x0C => some (pack [((match x.state with | .off => 0 | .run => 1 | .shutdown => 2), 0, 2), (bit x.pending, 2, 1),
      (bit (decide (1 ≤ x.caps)), 3, 1), (bit (decide (2 ≤ x.caps)), 4, 1), (bit x.ovf, 5, 1), (bit x.wrap, 6, 1), (bit x.multi, 7, 1)])
  | 0x10 => some (BitVec.ofNat 32 x.edgeCnt)
  | 0x14 => some (loWord x.total)
  | 0x18 => some (hiWord x.total)
  | 0x1C => some (loWord x.cap)
  | 0x20 => some (hiWord x.cap)
  | 0x24 => some x.period
  | 0x28 => some x.cmp0
  | 0x2C => some x.cmp1
  | 0x30 => some x.step0
  | 0x34 => some x.step1
  | 0x38 => some (loWord x.matchStamp)
  | 0x3C => some (hiWord x.matchStamp)
  | _ => none

def tachLive (o : Nat) (s : State) : Option Word :=
  match o with
  | 0x00 => some 0x00000801
  | 0x08 => some (loWord s.now)
  | 0x0C => some (hiWord s.now)
  | _ => if 0x100 ≤ o ∧ o < 0x300 then timerLive (s.tachT ((o - 0x100) / 64)) ((o - 0x100) % 64) else none

end Sys2Proof.Machine
end

