-- ==== Sys2Proof/Machine/RegCm.lean ====
section
/-!
DEFINITION. Registers of the rings, Cox, the performance monitor, the Boathouse, the check-value unit and the BIST
controller, as a read shows them (R220, R250, R251, R270, R306, R339). A register that the manual does not list shows none.
-/
namespace Sys2Proof.Machine

open Sys2Proof

/-- An elapsed or remaining time in units of `u` ticks. -/
def inUnits (u t : Nat) : Nat := t / u + bit (decide (t % u ≠ 0) && Config.unitRound t)

/-! ## RING (R220) -/

def ringStateNo : RingState → Nat
  | .off => 0 | .start => 1 | .loop => 2 | .split => 3 | .down => 4 | .shutdown => 5
def nodeStateNo : NodeState → Nat
  | .free => 0 | .present => 1 | .lost => 2 | .parked => 3
def burstStatusNo : BurstStatus → Nat
  | .none => 0 | .running => 1 | .done => 2 | .noPage => 3 | .qFull => 4 | .aborted => 5 | .lost => 6 | .reduced => 7

def presentNodes (x : Ring) : Nat := (x.nodes.filter (fun e => decide (e.1 < 511) && decide (e.2.state = .present))).length

def ringLive (r o : Nat) (s : State) : Option Word :=
  let x := s.rg r
  let n := look {} x.nodes x.nodeSel.toNat
  if !ringPresent s r then some 0
  else match o with
    | 0x00 => some 0x01FF0001
    | 0x04 => some (pack [(bit x.en, 0, 1), (bit x.cfg.auto, 1, 1)])
    | 0x08 => some (pack [(ringStateNo x.state, 0, 3), (bit x.pending, 3, 1), (bit x.stretched, 4, 1), (presentNodes x, 16, 9)])
    | 0x0C => some (pack [(x.wrapA.getD 0, 0, 9), (bit x.wrapA.isSome, 15, 1), (x.wrapB.getD 0, 16, 9), (bit x.wrapB.isSome, 31, 1)])
    | 0x10 => some (loWord x.sf)
    | 0x14 => some (hiWord x.sf)
    | 0x20 => some x.cntCrc
    | 0x24 => some x.cntSeqdrop
    | 0x28 => some x.cntLost
    | 0x2C => some x.cntResend
    | 0x30 => some x.cntLate
    | 0x40 => some 0
    | 0x44 => some (pack [(burstStatusNo x.status, 0, 3), (x.queue.length, 3, 4), (x.gaps, 16, 16)])
    | 0x80 => some (x.nodeSel.setWidth 32)
    | 0x84 => some (pack [(nodeStateNo n.state, 0, 2), (bit n.stale, 2, 1), (bit n.sensor, 3, 1), (n.reason, 4, 3), (n.seq.toNat, 8, 8),
        (n.interval, 16, 14)])
    | 0x88 => some (loWord n.uid.toNat)
    | 0x8C => some (hiWord n.uid.toNat)
    | 0xC0 => some (match n.stamp with
        | some t => BitVec.ofNat 32 (min 0xFFFFFFFF (inUnits 100000 (s.now - t)))
        | none => 0)
    | _ => (entryOf 0x90 11 o).map (fun i => (n.lv[i]?).getD 0)

/-! ## COX (R229, R250) -/

def coreStateNo : CoreState → Nat
  | .off => 0 | .idle => 1 | .run => 2 | .shutdown => 3 | .bist => 4 | .halt => 5

/-- Word `w` of a descriptor. -/
def descWord (x : Task) (w : Nat) : Word :=
  match w with
  | 0 => x.w0
  | 1 => x.w1
  | 2 => x.w2
  | 3 => x.w3
  | 4 => x.w4
  | 5 => pack [(taskStateNo x.state, 0, 3), (bit x.starved, 3, 1), (bit x.ovrFlag, 4, 1), (bit x.pend.isSome, 5, 1), (bit x.pending, 6, 1),
      (x.seq, 8, 8), (x.ovrRun, 16, 4), (x.core, 20, 3), (x.ovrReason, 23, 2)]
  | 6 => pack [(x.runs.toNat, 0, 16), (x.overruns.toNat, 16, 16)]
  | _ => pack [(x.skipped.toNat, 0, 16), (x.coalesced.toNat, 16, 16)]

def countTasks (s : State) (f : TaskState → Bool) : Nat := (s.cox.tasks.filter (fun e => decide (e.1 < 512) && f e.2.state)).length

def coxLive (o : Nat) (s : State) : Option Word :=
  let c := s.cox
  let (t, r, d) := c.lastOvr.getD (0, 0, 0)
  match o with
  | 0x00 => some 0x02000801
  | 0x04 => some (coreEnBits s)
  | 0x30 => some (pack [(countTasks s (fun x => decide (x = .ready ∨ x = .preempted)), 0, 10),
      (countTasks s (fun x => decide (x = .suspended)), 16, 10)])
  | 0x40 => some (c.descIdx.setWidth 32)
  | 0x70 => some 0
  | 0x80 => some c.cntDispatch
  | 0x84 => some c.cntPreempt
  | 0x88 => some c.cntOverrun
  | 0x8C => some c.cntRefused
  | 0x90 => some (pack [(t, 0, 9), (r, 9, 2), (bit c.lastOvr.isSome, 31, 1)])
  | 0x94 => some (loWord d)
  | 0x98 => some (hiWord d)
  | _ =>
    match entryOf 0x10 8 o, entryOf 0x44 8 o with
    | some i, _ =>
      let k := s.core i
      some (pack [(coreStateNo k.state, 0, 3), (bit k.pending, 3, 1), (k.task.getD 0, 4, 9), (bit k.eccBit, 13, 1)])
    | _, some w => some (descWord (s.task c.descIdx.toNat) w)
    | none, none => none

/-! ## PMU (R251) -/

/-- A counter's low or high word. -/
def cntHalf (t : Tab Nat) (k : Nat) (hi : Bool) : Word :=
  let v := look 0 t k
  if hi then BitVec.ofNat 32 (v / 4294967296 % 65536) else loWord v

/-- The half of counter `k` at `o` within the eight pairs from `base`. -/
def pairOf (base o : Nat) : Option (Nat × Bool) := (entryOf base 16 o).map (fun i => (i / 2, decide (i % 2 = 1)))

def corePmuLive (c o : Nat) (s : State) : Option Word :=
  let p := s.pmu c
  match o with
  | 0x00 => some (loWord (cycNow s c))
  | 0x04 => some (hiWord (cycNow s c))
  | 0x70 => some p.ovf
  | 0x74 => some p.sample
  | 0x80 => some (loWord p.snapCyc)
  | 0x84 => some (hiWord p.snapCyc)
  | _ =>
    match pairOf 0x10 o, entryOf 0x50 8 o, pairOf 0x88 o with
    | some (k, h), _, _ => some (cntHalf p.cnt k h)
    | _, some k, _ => some (look 0 p.evsel k)
    | _, _, some (k, h) => some (cntHalf p.snap k h)
    | none, none, none => none

def pmuLive (o : Nat) (s : State) : Option Word :=
  let c := s.cox
  match o with
  | 0x00 => some 0x30080801
  | 0x04 => some (c.userEn.setWidth 32)
  | 0x08 => some (pack [(bit c.freeze, 0, 1)])
  | 0x0C => some (pack [((bitsOf 8 8 (fun i => decide ((s.pmu i).ovf ≠ 0))).toNat, 0, 8), (bit c.snapValid, 8, 1), (c.denied, 16, 16)])
  | _ => if 0x1000 ≤ o ∧ o < 0x9000 then corePmuLive (o / 0x1000 - 1) (o % 0x1000) s else none

/-! ## BOAT (R270) -/

def pageWord (s : State) (p : Nat) : Word :=
  let x := s.page p
  match s.boat.caps.find? (fun c => decide (x.state = .held) && decide (c.serial = x.cap)) with
  | some c => pack [(2, 0, 2), (bit c.evict, 2, 1), (bit c.filling, 3, 1), (c.prio, 4, 3), (x.holder, 8, 12), (x.gen, 20, 12)]
  | none =>
    if isStreamPage p then pack [(bit s.boat.ready, 0, 2)]
    else pack [((match x.state with | .free => 0 | .held => 2 | .scrub => 3), 0, 2), (x.holder, 8, 12), (x.gen, 20, 12)]

def boatLive (o : Nat) (s : State) : Option Word :=
  let b := s.boat
  let free := (freePages s).length
  let st := look {} b.streams b.streamSel.toNat
  match o with
  | 0x00 => some 0x10001001
  | 0x04 => some (pack [(b.reclaim, 0, 7), (b.hostBudget, 16, 12)])
  | 0x08 => some (pack [(free, 0, 12), ((poolPages.filter (fun p => decide ((s.page p).state = .scrub))).length, 16, 12),
      (bit (b.ready && decide (free = 0)), 28, 1), (bit b.evicting, 29, 1)])
  | 0x0C => some (pack [(b.lowFree, 0, 12)])
  | 0x10 => some b.cntReq
  | 0x14 => some b.cntNull
  | 0x18 => some b.cntBudget
  | 0x1C => some b.cntEvict
  | 0x20 => some b.cntWinref
  | 0x24 => some (pack [(b.eccCorr.toNat, 0, 16), (b.eccUncorr.toNat, 16, 16)])
  | 0x40 => some (b.pageSel.setWidth 32)
  | 0x44 => some (pageWord s b.pageSel.toNat)
  | 0x48 => some (loWord (s.page b.pageSel.toNat).time)
  | 0x4C => some (hiWord (s.page b.pageSel.toNat).time)
  | 0x60 => some (b.streamSel.setWidth 32)
  | 0x64 => some (pack [(st.next, 0, 11), (st.drop.toNat, 16, 16)])
  | 0x68 => some (loWord st.count)
  | 0x6C => some (hiWord st.count)
  | 0x80 => some (b.bankSel.setWidth 32)
  | 0xA0 => some 0
  | 0xA4 => some (pack [(b.hostStatus, 0, 3), (b.hostCtx, 8, 6), (b.hostPages, 16, 16)])
  | 0xA8 => some 0
  | _ => none

/-- BOAT_BANK_WAIT: the longest wait of a stream word in the bank's reserved slots and of a hook's hold; of the unreserved
accesses, which the model does not place in slots, a free value at least a hook's hold. -/
def bankWait (s : State) : Word × State :=
  let w := look (0, 0) s.boat.waits s.boat.bankSel.toNat
  let (f, s1) := fresh s
  (pack [(min 0xFFFF w.1, 0, 16), (min 0xFFFF (max w.2 (bits f 31 16)), 16, 16)], s1)

/-! ## CRC (R306) -/

def crcLaneWord (s : State) (l : Lane) : Word := pack [((s.laneD l).passes.toNat, 0, 16), (bit (s.laneD l).passOk, 16, 1)]

def ctxLive (c : CrcCtx) (k : Nat) : Option Word :=
  match k with
  | 0x00 => some c.cfg
  | 0x04 => some c.poly
  | 0x08 => some c.init
  | 0x0C => some c.xorout
  | 0x10 => some c.fold0
  | 0x14 => some c.fold1
  | 0x18 => some 0
  | 0x1C => some 0
  | 0x20 => some (c.reg &&& crcMask c)
  | 0x24 => some (crcResult c)
  | 0x28 => some c.expect
  | 0x2C => some (pack [(bit c.isMatch, 1, 1), (bit c.mismatch, 2, 1), (c.words, 16, 16)])
  | _ => none

def crcLive (o : Nat) (s : State) : Option Word :=
  let c := s.crc
  match o with
  | 0x00 => some 0x00100301
  | 0x04 => some ((bitsOf 16 16 (fun n => (s.ctx n).mismatch)).setWidth 32)
  | 0x08 => some c.refused
  | 0x0C => some (pack [(bit c.katPass, 0, 1), (bit c.katFail, 1, 1), (c.katRuns.toNat, 16, 16)])
  | 0x20 => some (crcLaneWord s .l1)
  | 0x24 => some (crcLaneWord s .l2)
  | 0x28 => some (crcLaneWord s .l3)
  | _ => if 0x100 ≤ o ∧ o < 0x500 then ctxLive (s.ctx ((o - 0x100) / 64)) ((o - 0x100) % 64) else none

/-! ## BIST (R339) -/

/-- Phase and segment of a running slice after `el` ticks: LBIST first, then the segments (R325). -/
def slicePhase (u el : Nat) : Nat × Nat :=
  match unitPlan u with
  | some (_, l, m) => if el < l then (1, 0) else (2, min 7 ((el - l) / m))
  | none => (0, 0)

def bistStatus (s : State) : Word :=
  let b := s.bist
  let u := b.running.getD 0
  let (ph, seg) := if b.running.isSome then slicePhase u (s.now - b.started) else (0, 0)
  pack [(bit b.running.isSome, 0, 1), (u, 1, 4), (ph, 5, 2), (seg, 7, 3), (bit b.bootDone, 10, 1), (bit b.ctrlFail, 11, 1)]

/-- Patterns and segments applied, with PARTIAL while DONE is 0 (R327). -/
def countWord (s : State) (u : Nat) : Word :=
  let b := s.unit u
  let n := if s.bist.running = some u then appliedCount u (s.now - s.bist.started) else b.count
  pack [(n, 0, 31), (bit (!b.done), 31, 1)]

/-- The MISR of a unit; none while a slice runs or where the last one ended before its full count. -/
def misrOf (s : State) (u : Nat) : Option Nat :=
  let b := s.unit u
  if s.bist.running = some u ∨ (b.last ≠ 0 ∧ !b.done) then none else some b.sig.toNat

def unitLive (s : State) (u k : Nat) : Option Word :=
  let b := s.unit u
  if (unitPlan u).isNone then some 0
  else match k with
    | 0x00 => some (pack [(b.last, 0, 2), (bit b.done, 2, 1), (bit (decide (s.bist.running = some u)), 3, 1), (bit (b.pending || (isCoreUnit u && recoveryWaits s (u - 8) && decide (s.bist.running ≠ some u))), 4, 1),
        (b.mode, 5, 2), (b.cause, 7, 3), (b.runs.toNat, 16, 16)])
    | 0x04 => (misrOf s u).map loWord
    | 0x08 => (misrOf s u).map hiWord
    | 0x0C => some (countWord s u)
    | 0x10 => some (loWord b.passTime)
    | 0x14 => some (hiWord b.passTime)
    | 0x18 => some (pack [(b.fails.toNat, 0, 16), (b.aborts.toNat, 16, 16)])
    | _ => none

def bistLive (o : Nat) (s : State) : Option Word :=
  let b := s.bist
  match o with
  | 0x00 => some 0x00080501
  | 0x04 => some (bistStatus s)
  | 0x08 => some (pack [(b.period, 0, 12), (bit b.coreEn, 12, 1)])
  | 0x0C => some 0
  | 0x10 => some b.refused
  | _ => if 0x100 ≤ o ∧ o < 0x300 then unitLive s ((o - 0x100) / 32) ((o - 0x100) % 32) else none

end Sys2Proof.Machine
end

