-- ==== Sys2Proof/Machine/RegHost.lean ====
section
/-!
DEFINITION. Registers of the configuration store, security, Ethernet and PTP, host SPI and telegrams, the time base and
PERTURB, as a read shows them (R365, R383, R411, R475), and the reading of any host address. A register that the manual
does not list, or whose content nothing fixes, shows none.
-/
namespace Sys2Proof.Machine

open Sys2Proof

/-! ## NVM and CFG (R365) -/

/-- A flash operation can be running. -/
def flashBusy (n : Nvm) : Bool := n.passing.isSome || decide (n.wr.step ≠ 0) || n.logErasing

def bankSeq (n : Nvm) (b : Nat) : Word :=
  match validHeader n b with
  | some h => BitVec.ofNat 32 (hdrSeq h)
  | none => 0

def nvmLive (o : Nat) (s : State) : Option Word :=
  let n := s.nvm
  let w := n.wr
  match o with
  | 0x00 => some (pack [(n.jedec, 0, 24)])
  | 0x04 => some (pack [(if n.started then n.sizeLog2 else 0, 0, 5), (bit n.addr4, 5, 1), (bit n.suspend, 6, 1), (bit n.wp, 7, 1),
      (if n.usable then bankSize n / 65536 else 0, 16, 16)])
  | 0x08 => some (pack [(bit n.fail, 4, 1), (n.timeouts.toNat, 16, 16)])
  | 0x10 => some (pack [(n.bank, 0, 1), (bit (bankHeaderOk n 0 && decide (n.reasonA < 2)), 1, 1),
      (bit (bankHeaderOk n 1 && decide (n.reasonB < 2)), 2, 1), (bit n.fallback, 3, 1), (n.reasonA, 4, 3), (n.reasonB, 8, 3),
      (bit n.imgPending, 11, 1), (bit n.lostChanges, 12, 1), (bit s.otp.authReq, 13, 1)])
  | 0x14 => some (bankSeq n 0)
  | 0x18 => some (bankSeq n 1)
  | 0x1C => some n.digest
  | 0x20 => some (pack [(n.rowingMs, 0, 16), (n.passMs, 16, 16)])
  | 0x30 => some 0
  | 0x34 => some (pack [(w.state, 0, 3), (bit w.byModule, 3, 1), (w.cause, 4, 4), (w.done64, 16, 16)])
  | 0x40 => some (pack [(n.logArea, 0, 1), (bit n.logReady, 1, 1), (bit (logFull n), 2, 1), (bit n.logOther, 3, 1), (n.logNext, 4, 14)])
  | 0x44 => some (pack [(logUnexported n, 0, 15), (logFree n, 16, 15)])
  | 0x48 => some (BitVec.ofNat 32 n.logSeq)
  | 0x4C => some 0
  | 0x50 => some n.logLost
  | _ => none

/-! ## SEC (R383) -/

/-- Word `i` of a byte string, in little-endian word order. -/
def wordOf (bs : List Byte) (i : Nat) : Word := BitVec.ofNat 32 (ofLe ((bs.drop (4 * i)).take 4))

def nonceShown (s : State) (x : LoginPort) : List Byte :=
  match x.nonce with
  | some n => if x.used ∨ x.issued + nonceTicks ≤ s.now then [] else n
  | none => []

def chalShown (s : State) : List Byte :=
  match s.sec.chal with
  | some c => if s.sec.chalUsed ∨ s.sec.chalAt + chalTicks ≤ s.now then [] else c
  | none => []

def sessionWord (s : State) (p : Port) : Word :=
  let fail := bit (s.login p).lastFail
  match sessionOf s p with
  | some x => pack [(x.slot, 0, 3), (1, 3, 1), (x.rights.toNat, 4, 4), (fail, 8, 1), (min 600 (inUnits secTicks (s.now - x.last)), 16, 16)]
  | none => pack [(fail, 8, 1)]

def slotWord (s : State) (k : Nat) : Word :=
  let c := s.slotCnt k
  let left := match c.lockUntil with
    | some t => inUnits secTicks (t - s.now)
    | none => 0
  pack [(bit (pwSlot s k).defined, 0, 1), ((pwSlot s k).rights.toNat, 1, 4), (c.fails, 5, 2), (bit (slotLocked s k), 7, 1),
    (left, 8, 8), (c.logins.toNat, 16, 16)]

def secLive (p : Port) (o : Nat) (s : State) : Option Word :=
  let x := s.sec
  match o with
  | 0x00 => some 0x00080001
  | 0x04 => some (pack [(s.otp.lc, 0, 2), (x.debug, 2, 2), (x.power, 4, 2), (bit x.sealA, 6, 1), (bit x.sealB, 7, 1),
      (bit (sealClosed s), 8, 1), (bit x.sealDisc, 9, 1), (bit s.otp.authReq, 10, 1), (bit s.otp.imageKey.isSome, 11, 1),
      (bit s.otp.debugKey.isSome, 12, 1), (bit s.otp.vendorKey.isSome, 13, 1), (bit x.zeroised, 14, 1),
      (bit (s.seat.holdInForce && inHold s), 15, 1)])
  | 0x08 => some (loWord s.otp.uid.toNat)
  | 0x0C => some (hiWord s.otp.uid.toNat)
  | 0x10 => some (pack [(x.cntSeal.toNat, 0, 16), (x.cntDisc.toNat, 16, 16)])
  | 0x20 => some 0
  | 0x64 => some (sessionWord s p)
  | 0xA0 => some 0
  | 0xA4 => some 0
  | 0xE0 => some 0
  | 0x110 => some (pack [(x.refused.toNat, 0, 16), (x.lastCode, 16, 16)])
  | _ =>
    match entryOf 0x24 4 o, entryOf 0x34 4 o, entryOf 0x80 8 o, entryOf 0xB0 4 o with
    | some i, _, _, _ => some (wordOf (s.login p).salt i)
    | _, some i, _, _ => some (wordOf (nonceShown s (s.login p)) i)
    | _, _, some k, _ => some (slotWord s k)
    | _, _, _, some i => some (wordOf (chalShown s) i)
    | none, none, none, none =>
      if (entryOf 0x44 8 o).isSome || (entryOf 0xC0 8 o).isSome || (entryOf 0xE4 8 o).isSome then some 0 else none

/-! ## ETH, PTP and TIME (R411) -/

def portWord (s : State) (p : Nat) : Word :=
  let x := look {} s.net.ports p
  pack [(bit x.link, 0, 1), (x.speed, 1, 2), (x.changes.toNat, 16, 16)]

def ethLive (o : Nat) (s : State) : Option Word :=
  let n := s.net
  let c := if n.cntSel = 3 then {} else look {} n.ports n.cntSel.toNat
  match o with
  | 0x00 => some (portWord s 0)
  | 0x04 => some (portWord s 1)
  | 0x10 => some (n.cntSel.setWidth 32)
  | 0x14 => some c.rx
  | 0x18 => some (egressTo s.now c).tx
  | 0x1C => some c.drop
  | 0x40 => some (pack [(n.ptpState, 0, 3), (bit n.ptpLocked, 3, 1), (s.nvm.net.domain, 4, 7)])
  | 0x44 => some (BitVec.ofInt 32 n.ptpOffset)
  | 0x48 => some n.ptpRes
  | _ => none

def timeLive (o : Nat) (s : State) : Option Word :=
  let t := s.time
  match o with
  | 0x00 => some (loWord s.timeNow)
  | 0x04 => some (hiWord s.timeNow)
  | 0x08 => some (loWord s.now)
  | 0x0C => some (hiWord s.now)
  | 0x10 => some (BitVec.ofInt 32 t.map.rate)
  | 0x14 => some (pack [(bit t.valid, 0, 1), (bit s.net.ptpLocked, 1, 1), (bit (s.nvm.armed && s.nvm.net.ppsFree), 2, 1),
      (t.steps.toNat, 16, 16)])
  | 0x18 => some (BitVec.ofInt 32 t.lastStep)
  | 0x1C => some (BitVec.ofInt 32 (t.lastStep / 4294967296))
  | _ => none

/-! ## HSPI and TEL (R407, R411) -/

/-- The words of an event. -/
def eventWords (e : Event) : List Word :=
  [pack [(e.src, 0, 12), (e.cls, 12, 4), (e.code, 16, 15), (bit e.more, 31, 1)], loWord e.time, hiWord e.time] ++
    (e.data ++ [0, 0, 0, 0, 0]).take 5

def selectedEvent (s : State) : Option Event := s.host.events.find? (fun e => decide (e.seq = s.host.evqSel.toNat))

/-- The number and state of the TEL_IN block, and the state of the TEL_OUT block, of a connection in a lane. -/
def telInShown (d : LaneDie) (conn : Nat) : TelInSt :=
  ((laneBlocks d).findSome? (fun e => match e.2.1, e.2.2 with
    | .telIn c, .telIn x => if c = conn then some x else none
    | _, _ => none)).getD {}
def telOutShown (d : LaneDie) (conn : Nat) : TelOutSt := telOutOf (d.image.getD {}).graph d.blocks conn

def telStateNo : TelState → Nat
  | .unsync => 1 | .syncing => 2 | .live => 3

def connWord (s : State) (d : LaneDie) (o : Nat) : Option Word :=
  let conn := s.net.telSel.toNat
  let x := telInShown d conn
  let k := look {} d.telCnt conn
  match (d.image.getD {}).conns.find? (fun e => decide (e.1 = conn)) with
  | none => some 0
  | some (_, cfg) =>
    match o with
    | 0x104 => some (pack [(telStateNo x.state, 0, 2), (x.last, 16, 16)])
    | 0x108 => some (pack [((telOutShown d conn).lastCn, 0, 16), (k.echo, 16, 16)])
    | 0x10C => some (pack [((match x.ref with | some r => d.evaluated.getD 0 - r.1 | none => cfg.nw + 1), 0, 16), (cfg.nw, 16, 16)])
    | 0x110 => some k.crc
    | 0x114 => some k.seq
    | 0x118 => some k.id
    | 0x11C => some k.late
    | _ => some k.expire

/-- The mirror of the Bow seat's lane: 0 before the first cycle, none while no lane holds the seat. -/
def telMirror (s : State) (o : Nat) : Option Word :=
  match s.seat.bow with
  | some l => connWord s (s.laneD l) o
  | none => if s.seat.cycle = 0 then some 0 else none

def hspiLive (o : Nat) (s : State) : Option Word :=
  let h := s.host
  match o with
  | 0x00 => some (h.irqStat.setWidth 32)
  | 0x04 => some (h.irqEn.setWidth 32)
  | 0x08 => some (pack [(s.net.hspiCrc.toNat, 0, 16), (s.net.hspiAbort.toNat, 16, 16)])
  | 0x10 => some (match h.events with | e :: _ => BitVec.ofNat 32 e.seq | [] => 0)
  | 0x14 => some h.evqSel
  | 0x38 => some h.evqLost
  | 0x100 => some (s.net.telSel.setWidth 32)
  | 0x130 => some s.net.telMismatch
  | _ =>
    match entryOf 0x18 8 o, entryOf 0x104 8 o with
    | some i, _ => some (match selectedEvent s with | some e => ((eventWords e)[i]?).getD 0 | none => 0)
    | _, some _ => telMirror s o
    | none, none => none

/-! ## PERTURB (R475) -/

def hookLive (h : Hook) (k : Nat) : Option Word :=
  match k with
  | 0x00 => some h.tgt
  | 0x04 => some h.cfg
  | 0x08 => some h.cnt
  | 0x0C => some (pack [(h.max, 0, 28)])
  | _ => none

def perturbLive (o : Nat) (s : State) : Option Word :=
  match o with
  | 0x00 => some 0x00001001
  | 0x04 => some (pack [(bit (cellOpen s), 0, 1), ((bitsOf 16 16 (fun n => decide ((s.hk n).cfg ≠ 0))).toNat, 16, 16)])
  | 0x08 => some s.hook.seed
  | 0x0C => some s.hook.refused
  | _ => if 0x100 ≤ o ∧ o < 0x200 then hookLive (s.hk ((o - 0x100) / 16)) ((o - 0x100) % 16) else none

/-! ## The host address map -/

/-- What the register at an address shows to a port now. -/
def regLive (p : Port) (a : Nat) (s : State) : Option Word :=
  let o := a % 0x10000
  if windowBase ≤ a then (if a < windowBase + 0x01000000 ∧ a % 4 = 0 then some (windowRead s a) else none)
  else match a / 0x10000 with
    | 0x00 => if o < 0x1000 then sysLive o s else if 0x4000 ≤ o ∧ o < 0x5000 then fabLive (o - 0x4000) s else none
    | 0x01 => umpLive o s
    | 0x02 => seatLive o s
    | 0x03 => laneLive .l1 o s
    | 0x04 => laneLive .l2 o s
    | 0x05 => laneLive .l3 o s
    | 0x06 => sinLive o s
    | 0x07 => soutLive o s
    | 0x08 => afeLive o s
    | 0x09 => tachLive o s
    | 0x0A => ringLive (o / 0x4000) (o % 0x4000) s
    | 0x0B => coxLive o s
    | 0x0C => boatLive o s
    | 0x0D => pmuLive o s
    | 0x0E => crcLive o s
    | 0x0F => bistLive o s
    | 0x10 => nvmLive o s
    | 0x11 => secLive p o s
    | 0x12 => ethLive o s
    | 0x13 => hspiLive o s
    | 0x14 => timeLive o s
    | 0x1F => perturbLive o s
    | _ => none

/-- The bits of the CRC block that nothing fixes: contexts 0 to 3 serve the module's own streams, whose data and fold words
no register shows, and a protocol frame that fails its check ends in context 3. -/
def crcOpen (o : Nat) (s : State) : Word :=
  let n := (o - 0x100) / 64
  if o = 0x04 then 8
  else if 0x100 ≤ o ∧ o < 0x200 ∧ (n = 3 ∨ s.nvm.started ∨ (s.ctx n).live) then
    match o % 64 with
    | 0x00 => 0x003F0C00
    | 0x10 => 0xFFFFFFFF
    | 0x14 => 0xFFFFFFFF
    | 0x20 => 0xFFFFFFFF
    | 0x24 => 0xFFFFFFFF
    | 0x28 => 0xFFFFFFFF
    | 0x2C => if n = 3 then 0xFFFF0007 else 0xFFFF0003
    | _ => 0
  else 0

/-- The bits of a register that nothing fixes: those of the CRC block, and what a running flash operation is. -/
def openMask (a : Nat) (s : State) : Word :=
  if a / 0x10000 = 0x0E then crcOpen (a % 0x10000) s
  else if a = 0x00100008 ∧ flashBusy s.nvm then 0xF else 0

/-- The value at an address: what it shows, with a free value where nothing fixes it. -/
def valueAt (p : Port) (a : Nat) (s0 : State) : Word × State :=
  let s1 := pmuSeen a s0
  let s := if windowBase ≤ a then accessBank (pageBank ((a - windowBase) / 4096)) 9 s1 else s1
  if a = 0x000C0084 then bankWait s
  else match regLive p a s with
    | some w =>
      if openMask a s = 0 then (w, s)
      else
        let (f, s1) := fresh s
        ((w &&& ~~~(openMask a s)) ||| (f &&& openMask a s), s1)
    | none => fresh s

end Sys2Proof.Machine
end

