-- ==== Sys2Proof/Machine/RegRead.lean ====
section
/-!
DEFINITION. A host read (R10): partner words, latching and clearing reads, and what the read returns.
-/
namespace Sys2Proof.Machine

open Sys2Proof

/-! ## Latching reads: code RL -/

/-- The partner words that a read of address `a` latches. -/
def partners (a : Nat) : List Nat :=
  let o := a % 0x10000
  match a / 0x10000 with
  | 0x01 => if o = 0x18 ∨ o = 0x2C ∨ (0x100 ≤ o ∧ o < 0x500 ∧ o % 16 = 4) then [a + 4] else []
  | 0x02 => if o = 0x14 ∨ o = 0x34 then [a + 4] else []
  | 0x03 => if o = 0x10 ∨ o = 0x18 then [a + 4] else []
  | 0x04 => if o = 0x10 ∨ o = 0x18 then [a + 4] else []
  | 0x05 => if o = 0x10 ∨ o = 0x18 then [a + 4] else []
  | 0x06 => if o = 0x00 then [a + 4, a + 0x10, a + 0x14] else if o = 0x08 ∨ o = 0x18 then [a + 4] else []
  | 0x09 =>
    if o = 0x08 then [a + 4]
    else if 0x100 ≤ o ∧ o < 0x300 ∧ (o % 64 = 0x14 ∨ o % 64 = 0x1C ∨ o % 64 = 0x38) then [a + 4] else []
  | 0x0A => if o % 0x4000 = 0x10 ∨ o % 0x4000 = 0x88 then [a + 4] else []
  | 0x0B => if o = 0x58 then [a + 4, a + 8] else if o = 0x94 then [a + 4] else []
  | 0x0C => if o = 0x48 ∨ o = 0x68 then [a + 4] else []
  | 0x0D =>
    let k := o % 0x1000
    if 0x1000 ≤ o ∧ o < 0x9000 ∧ (k = 0 ∨ (0x10 ≤ k ∧ k < 0x50 ∧ k % 8 = 0)) then [a + 4] else []
  | 0x0F =>
    if 0x100 ≤ o ∧ o < 0x300 then (if o % 32 = 4 then [a + 4, a + 8] else if o % 32 = 0x10 then [a + 4] else []) else []
  | 0x11 => if o = 0x08 then [a + 4] else []
  | 0x13 => if o = 0x18 then (List.range 7).map (fun i => a + 4 + 4 * i) else []
  | 0x14 => if o = 0x00 then [a + 4, a + 8, a + 12] else if o = 0x18 then [a + 4] else []
  | _ => []

/-- The address is a partner word: it returns what the last read of its leading word latched. -/
def isPartner (a : Nat) : Bool := (List.range 7).any (fun i => decide (4 * (i + 1) ≤ a) && (partners (a - 4 * (i + 1))).contains a)

/-- Each partner word takes its value from the same instant. -/
def latchPartners (p : Port) (a : Nat) (s : State) : State :=
  (partners a).foldl (fun t b =>
    let (w, t1) := valueAt p b t
    { t1 with host := { t1.host with latch := put 0 t1.host.latch b w } }) s

/-- A read of EVQ_ENTRY0 reads the selected event (R411). -/
def noteEventRead (a : Nat) (s : State) : State :=
  if a = 0x00130018 then
    { s with host := { s.host with
        events := s.host.events.map (fun e => if e.seq = s.host.evqSel.toNat then { e with read := true } else e) } }
  else s

/-! ## Clearing reads: code RC -/

def clearFab (o : Nat) (s : State) : State :=
  let p := s.fab.cntSel.toNat
  let c := s.shownCnt p
  match o with
  | 0x14 => s.setShownCnt p { c with chk := 0 }
  | 0x18 => s.setShownCnt p { c with seqdrop := 0 }
  | 0x1C => s.setShownCnt p { c with lost := 0 }
  | 0x20 => s.setShownCnt p { c with crc := 0 }
  | 0x24 => s.setShownCnt p { c with len := 0 }
  | 0x28 => s.setShownCnt p { c with route := 0 }
  | 0x30 => { s with fab := { s.fab with waitSafe := 0, waitTel := 0, waitOther := 0 } }
  | _ => s

def clearSys (o : Nat) (s : State) : State :=
  let y := s.sys
  match o with
  | 0x30 => { s with sys := { y with clkMin := put 0 y.clkMin y.clkSel.toNat 0, clkMax := put 0 y.clkMax y.clkSel.toNat 0 } }
  | 0x60 => { s with sys := { y with refused := 0 } }
  | _ => s

def clearAfe (o : Nat) (s : State) : State :=
  if 0x100 ≤ o ∧ o < 0x500 ∧ o % 32 = 0x14 then
    let n := (o - 0x100) / 32
    s.setAin n { s.ain n with inval := 0 }
  else s

def clearRing (r o : Nat) (s : State) : State :=
  let x := s.rg r
  match o with
  | 0x20 => s.setRg r { x with cntCrc := 0 }
  | 0x24 => s.setRg r { x with cntSeqdrop := 0 }
  | 0x28 => s.setRg r { x with cntLost := 0 }
  | 0x2C => s.setRg r { x with cntResend := 0 }
  | 0x30 => s.setRg r { x with cntLate := 0 }
  | _ => s

def clearCox (o : Nat) (s : State) : State :=
  let c := s.cox
  match o with
  | 0x80 => { s with cox := { c with cntDispatch := 0 } }
  | 0x84 => { s with cox := { c with cntPreempt := 0 } }
  | 0x88 => { s with cox := { c with cntOverrun := 0 } }
  | 0x8C => { s with cox := { c with cntRefused := 0 } }
  | _ => s

def clearPmu (o : Nat) (s : State) : State :=
  if o = 0x0C then { s with cox := { s.cox with denied := 0 } }
  else if 0x1000 ≤ o ∧ o < 0x9000 ∧ o % 0x1000 = 0x74 then
    let c := o / 0x1000 - 1
    s.setPmu c { s.pmu c with sample := 0 }
  else s

/-- BOAT_LOW_FREE begins again at the present FREE. -/
def clearBoat (o : Nat) (s : State) : State :=
  let b := s.boat
  match o with
  | 0x0C => { s with boat := { b with lowFree := (freePages s).length } }
  | 0x10 => { s with boat := { b with cntReq := 0 } }
  | 0x14 => { s with boat := { b with cntNull := 0 } }
  | 0x18 => { s with boat := { b with cntBudget := 0 } }
  | 0x1C => { s with boat := { b with cntEvict := 0 } }
  | 0x20 => { s with boat := { b with cntWinref := 0 } }
  | 0x24 => { s with boat := { b with eccCorr := 0, eccUncorr := 0 } }
  | 0x64 => { s with boat := { b with streams := upd {} b.streams b.streamSel.toNat (fun x => { x with drop := 0 }) } }
  | 0x84 => { s with boat := { b with waits := put (0, 0) b.waits b.bankSel.toNat (0, 0) } }
  | _ => s

def clearEth (o : Nat) (s : State) : State :=
  let n := s.net
  let sel (f : EthPort → EthPort) : State :=
    if n.cntSel = 3 then s else { s with net := { n with ports := upd {} n.ports n.cntSel.toNat f } }
  match o with
  | 0x14 => sel (fun x => { x with rx := 0 })
  | 0x18 => sel (fun x => { egressTo s.now x with tx := 0 })
  | 0x1C => sel (fun x => { x with drop := 0 })
  | 0x48 => { s with net := { n with ptpRes := 0 } }
  | _ => s

def clearHspi (o : Nat) (s : State) : State :=
  match o with
  | 0x08 => { s with net := { s.net with hspiCrc := 0, hspiAbort := 0 } }
  | 0x38 => { s with host := { s.host with evqLost := 0 } }
  | 0x130 => { s with net := { s.net with telMismatch := 0 } }
  | _ => s

def clearPerturb (o : Nat) (s : State) : State :=
  let n := (o - 0x100) / 16
  if o = 0x0C then { s with hook := { s.hook with refused := 0 } }
  else if 0x100 ≤ o ∧ o < 0x200 ∧ o % 16 = 8 then s.setHk n { s.hk n with cnt := 0 }
  else if 0x100 ≤ o ∧ o < 0x200 ∧ o % 16 = 12 then s.setHk n { s.hk n with max := 0 }
  else s

/-- What a read clears after it has returned its value. -/
def readClear (a : Nat) (s : State) : State :=
  let o := a % 0x10000
  match a / 0x10000 with
  | 0x00 => if o < 0x1000 then clearSys o s else if 0x4000 ≤ o ∧ o < 0x5000 then clearFab (o - 0x4000) s else s
  | 0x01 => if o = 0x24 then { s with ump := { s.ump with clrLine := 0, clrRefused := 0 } } else s
  | 0x07 => if o = 0x41C then { s with fld := { s.fld with cioRefused := 0 } } else s
  | 0x08 => clearAfe o s
  | 0x0A => clearRing (o / 0x4000) (o % 0x4000) s
  | 0x0B => clearCox o s
  | 0x0C => clearBoat o s
  | 0x0D => clearPmu o s
  | 0x0E => if o = 0x08 then { s with crc := { s.crc with refused := 0 } } else s
  | 0x0F => if o = 0x10 then { s with bist := { s.bist with refused := 0 } } else s
  | 0x11 => if o = 0x110 then { s with sec := { s.sec with refused := 0, lastCode := 0 } } else s
  | 0x12 => clearEth o s
  | 0x13 => clearHspi o s
  | 0x1F => clearPerturb o s
  | _ => s

/-! ## A read -/

/-- A read of one word: a partner word returns its latched value; another returns its present value, latches its partners
from the same instant, and is then cleared where its code is RC. -/
def readWord (p : Port) (a : Nat) (s : State) : Word × State :=
  if isPartner a then (look 0 s.host.latch a, s)
  else
    let (w, s1) := valueAt p a s
    (w, readClear a (noteEventRead a (latchPartners p a s1)))

/-- A read of consecutive words, each in turn. -/
def readWords (p : Port) : Nat → Nat → State → List Word × State
  | 0, _, s => ([], s)
  | n + 1, a, s =>
    let (w, s1) := readWord p a s
    let (ws, s2) := readWords p n (a + 4) s1
    (w :: ws, s2)

def hostRead (p : Port) (a : Nat) (s : State) : State :=
  let (w, s1) := readWord p a s
  { s1 with host := { s1.host with resp := [w] } }

/-- R10, code RL. -/
def execLatchingRead (port : Port) (addr : Nat) (s : State) : Host.Outcome State Fault Refusal := run s (hostRead port addr)

/-- R10, code RC. -/
def execClearingRead (port : Port) (addr : Nat) (s : State) : Host.Outcome State Fault Refusal := run s (hostRead port addr)

end Sys2Proof.Machine
end

