-- ==== Sys2Proof/Machine/RegWrite.lean ====
section
/-!
DEFINITION. A host write (R10): what a write of each host address does. A write to a register that only reads is ignored;
one to the lane mirrors, SEAT, SIN, the safety parts of SOUT, the fabric's read-only registers, the telegram mirror or an
absent unit is ignored and counted.
-/
namespace Sys2Proof.Machine

open Sys2Proof

/-! ## SYS and the fabric (R431, R45) -/

/-- SYS_PWR_CTRL.REQ (R378). -/
def powerWrite (v : Word) (s : State) : State :=
  match bits v 1 0 with
  | 0 => leaving pwrRun s
  | 1 => leaving pwrReduced s
  | 2 => pwrHold s
  | _ => pwrOff s

def sysWrite (a o : Nat) (v : Word) (s : State) : State :=
  if o = 0x04 then powerWrite v s
  else if o = 0x28 then { s with sys := { s.sys with clkSel := v.setWidth 5 } }
  else if 0x4000 ≤ o ∧ o < 0x5000 then
    let f := s.fab
    match o - 0x4000 with
    | 0x10 => { s with fab := { f with cntSel := v.setWidth 5 } }
    | 0x2C =>
      let c := s.shownCnt f.cntSel.toNat
      s.setShownCnt f.cntSel.toNat { c with ovf := c.ovf &&& ~~~(v.setWidth 6) }
    | 0x40 => { s with fab := { f with seqSelSrc := v.setWidth 12, seqSelEp := BitVec.ofNat 4 (bits v 19 16) } }
    | 0x80 => { s with fab := { f with routeIdx := v.setWidth 8 } }
    | _ => refuse a s
  else s

/-! ## SOUT and CIO (R10, R173) -/

/-- CIO_CMD_MASK, CIO_CMD_VALUE and CIO_HEARTBEAT; every other register of the block is read-only under R10 (R173), so that a
write to it is ignored and counted. -/
def soutWrite (p : Port) (a o : Nat) (v : Word) (s : State) : State :=
  match o with
  | 0x410 => { s with fld := { s.fld with cioMask := put 0 s.fld.cioMask (portSrc p) (v.setWidth 24) } }
  | 0x414 => cioValueWrite p v s
  | 0x418 => cioBeatWrite p s
  | _ => refuse a s

/-! ## AFE and TACH (R198, R199) -/

/-- A write of AFE_CTRLn: EN, and with CAL a calibration, which needs a channel that stays enabled. -/
def afeCtrlWrite (p : Port) (n : Nat) (v : Word) (s : State) : State :=
  let on := v.getLsbD 0
  let cal := v.getLsbD 1
  chanGate p n (!cal || (on && channelLive (s.ain n))) (v &&& 3)
    (fun t =>
      let t1 := if on then chanEnable n t else chanDisable n t
      if cal then calStart n t1 else t1) s

def afeWrite (p : Port) (a o : Nat) (v : Word) (s : State) : State :=
  if o = 0x10 then { s with afe := { s.afe with ovr := s.afe.ovr &&& ~~~v } }
  else if 0x100 ≤ o ∧ o < 0x500 then
    let n := (o - 0x100) / 32
    if o % 32 = 4 then afeCtrlWrite p n v s else if ainPresent s n then s else refuse a s
  else s

def tachWrite (p : Port) (o : Nat) (v : Word) (s : State) : State :=
  let t := (o - 0x100) / 64
  if 0x100 ≤ o ∧ o < 0x300 then
    match o % 64 with
    | 0x08 => if v.getLsbD 0 then tachGate p t 1 (tachEnable t) s else tachGate p t 0 (tachDisable t) s
    | 0x0C =>
      let x := s.tachT t
      s.setTach t { x with ovf := x.ovf && !v.getLsbD 5, wrap := x.wrap && !v.getLsbD 6, multi := x.multi && !v.getLsbD 7 }
    | 0x28 => cmpWrite t 0 v s
    | 0x2C => cmpWrite t 1 v s
    | 0x30 => stepWrite t 0 v s
    | 0x34 => stepWrite t 1 v s
    | _ => s
  else s

/-! ## RING, COX, PMU (R220, R250, R251) -/

def ringWrite (p : Port) (a r o : Nat) (v : Word) (s : State) : State :=
  if o = 0x04 then (if v.getLsbD 0 then ringGate p r 1 (ringOn r) s else ringGate p r 0 (ringOff r) s)
  else if !ringPresent s r then refuse a s
  else match o with
    | 0x40 => burstCmdWrite r v s
    | 0x80 => s.setRg r { s.rg r with nodeSel := v.setWidth 9 }
    | _ => s

/-- A write of COX_CORE_CTRL: each core whose EN changes starts or shuts down. -/
def coresWrite (p : Port) (v : Word) (s : State) : State :=
  gate p rightOps true 2 addrCoreCtrl [coreEnBits s] [v &&& 0xFF]
    (fun t => (List.range 8).foldl (fun u c =>
      if v.getLsbD c then (if (u.core c).en then u else coreEnable c u) else coreDisable c u) t) s

/-- COX_TASK_CMD (R237). -/
def taskCmdWrite (p : Port) (v : Word) (s : State) : State :=
  let t := bits v 8 0
  match bits v 10 9 with
  | 0 => taskGate p t 0 true (taskDisable t) s
  | 1 => taskGate p t 1 true (taskEnable t) s
  | 2 => taskGate p t 2 (decide ((s.task t).state = .suspended ∨ (s.task t).state = .disabled)) (taskReload t) s
  | _ => secRefuse addrTaskCmd codeAccessRefused s

def coxWrite (p : Port) (o : Nat) (v : Word) (s : State) : State :=
  match o with
  | 0x04 => coresWrite p v s
  | 0x40 => { s with cox := { s.cox with descIdx := v.setWidth 9 } }
  | 0x70 => taskCmdWrite p v s
  | _ =>
    match entryOf 0x10 8 o with
    | some c => s.setCore c { s.core c with eccBit := (s.core c).eccBit && !v.getLsbD 13 }
    | none => s

/-- A password-class write of the performance monitor (R249). -/
def pmuGate (p : Port) (a : Nat) (old new : Word) (f : State → State) (s : State) : State := gate p rightOps true 2 a [old] [new] f s

def corePmuWrite (p : Port) (a c o : Nat) (v : Word) (s0 : State) : State :=
  let s := pmuSeen a s0
  let x := s.pmu c
  if o = 0x70 then s.setPmu c { x with ovf := x.ovf &&& ~~~v }
  else match pairOf 0x10 o, entryOf 0x50 8 o with
    | some (k, hi), _ => pmuGate p a (cntHalf x.cnt k hi) v (writeCounter c k hi v) s
    | none, some k => pmuGate p a (look 0 x.evsel k) v (writeEvsel c k v) s
    | none, none => s

def pmuWrite (p : Port) (a o : Nat) (v : Word) (s : State) : State :=
  match o with
  | 0x04 => pmuGate p a (s.cox.userEn.setWidth 32) v (fun t => { t with cox := { t.cox with userEn := v.setWidth 8 } }) s
  | 0x08 =>
    let s1 := pmuFreeze (v.getLsbD 0) s
    if v.getLsbD 1 then pmuSnap s1 else s1
  | _ => if 0x1000 ≤ o ∧ o < 0x9000 then corePmuWrite p a (o / 0x1000 - 1) (o % 0x1000) v s else s

/-! ## BOAT (R270) -/

def boatWrite (o : Nat) (v : Word) (s : State) : State :=
  let b := s.boat
  match o with
  | 0x40 => { s with boat := { b with pageSel := v.setWidth 12 } }
  | 0x60 => { s with boat := { b with streamSel := v.setWidth 5 } }
  | 0x80 => { s with boat := { b with bankSel := v.setWidth 4 } }
  | 0xA0 => hostCapture v s
  | 0xA8 => hostFree v s
  | _ => s

/-! ## CRC and BIST (R294, R306, R339) -/

/-- CFG keeps its writable fields. -/
def cfgFields (v : Word) : Word := v &&& 0x003F1F3F

def crcCfgOk (v : Word) : Bool :=
  decide (3 ≤ bits v 5 0 ∧ bits v 5 0 ≤ 32) && decide (1 ≤ bits v 21 16 ∧ bits v 21 16 ≤ 32) && decide (bits v 11 10 ≠ 3)

/-- A parameter without a bit at or above WIDTH is taken; any other is refused and counted. -/
def crcParam (n k : Nat) (ok : Bool) (f : CrcCtx → CrcCtx) (s : State) : State :=
  if 8 ≤ n ∧ !ok then crcRefuse (addrCtx n k) s else hostCtx n k f s

def ctxWrite (n k : Nat) (v : Word) (s : State) : State :=
  let fits := decide (v &&& ~~~(crcMask (s.ctx n)) = 0)
  match k with
  | 0x00 => crcParam n k (crcCfgOk v) (fun c => { c with cfg := cfgFields v }) s
  | 0x04 => crcParam n k fits (fun c => { c with poly := v }) s
  | 0x08 => crcParam n k fits (fun c => { c with init := v }) s
  | 0x0C => crcParam n k fits (fun c => { c with xorout := v }) s
  | 0x10 => hostCtx n k (fun c => { c with fold0 := v }) s
  | 0x14 => hostCtx n k (fun c => { c with fold1 := v }) s
  | 0x18 =>
    if n < 8 then crcRefuse (addrCtx n k) s
    else
      let s1 := if v.getLsbD 0 then hostCtx n k crcStart s else s
      if v.getLsbD 1 then hostCheck n s1 else s1
  | 0x1C => hostDin n v s
  | 0x20 => hostCtx n k (crcLoad v) s
  | 0x28 => hostCtx n k (fun c => { c with expect := v }) s
  | 0x2C => hostCtx n k (fun c => { c with mismatch := c.mismatch && !v.getLsbD 2 }) s
  | _ => s

/-! ## NVM, CFG and SEC (R365, R383) -/

def nvmWrite (p : Port) (o : Nat) (v : Word) (s : State) : State :=
  match o with
  | 0x08 => { s with nvm := { s.nvm with fail := s.nvm.fail && !v.getLsbD 4 } }
  | 0x30 =>
    match bits v 1 0 with
    | 1 => cfgOpen s
    | 2 => cfgCommit p s
    | 3 => cfgCancel s
    | _ => s
  | 0x4C => logAckWrite v s
  | _ => s

/-- SEC_LOGIN. -/
def loginWrite (p : Port) (v : Word) (s : State) : State :=
  let k := bits v 2 0
  match bits v 5 4 with
  | 0 => challenge p k s
  | 1 => respond p k s
  | 2 => dropSession p s
  | _ => secRefuse addrLogin codeAccessRefused s

/-- SEC_DBG_CTRL. -/
def debugWrite (v : Word) (s : State) : State :=
  match bits v 2 0 with
  | 1 => debugChallenge s
  | 2 => leaving openCm s
  | 3 => leaving openFull s
  | 4 => leaving debugClose s
  | _ => s

def secWrite (p : Port) (o : Nat) (v : Word) (s : State) : State :=
  match o with
  | 0x20 => loginWrite p v s
  | 0xA0 => if bits v 1 0 = 1 then lcField s else if bits v 1 0 = 2 then lcRma s else s
  | 0xA4 => debugWrite v s
  | 0xE0 =>
    let s1 := keyProgram v s
    if v.getLsbD 2 then setAuthReq s1 else s1
  | _ =>
    match entryOf 0x44 8 o, entryOf 0xC0 8 o, entryOf 0xE4 8 o with
    | some i, _, _ => s.setLogin p { s.login p with resp := put 0 (s.login p).resp i v }
    | _, some i, _ => { s with sec := { s.sec with tok := put 0 s.sec.tok i v } }
    | _, _, some i => { s with sec := { s.sec with keyData := put 0 s.sec.keyData i v } }
    | none, none, none => s

/-! ## HSPI and TEL (R409, R411) -/

def hspiRegWrite (a o : Nat) (v : Word) (s : State) : State :=
  let h := s.host
  match o with
  | 0x00 => { s with host := { h with irqStat := h.irqStat &&& ~~~(v.setWidth 8) } }
  | 0x04 => { s with host := { h with irqEn := v.setWidth 8 } }
  | 0x14 => { s with host := { h with evqSel := v } }
  | 0x100 => { s with net := { s.net with telSel := v.setWidth 6 } }
  | _ => if 0x104 ≤ o ∧ o ≤ 0x130 then refuse a s else s

/-! ## PERTURB (R475) -/

def hookWrite (p : Port) (o : Nat) (v : Word) (s : State) : State :=
  let n := (o - 0x100) / 16
  if o = 0x08 then seedWrite p v s
  else if 0x100 ≤ o ∧ o < 0x200 ∧ o % 16 = 0 then tgtWrite p n v s
  else if 0x100 ≤ o ∧ o < 0x200 ∧ o % 16 = 4 then cfgWrite p n v s
  else s

/-! ## A write -/

/-- A write of one word. -/
def hostWrite (p : Port) (a : Nat) (v : Word) (s : State) : State :=
  let o := a % 0x10000
  if windowBase ≤ a then (if a < windowBase + 0x01000000 then windowWrite a v s else s)
  else match a / 0x10000 with
    | 0x00 => sysWrite a o v s
    | 0x01 => if o = 0x04 then clearLo v s else if o = 0x08 then clearHi v s else s
    | 0x02 => refuse a s
    | 0x03 => refuse a s
    | 0x04 => refuse a s
    | 0x05 => refuse a s
    | 0x06 => refuse a s
    | 0x07 => soutWrite p a o v s
    | 0x08 => afeWrite p a o v s
    | 0x09 => tachWrite p o v s
    | 0x0A => ringWrite p a (o / 0x4000) (o % 0x4000) v s
    | 0x0B => coxWrite p o v s
    | 0x0C => boatWrite o v s
    | 0x0D => pmuWrite p a o v s
    | 0x0E => if 0x100 ≤ o ∧ o < 0x500 then ctxWrite ((o - 0x100) / 64) (o % 64) v s else s
    | 0x0F => if o = 0x0C then bistCmd p v s else s
    | 0x10 => nvmWrite p o v s
    | 0x11 => secWrite p o v s
    | 0x12 => if o = 0x10 then { s with net := { s.net with cntSel := v.setWidth 2 } } else s
    | 0x13 => hspiRegWrite a o v s
    | 0x1F => hookWrite p o v s
    | _ => s

/-- A write of one word, and whether it was refused (R10): the access counter tells. After a request of OFF nothing is left
to write to. -/
def writeJudged (p : Port) (a : Nat) (v : Word) (s : State) : Bool × State :=
  if !s.sys.up then (false, s)
  else
    let t := hostWrite p a v { s with sys := { s.sys with refused := 0 } }
    (decide (t.sys.refused ≠ 0),
     if t.sys.up then { t with sys := { t.sys with refused := satAdd s.sys.refused t.sys.refused.toNat } } else t)

/-- Writes of consecutive words, each carried out in turn; whether one of them was refused (R405). -/
def writeWords (p : Port) : Nat → List Word → State → Bool × State
  | _, [], s => (false, s)
  | a, v :: vs, s =>
    let (r, s1) := writeJudged p a v s
    let (q, s2) := writeWords p (a + 4) vs s1
    (r || q, s2)

def execRegisterWrite (port : Port) (addr : Nat) (value : Word) (s : State) : Host.Outcome State Fault Refusal :=
  run s (hostWrite port addr value)

end Sys2Proof.Machine
end

