-- ==== Sys2Proof/Machine/Proto.lean ====
section
/-!
DEFINITION. The register and bulk protocol over UDP (R404 to R407) and the host SPI port (R408).
-/
namespace Sys2Proof.Machine

open Sys2Proof

/-! ## Responses (R404, R406) -/

/-- The words of a response: header, data, CRC-32C over every preceding byte. -/
def responseWords (op status txn space addr count : Nat) (data : List Word) : List Word :=
  let ws := [pack [(0x5652, 0, 16), (op, 16, 8), (status, 24, 8)], pack [(txn, 0, 16), (space, 16, 8)], BitVec.ofNat 32 addr,
    pack [(count, 0, 16)]] ++ data
  ws ++ [crc32c ws]

def statusOk : Nat := 0
def statusAddr : Nat := 2
def statusRefused : Nat := 3

/-- The response leaves for its peer. -/
def respondUdp (ws : List Word) (s : State) : State :=
  coreUnicast 0 (udpFrame (4 * ws.length)) { s with host := { s.host with resp := ws } }

/-- The bytes of a request before its CRC (R404). -/
def requestBytes (op txn space addr count : Nat) (data : List Byte) : List Byte :=
  leBytes 0x5652 2 ++ leBytes op 1 ++ leBytes 0 1 ++ leBytes txn 2 ++ leBytes space 1 ++ leBytes 0 1 ++ leBytes addr 4 ++
    leBytes count 2 ++ leBytes 0 2 ++ data

/-- The CRC that ends an intact request. -/
def requestCrc (req : List Byte) : Word := crc32cBytes req

/-- The last four responses of a peer are kept. -/
def keepResponse (peer : Nat) (req : List Byte) (ws : List Word) (s : State) : State :=
  let own := s.net.cache.filter (fun e => decide (e.1 = peer))
  let rest := s.net.cache.filter (fun e => decide (e.1 ≠ peer))
  { s with net := { s.net with cache := (peer, req, ws) :: own.take 3 ++ rest } }

/-- The kept response to the same request of the same peer: TAG and bytes are equal (R406). -/
def keptResponse (s : State) (peer : Nat) (req : List Byte) : Option (List Word) :=
  (s.net.cache.find? (fun e => decide (e.1 = peer) && decide (e.2.1 = req))).map (·.2.2)

/-- A request is carried out and answered; a repeated one gets the kept response and is not carried out again, and one that
fails its CRC is discarded without response. Requests are taken from the arming of the NET section on. -/
def request (peer : Nat) (req : List Byte) (crc : Word) (work : State → List Word × State) (s : State) : State :=
  if !s.nvm.armed then s
  else if crc ≠ requestCrc req then moduleCheck 3 false s
  else match keptResponse s peer req with
    | some ws => respondUdp ws s
    | none =>
      let (ws, s1) := work (moduleCheck 3 true s)
      if s1.sys.up then respondUdp ws (keepResponse peer req ws s1) else s1

/-! ## The REG space (R405) -/

/-- The address lies in a block of the host address map or in the waveform window, on a word boundary. -/
def addrListed (a : Nat) : Bool :=
  decide (a % 4 = 0) &&
  (decide (a < 0x00150000) || (decide (0x001F0000 ≤ a) && decide (a < 0x00200000)) ||
   (decide (windowBase ≤ a) && decide (a < windowBase + 0x01000000)))

/-- A range of 1 to 256 words of the map. -/
def rangeOk (a n : Nat) : Bool := decide (1 ≤ n) && decide (n ≤ 256) && addrListed a && addrListed (a + 4 * (n - 1))

def protoRead (peer txn addr count : Nat) (s : State) : List Word × State :=
  if rangeOk addr count then
    let (ws, s1) := readWords (.udp peer) count addr s
    (responseWords 0x01 statusOk txn 0 addr count ws, s1)
  else (responseWords 0x01 statusAddr txn 0 addr count [], s)

def readRequest (txn addr count : Nat) : List Byte := requestBytes 0x01 txn 0 addr count []

def execRegProtoRead (peer : Nat) (q : ReqTag) (addr count : Nat) (s : State) : Host.Outcome State Fault Refusal :=
  run s (request peer (readRequest q.txn addr count) q.crc (protoRead peer q.txn addr count))

def protoWrite (peer txn addr : Nat) (values : List Word) (s : State) : List Word × State :=
  if rangeOk addr values.length then
    let (refused, s1) := writeWords (.udp peer) addr values s
    (responseWords 0x02 (if refused then statusRefused else statusOk) txn 0 addr values.length [], s1)
  else (responseWords 0x02 statusAddr txn 0 addr values.length [], s)

def writeRequest (txn addr : Nat) (values : List Word) : List Byte :=
  requestBytes 0x02 txn 0 addr values.length (values.flatMap (fun w => leBytes w.toNat 4))

def execRegProtoWrite (peer : Nat) (q : ReqTag) (addr : Nat) (values : List Word) (s : State) : Host.Outcome State Fault Refusal :=
  run s (request peer (writeRequest q.txn addr values) q.crc (protoWrite peer q.txn addr values))

/-! ## The LOG space: the export of the change log (R304, R361, R405) -/

/-- The slots that hold something, oldest area first. -/
def logSlots (n : Nvm) : List (Nat × Nat) :=
  let other := if areaOk n (1 - n.logArea) then (List.range 8192).map (fun i => (1 - n.logArea, i)) else []
  (other ++ (List.range n.logNext).map (fun i => (n.logArea, i))).filter (fun e => !slotBlank n e.1 e.2)

/-- The slots from the entry with a number onward. -/
def slotsFrom (n : Nvm) (seq : Nat) : List (Nat × Nat) :=
  (logSlots n).dropWhile (fun e => !(slotOk n e.1 e.2 && decide (field (slotBytes n e.1 e.2) 0 4 = seq)))

/-- An exported entry: its sixteen words, then the status word with the BAD flag. -/
def exportEntry (n : Nvm) (e : Nat × Nat) : List Word :=
  (List.range 16).map (wordOf (slotBytes n e.1 e.2)) ++ [if slotOk n e.1 e.2 then 0 else 1]

def protoBulkRead (txn index count : Nat) (s : State) : List Word × State :=
  let n := s.nvm
  let got := (slotsFrom n index).take count
  if n.logReady && decide (1 ≤ count) && decide (count ≤ 16) && !got.isEmpty then
    (responseWords 0x03 statusOk txn 1 index got.length (got.flatMap (exportEntry n)),
     got.foldl (fun t e => moduleCheck 2 (slotOk n e.1 e.2) t) s)
  else (responseWords 0x03 statusAddr txn 1 index count [], s)

def bulkReadRequest (txn index count : Nat) : List Byte := requestBytes 0x03 txn 1 index count []

def execRegProtoBulkRead (peer : Nat) (q : ReqTag) (index count : Nat) (s : State) : Host.Outcome State Fault Refusal :=
  run s (request peer (bulkReadRequest q.txn index count) q.crc (protoBulkRead q.txn index count))

/-! ## The IMAGE space (R354, R405) -/

def protoBulkWrite (txn offset : Nat) (bytes : List Byte) (s : State) : List Word × State :=
  if offset % 256 = 0 ∧ 4 ≤ bytes.length ∧ bytes.length ≤ 1024 then
    let (ok, s1) := bulkData offset bytes s
    (responseWords 0x04 (if ok then statusOk else statusRefused) txn 2 offset bytes.length [], s1)
  else (responseWords 0x04 statusAddr txn 2 offset bytes.length [], s)

def bulkWriteRequest (txn offset : Nat) (bytes : List Byte) : List Byte := requestBytes 0x04 txn 2 offset bytes.length bytes

def execRegProtoBulkWrite (peer : Nat) (q : ReqTag) (offset : Nat) (bytes : List Byte) (s : State) : Host.Outcome State Fault Refusal :=
  run s (request peer (bulkWriteRequest q.txn offset bytes) q.crc (protoBulkWrite q.txn offset bytes))

/-! ## Subscriptions (R407) -/

/-- Up to four peers subscribe to events. -/
def protoSubscribe (peer txn : Nat) (s : State) : List Word × State :=
  if s.net.subs.contains peer then (responseWords 0x10 statusOk txn 0 0 0 [], s)
  else if s.net.subs.length < 4 then
    (responseWords 0x10 statusOk txn 0 0 0 [], { s with net := { s.net with subs := s.net.subs ++ [peer] } })
  else (responseWords 0x10 statusRefused txn 0 0 0 [], s)

def execRegProtoSubscribe (peer : Nat) (q : ReqTag) (s : State) : Host.Outcome State Fault Refusal :=
  run s (request peer (requestBytes 0x10 q.txn 0 0 0 []) q.crc (protoSubscribe peer q.txn))

def protoUnsubscribe (peer txn : Nat) (s : State) : List Word × State :=
  (responseWords 0x11 statusOk txn 0 0 0 [], { s with net := { s.net with subs := s.net.subs.filter (fun p => decide (p ≠ peer)) } })

def execRegProtoUnsubscribe (peer : Nat) (q : ReqTag) (s : State) : Host.Outcome State Fault Refusal :=
  run s (request peer (requestBytes 0x11 q.txn 0 0 0 []) q.crc (protoUnsubscribe peer q.txn))

/-! ## Host SPI (R408) -/

/-- What the host sends before any data: the command, the address and COUNT − 1 (R408). -/
def spiHead (cmd addr count : Nat) : List Byte :=
  [BitVec.ofNat 8 cmd] ++ beBytes (BitVec.ofNat 32 addr) ++ (leBytes (count - 1) 2).reverse

/-- The CRC of a transaction, over every byte in wire order. -/
def spiCrc (bytes : List Byte) : Word := crc32cBytes bytes

def wireBytes (ws : List Word) : List Byte := ws.flatMap beBytes

/-- The CRC that ends a WRITE. -/
def spiWriteCrc (addr : Nat) (values : List Word) : Word := spiCrc (spiHead 0x02 addr values.length ++ wireBytes values)

/-- Wait bytes, at most 64, then what follows them; how many there are is not stated. -/
def spiSends (bytes : List Byte) (s : State) : State :=
  let (w, s1) := fresh s
  { s1 with host := { s1.host with miso := List.replicate (w.toNat % 65) 0 ++ bytes } }

/-- A READ of 1 to 256 words: the module sends wait bytes, 0xA5, the data words and the CRC over every byte of the
transaction. -/
def spiRead (addr count : Nat) (s : State) : State :=
  let (ws, s1) := readWords .spi count addr s
  let s2 := spiSends (0xA5 :: wireBytes ws) { s1 with host := { s1.host with resp := ws } }
  { s2 with host := { s2.host with miso := s2.host.miso ++ beBytes (spiCrc (spiHead 0x0B addr count ++ s2.host.miso)) } }

def execHspiRead (addr count : Nat) (s : State) : Host.Outcome State Fault Refusal :=
  run s (fun s => whenever (decide (1 ≤ count) && decide (count ≤ 256)) (spiRead addr count) s)

/-- A WRITE is applied only when its CRC matches; the status byte follows the wait bytes. -/
def spiWrite (addr : Nat) (values : List Word) (crc : Word) (s : State) : State :=
  if crc = spiWriteCrc addr values then
    let (refused, s1) := writeWords .spi addr values (moduleCheck 3 true s)
    if s1.sys.up then
      let st := if refused then 0x3C else 0x5A
      spiSends [BitVec.ofNat 8 st] { s1 with host := { s1.host with resp := [BitVec.ofNat 32 st] } }
    else s1
  else
    let s1 := moduleCheck 3 false s
    spiSends [0xC3] { s1 with net := { s1.net with hspiCrc := if s.net.hspiCrc = 0xFFFF then 0xFFFF else s.net.hspiCrc + 1 },
                              host := { s1.host with resp := [0xC3] } }

def execHspiWrite (addr : Nat) (values : List Word) (crc : Word) (s : State) : Host.Outcome State Fault Refusal :=
  run s (fun s => whenever (decide (1 ≤ values.length) && decide (values.length ≤ 256)) (spiWrite addr values crc) s)

/-- CS_N rises before the end, or the module ends the transaction: nothing is carried out. -/
def spiAbort (s : State) : State :=
  { s with net := { s.net with hspiAbort := if s.net.hspiAbort = 0xFFFF then 0xFFFF else s.net.hspiAbort + 1 } }

def execHspiAbort (s : State) : Host.Outcome State Fault Refusal := run s spiAbort

end Sys2Proof.Machine
end

