-- ==== Sys2Proof/Machine/Dispatch.lean ====
section
/-!
DEFINITION. One arm per command: each calls the command's meaning.
-/
namespace Sys2Proof.Machine

open Sys2Proof

def exec (i : Instr) (s : State) : Host.Outcome State Fault Refusal :=
  match i with
  | .safetyCycleBoundary => Sys2Proof.Machine.execSafetyCycleBoundary s
  | .laneInputImage lane a => Sys2Proof.Machine.execLaneInputImage lane a s
  | .tonExpiry lane blk => Sys2Proof.Machine.execTonExpiry lane blk s
  | .tofExpiry lane blk => Sys2Proof.Machine.execTofExpiry lane blk s
  | .tpPulseExpiry lane blk => Sys2Proof.Machine.execTpPulseExpiry lane blk s
  | .discTimeout lane blk => Sys2Proof.Machine.execDiscTimeout lane blk s
  | .muteTimeout lane blk => Sys2Proof.Machine.execMuteTimeout lane blk s
  | .muteLamp lane blk => Sys2Proof.Machine.execMuteLamp lane blk s
  | .lockFb lane blk => Sys2Proof.Machine.execLockFb lane blk s
  | .standstillReached lane blk => Sys2Proof.Machine.execStandstillReached lane blk s
  | .tachMissing lane blk => Sys2Proof.Machine.execTachMissing lane blk s
  | .speedDisc lane blk => Sys2Proof.Machine.execSpeedDisc lane blk s
  | .edmTimeout lane blk => Sys2Proof.Machine.execEdmTimeout lane blk s
  | .resetOpenHistory lane blk => Sys2Proof.Machine.execResetOpenHistory lane blk s
  | .resetStuck lane blk => Sys2Proof.Machine.execResetStuck lane blk s
  | .vibSegmentEnd lane blk => Sys2Proof.Machine.execVibSegmentEnd lane blk s
  | .vibDisc lane blk => Sys2Proof.Machine.execVibDisc lane blk s
  | .evaluationOverrun lane => Sys2Proof.Machine.execEvaluationOverrun lane s
  | .lockstepMismatch lane => Sys2Proof.Machine.execLockstepMismatch lane s
  | .laneUncorrectableEcc lane => Sys2Proof.Machine.execLaneUncorrectableEcc lane s
  | .laneConfigPassComplete lane ok => Sys2Proof.Machine.execLaneConfigPassComplete lane ok s
  | .seatVoteFrame lane onTime intact => Sys2Proof.Machine.execSeatVoteFrame lane onTime intact s
  | .voteDeadline => Sys2Proof.Machine.execVoteDeadline s
  | .rotationInstant => Sys2Proof.Machine.execRotationInstant s
  | .scullTimeout => Sys2Proof.Machine.execScullTimeout s
  | .twoOarLimit => Sys2Proof.Machine.execTwoOarLimit s
  | .failureWindowExpiry lane => Sys2Proof.Machine.execFailureWindowExpiry lane s
  | .spareAbortCommand lane => Sys2Proof.Machine.execSpareAbortCommand lane s
  | .spareAbortComplete lane => Sys2Proof.Machine.execSpareAbortComplete lane s
  | .stateCopyFrame lane intact last => Sys2Proof.Machine.execStateCopyFrame lane intact last s
  | .catchUpEvaluationEnd lane => Sys2Proof.Machine.execCatchUpEvaluationEnd lane s
  | .segmentRecheckComplete lane ok => Sys2Proof.Machine.execSegmentRecheckComplete lane ok s
  | .lastResetFrame endpoint src who => Sys2Proof.Machine.execLastResetFrame endpoint src who s
  | .fabricFrameReceive port words wait => Sys2Proof.Machine.execFabricFrameReceive port words wait s
  | .linkFail link => Sys2Proof.Machine.execLinkFail link s
  | .creditTimeoutDiscard port => Sys2Proof.Machine.execCreditTimeoutDiscard port s
  | .inputFilterChange n => Sys2Proof.Machine.execInputFilterChange n s
  | .lorOpenHistory => Sys2Proof.Machine.execLorOpenHistory s
  | .testPulseBegin k => Sys2Proof.Machine.execTestPulseBegin k s
  | .testPulseWindowEnd k => Sys2Proof.Machine.execTestPulseWindowEnd k s
  | .tpOverload k => Sys2Proof.Machine.execTpOverload k s
  | .vfldLowWarning v => Sys2Proof.Machine.execVfldLowWarning v s
  | .vfldSag v => Sys2Proof.Machine.execVfldSag v s
  | .vfldMissing v => Sys2Proof.Machine.execVfldMissing v s
  | .vfldRecovery v => Sys2Proof.Machine.execVfldRecovery v s
  | .outputPulseBegin k => Sys2Proof.Machine.execOutputPulseBegin k s
  | .outputPulseEnd k => Sys2Proof.Machine.execOutputPulseEnd k s
  | .outShortVfld k => Sys2Proof.Machine.execOutShortVfld k s
  | .outStuckOff k => Sys2Proof.Machine.execOutStuckOff k s
  | .outOverload k => Sys2Proof.Machine.execOutOverload k s
  | .outOpenLoad k => Sys2Proof.Machine.execOutOpenLoad k s
  | .outDiagClear k => Sys2Proof.Machine.execOutDiagClear k s
  | .grpOvercurrent g => Sys2Proof.Machine.execGrpOvercurrent g s
  | .grpOvertemp g => Sys2Proof.Machine.execGrpOvertemp g s
  | .groupShutdownComplete g => Sys2Proof.Machine.execGroupShutdownComplete g s
  | .outputWatchdogTrip => Sys2Proof.Machine.execOutputWatchdogTrip s
  | .outputWatchdogRelease => Sys2Proof.Machine.execOutputWatchdogRelease s
  | .cioCommandFrame src mask value => Sys2Proof.Machine.execCioCommandFrame src mask value s
  | .cioHeartbeatFrame src => Sys2Proof.Machine.execCioHeartbeatFrame src s
  | .cioSilent n => Sys2Proof.Machine.execCioSilent n s
  | .cioOverload n => Sys2Proof.Machine.execCioOverload n s
  | .cioShortVfld n => Sys2Proof.Machine.execCioShortVfld n s
  | .cioCmdValueWrite port value => Sys2Proof.Machine.execCioCmdValueWrite port value s
  | .cioHeartbeatWrite port value => Sys2Proof.Machine.execCioHeartbeatWrite port value s
  | .afeFullRateFrame ch stamp samples => Sys2Proof.Machine.execAfeFullRateFrame ch stamp samples s
  | .afeDecimatedSample ch tick bias => Sys2Proof.Machine.execAfeDecimatedSample ch tick bias s
  | .ainOpen ch => Sys2Proof.Machine.execAinOpen ch s
  | .ainShort ch => Sys2Proof.Machine.execAinShort ch s
  | .ainSettlingComplete ch => Sys2Proof.Machine.execAinSettlingComplete ch s
  | .afeCalRequest port ch => Sys2Proof.Machine.execAfeCalRequest port ch s
  | .afeCalComplete ch tick => Sys2Proof.Machine.execAfeCalComplete ch tick s
  | .afeChannelEnable port ch => Sys2Proof.Machine.execAfeChannelEnable port ch s
  | .afeChannelDisable port ch => Sys2Proof.Machine.execAfeChannelDisable port ch s
  | .afeShutdownComplete ch => Sys2Proof.Machine.execAfeShutdownComplete ch s
  | .tachCountedEdge t run => Sys2Proof.Machine.execTachCountedEdge t run s
  | .tachCmpWrite writer t k value => Sys2Proof.Machine.execTachCmpWrite writer t k value s
  | .tachStepWrite writer t k value => Sys2Proof.Machine.execTachStepWrite writer t k value s
  | .tachEnable port t => Sys2Proof.Machine.execTachEnable port t s
  | .tachDisable port t => Sys2Proof.Machine.execTachDisable port t s
  | .ringSuperframeStart r tick => Sys2Proof.Machine.execRingSuperframeStart r tick s
  | .ringFrameReceive r f => Sys2Proof.Machine.execRingFrameReceive r f s
  | .ringReportReceive r rep => Sys2Proof.Machine.execRingReportReceive r rep s
  | .ringReplyReceive r addr arr words => Sys2Proof.Machine.execRingReplyReceive r addr arr words s
  | .ringAnnounceReceive r node => Sys2Proof.Machine.execRingAnnounceReceive r node s
  | .ringBurstFrameReceive r addr part samples => Sys2Proof.Machine.execRingBurstFrameReceive r addr part samples s
  | .ringSlotFail r addr => Sys2Proof.Machine.execRingSlotFail r addr s
  | .nodeBeacon uid b => Sys2Proof.Machine.execNodeBeacon uid b s
  | .nodeDiscover r d => Sys2Proof.Machine.execNodeDiscover r d s
  | .nodeAssign node target addr interval phase => Sys2Proof.Machine.execNodeAssign node target addr interval phase s
  | .nodeIdent node => Sys2Proof.Machine.execNodeIdent node s
  | .nodeBurst node rate count => Sys2Proof.Machine.execNodeBurst node rate count s
  | .nodeBurstAbort node => Sys2Proof.Machine.execNodeBurstAbort node s
  | .nodePark node target => Sys2Proof.Machine.execNodePark node target s
  | .nodeRelease node => Sys2Proof.Machine.execNodeRelease node s
  | .nodeReportWindow uid r => Sys2Proof.Machine.execNodeReportWindow uid r s
  | .nodeBeaconLoss uid => Sys2Proof.Machine.execNodeBeaconLoss uid s
  | .lossOfSignal r rx => Sys2Proof.Machine.execLossOfSignal r rx s
  | .ringBreak r => Sys2Proof.Machine.execRingBreak r s
  | .ringClosed r => Sys2Proof.Machine.execRingClosed r s
  | .ringDown r => Sys2Proof.Machine.execRingDown r s
  | .nodeLost r addr => Sys2Proof.Machine.execNodeLost r addr s
  | .nodeStale r addr => Sys2Proof.Machine.execNodeStale r addr s
  | .ringBurstRequest r b => Sys2Proof.Machine.execRingBurstRequest r b s
  | .ringBurstCmdWrite port r value => Sys2Proof.Machine.execRingBurstCmdWrite port r value s
  | .ringEnable port r => Sys2Proof.Machine.execRingEnable port r s
  | .ringDisable port r => Sys2Proof.Machine.execRingDisable port r s
  | .ringShutdownComplete r => Sys2Proof.Machine.execRingShutdownComplete r s
  | .periodicRelease t => Sys2Proof.Machine.execPeriodicRelease t s
  | .taskTrigger t f => Sys2Proof.Machine.execTaskTrigger t f s
  | .coxDispatch => Sys2Proof.Machine.execCoxDispatch s
  | .done core => Sys2Proof.Machine.execDone core s
  | .yield core => Sys2Proof.Machine.execYield core s
  | .send core cls words room => Sys2Proof.Machine.execSend core cls words room s
  | .sendBufferRoom core => Sys2Proof.Machine.execSendBufferRoom core s
  | .pageReq core => Sys2Proof.Machine.execPageReq core s
  | .pageFree core ref => Sys2Proof.Machine.execPageFree core ref s
  | .copy core c => Sys2Proof.Machine.execCopy core c s
  | .copyComplete core => Sys2Proof.Machine.execCopyComplete core s
  | .copyWait core => Sys2Proof.Machine.execCopyWait core s
  | .time core => Sys2Proof.Machine.execTime core s
  | .pmuRead core idx => Sys2Proof.Machine.execPmuRead core idx s
  | .lvtRead core r addr => Sys2Proof.Machine.execLvtRead core r addr s
  | .coxOverrun t => Sys2Proof.Machine.execCoxOverrun t s
  | .coxMemfault core => Sys2Proof.Machine.execCoxMemfault core s
  | .dspEcc core => Sys2Proof.Machine.execDspEcc core s
  | .taskDisable port t => Sys2Proof.Machine.execTaskDisable port t s
  | .taskEnable port t => Sys2Proof.Machine.execTaskEnable port t s
  | .taskReload port t => Sys2Proof.Machine.execTaskReload port t s
  | .coreEnable port core => Sys2Proof.Machine.execCoreEnable port core s
  | .coreDisable port core => Sys2Proof.Machine.execCoreDisable port core s
  | .coreShutdownComplete core => Sys2Proof.Machine.execCoreShutdownComplete core s
  | .pmuCounterWrap core k => Sys2Proof.Machine.execPmuCounterWrap core k s
  | .pmuSnap port => Sys2Proof.Machine.execPmuSnap port s
  | .pmuFreeze port on => Sys2Proof.Machine.execPmuFreeze port on s
  | .boatPageRequest reqs => Sys2Proof.Machine.execBoatPageRequest reqs s
  | .evictionComplete => Sys2Proof.Machine.execEvictionComplete s
  | .pageScrubComplete page => Sys2Proof.Machine.execPageScrubComplete page s
  | .afeCaptureRequest src w0 w1 => Sys2Proof.Machine.execAfeCaptureRequest src w0 w1 s
  | .boatHostCapWrite port value => Sys2Proof.Machine.execBoatHostCapWrite port value s
  | .streamFrameWrite ch intact => Sys2Proof.Machine.execStreamFrameWrite ch intact s
  | .boatHostFreeWrite port ref => Sys2Proof.Machine.execBoatHostFreeWrite port ref s
  | .boatWindowWrite port addr value => Sys2Proof.Machine.execBoatWindowWrite port addr value s
  | .boatEcc e => Sys2Proof.Machine.execBoatEcc e s
  | .alarmEntryUpdate entry => Sys2Proof.Machine.execAlarmEntryUpdate entry s
  | .crcStart port ctx => Sys2Proof.Machine.execCrcStart port ctx s
  | .crcCheck port ctx => Sys2Proof.Machine.execCrcCheck port ctx s
  | .crcDinWrite port ctx value => Sys2Proof.Machine.execCrcDinWrite port ctx value s
  | .crcValueWrite port ctx value => Sys2Proof.Machine.execCrcValueWrite port ctx value s
  | .crcKatRun ok => Sys2Proof.Machine.execCrcKatRun ok s
  | .umpireErrorLatch => Sys2Proof.Machine.execUmpireErrorLatch s
  | .handlingWindowClose => Sys2Proof.Machine.execHandlingWindowClose s
  | .umpSelfCheck pass => Sys2Proof.Machine.execUmpSelfCheck pass s
  | .groupMonitorSelfCheck g pass => Sys2Proof.Machine.execGroupMonitorSelfCheck g pass s
  | .fieldDieSelfCheck pass => Sys2Proof.Machine.execFieldDieSelfCheck pass s
  | .umpStatusLoClear port bits => Sys2Proof.Machine.execUmpStatusLoClear port bits s
  | .umpStatusHiClear port bits => Sys2Proof.Machine.execUmpStatusHiClear port bits s
  | .bistSliceRequest lane => Sys2Proof.Machine.execBistSliceRequest lane s
  | .coreSliceDue => Sys2Proof.Machine.execCoreSliceDue s
  | .bistSliceStart unit ctrlOk => Sys2Proof.Machine.execBistSliceStart unit ctrlOk s
  | .bistSliceComplete unit applied segOk misr => Sys2Proof.Machine.execBistSliceComplete unit applied segOk misr s
  | .bistSliceTimeout unit => Sys2Proof.Machine.execBistSliceTimeout unit s
  | .bistCmdWrite port value => Sys2Proof.Machine.execBistCmdWrite port value s
  | .vsysGood => Sys2Proof.Machine.execVsysGood s
  | .nvmControllerStart f => Sys2Proof.Machine.execNvmControllerStart f s
  | .nvmFail atBoot => Sys2Proof.Machine.execNvmFail atBoot s
  | .fullPassComplete => Sys2Proof.Machine.execFullPassComplete s
  | .laneConfigLoad lane ok => Sys2Proof.Machine.execLaneConfigLoad lane ok s
  | .fieldPartLoad => Sys2Proof.Machine.execFieldPartLoad s
  | .logScanComplete => Sys2Proof.Machine.execLogScanComplete s
  | .cfgOpen port value => Sys2Proof.Machine.execCfgOpen port value s
  | .cfgCommit port value => Sys2Proof.Machine.execCfgCommit port value s
  | .cfgCancel port => Sys2Proof.Machine.execCfgCancel port s
  | .flashOperationComplete ok => Sys2Proof.Machine.execFlashOperationComplete ok s
  | .cmPersistStart => Sys2Proof.Machine.execCmPersistStart s
  | .logAckWrite port value => Sys2Proof.Machine.execLogAckWrite port value s
  | .logAreaEraseComplete => Sys2Proof.Machine.execLogAreaEraseComplete s
  | .sealInputChange a b => Sys2Proof.Machine.execSealInputChange a b s
  | .sealDisc => Sys2Proof.Machine.execSealDisc s
  | .loginChallenge port slot => Sys2Proof.Machine.execLoginChallenge port slot s
  | .loginRespond port slot => Sys2Proof.Machine.execLoginRespond port slot s
  | .logout port => Sys2Proof.Machine.execLogout port s
  | .nonceExpiry port => Sys2Proof.Machine.execNonceExpiry port s
  | .sessionTimeout port => Sys2Proof.Machine.execSessionTimeout port s
  | .slotLockEnd slot => Sys2Proof.Machine.execSlotLockEnd slot s
  | .passwordClassChange port c => Sys2Proof.Machine.execPasswordClassChange port c s
  | .lcField port => Sys2Proof.Machine.execLcField port s
  | .lcRma port => Sys2Proof.Machine.execLcRma port s
  | .dbgChallenge port => Sys2Proof.Machine.execDbgChallenge port s
  | .openCm port => Sys2Proof.Machine.execOpenCm port s
  | .openFull port => Sys2Proof.Machine.execOpenFull port s
  | .dbgClose port => Sys2Proof.Machine.execDbgClose port s
  | .keyProgram port value => Sys2Proof.Machine.execKeyProgram port value s
  | .setAuthReq port => Sys2Proof.Machine.execSetAuthReq port s
  | .pwrReqRun port => Sys2Proof.Machine.execPwrReqRun port s
  | .pwrReqReduced port => Sys2Proof.Machine.execPwrReqReduced port s
  | .pwrReqHold port => Sys2Proof.Machine.execPwrReqHold port s
  | .pwrReqOff port => Sys2Proof.Machine.execPwrReqOff port s
  | .ethFrameReceive inPort f => Sys2Proof.Machine.execEthFrameReceive inPort f s
  | .macAgeOut mac => Sys2Proof.Machine.execMacAgeOut mac s
  | .phyPoll p link speed => Sys2Proof.Machine.execPhyPoll p link speed s
  | .telegramDatagram peer bytes => Sys2Proof.Machine.execTelegramDatagram peer bytes s
  | .telegramFrameArrival lane conn bytes => Sys2Proof.Machine.execTelegramFrameArrival lane conn bytes s
  | .telWatchdog lane blk => Sys2Proof.Machine.execTelWatchdog lane blk s
  | .telOutSend lane blk => Sys2Proof.Machine.execTelOutSend lane blk s
  | .outboundTelegram conn => Sys2Proof.Machine.execOutboundTelegram conn s
  | .ptpMessage src m => Sys2Proof.Machine.execPtpMessage src m s
  | .ptpLost => Sys2Proof.Machine.execPtpLost s
  | .ppsSecond => Sys2Proof.Machine.execPpsSecond s
  | .regProtoRead peer q addr count => Sys2Proof.Machine.execRegProtoRead peer q addr count s
  | .regProtoWrite peer q addr values => Sys2Proof.Machine.execRegProtoWrite peer q addr values s
  | .regProtoBulkRead peer q index count => Sys2Proof.Machine.execRegProtoBulkRead peer q index count s
  | .regProtoBulkWrite peer q offset bytes => Sys2Proof.Machine.execRegProtoBulkWrite peer q offset bytes s
  | .regProtoSubscribe peer q => Sys2Proof.Machine.execRegProtoSubscribe peer q s
  | .regProtoUnsubscribe peer q => Sys2Proof.Machine.execRegProtoUnsubscribe peer q s
  | .hspiRead addr count => Sys2Proof.Machine.execHspiRead addr count s
  | .hspiWrite addr values crc => Sys2Proof.Machine.execHspiWrite addr values crc s
  | .hspiAbort => Sys2Proof.Machine.execHspiAbort s
  | .clockSupervisorWindow ch count => Sys2Proof.Machine.execClockSupervisorWindow ch count s
  | .pllLockLoss b => Sys2Proof.Machine.execPllLockLoss b s
  | .vsysFault v => Sys2Proof.Machine.execVsysFault v s
  | .vsysRecovered v => Sys2Proof.Machine.execVsysRecovered v s
  | .brownOut => Sys2Proof.Machine.execBrownOut s
  | .railOutOfRange v => Sys2Proof.Machine.execRailOutOfRange v s
  | .sysRstN => Sys2Proof.Machine.execSysRstN s
  | .mcoreWd => Sys2Proof.Machine.execMcoreWd s
  | .dieTempRead temps => Sys2Proof.Machine.execDieTempRead temps s
  | .perturbTgtWrite port n value => Sys2Proof.Machine.execPerturbTgtWrite port n value s
  | .perturbCfgWrite port n value => Sys2Proof.Machine.execPerturbCfgWrite port n value s
  | .perturbSeedWrite port value => Sys2Proof.Machine.execPerturbSeedWrite port value s
  | .perturbRelease hook => Sys2Proof.Machine.execPerturbRelease hook s
  | .latchingRead port addr => Sys2Proof.Machine.execLatchingRead port addr s
  | .clearingRead port addr => Sys2Proof.Machine.execClearingRead port addr s
  | .registerWrite port addr value => Sys2Proof.Machine.execRegisterWrite port addr value s
  | .samplingInstant r => Sys2Proof.Machine.execSamplingInstant r s
  | .sysRstNRelease => Sys2Proof.Machine.execSysRstNRelease s
  | .coreHalt core step => Sys2Proof.Machine.execCoreHalt core step s
  | .coreHaltRelease core => Sys2Proof.Machine.execCoreHaltRelease core s
  | .ptpSyncInterval => Sys2Proof.Machine.execPtpSyncInterval s
  | .spreadRampComplete => Sys2Proof.Machine.execSpreadRampComplete s
  | .signalReturn r rx => Sys2Proof.Machine.execSignalReturn r rx s

end Sys2Proof.Machine
end

