-- ==== Sys2Proof/Safety.lean ====
section
/-!
DEFINITION. What claims speak of: invariants of the module, and the conditions and changes that the statements about
commands name.
-/
namespace Sys2Proof

open Sys2Proof.Machine

/-! ## Lanes and their blocks -/

/-- Lane `l` evaluates its graph in this cycle, without a fault of its own, and block `blk` of the graph is `b` in the
state `st`. -/
def Evaluating (s : State) (l : Lane) (blk : Nat) (b : Block) (st : BlockState) : Prop :=
  s.sys.up = true ∧ ((s.laneD l).image.bind (fun img => img.graph[blk]?)) = some b ∧
  look .none (s.laneD l).blocks blk = st ∧ (s.laneD l).faulty = none ∧ evaluates s l = true

/-- Block `blk` of lane `l` goes to state `st`, its outputs change by `g`; nothing else changes. -/
def blockAfter (l : Lane) (blk : Nat) (st : BlockState) (g : List Val → List Val) (s : State) : State :=
  s.setLane l { s.laneD l with
    blocks := put .none (s.laneD l).blocks blk st
    sig := put [] (s.laneD l).sig blk (g (look [] (s.laneD l).sig blk)) }

/-- What an event of a block of lane `l` is judged with: the frozen image of the present cycle, and the lane's last signals. -/
def evCtx (s : State) (l : Lane) : Ctx := eventCtx l ((s.laneD l).image.getD {}) s

/-- A pair measures a discrepancy whose elapsed count is N_d + 1 or more, and holds no fault (R88). -/
def PairLate (cycle nd : Nat) (p : PairSt) : Prop :=
  ∃ c0 first, p.meas = some (c0, first) ∧ nd + 1 ≤ cycle - c0 ∧ p.held = []

/-- A pair in DISC_TIMEOUT since `cycle` (R88). -/
def pairTimedOut (cycle : Nat) : PairSt := { agreed := false, meas := none, held := [⟨codeDiscTimeout, cycle⟩] }

/-- A block that holds no fault with `code`. -/
def Unheld (code : Nat) (st : BlockState) : Prop := ∀ h ∈ blockHeld st, h.code ≠ code

/-- The withdraw generator of lane `l` sends its frame, KIND 0xFF with the cause, under the vote identity of the lane (R48). -/
def withdrawSent (l : Lane) (cause : Nat) (s : State) : State :=
  laneFrame l 0x300 8 [pack [(cause, 0, 8), (0xFF, 24, 8)]] (s.setLane l { s.laneD l with out := .withdraw cause })

/-- Lane `l` flags itself faulty with a cause: its withdraw generator takes the vote transmitter over, and it reports
LANE_WITHDRAW (R47, R48). -/
def withdrawn (l : Lane) (cause : Nat) (s : State) : State :=
  laneReport l codeLaneWithdraw cause (withdrawSent l cause (s.setLane l { s.laneD l with faulty := some cause }))

/-- The vote transmitter of lane `l` sends a vote: four data words under the vote identity of the lane (R49). -/
def voteSent (l : Lane) (v : Vote) (s : State) : State :=
  laneFrame l 0x300 8 [v.w0, v.w1, v.w2, v.w3] (s.setLane l { s.laneD l with out := .vote v })

/-- An image frame that passes its checks, with a lane clock count in range and no invalid dual-rail code (R18, R47, R418). -/
def GoodImage (a : ImageArrival) : Prop := a.intact = true ∧ 49000 ≤ a.lclk ∧ a.lclk ≤ 50500 ∧ a.badRead = false

/-! ## Seats -/

/-- The seats drive outputs: every state but START and LOCKOUT (R55). -/
def SeatsDrive (s : State) : Prop := s.seat.state ≠ .start ∧ s.seat.state ≠ .lockout

/-- A lane withdraws in this cycle, or its vote has not arrived in time and intact (R50). -/
def Gone (s : State) (l : Lane) : Prop := ∀ v, (s.mgr l).rx ≠ .vote v

/-- Step 6 of this cycle is still to come on a running module whose field die has its clocks (R18, R419). -/
def StepSixDue (s : State) : Prop := s.sys.up = true ∧ s.seat.judged = false ∧ seatFrozen s = false

/-- The seat manager is in the lock-out fault state, and at the next boundary no lane holds a seat. -/
def LockedOut (t : State) : Prop := t.seat.state = .lockout ∧ t.seat.due = some (none, none, none)

/-! ## Inputs, outputs, supplies and pins -/

/-- The outputs and output pins of group `g` are off (R164). -/
def GroupOff (t : State) (g : Group) : Prop :=
  (t.group g).good = false ∧ (∀ k, soGroup k = g → energised t k = false) ∧ (∀ n, cioGroup n = g → pinDriven t n = false)

/-- A report with `code` has set out on `line` (R307); the other changes are within the field die. -/
def FieldReport (line code : Nat) (s t : State) : Prop := ∃ f detail, t = report line code detail { s with fld := f }

/-- The changes are within the field die, and those that reports make on their way to the Umpire. -/
def FieldAndReports (s t : State) : Prop :=
  t = { s with fld := t.fld, ump := t.ump, fab := t.fab, hook := t.hook, host := t.host, net := t.net, fresh := t.fresh }

/-! ## Telegrams and the fabric -/

/-- No hook meets a frame of source `src` and class `cls` (R469). -/
def Unhooked (s : State) (src cls : Nat) : Prop := routeHook s src cls = none

/-- The telegram frame lane `o` has sent for a connection and the management core has not dealt with. -/
def telegramOf (s : State) (conn : Nat) : Option Lane → Nat × List Byte
  | some l => look (0, []) (s.laneD l).telOut conn
  | none => (0, [])

/-- The lanes' telegram frames of a connection have been dealt with. -/
def telegramsTaken (conn : Nat) (s : State) : State :=
  [Lane.l1, Lane.l2, Lane.l3].foldl (fun t l =>
    t.setLane l { t.laneD l with telOut := put (0, []) (t.laneD l).telOut conn (0, []) }) s

/-- A word that passes its check has arrived at port `p` (R27). -/
def wordSeen (p : Nat) (s : State) : State :=
  { s with fab := { s.fab with portGood := s.fab.portGood ||| BitVec.ofNat 32 (1 <<< p) } }

/-! ## Password-class changes, analog channels and timers -/

/-- The next slot of the log is blank in a flash in its canonical form: an entry programmed there reads back (R360). -/
def NextSlotBlank (n : Nvm) : Prop := wf (0xFF : Byte) n.mem = true ∧ ∀ i, i < 64 → flashAt n (nextSlot n + i) = 0xFF

/-- A password-class request of port `p` that needs `right` is admitted: the right is held and the log can take its entry
(R369, R372, R360). -/
def Admitted (s : State) (p : Port) (right : Nat) : Prop :=
  hasRight s p right = true ∧ s.nvm.logReady = true ∧ katBlocks s = false ∧ logFull s.nvm = false ∧ s.nvm.wp = false ∧
  NextSlotBlank s.nvm

/-- The session is renewed and the log entry of an operational change stands in flash (R360, R370). -/
def opLogged (p : Port) (addr : Nat) (old new : List Word) (s : State) : State :=
  logAppend (slotOf s p) 2 addr old new 0 (touchSession p s)

/-- A password-class request is refused (R372): the session is renewed, the refusal counted and raised. -/
def pwRefused (p : Port) (addr : Nat) (s : State) : State := secRefuse addr codeAccessRefused (touchSession p s)

/-- Channel `ch` is on and its supply flag agrees with VFLD_IN (R180). -/
def Sampling (s : State) (ch : Nat) : Prop :=
  (s.ain ch).state ≠ .off ∧ (s.ain ch).supply = (decide ((s.ain ch).cfg.mode = .iepe) && sagIn s)

/-! ## Rings -/

/-- Ring `r` sends beacons. -/
def RingRuns (s : State) (r : Nat) : Prop := (s.rg r).state ≠ .off ∧ (s.rg r).state ≠ .shutdown

/-- A valid frame has arrived at a port of ring `r`, which ends RING_DOWN (R204). -/
def ringHeard (r : Nat) (s : State) : State :=
  s.setRg r { s.rg r with
    validSeen := true,
    state := if (s.rg r).state = .down then (if (s.rg r).broken then .split else .loop) else (s.rg r).state }

/-- A valid frame of a bound node has arrived: its slot is met (R204, R216). -/
def slotMet (r a : Nat) (s : State) : State := s.setRnode r a { s.rnode r a with missed := 0, tries := 0, resendDue := false }

/-! ## Tasks and cores -/

/-- Task `t` runs on core `c` and is ready for a service call. -/
def Calls (s : State) (c t : Nat) : Prop :=
  ((s.core c).state = .run ∨ (s.core c).state = .shutdown) ∧ (s.core c).waiting = false ∧ (s.core c).stalled = none ∧
  (s.core c).task = some t

/-- The call of core `c` returns `r`. -/
def callReturns (c : Nat) (r : CallResult) (s : State) : State := s.setCore c { s.core c with result := r }

/-- The tasks that can start now: those in the ranking that have an idle core in their mask (R232). -/
def startableTasks (s : State) : List Nat := (rankedTasks s).filter (fun t => (idleFor s t).isSome)

/-- A core that ran a task has gone idle (R233); one whose shut-down waited for the end of the run is off (R238). -/
def CoreLeft (s t : State) (c : Nat) : Prop :=
  (s.core c).state = .run → (t.core c).state = .idle ∧ (t.core c).task = none

/-! ## Waveform memory and check values -/

/-- The bytes of the waveform memory and of the flash stand in their canonical form. -/
def MemoriesCanonical (s : State) : Prop := wf (0 : Byte) s.boat.mem = true ∧ wf (0xFF : Byte) s.nvm.mem = true

/-- A null page reference with its reason (R256). -/
def nullReference (reason : Nat) : Word := pack [(reason, 24, 2)]

/-- The parameter registers of two contexts agree (R294). -/
def SameParameters (a b : CrcCtx) : Prop :=
  a.cfg = b.cfg ∧ a.poly = b.poly ∧ a.init = b.init ∧ a.xorout = b.xorout ∧ a.fold0 = b.fold0 ∧ a.fold1 = b.fold1

/-- The parameters have no bit at or above WIDTH (R294). -/
def ParametersFit (c : CrcCtx) : Prop := c.poly &&& crcMask c = c.poly ∧ c.init &&& crcMask c = c.init

/-- Data words fed one after another. -/
def fedWords (ws : List Word) (c : CrcCtx) : CrcCtx := ws.foldl (fun c w => crcDin w c) c

/-! ## Self-test slices -/

/-- The controller can start the slice of unit `u` (R325, R328, R330, R333). -/
def SliceMayStart (s : State) (u : Nat) : Prop := startable s u = true

/-- The slice of core `c` runs or is requested. -/
def coreUnit (c : Nat) : Nat := 8 + c

/-! ## Lifecycle -/

/-- The lifecycle state is one of three, the fuses for the next boot never lie behind it, and once RMA is blown the image key
and the debug key are gone (R373, R374). -/
def LifecycleLegal (s : State) : Prop :=
  s.otp.lc ≤ s.otp.lcNext ∧ s.otp.lcNext ≤ 2 ∧ (s.otp.lcNext = 2 → s.otp.imageKey = none ∧ s.otp.debugKey = none)

/-! ## Logins -/

/-- Port `p` may have a response to slot `k` judged: the slot is defined and not locked, and the nonce has not expired
(R370, R371). -/
def Judged (s : State) (p : Port) (k : Nat) (nonce : List Byte) : Prop :=
  (s.login p).nonce = some nonce ∧ slotLocked s k = false ∧ (pwSlot s k).defined = true ∧ s.now < (s.login p).issued + 1000000000

/-- The response registers of port `p` hold the response that slot `k` and the nonce call for (R370). -/
def RightResponse (s : State) (p : Port) (k : Nat) (nonce : List Byte) : Prop :=
  regBytes (s.login p).resp = hmac (pwSlot s k).hash (nonce ++ [BitVec.ofNat 8 k])

/-- The sessions of other ports that have not timed out (R370). -/
def otherSessions (s : State) (p : Port) : List Session :=
  s.sec.sessions.filter (fun x => decide (x.port ≠ p) && decide (s.now ≤ x.last + 60000000000))

/-! ## Debug tokens -/

/-- SEC_DBG_TOK holds the token of a level under a key, for a challenge that is neither used nor expired, while tokens are
judged and the key can be read (R373). -/
def GoodToken (s : State) (key : Option (List Byte)) (level : Nat) : Prop :=
  ∃ c k, s.sec.chal = some c ∧ tokenLocked s = false ∧ s.now < s.sec.chalAt + 6000000000 ∧ key = some k ∧
    s.sys.keyClosed = false ∧ s.sec.chalUsed = false ∧
    regBytes s.sec.tok = hmac k (c ++ leBytes s.otp.uid.toNat 8 ++ [BitVec.ofNat 8 level])

/-- A refusal of the security block has been counted and raised with `code` (R372, R383). -/
def Refused (s t : State) (code : Nat) : Prop :=
  t.sys.refused = satInc s.sys.refused ∧ t.sec.lastCode = code ∧ ∃ r ∈ t.ump.reports, r.line = 50 ∧ r.code = code

/-! ## Host reads and responses -/

/-- A host read has left the safety side as it is: seats, lanes, OTP, configuration, and of the field die all but the count
that a read of CIO_REFUSED clears. -/
def SafetySideKept (s t : State) : Prop :=
  t.seat = s.seat ∧ t.lane = s.lane ∧ t.otp = s.otp ∧ t.nvm = s.nvm ∧ t.time = s.time ∧ t.now = s.now ∧
  t.fld = { s.fld with cioRefused := t.fld.cioRefused }

/-- The response `ws` has been sent to a peer and is kept for a repetition of its request (R406). -/
def Answered (t : State) (peer : Nat) (req : List Byte) (ws : List Word) : Prop :=
  t.host.resp = ws ∧ keptResponse t peer req = some ws

/-- A request of a peer is taken: the NET section is armed, and the request is not a repetition (R352, R406). -/
def NewRequest (s : State) (peer : Nat) (req : List Byte) : Prop :=
  s.sys.up = true ∧ s.nvm.armed = true ∧ keptResponse s peer req = none

/-! ## Reset -/

/-- The module is held in reset or without power: it does nothing, drives no output, and holds no session, no configuration
and no debug level. -/
def HeldInReset (t : State) : Prop :=
  t.sys.up = false ∧ (∀ k, energised t k = false) ∧ (∀ g, (t.group g).good = false) ∧ t.sec.sessions = [] ∧
  t.sec.debug = 0 ∧ t.nvm.armed = false ∧ t.seat.state = .start

/-- The module has booted: it runs, in START and HOLD, with the lifecycle its fuses say, FULL again where the power-cycle
record shows it, and the slices of the boot waiting (R330, R375, R425, R428). -/
def Booted (s t : State) : Prop :=
  t.sys.up = true ∧ t.otp = { s.otp with lc := s.otp.lcNext } ∧ t.sys.boots = s.sys.boots + 1 ∧ t.sys.releaseMs ≤ 30 ∧
  t.sec.debug = (if s.sys.fullSeen then 2 else 0) ∧ t.ump.full = s.sys.fullSeen ∧
  t.bist.boot = [5, 4] ++ (allLanes.filter (fun l => decide ((s.mgr l).phase ≠ .retired))).map laneNo

/-! ## Validation hooks -/

/-- The hooks can be set from port `p` (R473): the cell is open, the port holds a session, the log can take the entry. -/
def HooksOpen (s : State) (p : Port) : Prop :=
  cellOpen s = true ∧ (sessionOf s p).isSome ∧ s.nvm.logReady = true ∧ logFull s.nvm = false ∧ s.nvm.wp = false ∧
  NextSlotBlank s.nvm

/-- A write of the PERTURB block is refused: counted in both counters and raised, and no hook changes (R473). -/
def HookRefused (s t : State) : Prop :=
  t.hook = { s.hook with refused := satInc s.hook.refused } ∧ t.sys.refused = satInc s.sys.refused ∧
  ∃ r ∈ t.ump.reports, r.line = 55 ∧ r.code = codePerturbRefused

/-- An accepted write of the PERTURB block stands in the log (R473). -/
def hookLogged (p : Port) (addr : Nat) (old new : Word) (s : State) : State := logAppend (slotOf s p) 2 addr [old] [new] 0 s

end Sys2Proof
end

