-- ==== Sys2Proof/Certificates/Slice0/Obligations.lean ====
section
/-!
DEFINITION. The statements for the provers, from the numbered rules of the spec.
-/
open Sys2Proof Sys2Proof.Machine


/-- R85, R81: TON, TOF and TP switch Q when the elapsed count reaches N; below N their events change nothing. R129, R133: open history and stuck reset. -/
def Obligations.TimerAndResetBlocks : Prop :=
  (
    ∀ (s : State) (l : Lane) (blk : Nat) (i : Src) (n c0 : Nat) (prev : Option Bool),
      (n ≤ s.seat.cycle - c0 →
        (Evaluating s l blk (.ton i n) (.ton (some c0)) →
          exec (.tonExpiry l blk) s = .next (blockAfter l blk (.ton (some c0)) (setPort 0 true) s)) ∧
        (Evaluating s l blk (.tof i n) (.tof true (some c0)) →
          exec (.tofExpiry l blk) s = .next (blockAfter l blk (.tof false none) (setPort 0 false) s)) ∧
        (Evaluating s l blk (.tp i n) (.tp (some c0) prev) →
          exec (.tpPulseExpiry l blk) s = .next (blockAfter l blk (.tp none prev) (setPort 0 false) s))) ∧
      (s.seat.cycle - c0 < n →
        (Evaluating s l blk (.ton i n) (.ton (some c0)) → exec (.tonExpiry l blk) s = .next s) ∧
        (Evaluating s l blk (.tof i n) (.tof true (some c0)) → exec (.tofExpiry l blk) s = .next s) ∧
        (Evaluating s l blk (.tp i n) (.tp (some c0) prev) → exec (.tpPulseExpiry l blk) s = .next s))) ∧
  (
    ∀ (s : State) (l : Lane) (blk : Nat) (c : ResetCfg) (x : ResetSt), Evaluating s l blk (.reset c) (.reset x) →
      x.stuck = none →
      (∀ c0, x.openSince = some c0 → 400 ≤ s.seat.cycle - c0 → rinOpen (evCtx s l) c = true →
        exec (.resetOpenHistory l blk) s = .next (blockAfter l blk (.reset { x with hist := true }) id s)) ∧
      (∀ p v, x.press = some (p, v) → 80001 ≤ s.seat.cycle - p → Unheld codeResetStuck (.reset x) →
        exec (.resetStuck l blk) s = .next (laneReport l codeResetStuck blk (blockAfter l blk
          (.reset { x with stuck := some s.seat.cycle, hist := false }) (setPort 2 false) s))))

/-- R88, R87, R84: the other channel has not followed by N_d + 1, for each block with a pair. -/
def Obligations.ChannelPairTimesOut : Prop :=
  ∀ (s : State) (l : Lane) (blk : Nat),
    (∀ p x, Evaluating s l blk (.dual p) (.pair x) → PairLate s.seat.cycle p.nd x →
      exec (.discTimeout l blk) s = .next (laneReport l codeDiscTimeout blk
        (blockAfter l blk (.pair (pairTimedOut s.seat.cycle)) zeroOuts s))) ∧
    (∀ p x, Evaluating s l blk (.estop p false) (.pair x) → PairLate s.seat.cycle p.nd x →
      exec (.discTimeout l blk) s = .next (laneReport l codeDiscTimeout blk
        (blockAfter l blk (.pair (pairTimedOut s.seat.cycle)) zeroOuts s))) ∧
    (∀ c x, Evaluating s l blk (.lcurt c) (.lcurt x) → PairLate s.seat.cycle c.ossd.nd x.pair →
      exec (.discTimeout l blk) s = .next (laneReport l codeDiscTimeout blk
        (blockAfter l blk (.lcurt { x with pair := pairTimedOut s.seat.cycle, muting := none }) zeroOuts s))) ∧
    (∀ c x, Evaluating s l blk (.guard c) (.guard x) → PairLate s.seat.cycle c.door.nd x.door →
      exec (.discTimeout l blk) s = .next (laneReport l codeDiscTimeout blk
        (blockAfter l blk (.guard { x with door := pairTimedOut s.seat.cycle }) zeroGuard s))) ∧
    (∀ c x, Evaluating s l blk (.guard c) (.guard x) → ¬ PairLate s.seat.cycle c.door.nd x.door →
      PairLate s.seat.cycle c.lockPair.nd x.lockPair →
      exec (.discTimeout l blk) s = .next (laneReport l codeDiscTimeout blk
        (blockAfter l blk (.guard { x with lockPair := pairTimedOut s.seat.cycle }) zeroGuard s))) ∧
    (∀ b1 b2 x, Evaluating s l blk (.thc b1 b2) (.thc x) → PairLate s.seat.cycle b1.nd x.p1 →
      exec (.discTimeout l blk) s = .next (laneReport l codeDiscTimeout blk
        (blockAfter l blk (.thc { x with p1 := pairTimedOut s.seat.cycle, q := false }) zeroOuts s))) ∧
    (∀ b1 b2 x, Evaluating s l blk (.thc b1 b2) (.thc x) → ¬ PairLate s.seat.cycle b1.nd x.p1 →
      PairLate s.seat.cycle b2.nd x.p2 →
      exec (.discTimeout l blk) s = .next (laneReport l codeDiscTimeout blk
        (blockAfter l blk (.thc { x with p2 := pairTimedOut s.seat.cycle, q := false }) zeroOuts s))) ∧
    (∀ p p3 x, Evaluating s l blk (.enable p p3) (.enable x) → PairLate s.seat.cycle p.nd x.pair →
      exec (.discTimeout l blk) s = .next (laneReport l codeDiscTimeout blk
        (blockAfter l blk (.enable { x with pair := pairTimedOut s.seat.cycle }) zeroOuts s)))

/-- R91, R92, R95, R96: muting, lock confirmation and contactor monitoring that run out of time. -/
def Obligations.MonitoredTimesRunOut : Prop :=
  ∀ (s : State) (l : Lane) (blk : Nat),
    (∀ c x c0, Evaluating s l blk (.lcurt c) (.lcurt x) → x.muting = some c0 → c.nMute ≤ s.seat.cycle - c0 →
      Unheld codeMuteTimeout (.lcurt x) →
      exec (.muteTimeout l blk) s = .next (laneReport l codeMuteTimeout blk (blockAfter l blk
        (.lcurt { x with muting := none, held := x.held ++ [⟨codeMuteTimeout, s.seat.cycle⟩] })
        (fun vs => setPort 1 false (setPort 0 (x.pair.agreed && x.pair.meas.isNone && x.pair.held.isEmpty) vs)) s))) ∧
    (∀ c x c0, Evaluating s l blk (.lcurt c) (.lcurt x) → x.muting = some c0 →
      (x.lampSeen = false ∧ c.nLamp + 1 ≤ s.seat.cycle - c0 ∨
        x.lampSeen = true ∧ rb (evCtx s l) c.lrb = false ∧ 1 ≤ x.lampDark) →
      Unheld codeMuteLamp (.lcurt x) →
      exec (.muteLamp l blk) s = .next (laneReport l codeMuteLamp blk (blockAfter l blk
        (.lcurt { x with muting := none, held := x.held ++ [⟨codeMuteLamp, s.seat.cycle⟩] })
        (fun vs => setPort 1 false (setPort 0 (x.pair.agreed && x.pair.meas.isNone && x.pair.held.isEmpty) vs)) s))) ∧
    (∀ c x c0, Evaluating s l blk (.guard c) (.guard x) → c.lock ≠ .none → x.cmdSince = some c0 → c.nLock + 1 ≤ s.seat.cycle - c0 →
      Unheld codeLockFb (.guard x) →
      exec (.lockFb l blk) s = .next (laneReport l codeLockFb blk (blockAfter l blk
        (.guard { x with cmdSince := none, held := x.held ++ [⟨codeLockFb, s.seat.cycle⟩] }) zeroGuard s))) ∧
    (∀ c x c0, Evaluating s l blk (.edm c) (.edm x) → x.window = some c0 →
      (if x.prev then c.nOn else c.nOff) + 1 ≤ s.seat.cycle - c0 → Unheld codeEdmFail (.edm x) →
      exec (.edmTimeout l blk) s = .next (laneReport l codeEdmFail blk (blockAfter l blk
        (.edm { x with window := none, held := x.held ++ [⟨codeEdmFail, s.seat.cycle⟩] }) zeroOuts s)))

/-- R96: the events of a speed block. -/
def Obligations.SpeedBlockEvents : Prop :=
  ∀ (s : State) (l : Lane) (blk : Nat) (c : SpeedCfg) (x : SpeedSt), Evaluating s l blk (.speed c) (.speed x) →
    (∀ c0, x.ssSince = some c0 → c.nSS ≤ s.seat.cycle - c0 → x.held = [] → bothSlow (evCtx s l) c = true →
      exec (.standstillReached l blk) s = .next (blockAfter l blk (.speed x) (setPort 1 true) s)) ∧
    ((7 ≤ x.missA ∧ speedIn (evCtx s l) c.tachA c.pprA = none ∨ 7 ≤ x.missB ∧ speedIn (evCtx s l) c.tachB c.pprB = none) → Unheld codeTachMissing (.speed x) →
      exec (.tachMissing l blk) s = .next (laneReport l codeTachMissing blk (blockAfter l blk
        (.speed { x with held := x.held ++ [⟨codeTachMissing, s.seat.cycle⟩], fallen := true }) zeroOuts s))) ∧
    (∀ c0, x.xSince = some c0 → c.nx + 1 ≤ s.seat.cycle - c0 → Unheld codeSpeedDisc (.speed x) →
      exec (.speedDisc l blk) s = .next (laneReport l codeSpeedDisc blk (blockAfter l blk
        (.speed { x with held := x.held ++ [⟨codeSpeedDisc, s.seat.cycle⟩], xSince := none, fallen := true }) zeroOuts s)))

/-- R280, R282, R283, R284: the end of a segment, and the cross-check of a guard. -/
def Obligations.VibrationGuardEvents : Prop :=
  ∀ (s : State) (l : Lane) (blk : Nat) (c : VibCfg) (x : VibSt), Evaluating s l blk (.vibguard c) (.vib x) →
    ((s.seat.cycle - s.seat.firstCycle) % (c.nWin / 8) + 1 = c.nWin / 8 → x.done ≠ some s.seat.cycle →
      ∃ x' trip, exec (.vibSegmentEnd l blk) s = .next ((if trip then laneReport l codeVibTrip blk else id)
          ((entered x.held x'.held).foldl (fun t k => laneReport l k blk t)
            (blockAfter l blk (.vib x') (fun _ => vibOuts x') s))) ∧
        x'.done = some s.seat.cycle ∧
        x'.a.segs = (vibEnd c.limit (c.nWin / 8)
          (vibSample c.sensA c.band2 (decSample (evCtx s l) c.chA) false x.a)).segs ∧
        x'.b.segs = (vibEnd c.limit (c.nWin / 8)
          (vibSample c.sensB c.band2 (decSample (evCtx s l) c.chB) false x.b)).segs ∧
        (vibOver x'.a = true ∧ x'.a.vel.isSome = true ∨ vibOver x'.b = true ∧ x'.b.vel.isSome = true ∨
          winHas .ovr x'.a = true ∨ winHas .ovr x'.b = true ∨ winHas .notReady x'.a = true ∨ winHas .notReady x'.b = true →
          x'.q = false) ∧
        (x'.q = true → x'.held = [] ∧ 8 ≤ x'.a.validRun ∧ 8 ≤ x'.b.validRun) ∧
        (trip = true → x.q = true ∧ x'.q = false)) ∧
    (∀ c0, x.xSince = some c0 → c.nx + 1 ≤ s.seat.cycle - c0 → Unheld codeVibDisc (.vib x) →
      exec (.vibDisc l blk) s = .next (laneReport l codeVibDisc blk (blockAfter l blk
        (.vib { x with a := vibRefill true x.a, b := vibRefill true x.b, xSince := none, tolRun := 0, q := false,
                       held := x.held ++ [⟨codeVibDisc, s.seat.cycle⟩] }) zeroOuts s)))

/-- R47, R48, R301: the lane's own faults. R50: the contribution of a lane. -/
def Obligations.LaneErrorsAndVoteFrames : Prop :=
  (
    ∀ (s : State) (l : Lane), s.sys.up = true →
      ((s.laneD l).faulty = none →
        exec (.evaluationOverrun l) s = .next (withdrawn l 0x05 s) ∧
        exec (.lockstepMismatch l) s = .next (withdrawn l 0x01 s) ∧
        exec (.laneUncorrectableEcc l) s = .next (withdrawn l 0x03 s) ∧
        exec (.laneConfigPassComplete l false) s = .next (withdrawn l 0x04
          (s.setLane l { s.laneD l with passes := (s.laneD l).passes + 1, passOk := false }))) ∧
      exec (.laneConfigPassComplete l true) s = .next
        (s.setLane l { s.laneD l with passes := (s.laneD l).passes + 1, passOk := true }) ∧
      (∀ c, (s.laneD l).faulty = some c →
        exec (.evaluationOverrun l) s = .next s ∧ exec (.lockstepMismatch l) s = .next s ∧
        exec (.laneUncorrectableEcc l) s = .next s)) ∧
  (
    ∀ (s : State) (l : Lane), s.sys.up = true → s.seat.judged = false →
      (∀ v, (s.laneD l).out = .vote v →
        exec (.seatVoteFrame l true true) s = .next
          (let t := ((frameHeard 0 (0x300 + laneNo l) s).setLane l { s.laneD l with out := .none }).setMgr l
              { s.mgr l with shown := some v, rx := .vote v }
           { t with fld := { t.fld with wd := { t.fld.wd with seen := true } } }) ∧
        exec (.seatVoteFrame l false true) s = .next
          (((frameHeard 0 (0x300 + laneNo l) s).setLane l { s.laneD l with out := .none }).setMgr l
            { s.mgr l with shown := some v, rx := .late }) ∧
        exec (.seatVoteFrame l true false) s = .next
          ((s.setLane l { s.laneD l with out := .none }).setMgr l { s.mgr l with rx := .failed })) ∧
      (∀ c, (s.laneD l).out = .withdraw c →
        exec (.seatVoteFrame l true true) s = .next
          (((frameHeard 0 (0x300 + laneNo l) s).setLane l { s.laneD l with out := .none }).setMgr l
            { s.mgr l with shown := some ⟨pack [(c, 0, 8), (0xFF, 24, 8)], 0, 0, 0⟩, rx := .withdraw c })) ∧
      (∀ onTime intact, (s.laneD l).out = .none → exec (.seatVoteFrame l onTime intact) s = .next s))

/-- R18 steps 2 to 5, R47 to R50, R418. -/
def Obligations.LaneTakesInputImage : Prop :=
  ∀ (s : State) (l : Lane) (a : ImageArrival) (img : SafetyImage), s.sys.up = true → (s.laneD l).image = some img →
    (∀ c, (s.laneD l).faulty = some c →
      exec (.laneInputImage l a) s = .next (withdrawSent l c s)) ∧
    ((s.laneD l).faulty = none → (a.lclk < 49000 ∨ 50500 < a.lclk) → 1 ≤ (s.laneD l).lclkOut →
      exec (.laneInputImage l a) s = .next (withdrawn l 0x02
        (s.setLane l { s.laneD l with lclkOut := (s.laneD l).lclkOut + 1 }))) ∧
    ((s.laneD l).faulty = none → GoodImage { a with intact := true } → a.intact = false →
      exec (.laneInputImage l a) s = .next (s.setLane l { s.laneD l with lclkOut := 0, out := .none })) ∧
    ((s.laneD l).faulty = none → GoodImage a → s.seat.state = .start → (s.mgr l).phase = .start →
      ∃ v : Vote, v.w1 = 0 ∧ v.w2 = 0 ∧
        exec (.laneInputImage l a) s = .next (voteSent l v (imageHeard l a (s.setLane l { s.laneD l with lclkOut := 0 })))) ∧
    ((s.laneD l).faulty = none → GoodImage a → s.seat.state ≠ .start → s.seat.state ≠ .lockout →
      ((s.mgr l).phase = .seated ∨ (s.mgr l).phase = .shadow) → (s.laneD l).evaluated ≠ some s.seat.cycle →
      ∃ t v, exec (.laneInputImage l a) s = .next t ∧ (t.laneD l).out = .vote v ∧
        v.w0 = pack [(s.fld.image.cycle, 0, 16), ((s.laneD l).digest.toNat, 16, 8), (1, 24, 8)] ∧
        (t.laneD l).evaluated = some s.fld.image.cycle ∧ (∀ l', l' ≠ l → t.laneD l' = s.laneD l') ∧
        t.seat = s.seat ∧ t.fld = s.fld)

/-- R60, R62, R63: resynchronisation of a lane. R62, R64, R335. -/
def Obligations.SpareCopyAndAbort : Prop :=
  (
    ∀ (s : State) (l : Lane), s.sys.up = true →
      ((s.mgr l).phase = .copying s.seat.cycle →
        exec (.stateCopyFrame l false false) s = .next (s.setMgr l { s.mgr l with phase := .ready }) ∧
        exec (.stateCopyFrame l false true) s = .next (s.setMgr l { s.mgr l with phase := .ready }) ∧
        (∀ src, (s.mgr l).copyFrom = some src → exec (.stateCopyFrame l true false) s = .next (copyHeard l src s)) ∧
        (∀ src bl, (s.mgr l).copyFrom = some src → (s.laneD src).copySrc = some (s.seat.cycle, bl) →
          exec (.stateCopyFrame l true true) s = .next
            (((copyHeard l src s).setLane l { s.laneD l with blocks := bl, evaluated := none }).setMgr l
              { s.mgr l with phase := .agreeing s.seat.cycle, agree := 0 }))) ∧
      ((s.mgr l).recheck = some false →
        exec (.segmentRecheckComplete l true) s = .next (s.setMgr l { s.mgr l with recheck := some true }) ∧
        ((s.laneD l).faulty = none →
          exec (.segmentRecheckComplete l false) s = .next (withdrawn l 0x03 (s.setMgr l { s.mgr l with recheck := none })))) ∧
      (∀ c im a img, (s.mgr l).phase = .agreeing c → (s.laneD l).buf = some (im, a) → im.cycle = c →
        (s.laneD l).image = some img → (∀ n, (s.laneD l).evaluated = some n → n < c) →
        ∃ t, exec (.catchUpEvaluationEnd l) s = .next t ∧ (t.laneD l).buf = none ∧ (t.laneD l).out = .none ∧
          (t.laneD l).evaluated = some c ∧ (∀ l', l' ≠ l → t.laneD l' = s.laneD l') ∧ t.seat = s.seat ∧ t.fld = s.fld)) ∧
  (
    ∀ (s : State) (l : Lane), s.sys.up = true → (s.mgr l).phase = .aborting →
      (s.bist.running = some (laneNo l) →
        ∃ t, exec (.spareAbortCommand l) s = .next t ∧ t.bist.running = none ∧ (t.unit (laneNo l)).last = 3 ∧
          (t.unit (laneNo l)).done = false ∧
          t.ump.reports = s.ump.reports ++ [{ line := 48, code := codeBistPartial, detail := laneNo l, time := s.timeNow }] ∧
          (t.mgr l).recheck = (if inLbist s (laneNo l) then none else some false) ∧
          t = { s with bist := t.bist, ump := t.ump, seat := t.seat }) ∧
      (s.bist.running = some (laneNo l) →
        ∃ t, exec (.spareAbortComplete l) s = .next t ∧ (t.mgr l).phase = .ready ∧ (t.mgr l).sliceResult = none ∧
          t.bist.running = none ∧ (t.unit (laneNo l)).last = 3 ∧ (t.unit (laneNo l)).done = false ∧
          (t.mgr l).recheck = (if inLbist s (laneNo l) then none else some false) ∧
          t = { s with bist := t.bist, ump := t.ump, seat := t.seat }) ∧
      (s.bist.running ≠ some (laneNo l) →
        exec (.spareAbortComplete l) s = .next (s.setMgr l { s.mgr l with phase := .ready, sliceResult := none })))

/-- R18 step 6, R50. R57, R58, R68, R69. -/
def Obligations.StepSixAndSchedules : Prop :=
  (
    ∀ s : State, s.sys.up = true →
      (s.seat.judged = true → exec (.voteDeadline) s = .next s) ∧
      (s.seat.judged = false → ∃ t, exec (.voteDeadline) s = .next t ∧ t.seat.judged = true ∧
        (∀ l, triGet t.seat.votes l = rxVote (s.mgr l).rx) ∧ t.seat.cycle = s.seat.cycle ∧ t.t0 = s.t0)) ∧
  (
    ∀ s : State, s.sys.up = true →
      (s.seat.rotAt ≠ 0 → s.seat.rotAt ≤ s.seat.cycle → exec (.rotationInstant) s = .next
        { s with seat := { s.seat with step := true, rotAt := s.seat.rotAt + s.img.rotMin * 480000 } }) ∧
      (s.seat.cycle < s.seat.rotAt → exec (.rotationInstant) s = .next s) ∧
      (s.seat.state = .twoOar → s.seat.stopReq = false → s.img.twoOarH * hourTicks ≤ s.seat.twoOarTicks →
        exec (.twoOarLimit) s = .next (report 36 codeTwoOarLimit 0 { s with seat := { s.seat with stopReq := true } })) ∧
      (s.seat.stopReq = true → exec (.twoOarLimit) s = .next s) ∧
      (∀ l, exec (.failureWindowExpiry l) s = .next
        (s.setMgr l { s.mgr l with fails := (s.mgr l).fails.filter (fun t => decide (s.timeNow - t < dayTicks)) })))

/-- R56 rows 1, 2, 4, 8 (and 18 before them), R65. R56 row 19 is the only one that leaves LOCKOUT. -/
def Obligations.LockoutEntryAndExit : Prop :=
  (
    ∀ s : State, StepSixDue s → SeatsDrive s →
      (∀ b k, s.seat.bow = some b → s.seat.stroke = some k → Gone s b → Gone s k →
        ∃ t, exec (.voteDeadline) s = .next t ∧ LockedOut t) ∧
      (∀ l, s.seat.state = .sculling → scullLane s = some l → Gone s l →
        ∃ t, exec (.voteDeadline) s = .next t ∧ LockedOut t) ∧
      (∀ b k, (s.seat.state = .recovering ∨ s.seat.state = .twoOar) → s.seat.holdReq = false →
        s.seat.bow = some b → s.seat.stroke = some k → (Gone s b ∨ Gone s k) →
        ∃ t, exec (.voteDeadline) s = .next t ∧ LockedOut t) ∧
      (∀ c, s.seat.state = .sculling → s.seat.scullSince = some c → 8 * s.img.scullMs ≤ s.seat.cycle - c →
        ∃ t, exec (.scullTimeout) s = .next t ∧ LockedOut t)) ∧
  (
    ∀ s : State, s.sys.up = true → s.seat.state = .lockout → s.seat.lorAccepted = false →
      ∃ t, exec (.voteDeadline) s = .next t ∧ t.seat.state = .lockout ∧ t.seat.due = s.seat.due ∧
        t.seat.bow = s.seat.bow ∧ t.seat.stroke = s.seat.stroke ∧ t.seat.spare = s.seat.spare)

/-- R102, R142. -/
def Obligations.InputFilterAndReleaseHistory : Prop :=
  ∀ s : State, s.sys.up = true →
    (∀ n, (siCfg s.img n).filter ≤ (s.si n).run → (s.si n).runLevel ≠ (s.si n).level →
      exec (.inputFilterChange n) s = .next (s.setSi n { s.si n with level := (s.si n).runLevel })) ∧
    (∀ n, (s.si n).run < (siCfg s.img n).filter → exec (.inputFilterChange n) s = .next s) ∧
    (∀ c0, s.fld.lor.armed = true → s.fld.lor.st.hist = false → s.fld.lor.st.stuck = none →
      s.fld.lor.st.openSince = some c0 → 400 ≤ s.fld.image.cycle - c0 →
      exec (.lorOpenHistory) s = .next
        { s with fld := { s.fld with lor := { s.fld.lor with st := { s.fld.lor.st with hist := true } } } }) ∧
    (s.fld.lor.armed = false → exec (.lorOpenHistory) s = .next s)

/-- R105, R106, R110, R115. -/
def Obligations.TestPulses : Prop :=
  ∀ (s : State) (k : Nat), s.sys.up = true →
    (s.fld.slotOn = true → (tpCfg s k).mode = .pulse → (s.tp k).next ≤ s.slot → s.fld.sub < 4 →
      ∀ w, w = (if ((s.tp k).pulses + 1) % max 1 s.img.walkI = 0 then s.img.walkW else 0) →
      exec (.testPulseBegin k) s = .next (s.setTp k { s.tp k with
        pulse := some (s.tp k).next, window := true, failed := false, pulses := (s.tp k).pulses + 1,
        next := (s.tp k).next + s.img.tpPeriod + w, offset := ((s.tp k).offset + w) % s.img.tpPeriod,
        walks := if 0 < w then (s.tp k).walks + 1 else (s.tp k).walks })) ∧
    (∀ p, (s.tp k).window = true → (s.tp k).pulse = some p → 1 ≤ s.slot → p + 9 ≤ s.slot - 1 →
      ∃ t, exec (.testPulseWindowEnd k) s = .next t ∧ t.tp k = { s.tp k with window := false } ∧
        (∀ j, j ≠ k → t.tp j = s.tp j) ∧ (∀ n, siGen s n = some k → t.si n = s.si n) ∧
        (∀ n, n < 64 → siGen s n = none → (siCfg s.img n).extUs ≤ 150 → judgedWindow s p = true →
          histAt (s.si n).hist (s.slot - 1) (p - 1) = true → histAt (s.si n).hist (s.slot - 1) (p + 9) = true →
          (∀ i, i < 6 → histAt (s.si n).hist (s.slot - 1) (p + 1 + i) = false) → (t.si n).cross = true) ∧
        FieldAndReports s t) ∧
    (sagIn s = false → (tpCfg s k).mode ≠ .off → (s.tp k).overload = false →
      (2 ≤ (s.tp k).zeroRun ∨ 2 ≤ (s.tp k).limRun) →
      exec (.tpOverload k) s = .next (report 37 codeTpOverload k
        (s.setTp k { s.tp k with overload := true, passRun := 0, staticRun := 0 })))

/-- R163, R164, R121. -/
def Obligations.FieldSupplies : Prop :=
  ∀ (s : State) (v : Supply), s.sys.up = true →
    (1 ≤ (s.supply v).n192 → (s.supply v).warn = false →
      ∃ t, exec (.vfldLowWarning v) s = .next t ∧ (t.supply v).warn = true ∧
        FieldReport (if v = .vin then 37 else 38) codeVfldLow s t) ∧
    (66 ≤ (s.supply v).n160 → (s.supply v).low = false →
      ∃ t, exec (.vfldSag v) s = .next t ∧ (t.supply v).low = true ∧ FieldReport (if v = .vin then 37 else 38) codeVfldLow s t ∧
        ∀ g ∈ supplyGroups v, (t.group g).sag = true ∧ (t.group g).shutdown.isSome = true ∧ GroupOff t g) ∧
    (66 ≤ (s.supply v).n100 → (s.supply v).missing = false →
      ∃ t, exec (.vfldMissing v) s = .next t ∧ (t.supply v).missing = true ∧
        FieldReport (if v = .vin then 37 else 38) codeVfldMissing s t ∧
        ∀ g ∈ supplyGroups v, (t.group g).missing = true ∧ (t.group g).shutdown.isSome = true ∧ GroupOff t g) ∧
    (3201 ≤ (s.supply v).up → ((s.supply v).low = true ∨ (s.supply v).missing = true ∨ (s.supply v).once = false) →
      ∃ t, exec (.vfldRecovery v) s = .next t ∧ (t.supply v).low = false ∧ (t.supply v).missing = false ∧
        (t.supply v).once = true ∧ (v = .vin → t.fld.judgeFrom = s.slot) ∧
        (∀ g ∈ supplyGroups v, (t.group g).sag = false ∧ (t.group g).missing = false) ∧ t = { s with fld := t.fld })

/-- R160, R161, R164, R165. R166. -/
def Obligations.OutputGroupsSwitchedOff : Prop :=
  (
    ∀ (s : State) (g : Group), s.sys.up = true →
      (320 ≤ (s.group g).ocRun → (s.group g).overcur = false →
        ∃ t, exec (.grpOvercurrent g) s = .next t ∧ (t.group g).overcur = true ∧ GroupOff t g ∧
          (t.group g).shutdown = some ((s.group g).shutdown.getD s.now) ∧ (∀ h, h ≠ g → t.group h = s.group h) ∧
          FieldReport 38 codeGrpOvercurrent s t) ∧
      ((s.group g).hot = true → (s.group g).overtemp = false →
        ∃ t, exec (.grpOvertemp g) s = .next t ∧ (t.group g).overtemp = true ∧ GroupOff t g ∧
          (t.group g).shutdown = some ((s.group g).shutdown.getD s.now) ∧ (∀ h, h ≠ g → t.group h = s.group h) ∧
          FieldReport 38 codeGrpOvertemp s t) ∧
      (∀ at', (s.group g).shutdown = some at' → at' + 10000 ≤ s.now →
        exec (.groupShutdownComplete g) s = .next (s.setGroup g { s.group g with
          shutdown := none, enabling := (s.group g).enabling || (s.group g).pending, pending := false })) ∧
      (∀ at', (s.group g).shutdown = some at' → s.now < at' + 10000 → exec (.groupShutdownComplete g) s = .next s)) ∧
  (
    ∀ s : State, s.sys.up = true →
      (2 ≤ s.fld.wd.missed → s.fld.wd.tripped = false →
        ∃ t, exec (.outputWatchdogTrip) s = .next t ∧ t.fld.wd = { s.fld.wd with tripped := true, trips := s.fld.wd.trips + 1 } ∧
          (∀ k, energised t k = false) ∧ (∀ n, (cioCfg s n).mode = .outputSafe → pinDriven t n = false) ∧
          FieldReport 1 codeOutWd s t) ∧
      (s.fld.wd.missed < 2 → exec (.outputWatchdogTrip) s = .next s) ∧
      (s.fld.wd.tripped = true → 8 ≤ s.fld.wd.okRun →
        ∃ t, exec (.outputWatchdogRelease) s = .next t ∧ t.fld.wd = { s.fld.wd with tripped := false } ∧
          t = { s with fld := t.fld }) ∧
      (s.fld.wd.okRun < 8 → exec (.outputWatchdogRelease) s = .next s))

/-- R152 to R154, R156. R155, R156. -/
def Obligations.OutputPulsesAndDiagnoses : Prop :=
  (
    ∀ (s : State) (k : Nat), s.sys.up = true →
      (s.fld.slotOn = true → (look {} s.img.so k).pulse = true → (s.so k).next ≤ s.slot → s.fld.sub < 4 →
        ∀ w y, w = (if ((s.so k).sched + 1) % max 1 s.img.walkI = 0 then s.img.walkW else 0) →
          y = { s.so k with sched := (s.so k).sched + 1, next := (s.so k).next + s.img.tpPeriod + w,
                            offset := ((s.so k).offset + w) % s.img.tpPeriod } →
          ((s.so k).on = true → exec (.outputPulseBegin k) s = .next (s.setSo k { y with
            pulse := some (s.so k).next, window := true, swB := (s.so k).nextB, nextB := !(s.so k).nextB,
            given := (s.so k).given + 1 })) ∧
          ((s.so k).on = false → exec (.outputPulseBegin k) s = .next (s.setSo k y))) ∧
      (∀ p, (s.so k).window = true → (s.so k).pulse = some p → 1 ≤ s.slot → p + 5 ≤ s.slot - 1 →
        (histAt (s.so k).hist (s.slot - 1) (p - 1) = false →
          exec (.outputPulseEnd k) s = .next (s.setSo k { s.so k with window := false })) ∧
        (1 ≤ p → histAt (s.so k).hist (s.slot - 1) (p - 1) = true →
          ∃ t, exec (.outputPulseEnd k) s = .next t ∧ (t.so k).window = false ∧ FieldAndReports s t ∧
            (∀ j, j < 12 → j ≠ k → (s.so j).on = false → histAt (s.so j).hist (s.slot - 1) (p - 1) = true →
              histAt (s.so j).hist (s.slot - 1) (p + 5) = true → histAt (s.so j).hist (s.slot - 1) (p + 3) = false →
              (t.so j).code = codeOutCross) ∧
            (∀ j, j ≠ k → ((s.so j).on = true ∨ histAt (s.so j).hist (s.slot - 1) (p + 3) = true) → t.so j = s.so j)))) ∧
  (
    ∀ (s : State) (k : Nat), s.sys.up = true →
      ((s.so k).shortDue = true → (s.so k).code ≠ codeOutShort → (s.so k).code ≠ codeOutCross →
        exec (.outShortVfld k) s = .next (report 38 codeOutShort k (s.setSo k { s.so k with
          shortDue := false, code := codeOutShort, partner := 0, count := (s.so k).count + 1, cleanRun := 0, highSeen := true }))) ∧
      ((s.so k).shortDue = true → ((s.so k).code = codeOutShort ∨ (s.so k).code = codeOutCross) →
        exec (.outShortVfld k) s = .next (s.setSo k { s.so k with shortDue := false })) ∧
      ((s.so k).stuckDue = true → (s.so k).hold = false →
        ∃ t, exec (.outStuckOff k) s = .next t ∧ (t.so k).hold = true ∧ (t.so k).holdCode = codeOutStuckOff ∧ (t.so k).code = (s.so k).code ∧
          (t.so k).count = (s.so k).count + 1 ∧ energised t k = false ∧ (∀ j, j ≠ k → t.so j = s.so j) ∧
          FieldReport 38 codeOutStuckOff s t) ∧
      (128 ≤ (s.so k).limRun → (s.so k).hold = false →
        ∃ t, exec (.outOverload k) s = .next t ∧ (t.so k).hold = true ∧ (t.so k).holdCode = codeOutOverload ∧ (t.so k).code = (s.so k).code ∧
          (t.so k).count = (s.so k).count + 1 ∧ energised t k = false ∧ (∀ j, j ≠ k → t.so j = s.so j) ∧
          FieldReport 38 codeOutOverload s t) ∧
      (32 ≤ (s.so k).openRun → (s.so k).openLoad = false →
        exec (.outOpenLoad k) s = .next (report 38 codeOutOpenLoad k
          (s.setSo k { s.so k with openLoad := true, count := (s.so k).count + 1 }))) ∧
      (((s.so k).code = codeOutShort ∨ (s.so k).code = codeOutCross) → 8 ≤ (s.so k).cleanRun →
        exec (.outDiagClear k) s = .next (s.setSo k { s.so k with code := 0, partner := 0 })))

/-- R170, R171, R173: pins that are not yet due to fall silent. R160, R169, R171. -/
def Obligations.ConfigurablePins : Prop :=
  (
    ∀ (s : State) (src : Nat) (mask value : Word), s.sys.up = true → 0 < s.seat.cycle → (∀ n, silentDue s n = false) →
      (Unhooked s src 2 →
        ∃ t, exec (.cioCommandFrame src mask value) s = .next t ∧
          (∀ n, n < 24 → (cioCfg s n).mode = .outputStd → (cioCfg s n).src = src →
            (t.cio n).since = s.seat.cycle ∧
            (mask.getLsbD n = true → (t.cio n).named = true ∧ (t.cio n).cmd = value.getLsbD n)) ∧
          (∀ n, ((cioCfg s n).mode ≠ .outputStd ∨ (cioCfg s n).src ≠ src) → t.cio n = s.cio n) ∧
          (cioRefuses src mask s = false → t.fld.cioRefused = s.fld.cioRefused ∧ t = { s with fld := t.fld }) ∧
          ((src = 0x410 ∨ src = 0x411) → cioRefuses src mask s = true → t.sys.refused = satInc s.sys.refused) ∧
          t = { s with fld := t.fld, sys := t.sys }) ∧
      (Unhooked s src 3 →
        ∃ t, exec (.cioHeartbeatFrame src) s = .next t ∧
          (∀ n, n < 24 → (cioCfg s n).mode = .outputStd → (cioCfg s n).src = src →
            t.cio n = { s.cio n with since := s.seat.cycle }) ∧
          (∀ n, ((cioCfg s n).mode ≠ .outputStd ∨ (cioCfg s n).src ≠ src) → t.cio n = s.cio n) ∧
          t = { s with fld := t.fld }) ∧
      (∀ port : Port, ∃ t, exec (.cioCmdValueWrite port value) s = .next t ∧
        exec (.cioCommandFrame (portSrc port) ((look 0 s.fld.cioMask (portSrc port)).setWidth 32) value) s = .next t) ∧
      (∀ port : Port, ∃ t, exec (.cioHeartbeatWrite port value) s = .next t ∧
        exec (.cioHeartbeatFrame (portSrc port)) s = .next t)) ∧
  (
    ∀ (s : State) (n : Nat), s.sys.up = true →
      ((cioCfg s n).mode = .outputStd → (s.cio n).silent = false → 8 * (cioCfg s n).timeoutMs + 1 ≤ s.seat.cycle - (s.cio n).since →
        ∃ t, exec (.cioSilent n) s = .next t ∧ (t.cio n).silent = true ∧ (t.cio n).wake = false ∧
          (∀ j, j ≠ n → t.cio j = s.cio j) ∧ FieldReport 38 codeCioSilent s t) ∧
      (128 ≤ (s.cio n).limRun → (s.cio n).held = false →
        ∃ t, exec (.cioOverload n) s = .next t ∧ (t.cio n).held = true ∧ (t.cio n).overload = true ∧ pinDriven t n = false ∧
          (∀ j, j ≠ n → t.cio j = s.cio j) ∧ FieldReport 38 codeCioOverload s t) ∧
      ((s.cio n).shortDue = true → (s.cio n).short = false →
        exec (.cioShortVfld n) s = .next (report 38 codeCioShort n
          (s.setCio n { s.cio n with shortDue := false, short := true, cleanRun := 0 }))) ∧
      ((s.cio n).shortDue = true → (s.cio n).short = true →
        exec (.cioShortVfld n) s = .next (s.setCio n { s.cio n with shortDue := false, short := true, cleanRun := 0 })))

/-- R310, R311, R312, R314, R315, R407. -/
def Obligations.ErrorLatches : Prop :=
  ∀ (s : State) (r : Report), s.sys.up = true → r.code ≠ 0 →
    (s.ump.reports = [r] → r.line < 64 → ∃ t e, exec (.umpireErrorLatch) s = .next t ∧ t.ump.reports = [] ∧
      (r.line < 32 → t.ump.lo = s.ump.lo ||| BitVec.ofNat 32 (1 <<< r.line) ∧ t.ump.hi = s.ump.hi) ∧
      (32 ≤ r.line → t.ump.hi = s.ump.hi ||| BitVec.ofNat 32 (1 <<< (r.line - 32)) ∧ t.ump.lo = s.ump.lo ∧
        t.ump.first = s.ump.first) ∧
      look {} t.ump.blk r.line = { code := r.code, count := (look {} s.ump.blk r.line).count + 1, time := r.time,
                                   detail := r.detail, res := r.res } ∧
      t.host.events.head? = some e ∧ e.seq = s.host.eventSeq ∧ e.src = 0x402 ∧ e.cls = 4 ∧ e.code = r.code ∧ e.time = r.time ∧
      (r.line < 32 → s.ump.first = none →
        t.ump.first = some { line := r.line, code := r.code, scope := scopeNo (lineScope r.line), merged := 0, time := r.time } ∧
        t.ump.handling = some s.now) ∧
      ((lineScope r.line = .lockout ∨ lineScope r.line = .start) → r.line < 15 →
        t.fld.forced = 0xF ∧ ∀ g, (t.group g).forced = true)) ∧
    (∀ r2, s.ump.reports = [r, r2] → r2.line < r.line → r.line < 32 → s.ump.first = none →
      ∃ t f, exec (.umpireErrorLatch) s = .next t ∧ t.ump.first = some f ∧ f.line = r2.line ∧ f.merged = 1)

/-- R312, R316, R317. -/
def Obligations.SelfChecksOfTheUmpireSide : Prop :=
  ∀ s : State, s.sys.up = true →
    (∀ h, s.ump.reports = [] → s.ump.handling = some h → h + 15000 ≤ s.now → s.ump.selfPostponed = none →
      exec (.handlingWindowClose) s = .next { s with ump := { s.ump with handling := none } }) ∧
    (∀ h pass, s.ump.reports = [] → s.ump.handling = some h → h + 15000 ≤ s.now → s.ump.selfPostponed = some pass →
      ∃ t, exec (.handlingWindowClose) s = .next t ∧ t.ump.handling = none ∧ t.ump.selfPostponed = none ∧
        t.ump.selfOk = pass ∧ t.ump.selfRuns = s.ump.selfRuns + 1) ∧
    (∀ h, s.ump.handling = some h → s.now < h + 15000 → exec (.handlingWindowClose) s = .next s) ∧
    (∀ pass, checkDue s 0 = false → exec (.umpSelfCheck pass) s = .next s) ∧
    (∀ h pass, checkDue s 0 = true → s.ump.handling = some h →
      exec (.umpSelfCheck pass) s = .next { checkTaken 0 s with ump := { (checkTaken 0 s).ump with selfPostponed := some pass } }) ∧
    (∀ pass, checkDue s 0 = true → s.ump.handling = none → ∃ t, exec (.umpSelfCheck pass) s = .next t ∧ t.ump.selfOk = pass ∧
      t.ump.selfRuns = s.ump.selfRuns + 1 ∧ t.ump.selfCause = (!pass) ∧ t.ump.booted = (s.ump.booted || pass) ∧
      t.ump.checks = (checkTaken 0 s).ump.checks ∧ t.fld.forced = umpLines { s.ump with booted := s.ump.booted || pass } ∧
      (pass = false → t.ump.reports = s.ump.reports ++ [{ line := 14, code := codeUmpSelf, time := s.timeNow }]) ∧
      t = { s with fld := t.fld, ump := t.ump }) ∧
    (∀ g pass, checkDue s (1 + groupNo g) = false → exec (.groupMonitorSelfCheck g pass) s = .next s) ∧
    (∀ g, checkDue s (1 + groupNo g) = true → exec (.groupMonitorSelfCheck g true) s = .next
      { s with ump := { (checkTaken (1 + groupNo g) s).ump with
          grpCause := s.ump.grpCause &&& ~~~(BitVec.ofNat 4 (1 <<< groupNo g)) } }) ∧
    (∀ g, checkDue s (1 + groupNo g) = true → ∃ u,
      exec (.groupMonitorSelfCheck g false) s = .next (report (2 + groupNo g) codeGrpMonFail 0 u) ∧
      u.ump = { (checkTaken (1 + groupNo g) s).ump with
        grpCause := s.ump.grpCause ||| BitVec.ofNat 4 (1 <<< groupNo g) } ∧
      u.fld.local' = s.fld.local' ||| BitVec.ofNat 4 (1 <<< groupNo g) ∧ (u.group g).forced = true ∧
      u = { s with fld := u.fld, ump := u.ump }) ∧
    (∀ pass, checkDue s 5 = false → exec (.fieldDieSelfCheck pass) s = .next s) ∧
    (checkDue s 5 = true →
      exec (.fieldDieSelfCheck true) s = .next { s with ump := { (checkTaken 5 s).ump with fldCause := false } } ∧
      ∃ u, exec (.fieldDieSelfCheck false) s = .next (report 6 codeFldInternal 0 u) ∧
        u.ump = { (checkTaken 5 s).ump with fldCause := true } ∧ u.fld.local' = 0xF ∧ (∀ g, (u.group g).forced = true) ∧
        u = { s with fld := u.fld, ump := u.ump })

/-- R319, R320, R45, R10. -/
def Obligations.StatusClears : Prop :=
  ∀ (s : State) (port : Port), s.sys.up = true → s.ump.reports = [] →
    (∀ n, n < 32 → s.ump.lo.getLsbD n = true → (s.ump.handling.isSome = true ∨ causePersists s n = true) →
      ∃ t, exec (.umpStatusLoClear port (BitVec.ofNat 32 (1 <<< n))) s = .next t ∧ t.ump.lo = s.ump.lo ∧
        t.ump.clrLine = n ∧ t.ump.clrRefused = sat 0xFFFF s.ump.clrRefused ∧ t.ump.first = s.ump.first ∧
        t.sys = { s.sys with refused := satInc s.sys.refused, refusedAddr := 0x00010004 }) ∧
    (∀ n, n < 32 → s.ump.lo = BitVec.ofNat 32 (1 <<< n) → s.ump.handling = none → causePersists s n = false →
      ∃ t, exec (.umpStatusLoClear port (BitVec.ofNat 32 (1 <<< n))) s = .next t ∧ t.ump.lo = 0 ∧ t.ump.prev = s.ump.first ∧
        t.ump.first = none ∧ t.ump.ovf = false ∧ t.ump.later = 0 ∧ t.sys = s.sys ∧
        (s.seat.state = .lockout → t.fld.lor.arming = true)) ∧
    (∀ bits, exec (.umpStatusHiClear port bits) s = .next { s with
      ump := { s.ump with hi := s.ump.hi &&& ~~~bits }
      fab := { s.fab with linkFail := if bits.getLsbD 0 then 0 else s.fab.linkFail } })

/-- R17, R18, R101. -/
def Obligations.CyclesAndSamples : Prop :=
  ∀ s : State, s.sys.up = true →
    (∀ r, s.fld.sub < 4 → ∃ t, exec (.samplingInstant r) s = .next t ∧ t.fld.sub = s.fld.sub + 1 ∧
      t.seat.cycle = s.seat.cycle ∧ t.t0 = s.t0 ∧
      (t.supply .vin).volt = r.vin.volt ∧ (t.supply .v1).volt = r.v1.volt ∧ (t.supply .v2).volt = r.v2.volt ∧
      (t.group .sog1).mA = r.sog1.mA ∧ (t.group .sog2).mA = r.sog2.mA ∧ (t.group .ciog1).mA = r.ciog1.mA ∧
      (t.group .ciog2).mA = r.ciog2.mA ∧ (t.group .sog1).temp = r.sog1.temp ∧ (t.group .ciog2).temp = r.ciog2.temp) ∧
    (∀ r, 4 ≤ s.fld.sub → exec (.samplingInstant r) s = .next s) ∧
    (∃ t, exec (.safetyCycleBoundary) s = .next t ∧ t.seat.cycle = s.seat.cycle + 1 ∧ t.t0 = s.t0 + 12500 ∧ t.now = t.t0 ∧
      t.seat.judged = false ∧ t.fld.sub = 0 ∧ (∀ l, (t.mgr l).rx = .none) ∧ t.fld.image.cycle = s.seat.cycle + 1)

/-- R395 to R400: the path of a telegram. R401: the comparison of outbound telegrams. -/
def Obligations.TelegramsInAndOut : Prop :=
  (
    ∀ (s : State), s.sys.up = true →
      (∀ peer bytes i, s.nvm.armed = true → 4 ≤ bytes.length → connOf s peer bytes = some i →
        exec (.telegramDatagram peer bytes) s = .next (sendFrame (0x600 + i) 9 (bytesToWords bytes) s)) ∧
      (∀ peer bytes, s.nvm.armed = true → (bytes.length < 4 ∨ connOf s peer bytes = none) →
        exec (.telegramDatagram peer bytes) s = .next (ethDrop 2 s)) ∧
      (∀ l conn bytes img e, Unhooked s (0x600 + conn) 9 → (s.laneD l).image = some img → (conn, e) ∈ img.conns →
        exec (.telegramFrameArrival l conn bytes) s =
          .next (s.setLane l { s.laneD l with tel := (s.laneD l).tel ++ [⟨s.seat.cycle, conn, bytes⟩] })) ∧
      (∀ l blk conn x img cfg, (s.laneD l).image = some img → img.graph[blk]? = some (.telIn conn) →
        look .none (s.laneD l).blocks blk = .telIn x → look { id := 0, peer := 0, period := 1, nw := 16 } img.conns conn = cfg →
        evaluates s l = true → (s.laneD l).faulty = none → telExpired cfg s.seat.cycle x = true →
        (∀ f ∈ (s.laneD l).tel, f.conn = conn → s.seat.cycle ≤ f.cycle) →
        ∃ outs t, exec (.telWatchdog l blk) s = .next t ∧
          t = telChanges l [(blk, x.state, .unsync)] (laneTelReport l codeTelWatchdog (s.setLane l { s.laneD l with
            blocks := put .none (s.laneD l).blocks blk (.telIn { x with state := .unsync, ref := none })
            telCnt := put {} (s.laneD l).telCnt conn { look {} (s.laneD l).telCnt conn with
              expire := (look {} (s.laneD l).telCnt conn).expire + 1 }
            sig := put [] (s.laneD l).sig blk outs })) ∧
          (∀ i, i < cfg.nbIn → outs[i]? = some (.bool ((cfg.safe[i]?).getD false))) ∧
          outs.drop cfg.nbIn = List.replicate cfg.nnIn (.num none) ++ [.bool false] ∧
          (x.state = .live → t.host.irqStat.getLsbD 5 = true)) ∧
      (∀ l blk img c n tele, (s.laneD l).image = some img → img.graph[blk]? = some (.telOut c) →
        (s.laneD l).telDue.find? (fun e => e.1 == blk) = some (blk, n, tele) →
        exec (.telOutSend l blk) s = .next (laneFrame l 0x340 9 (bytesToWords tele) (s.setLane l { s.laneD l with
          telDue := put (0, []) (s.laneD l).telDue blk (0, []), telOut := put (0, []) (s.laneD l).telOut c.conn (n, tele) })))) ∧
  (
    ∀ (s : State) (conn : Nat), s.sys.up = true →
      (running s.seat.state = false → exec (.outboundTelegram conn) s = .next s) ∧
      (∀ a, running s.seat.state = true → s.seat.state ≠ .sculling → a ≠ (0, []) →
        telegramOf s conn s.seat.bow = a → telegramOf s conn s.seat.stroke = a →
        exec (.outboundTelegram conn) s = .next (coreUnicast 3 (udpFrame a.2.length)
          { telegramsTaken conn s with net := { s.net with telSent := put (0, []) s.net.telSent conn a } })) ∧
      (running s.seat.state = true → s.seat.state ≠ .sculling →
        telegramOf s conn s.seat.bow ≠ telegramOf s conn s.seat.stroke →
        exec (.outboundTelegram conn) s = .next
          { telegramsTaken conn s with net := { s.net with telMismatch := satInc s.net.telMismatch } }) ∧
      (∀ a, s.seat.state = .sculling → a ≠ (0, []) → telegramOf s conn (scullLane s) = a →
        exec (.outboundTelegram conn) s = .next (coreUnicast 3 (udpFrame a.2.length)
          { telegramsTaken conn s with net := { s.net with telSent := put (0, []) s.net.telSent conn a } })))

/-- R394: the telegram's layout, out and in. -/
def Obligations.TelegramRoundTrip : Prop :=
  ∀ (connId : Word) (cn echo : Nat) (unsync noEcho : Bool) (bools : List Bool) (nums : List (Option Word)),
    cn < 65536 → echo < 65536 → bools.length ≤ 64 → nums.length ≤ 8 →
    (buildTelegram connId cn echo unsync noEcho bools nums).length = 28 + 4 * nums.length ∧
    ∃ t, parseTelegram nums.length (buildTelegram connId cn echo unsync noEcho bools nums) = some t ∧
      t.connId = connId ∧ t.cn = cn ∧ t.echo = echo ∧ t.type = 1 ∧ t.noEcho = noEcho ∧ t.crcOk = true ∧
      (∀ i, t.bools.getLsbD i = (bools[i]?).getD false) ∧
      (∀ i, t.nvalid.getLsbD i = ((nums[i]?).getD none).isSome) ∧
      t.nums = nums.map (fun v => v.getD 0)

/-- R24: reserved classes. -/
def Obligations.ReservedClassIsRouteMiss : Prop :=
  (∀ (s : State) (p wait : Nat) (w : Word × Word), s.sys.up = true → p < 32 → wordOk w = true → tagValid w.1 = true →
    10 ≤ tagCls w.1 →
    ∃ t, exec (.fabricFrameReceive p [w] wait) s = .next t ∧ (t.fcnt p).route = (s.fcnt p).route + 1 ∧
      t.fab.rx = s.fab.rx ∧ t.fab.inbox = s.fab.inbox ∧ t = { s with fab := t.fab }) ∧
  (∀ (s : State) (i src cls : Nat), 10 ≤ cls → routeHit (routeAt s i) src cls = false)

/-- R25 to R27, R32 to R34, R36, R44: the receiver of the fabric. -/
def Obligations.FabricReceivers : Prop :=
  ∀ (s : State), s.sys.up = true →
    (∀ p wait w, p < 32 → Unhooked s (tagSrc w.1) (tagCls w.1) → wordOk w = false →
      ∃ t, exec (.fabricFrameReceive p [w] wait) s = .next t ∧ (t.fcnt p).chk = (s.fcnt p).chk + 1 ∧
        t.fab.inbox = s.fab.inbox) ∧
    (∀ p wait w, p < 32 → Unhooked s (tagSrc w.1) (tagCls w.1) → wordOk w = true → tagValid w.1 = true →
      reservedSrc (tagSrc w.1) = true →
      exec (.fabricFrameReceive p [w] wait) s =
        .next (countPort p 5 1 (wordSeen p (noteWait (tagSrc w.1) (tagCls w.1) wait s)))) ∧
    (∀ p wait w ep r, p < 32 → Unhooked s (tagSrc w.1) (tagCls w.1) → wordOk w = true → tagValid w.1 = true →
      tagLast w.1 = true → tagCls w.1 < 10 → reservedSrc (tagSrc w.1) = false →
      routeFor s (tagSrc w.1) (tagCls w.1) = some r → portEndpoint p = some ep → r.dest.getLsbD ep = true →
      needsCrc r (tagCls w.1) = false → (s.rx ep (tagSrc w.1)).frame = none →
      (∀ d, d = (tagSeq w.1 + 256 - (s.rx ep (tagSrc w.1)).last) % 256 →
        (1 ≤ d → d ≤ 128 →
          ∃ t, exec (.fabricFrameReceive p [w] wait) s = .next t ∧
            look (0, 0, []) t.fab.inbox ep = (tagSrc w.1, tagCls w.1, [w.2]) ∧
            t.rx ep (tagSrc w.1) = { last := tagSeq w.1, sync := true, frame := none } ∧
            (1 < d → (t.fcnt p).lost = (s.fcnt p).lost + BitVec.ofNat 32 (d - 1)) ∧
            (tagCls w.1 ≠ 4 ∨ (ep ≠ 8 ∧ ep ≠ 13) → t = { s with fab := t.fab }) ∧
            (ep = 8 → tagCls w.1 = 4 → t.host.eventSeq = (s.host.eventSeq + 1) % 4294967296)) ∧
        (d = 0 ∨ 128 < d →
          ∃ t, exec (.fabricFrameReceive p [w] wait) s = .next t ∧ t.fab.inbox = s.fab.inbox ∧
            (t.fcnt p).seqdrop = (s.fcnt p).seqdrop + 1 ∧
            t.ump = (if r.safe then (report 32 codeSeqWindow 0 s).ump else s.ump)))) ∧
    (∀ link a b, link < 10 → linkPorts[link]? = some (a, b) →
      exec (.linkFail link) s = .next (report 32 codeLinkFail 0 { s with fab := { s.fab with
        linkFail := s.fab.linkFail ||| BitVec.ofNat 10 (1 <<< link),
        portGood := s.fab.portGood &&& ~~~(BitVec.ofNat 32 (1 <<< a) ||| BitVec.ofNat 32 (1 <<< b)) } })) ∧
    (∀ p, (p = 20 ∨ p = 21) → (s.fab.point p).queues ≠ [] → 4096 ≤ (s.fab.point p).starved →
      exec (.creditTimeoutDiscard p) s = .next (countPort p 5 1 { s with fab := dropHeld p s.fab })) ∧
    (∀ p, ((p ≠ 20 ∧ p ≠ 21) ∨ (s.fab.point p).queues = [] ∨ (s.fab.point p).starved < 4096) →
      exec (.creditTimeoutDiscard p) s = .next s) ∧
    (∀ ep src who, ((ep = 0 ∨ 4 ≤ ep) ∨ who ≠ 1 ∨ s.t0 + 11000 ≤ s.now) →
      (resetter src = some who → exec (.lastResetFrame ep src who) s = .next (s.setRx ep src {})) ∧
      (resetter src ≠ some who →
        exec (.lastResetFrame ep src who) s = .next (countPort (configPort ep who) 5 1 s)))

/-- R176 to R187: samples and the supervision of a channel. R183, R188, R189, R260: switching a channel. -/
def Obligations.AnalogChannels : Prop :=
  (
    (∀ x v, chanValid x = true →
      (-8388608 ≤ gained x v → gained x v ≤ 8388607 → fullSample x v = 0x80000000 ||| (BitVec.ofInt 24 (gained x v)).setWidth 32) ∧
      (8388607 < gained x v → fullSample x v = 0xC07FFFFF) ∧ (gained x v < -8388608 → fullSample x v = 0xC0800000)) ∧
    (∀ x v, chanValid x = false → (fullSample x v).getLsbD 31 = false ∧ ∀ i, i < 24 → (fullSample x v).getLsbD i = false) ∧
    (∀ (s : State) (ch : Nat), s.sys.up = true →
      (∀ stamp samples ws, Sampling s ch → (channelLive (s.ain ch) = true ∨ (s.ain ch).state = .shutdown ∧ (s.ain ch).tail.isSome = true) →
        samples.length = 16 → ws = BitVec.ofNat 32 stamp :: frameSamples (s.ain ch) stamp samples →
        ∃ t, exec (.afeFullRateFrame ch stamp samples) s = .next t ∧
          look [] t.fab.sent (0x080 + ch) =
            frameWords (0x080 + ch) (look 0 s.fab.srcSeq (0x080 + ch)) 0 0 (crcFor s (0x080 + ch) 0) ws ∧
          (t.ain ch).frame = some ws ∧ (t.ain ch).tail = none ∧
          ((s.ain ch).tail = none → ws = BitVec.ofNat 32 stamp :: (filtered (s.ain ch) samples).map (fullSample (s.ain ch))) ∧
          (∀ n, n ≠ ch → t.ain n = s.ain n) ∧ t = { s with afe := t.afe, fab := t.fab }) ∧
      (∀ tick bias, tick < s.t0 + 12500 → Sampling s ch → (s.ain ch).state = .run → (s.ain ch).accNew = true → (s.ain ch).cfg.mode = .iepe →
        sagIn s = false → hookMet s (onDecim ch) = none →
        (biasAbove ch bias = true → ∃ t w, exec (.afeDecimatedSample ch tick bias) s = .next t ∧ (t.ain ch).ready = some w ∧
          w.getLsbD 31 = false ∧ w.getLsbD 29 = true ∧ (t.ain ch).flagOpen = true ∧ (t.ain ch).flagShort = false ∧
          t = { s with afe := t.afe }) ∧
        (biasAbove ch bias = false → biasBelow ch bias = true →
          ∃ t w, exec (.afeDecimatedSample ch tick bias) s = .next t ∧ (t.ain ch).ready = some w ∧
          w.getLsbD 31 = false ∧ w.getLsbD 28 = true ∧ (t.ain ch).flagShort = true ∧ (t.ain ch).flagOpen = false ∧
          t = { s with afe := t.afe }) ∧
        (biasAbove ch bias = false → biasBelow ch bias = false → (s.ain ch).flagOpen = false → (s.ain ch).flagShort = false →
          (s.ain ch).accValid = true → (s.ain ch).accFlags = 0 →
          -8388608 ≤ (s.ain ch).accValue → (s.ain ch).accValue ≤ 8388607 →
          ∃ t, exec (.afeDecimatedSample ch tick bias) s = .next t ∧
            (t.ain ch).ready = some (0x80000000 ||| (BitVec.ofInt 24 (s.ain ch).accValue).setWidth 32) ∧
            t = { s with afe := t.afe })) ∧
      ((s.ain ch).flagOpen = true → (s.ain ch).outAbove = true → 16 ≤ (s.ain ch).outRun → (s.ain ch).openL = false →
        exec (.ainOpen ch) s = .next (report 39 codeAinOpen ch (s.setAin ch { s.ain ch with openL := true }))) ∧
      ((s.ain ch).flagShort = true → (s.ain ch).outAbove = false → 16 ≤ (s.ain ch).outRun → (s.ain ch).shortL = false →
        exec (.ainShort ch) s = .next (report 39 codeAinShort ch (s.setAin ch { s.ain ch with shortL := true }))) ∧
      ((s.ain ch).state = .settling → 3125 ≤ (s.ain ch).inRun → (s.ain ch).calRun = false →
        exec (.ainSettlingComplete ch) s =
          .next (s.setAin ch { s.ain ch with
            state := .run, inRun := 0, runDec := 0,
            filt := { (s.ain ch).filt with
              hp := if (s.ain ch).cfg.hp = 0 then (s.ain ch).filt.hp
                else Config.hpPreset (s.ain ch).cfg.hp ((s.ain ch).inputs.foldl (· + ·) 0) } })))) ∧
  (
    ∀ (s : State) (p : Port) (ch : Nat), s.sys.up = true →
      (chanWritable s ch = true → Admitted s p rightOps →
        (∀ old, old = [if (s.ain ch).en then (1 : Word) else 0] →
          (channelLive (s.ain ch) = true →
            ∃ l, l = opLogged p (addrAfeCtrl ch) old [3] s ∧
              exec (.afeCalRequest p ch) s = .next (if (s.ain ch).calRun then l
                else l.setAin ch { s.ain ch with calRun := true, calCount := 0, calSum := 0 })) ∧
          (∀ l, l = opLogged p (addrAfeCtrl ch) old [1] s →
            ((s.ain ch).state = .off → exec (.afeChannelEnable p ch) s = .next (l.setAin ch { s.ain ch with
              en := true, state := .settling, calRun := true, calCount := 0, calSum := 0, pending := false, inRun := 0, outRun := 0,
              flagOpen := false, flagShort := false, runDec := 0, accFlags := 0, accValid := true, accNew := false, tail := none })) ∧
            ((s.ain ch).state = .shutdown →
              exec (.afeChannelEnable p ch) s = .next (l.setAin ch { s.ain ch with en := true, pending := true }))) ∧
          (∀ l, l = opLogged p (addrAfeCtrl ch) old [0] s → channelLive (s.ain ch) = true →
            exec (.afeChannelDisable p ch) s = .next (l.setAin ch { s.ain ch with
              en := false, state := .shutdown, calRun := false, pending := false, inRun := 0, accValid := false, accNew := false,
              tail := some (s.now, chanFlags (s.ain ch), chanValid (s.ain ch)) })))) ∧
      (ainPresent s ch = false ∨ (s.ain ch).guard = true →
        ∀ c ∈ [Instr.afeCalRequest p ch, .afeChannelEnable p ch, .afeChannelDisable p ch],
          exec c s = .next (secRefuse (addrAfeCtrl ch) codeAccessRefused s)) ∧
      (∀ tick, tick < s.t0 + 12500 → (s.ain ch).calRun = true → 3500 ≤ (s.ain ch).calCount →
        (97 * (s.ain ch).calSum ≤ 1048576000000 → 1048576000000 ≤ 103 * (s.ain ch).calSum → exec (.afeCalComplete ch tick) s =
          .next (s.setAin ch { s.ain ch with calRun := false, calFail := false, gain := newGain (s.ain ch).calSum })) ∧
        (1048576000000 < 97 * (s.ain ch).calSum ∨ 103 * (s.ain ch).calSum < 1048576000000 → exec (.afeCalComplete ch tick) s =
          .next (if (s.ain ch).calFail then s.setAin ch { s.ain ch with calRun := false, calFail := true }
            else report 39 codeAinCalFail ch (s.setAin ch { s.ain ch with calRun := false, calFail := true })))) ∧
      (∀ tick bias, s.t0 + 12500 ≤ tick → exec (.afeDecimatedSample ch tick bias) s = .next s) ∧
      (∀ tick, s.t0 + 12500 ≤ tick ∨ (s.ain ch).calRun = false ∨ (s.ain ch).calCount < 3500 →
        exec (.afeCalComplete ch tick) s = .next s) ∧
      ((s.ain ch).state = .shutdown → (s.ain ch).tail = none → (s.ain ch).ready = none → (s.ain ch).pending = false →
        exec (.afeShutdownComplete ch) s = .next ((abortCaps (fun c => decide (c.chan = some ch)) s).setAin ch
          { s.ain ch with state := .off, pending := false, supply := false, flagOpen := false, flagShort := false })) ∧
      ((s.ain ch).state = .shutdown → (s.ain ch).tail = none → (s.ain ch).ready = none → (s.ain ch).pending = true →
        ∃ t, exec (.afeShutdownComplete ch) s = .next t ∧ (t.ain ch).state = .settling ∧ (t.ain ch).calRun = true ∧
          (t.ain ch).en = true))

/-- R191, R193, R194, R196: a capture timer. -/
def Obligations.CaptureTimers : Prop :=
  ∀ (s : State) (t : Nat), s.sys.up = true →
    (∀ tick v lvl x, x = s.tachT t → lvl = comparator x.cfg x.comp v →
      (lvl = x.level → exec (.tachCountedEdge t ⟨tick, [v]⟩) s =
        .next ((advance tick s).setTach t { x with comp := lvl, agree := 0 })) ∧
      (lvl ≠ x.level → x.agree + 1 < x.cfg.filt → exec (.tachCountedEdge t ⟨tick, [v]⟩) s =
        .next ((advance tick s).setTach t { x with comp := lvl, agree := x.agree + 1 })) ∧
      (lvl ≠ x.level → x.cfg.filt ≤ x.agree + 1 → (x.state ≠ .run ∨ edgeSelected x.cfg lvl = false) →
        exec (.tachCountedEdge t ⟨tick, [v]⟩) s =
          .next ((advance tick s).setTach t { x with comp := lvl, level := lvl, agree := 0 })) ∧
      (lvl ≠ x.level → x.cfg.filt ≤ x.agree + 1 → x.state = .run → edgeSelected x.cfg lvl = true → s.t0 + 12500 ≤ tick →
        exec (.tachCountedEdge t ⟨tick, [v]⟩) s = .next ((advance tick s).setTach t
          { x with comp := lvl, level := lvl, agree := 0, later := x.later ++ [tick] }))) ∧
    (∀ tick v per stamp c x, x = s.tachT t → x.state = .run → per = max 1 x.cfg.per → c = (x.edgeCnt + 1) % per →
      stamp = tick - (x.cfg.filt - 1) * 2 ^ x.cfg.fdiv → comparator x.cfg x.comp v ≠ x.level → x.cfg.filt ≤ x.agree + 1 →
      edgeSelected x.cfg (comparator x.cfg x.comp v) = true → tick < s.t0 + 12500 →
      ∃ y, exec (.tachCountedEdge t ⟨tick, [v]⟩) s = .next ((advance tick s).setTach t y) ∧
        y.level = comparator x.cfg x.comp v ∧ y.agree = 0 ∧ y.later = x.later ∧
        y.edgeCnt = c ∧ y.total = x.total + 1 ∧ y.wrap = (x.wrap || decide (c = 0)) ∧ y.ovf = x.ovf ∧ y.cfg = x.cfg ∧
        (x.total % max 1 x.cfg.n = 0 → y.cap = stamp ∧ y.prevCap = x.cap ∧ y.caps = x.caps + 1) ∧
        (x.total % max 1 x.cfg.n ≠ 0 → y.cap = x.cap ∧ y.prevCap = x.prevCap ∧ y.caps = x.caps) ∧
        (x.cmp0.toNat = c → y.matchStamp = stamp ∧
          (x.step0 = 0 → y.cmp0 = x.cmp0) ∧ (x.step0 ≠ 0 → y.cmp0 = BitVec.ofNat 32 ((c + x.step0.toNat) % per))) ∧
        (x.cmp0.toNat ≠ c → y.cmp0 = x.cmp0) ∧
        (x.cmp1.toNat = c → y.matchStamp = stamp ∧
          (x.step1 = 0 → y.cmp1 = x.cmp1) ∧ (x.step1 ≠ 0 → y.cmp1 = BitVec.ofNat 32 ((c + x.step1.toNat) % per))) ∧
        (x.cmp1.toNat ≠ c → y.cmp1 = x.cmp1) ∧
        (x.cmp0.toNat ≠ c → x.cmp1.toNat ≠ c → y.matchStamp = x.matchStamp)) ∧
    (∀ tick volts, (s.tachT t).state ≠ .run → ∃ y,
      exec (.tachCountedEdge t ⟨tick, volts⟩) s = .next ((advance tick s).setTach t y) ∧ y.edgeCnt = (s.tachT t).edgeCnt ∧
      y.total = (s.tachT t).total ∧ y.caps = (s.tachT t).caps ∧ y.cap = (s.tachT t).cap ∧ y.later = (s.tachT t).later) ∧
    (∀ p v, v.toNat < (s.tachT t).cfg.per →
      exec (.tachCmpWrite p t 0 v) s = .next (s.setTach t { s.tachT t with cmp0 := v }) ∧
      exec (.tachCmpWrite p t 1 v) s = .next (s.setTach t { s.tachT t with cmp1 := v }) ∧
      exec (.tachStepWrite p t 0 v) s = .next (s.setTach t { s.tachT t with step0 := v }) ∧
      exec (.tachStepWrite p t 1 v) s = .next (s.setTach t { s.tachT t with step1 := v })) ∧
    (∀ p k v, 1 ≤ v.toNat → (s.tachT t).cfg.per ≤ v.toNat →
      exec (.tachCmpWrite p t k v) s = .next (refuse (0x00090128 + 4 * k + 0x40 * t) s) ∧
      exec (.tachStepWrite p t k v) s = .next (refuse (0x00090130 + 4 * k + 0x40 * t) s)) ∧
    (∀ p, t < 8 → (s.tachT t).safety = false → Admitted s p rightOps →
      (∀ l, l = opLogged p (0x00090108 + 0x40 * t) [if (s.tachT t).state = .run then 1 else 0] [1] s →
        ((s.tachT t).state = .off → exec (.tachEnable p t) s = .next (l.setTach t { s.tachT t with
          state := .run, pending := false, edgeCnt := 0, total := 0, caps := 0, cap := 0, prevCap := 0, period := 0,
          sinceCap := 0, newCap := false, matches' := 0, later := [] })) ∧
        ((s.tachT t).state = .shutdown → exec (.tachEnable p t) s = .next (l.setTach t { s.tachT t with pending := true }))) ∧
      (∀ l, l = opLogged p (0x00090108 + 0x40 * t) [if (s.tachT t).state = .run then 1 else 0] [0] s →
        (s.tachT t).state = .run → exec (.tachDisable p t) s = .next (l.setTach t { s.tachT t with state := .shutdown, later := [] }))) ∧
    (∀ p, (s.tachT t).safety = true →
      exec (.tachEnable p t) s = .next (secRefuse (0x00090108 + 0x40 * t) codeAccessRefused s) ∧
      exec (.tachDisable p t) s = .next (secRefuse (0x00090108 + 0x40 * t) codeAccessRefused s))

/-- R201 to R203, R205, R211 to R213: a Rinly node. -/
def Obligations.NodeBehaviour : Prop :=
  ∀ (s : State) (uid : U64), s.sys.up = true → ∀ n, n = s.nd uid →
    (n.powered = true →
      (∀ b : Beacon, b.fromA = true → n.lostA = false → b.restart = true →
        exec (.nodeBeacon uid b) s = .next (s.setNd uid { n with
          followA := true, sf := b.sf, beaconAt := s.now, ctlLast := b.seq % 256, announced := false, ring := b.ring,
          sent := [], owed := [], addr := none, burst := none, parked := false })) ∧
      (∀ b : Beacon, b.fromA = true → n.lostA = false → b.restart = false →
        (1 ≤ (b.seq + 256 - n.ctlLast) % 256 ∧ (b.seq + 256 - n.ctlLast) % 256 ≤ 128 ∨
          (b.seq + 256 - n.ctlLast) % 256 = 0 ∧ n.followA = false) →
        ∃ m, m = { n with followA := true, sf := b.sf, beaconAt := s.now, ctlLast := b.seq % 256, announced := false,
                          ring := b.ring, sent := [], owed := [] } ∧
          exec (.nodeBeacon uid b) s = .next (s.setNd uid (nodeRegions uid b m)) ∧
          (n.addr = none → nodeRegions uid b m = m)) ∧
      (∀ r fromA streamA, r < 4 → n.followA = fromA → n.addr = none → n.parked = false →
        (if streamA then (s.rg r).turnedA else (s.rg r).turnedB) = false →
        ∃ t, exec (.nodeDiscover r ⟨uid, fromA, streamA⟩) s = .next t ∧ (t.nd uid).announced = true ∧
          (if streamA then (t.rg r).turnedA else (t.rg r).turnedB) = true ∧
          (t.nd uid).sent.getLast?.map (fun m => m.words.map Prod.snd) =
            some ([(uid >>> 32).setWidth 32, uid.setWidth 32] ++ (Config.nodeIdent uid).take 1) ∧
          t = { s with node := t.node, ring := t.ring }) ∧
      (∀ fromA, n.followA = fromA →
        (∀ a i ph, n.addr ≠ some a → exec (.nodeAssign ⟨uid, fromA⟩ uid a i ph) s =
          .next (s.setNd uid { n with interval := i, phase := ph, parked := false, addr := some a, seq := 0 })) ∧
        (∀ a i ph, n.addr = some a → exec (.nodeAssign ⟨uid, fromA⟩ uid a i ph) s =
          .next (s.setNd uid { n with interval := i, phase := ph, parked := false })) ∧
        (n.addr = none → exec (.nodePark ⟨uid, fromA⟩ uid) s = .next (s.setNd uid { n with parked := true }))) ∧
      (∀ c : NodeCmd, n.followA = c.fromA → (n.addr = some c.target ∨ c.target = 0x1FF) →
        (∀ rate count, n.addr.isSome = true →
          exec (.nodeBurst ⟨uid, c⟩ rate count) s = .next (s.setNd uid { n with burst := some (rate, count) })) ∧
        exec (.nodeBurstAbort ⟨uid, c⟩) s = .next (s.setNd uid { n with burst := none }) ∧
        (∀ r x, n.addr.isSome = true → nodePlace s uid = some (r, x) →
          ∃ t, t = s.setNd uid { n with identDue := true } ∧
            exec (.nodeIdent ⟨uid, c⟩) s = .next (t.setRg r { t.rg r with replies := (t.rg r).replies ++ [x] })) ∧
        exec (.nodeRelease ⟨uid, c⟩) s = .next (s.setNd uid { n with addr := none })) ∧
      (∀ a values sensor k m, n.addr = some a → 0 < n.interval → n.phase < n.interval → n.sf = n.phase + k * n.interval →
        m = { n with report := values, sensor := sensor, newReport := true, reportSf := n.sf, owed := n.owed.tail } →
        (n.owed = [] → exec (.nodeReportWindow uid ⟨values, sensor⟩) s = .next (s.setNd uid m)) ∧
        (∀ slot rest, n.owed = slot :: rest → ∃ y, exec (.nodeReportWindow uid ⟨values, sensor⟩) s = .next (s.setNd uid y) ∧
          y.lastSent = some (n.seq, values, sensor) ∧ y.newReport = false ∧ y.seq = (n.seq + 1) % 256 ∧ y.owed = rest)) ∧
      (∀ values sensor k j, 0 < j → j < n.interval → n.phase < n.interval → n.sf = n.phase + k * n.interval + j →
        exec (.nodeReportWindow uid ⟨values, sensor⟩) s = .next s)) ∧
    (∀ fromA target a i ph, (uid ≠ target ∨ n.powered = false ∨ n.followA ≠ fromA) →
      exec (.nodeAssign ⟨uid, fromA⟩ target a i ph) s = .next s ∧ exec (.nodePark ⟨uid, fromA⟩ target) s = .next s) ∧
    (n.beaconAt + 50 * 100000 ≤ s.now → exec (.nodeBeaconLoss uid) s = .next (s.setNd uid { n with addr := none })) ∧
    (s.now < n.beaconAt + 50 * 100000 → exec (.nodeBeaconLoss uid) s = .next s) ∧
    (∀ r, exec (.lossOfSignal r .portA) s = .next (s.setRg r { s.rg r with lostA := true }) ∧
      exec (.lossOfSignal r (.node uid true)) s = .next (s.setNd uid { n with lostA := true }) ∧
      exec (.signalReturn r .portB) s = .next (s.setRg r { s.rg r with lostB := false }) ∧
      exec (.signalReturn r (.node uid false)) s = .next (s.setNd uid { n with lostB := false }) ∧
      (n.powered = true → exec (.lossOfSignal r (.supply uid)) s = .next (s.setNd uid
        { lostA := n.lostA, lostB := n.lostB, powered := false })))

/-- R204, R215: the conditions of a ring and of its node addresses. -/
def Obligations.RingConditions : Prop :=
  ∀ (s : State) (r : Nat) (x : Ring), s.sys.up = true → x = s.rg r → RingRuns s r →
    (x.broken = false → 2 ≤ x.missRun →
      exec (.ringBreak r) s = .next (ringAlarm r codeRingBreak 0 (s.setRg r { x with
        broken := true, bothRun := 0, state := if x.state = .down then .down else .split }))) ∧
    (x.broken = true → 16 ≤ x.bothRun →
      exec (.ringClosed r) s = .next (ringAlarm r codeRingClosed 0 (s.setRg r { x with
        broken := false, wrapA := none, wrapB := none, state := if x.state = .down then .down else .loop }))) ∧
    (x.state ≠ .down → 8 ≤ x.silentRun →
      exec (.ringDown r) s = .next (ringAlarm r codeRingDown 0 (s.setRg r { x with state := .down }))) ∧
    (∀ a n, n = s.rnode r a → n.state = .present → 3 ≤ n.missed → (∀ b, x.burst = some b → b.addr ≠ a) →
      exec (.nodeLost r a) s = .next (ringAlarm r codeNodeLost a (s.setRnode r a { n with
        state := .lost, due := none, resendDue := false, tries := 0 }))) ∧
    (∀ a n t0, n = s.rnode r a → n.stale = false → n.stamp = some t0 → t0 + (2 * n.interval + 3) * 100000 < s.now →
      ∃ t, exec (.nodeStale r a) s = .next t ∧ t.rnode r a = { n with stale := true }) ∧
    (∀ code detail t, Unhooked t (0x408 + r) 4 → ∃ e : Report,
      (ringAlarm r code detail t).ump.reports = t.ump.reports ++ [e] ∧ e.line = 41 + r ∧ e.code = code ∧ e.detail = detail)

/-- R203, R205 to R209, R213 to R216, R219: a ring's superframe and its frames. -/
def Obligations.RingTraffic : Prop :=
  ∀ (s : State) (r : Nat) (x : Ring), s.sys.up = true → x = s.rg r → RingRuns s r →
    (∀ tick, ∃ t m, exec (.ringSuperframeStart r tick) s = .next t ∧ (t.rg r).sf = x.next ∧ (t.rg r).next = x.next + 1 ∧
      (t.rg r).slots.length ≤ 16 ∧ (t.rg r).window.length ≤ 3 ∧ (t.rg r).out.head? = some m ∧
      m.words.map Prod.snd = beaconWords x.next (t.rg r).slots (t.rg r).burst) ∧
    (∀ (rep : RingReport) n d, n = s.rnode r rep.addr → n.state ≠ .free → d = (rep.seq + 256 - n.last) % 256 →
      (1 ≤ d → d ≤ 128 → hookMet s (onNode r rep.addr) = none →
        ∃ t, exec (.ringReportReceive r rep) s = .next t ∧
          t.rnode r rep.addr = { n with
            lv := rep.values, stamp := some s.now, seq := BitVec.ofNat 8 rep.seq, sensor := rep.sensor, stale := false,
            missed := 0, tries := 0, resendDue := false, last := rep.seq % 256, lost := 0 } ∧
          (t.rg r).cntLost = satAdd x.cntLost (d - 1 - n.lost) ∧
          t.fab = (sendAs (0x800 + r * 0x200 + rep.addr) (rep.seq % 256) 1 0 (3 * s.now) rep.values s).fab ∧
          t = { s with ring := t.ring, fab := t.fab }) ∧
      ((d = 0 ∨ 128 < d) → exec (.ringReportReceive r rep) s = .next ((ringHeard r s).setRg r
        { (ringHeard r s).rg r with cntSeqdrop := satInc x.cntSeqdrop }))) ∧
    (∀ a seq ws sideA, (s.rnode r a).state ≠ .free →
      1 ≤ (seq + 256 - (s.rnode r a).last) % 256 → (seq + 256 - (s.rnode r a).last) % 256 ≤ 128 →
      ∃ t, exec (.ringReplyReceive r a ⟨seq, sideA⟩ ws) s = .next t ∧ (t.rnode r a).ident = ws ∧
        (t.rnode r a).last = seq % 256 ∧ (t.rg r).replies = x.replies.erase a ∧
        t.node = (s.setNd (s.rnode r a).uid { s.nd (s.rnode r a).uid with identDue := false }).node ∧
        t = { s with ring := t.ring, node := t.node }) ∧
    (∀ a i, openSlot x a = some i → (s.rnode r a).state = .present →
      ((s.rnode r a).tries < 2 →
        ∃ t, exec (.ringSlotFail r a) s = .next t ∧ t.rnode r a = { s.rnode r a with resendDue := true } ∧
          (t.rg r).met = x.met ++ [i] ∧ t = { s with ring := t.ring }) ∧
      (2 ≤ (s.rnode r a).tries → (s.rnode r a).missed < 2 →
        ∃ t, exec (.ringSlotFail r a) s = .next t ∧
          t.rnode r a = { s.rnode r a with
            tries := 0, missed := (s.rnode r a).missed + 1, lost := (s.rnode r a).lost + 1 } ∧
          (t.rg r).cntLost = satInc x.cntLost ∧ t = { s with ring := t.ring })) ∧
    (∀ uid kind, r < 4 → x.answered = false → 4 ≤ x.sf → (∀ e ∈ x.nodes, e.2.uid ≠ uid) →
      ((∀ b ∈ x.cfg.book, b.1 ≠ uid) → x.cfg.auto = false →
        ∃ t e, exec (.ringAnnounceReceive r ⟨uid, kind⟩) s = .next t ∧
          (t.rg r).cmds = x.cmds ++ [(5, 0x1FF, [(uid >>> 32).setWidth 32, uid.setWidth 32])] ∧
          t.ump.reports = s.ump.reports ++ [e] ∧ e.line = 41 + r ∧ e.code = codeNodeParked ∧
          t = { s with ring := t.ring, ump := t.ump }) ∧
      (∀ b a i, x.cfg.book.find? (fun b => decide (b.1 = uid)) = some (b, a, i) →
        ∃ t ph, exec (.ringAnnounceReceive r ⟨uid, kind⟩) s = .next t ∧ (t.rnode r a).state = .present ∧
          (t.rnode r a).uid = uid ∧ (t.rnode r a).interval = i ∧ (t.rnode r a).phase = ph ∧ ph < max 1 i ∧
          (t.rnode r a).last = 255 ∧ (t.rnode r a).kind = kind ∧
          (t.rg r).cmds = x.cmds ++ [(1, a, [(uid >>> 32).setWidth 32, uid.setWidth 32, pack [(ph, 0, 16), (i, 16, 16)]])] ∧
          t = { s with ring := t.ring, fab := t.fab, fresh := t.fresh })) ∧
    ((x.answered = true ∨ x.sf < 4) → ∀ uid kind, exec (.ringAnnounceReceive r ⟨uid, kind⟩) s = .next s) ∧
    (∀ f : RingFrame, f.at' = .portA → (hcrc8 f.header).toNat ≠ bits f.header 7 0 →
      (16 < f.region → exec (.ringFrameReceive r f) s = .next (s.setRg r { x with cntCrc := satInc x.cntCrc })) ∧
      (∀ a k, f.region < 16 → x.slots[f.region]? = some (a, k) →
        exec (.ringFrameReceive r f) s = .next (slotFail r a (s.setRg r { x with cntCrc := satInc x.cntCrc }))))

/-- R217, R218, R220: bursts and RING_CTRL. -/
def Obligations.RingBurstsAndSwitching : Prop :=
  ∀ (s : State) (r : Nat) (x : Ring), s.sys.up = true → x = s.rg r → ringPresent s r = true →
    (∀ b : BurstReq, b.src = 0x400 → reducedNow s = true →
      exec (.ringBurstRequest r b) s = .next (s.setRg r { x with status := .reduced })) ∧
    (∀ b : BurstReq, b.src ≠ 0x400 → reducedNow s = true → exec (.ringBurstRequest r b) s = .next s) ∧
    (∀ b : BurstReq, b.src = 0x400 → reducedNow s = false → RingRuns s r → x.burst.isSome = true → 8 ≤ x.queue.length →
      exec (.ringBurstRequest r b) s = .next (s.setRg r { x with status := .qFull })) ∧
    (∀ p v, reducedNow s = true →
      exec (.ringBurstCmdWrite p r v) s = .next (refuse (0x000A0040 + 0x4000 * r) (s.setRg r { x with status := .reduced }))) ∧
    (∀ (b : BurstReq) n, reducedNow s = false → RingRuns s r → (x.burst.isSome = true → x.queue.length < 8) → fillingCount s < 64 → n = pagesFor (b.countM1 % 65536 + 1) →
      (heldPages s b.src).length + n ≤ budgetOf s b.src → n ≤ (freePages s).length →
      ∃ t, exec (.ringBurstRequest r b) s = .next t ∧
        (∀ p v, b = { src := 0x400, addr := bits v 8 0, rate := bits v 11 9, countM1 := bits v 31 16 } →
          exec (.ringBurstCmdWrite p r v) s = .next t) ∧
        (x.burst = none → x.queue = [] → (s.rnode r (b.addr % 512)).state = .present →
          ∃ y, (t.rg r).burst = some y ∧ y.src = b.src ∧ y.addr = b.addr % 512 ∧ y.rate = b.rate % 8 ∧
            y.count = b.countM1 % 65536 + 1 ∧ y.offset = 0 ∧ (b.src = 0x400 → (t.rg r).status = .running) ∧
            (t.rg r).cmds = x.cmds ++ [(3, y.addr, [pack [(y.count - 1, 0, 17)], pack [(y.rate, 0, 3)]])]) ∧
        (∀ b0, x.burst = some b0 →
          ∃ y, (t.rg r).burst = some b0 ∧ (t.rg r).queue = x.queue ++ [y] ∧ y.src = b.src ∧ y.addr = b.addr % 512 ∧
            y.rate = b.rate % 8 ∧ y.count = b.countM1 % 65536 + 1 ∧ y.offset = 0 ∧ (b.src = 0x400 → (t.rg r).status = .running))) ∧
    (∀ b c seq ws sideA, RingRuns s r → x.burst = some b → capOf s b = some c → x.burstMet = false →
      (s.rnode r b.addr).state ≠ .free → 1 ≤ (seq + 256 - (s.rnode r b.addr).last) % 256 →
      (seq + 256 - (s.rnode r b.addr).last) % 256 ≤ 128 → b.offset + ws.length < b.count →
      ∃ t y, exec (.ringBurstFrameReceive r b.addr ⟨seq, b.offset, sideA⟩ ws) s = .next t ∧ (t.rg r).burst = some y ∧
        y.offset = b.offset + ws.length ∧ y.retries = 0 ∧ y.gaps = b.gaps ∧ (t.rg r).burstMet = true) ∧
    (∀ p, Admitted s p rightOps →
      (x.state = .off →
        ∃ t, exec (.ringEnable p r) s = .next t ∧ (t.rg r).state = .start ∧ (t.rg r).en = true ∧ (t.rg r).next = 0 ∧
          (t.rg r).seq = 0 ∧ (∀ a, (t.rnode r a).state = .free) ∧ (t.rg r).cfg = look {} s.nvm.cm.rings r) ∧
      (x.state = .shutdown →
        exec (.ringEnable p r) s = .next ((opLogged p (addrRing r 4) [if x.en then 1 else 0] [1] s).setRg r
          { x with en := true, pending := true })) ∧
      (RingRuns s r →
        ∃ t, exec (.ringDisable p r) s = .next t ∧ (t.rg r).state = .shutdown ∧ (t.rg r).en = false ∧
          (t.rg r).burst = none ∧ (t.rg r).queue = [] ∧ (t.rg r).cmds = [(6, 0x1FF, [])] ∧ (t.rg r).slots = [])) ∧
    (x.state = .shutdown → x.cmds = [] → x.sfAt + 100000 ≤ s.now →
      (x.pending = false → exec (.ringShutdownComplete r) s = .next (s.setRg r { x with
        state := .off, cmds := [], window := [], out := [], wrapA := none, wrapB := none,
        nodes := x.nodes.map (fun e => (e.1, { e.2 with state := .free, due := none, resendDue := false })) })) ∧
      (x.pending = true →
        ∃ t, exec (.ringShutdownComplete r) s = .next t ∧ (t.rg r).state = .start ∧ (t.rg r).en = true)) ∧
    ((x.cmds ≠ [] ∨ s.now < x.sfAt + 100000) → exec (.ringShutdownComplete r) s = .next s)

/-- R230, R231, R239: releases. R232: dispatch. -/
def Obligations.ReleasesAndDispatch : Prop :=
  (
    ∀ (s : State) (t : Nat) (x : Task), s.sys.up = true → x = s.task t →
      (∀ i, taskValid x = true → taskTrig x = false → 0 < taskPeriod x → s.now = taskPhase x + i * taskPeriod x →
        x.lastRel ≠ some s.now →
        (x.state = .waiting → reducedNow s = false → hookMet s (onTask t) = none →
          exec (.periodicRelease t) s = .next (s.setTask t { x with
            lastRel := some s.now, state := .ready, deadline := s.now + taskDeadline x, ran := false })) ∧
        (x.state = .disabled ∨ x.state = .disabling ∨ x.state = .suspended ∨ reducedNow s = true →
          exec (.periodicRelease t) s = .next (s.setTask t { x with lastRel := some s.now, skipped := x.skipped + 1 }))) ∧
      (∀ i j, j < taskPeriod x → s.now = taskPhase x + i * taskPeriod x + j →
        x.lastRel = some (taskPhase x + i * taskPeriod x) → exec (.periodicRelease t) s = .next s) ∧
      (∀ f : TrigFrame, taskMatches x f = false → exec (.taskTrigger t f) s = .next s) ∧
      (∀ f : TrigFrame, taskMatches x f = true →
        (reducedNow s = true → exec (.taskTrigger t f) s = .next (s.setTask t { x with coalesced := x.coalesced + 1 })) ∧
        (reducedNow s = false → x.state = .waiting → hookMet s (onTask t) = none →
          exec (.taskTrigger t f) s = .next (s.setTask t { x with
            state := .ready, deadline := s.now + taskDeadline x, trig := some (f, s.now), ran := false })) ∧
        (reducedNow s = false → x.state = .ready ∨ x.state = .running ∨ x.state = .preempted →
          exec (.taskTrigger t f) s = .next (s.setTask t { x with
            pend := some (f, s.now), coalesced := if x.pend.isSome then x.coalesced + 1 else x.coalesced })) ∧
        (reducedNow s = false → x.state = .disabled ∨ x.state = .disabling ∨ x.state = .suspended →
          exec (.taskTrigger t f) s = .next (s.setTask t { x with skipped := x.skipped + 1 })))) ∧
  (
    ∀ (s : State), s.sys.up = true →
      (startableTasks s = [] → exec .coxDispatch s = .next s) ∧
      (startableTasks s ≠ [] →
        ∃ t c u, exec .coxDispatch s = .next u ∧ t ∈ startableTasks s ∧ (∀ v ∈ startableTasks s, outranks s v t = false) ∧
          taskOn (s.task t) c = true ∧ (s.core c).state = .idle ∧ c < 8 ∧
          (∀ d, d < c → taskOn (s.task t) d = true → (s.core d).state ≠ .idle) ∧
          (u.task t).state = .running ∧ (u.task t).core = c ∧ (u.core c).state = .run ∧ (u.core c).task = some t ∧
          u.cox.cntDispatch = satInc s.cox.cntDispatch ∧ (∀ v, v ≠ t → u.task v = s.task v)))

/-- R227, R228, R234, R247: the service calls that need no page. -/
def Obligations.ServiceCalls : Prop :=
  ∀ (s : State) (c t : Nat) (x : Task), s.sys.up = true → Calls s c t → x = s.task t →
    (s.now ≤ x.deadline → x.trig = none → x.state = .running →
      (x.pend = none →
        ∃ u, exec (.done c) s = .next u ∧ u.task t = { x with
          seq := (u.task t).seq, runs := x.runs + 1, ovrRun := 0, trig := none, state := .waiting } ∧
          CoreLeft s u c) ∧
      (∀ f k, x.pend = some (f, k) → hookMet s (onTask t) = none →
        ∃ u, exec (.done c) s = .next u ∧ u.task t = { x with
          seq := (u.task t).seq, runs := x.runs + 1, ovrRun := 0, trig := some (f, k), state := .ready, pend := none, deadline := k + taskDeadline x,
          ran := false } ∧ CoreLeft s u c)) ∧
    (s.now < x.deadline → (s.core c).state = .run →
      (rankedTasks s).filter (fun u => taskOn (s.task u) c && (idleFor s u).isNone) = [] →
      ∃ u, exec (.yield c) s = .next u ∧ (u.core c).result = .preempted false ∧ (u.core c).task = some t ∧
        u.cox.tasks = s.cox.tasks) ∧
    (s.now < x.deadline → (s.core c).state = .shutdown → x.state = .running →
      ∃ u, exec (.yield c) s = .next u ∧ (u.task t).state = .preempted ∧
        u.cox.cntPreempt = satInc s.cox.cntPreempt) ∧
    (x.deadline ≤ s.now → ∃ u, exec (.yield c) s = .next u ∧ u.cox.cntOverrun = satInc s.cox.cntOverrun) ∧
    (∀ cls words room, sendOk cls words = false → exec (.send c cls words room) s =
      .next (callReturns c .refused { s with cox := { s.cox with cntRefused := satInc s.cox.cntRefused } })) ∧
    (∀ cls words, sendOk cls words = true →
      exec (.send c cls words true) s = .next (callReturns c .sent (taskSend t cls words s)) ∧
      exec (.send c cls words false) s = .next (pmuSync c (s.setCore c { s.core c with stalled := some (cls, words) }))) ∧
    (∀ s' cls words, s' = s.setCore c { s.core c with stalled := some (cls, words) } →
      exec (.sendBufferRoom c) s' =
        .next (callReturns c .sent (taskSend t cls words (pmuSync c (s'.setCore c { s'.core c with stalled := none }))))) ∧
    exec (.time c) s = .next (callReturns c (.time (BitVec.ofNat 32 s.now) (BitVec.ofNat 32 (s.now / 2 ^ 32))) s) ∧
    (s.cox.userEn.getLsbD c = true → exec (.pmuRead c 8) s = .next (callReturns c (.counter (cycNow s c)) s)) ∧
    (∀ k, k ≠ 8 → s.cox.userEn.getLsbD c = true → exec (.pmuRead c k) s =
      .next (callReturns c (.counter (look 0 ((pmuSync c s).pmu c).cnt k)) (pmuSync c s))) ∧
    (∀ k, s.cox.userEn.getLsbD c = false → exec (.pmuRead c k) s =
      .next (callReturns c (.counter 0) { s with cox := { s.cox with denied := sat 0xFFFF s.cox.denied } })) ∧
    (∀ r a n, n = s.rnode r a →
      exec (.lvtRead c r a) s = .next (callReturns c (.lvt n.lv (n.stamp.getD 0) n.seq.toNat) s))

/-- R227, R255, R257, R262: the service calls on pages. -/
def Obligations.PageCalls : Prop :=
  ∀ (s : State) (c t : Nat), s.sys.up = true → Calls s c t → t < 512 →
    (∀ p rest, (heldPages s (0x100 + t)).length + 1 ≤ bits (s.task t).w4 27 16 → freePages s = p :: rest →
      ∃ u, exec (.pageReq c) s = .next u ∧ (u.page p).state = .held ∧ (u.page p).holder = 0x100 + t ∧
        (u.page p).gen = ((s.page p).gen + 1) % 4096 ∧ (u.core c).result = .page (pageRef (p, ((s.page p).gen + 1) % 4096)) ∧
        (∀ q, q ≠ p → u.page q = s.page q)) ∧
    (bits (s.task t).w4 27 16 < (heldPages s (0x100 + t)).length + 1 →
      ∃ u, exec (.pageReq c) s = .next u ∧ (u.core c).result = .noPage false ∧ u.boat.pages = s.boat.pages) ∧
    ((heldPages s (0x100 + t)).length + 1 ≤ bits (s.task t).w4 27 16 → freePages s = [] →
      ∃ u, exec (.pageReq c) s = .next u ∧ (u.core c).result = .noPage true ∧ u.boat.evicting = true ∧
        u.boat.pages = s.boat.pages) ∧
    (∀ ref p, refPage s (0x100 + t) ref = some p → (s.task t).ctx ≠ some p →
      exec (.pageFree c ref) s = .next (callReturns c .freed (dropPage p s))) ∧
    (∀ ref p, refPage s (0x100 + t) ref = some p → (s.task t).ctx = some p →
      exec (.pageFree c ref) s = .next (callReturns c .refused s)) ∧
    (∀ ref, refPage s (0x100 + t) ref = none → exec (.pageFree c ref) s = .next (callReturns c .evicted s)) ∧
    (∀ (q : CopyReq) p, refPage s (0x100 + t) q.ref = some p → 1 ≤ q.bytes → q.pageOff + q.bytes ≤ 4096 →
      q.dataOff + q.bytes ≤ 163840 →
      exec (.copy c q) s = .next (s.setCore c { copyStaged q (s.core c) with copies := (s.core c).copies ++ [q] })) ∧
    (∀ q : CopyReq, refPage s (0x100 + t) q.ref = none ∨ q.bytes = 0 ∨ 4096 < q.pageOff + q.bytes ∨ 163840 < q.dataOff + q.bytes →
      ∃ u, exec (.copy c q) s = .next u ∧ (u.task t).state = .suspended ∧ CoreLeft s u c) ∧
    (∀ (q : CopyReq) rest p w, (s.core c).copies = q :: rest → refPage s (0x100 + t) q.ref = some p →
      w = accessBank (pageBank p) 8 (pmuSync c (s.setCore c { s.core c with copies := rest, waiting := false })) →
      (q.toPage = true → exec (.copyComplete c) s = .next { w with boat := { w.boat with
        mem := memBytes (4096 * p + q.pageOff) ((List.range q.bytes).map (fun i => dataByte (s.core c) (q.dataOff + i))) s.boat.mem } }) ∧
      (q.toPage = false → exec (.copyComplete c) s = .next (w.setCore c
        (dataPut q.dataOff ((List.range q.bytes).map (fun i => look 0 s.boat.mem (4096 * p + q.pageOff + i))) (w.core c))))) ∧
    exec (.copyWait c) s = .next (pmuSync c (s.setCore c { s.core c with waiting := !(s.core c).copies.isEmpty }))

/-- R223, R235, R236, R268: ends of a run that the task did not choose. -/
def Obligations.OverrunsAndErrors : Prop :=
  ∀ (s : State), s.sys.up = true →
    (∀ t x run, x = s.task t → run = sat 15 x.ovrRun → x.deadline ≤ s.now →
      x.state = .ready ∨ x.state = .running ∨ x.state = .preempted →
      ∃ u, exec (.coxOverrun t) s = .next u ∧
        u.task t = { x with
          ovrFlag := true, overruns := x.overruns + 1, ovrRun := run, trig := none,
          ovrReason := if x.state = .running then 0 else if x.ran then 1 else 2,
          state := if taskLimit x ≠ 0 ∧ taskLimit x ≤ run then .suspended else .waiting,
          pending := if taskLimit x ≠ 0 ∧ taskLimit x ≤ run then false else x.pending } ∧
        u.cox.cntOverrun = satInc s.cox.cntOverrun ∧ u.cox.lastOvr = some (t, (u.task t).ovrReason, x.deadline) ∧
        (Unhooked s 0x400 4 →
          u.ump.reports.map (fun r => (r.line, r.code, r.detail)) = s.ump.reports.map (fun r => (r.line, r.code, r.detail)) ++
            (45, codeCoxOverrun, t) :: (if taskLimit x ≠ 0 ∧ taskLimit x ≤ run then [(45, codeCoxSuspend, t)] else []))) ∧
    (∀ t x, x = s.task t → x.deadline ≤ s.now → x.state = .disabling →
      ∃ u, exec (.coxOverrun t) s = .next u ∧ (u.task t).ovrFlag = true ∧ (u.task t).pending = false ∧
        u.cox.cntOverrun = satInc s.cox.cntOverrun ∧
        (u.task t).state = (if taskLimit x ≠ 0 ∧ taskLimit x ≤ sat 15 x.ovrRun then .suspended
          else if x.pending then .waiting else .disabled)) ∧
    (∀ t, s.now < (s.task t).deadline → exec (.coxOverrun t) s = .next s) ∧
    (∀ c t, (s.core c).task = some t → (s.core c).state = .run →
      ∃ u, exec (.coxMemfault c) s = .next u ∧ (u.task t).state = .suspended ∧ (u.core c).state = .idle ∧
        (u.task t).ovrFlag = true ∧ (Unhooked s 0x400 4 → u.ump.reports.map (fun r => (r.line, r.code, r.detail)) =
          s.ump.reports.map (fun r => (r.line, r.code, r.detail)) ++ [(45, codeCoxMemfault, t)])) ∧
    (∀ c t, c < 8 → (s.core c).task = some t → (s.core c).state = .run → (s.task t).state = .running →
      ∃ u, exec (.dspEcc c) s = .next u ∧ (u.task t).state = .waiting ∧ (u.task t).ovrFlag = true ∧
        (u.core c).eccBit = true ∧ (u.core c).eccOff = true ∧ (u.core c).state ≠ .run ∧ (u.core c).state ≠ .idle) ∧
    (∀ reader, exec (.boatEcc ⟨reader, true⟩) s = .next { s with boat := { s.boat with
      eccCorr := if s.boat.eccCorr = 0xFFFF then 0xFFFF else s.boat.eccCorr + 1 } }) ∧
    (∀ e, e = report 46 codeBoatEcc 0 { s with boat := { s.boat with
        eccUncorr := if s.boat.eccUncorr = 0xFFFF then 0xFFFF else s.boat.eccUncorr + 1 } } →
      exec (.boatEcc ⟨.other, false⟩) s = .next e ∧
      exec (.boatEcc ⟨.host, false⟩) s = .next { e with host := { e.host with resp := [0] } } ∧
      (∀ c t, (s.core c).task = some t → (s.task t).state = .running → (s.core c).state = .run →
        ∃ u, exec (.boatEcc ⟨.core c, false⟩) s = .next u ∧ (u.task t).state = .waiting ∧ (u.task t).ovrFlag = true ∧
          (u.core c).state = .idle ∧ u.boat = e.boat ∧ u.ump = e.ump))

/-- R237, R238, R375, R380: commands on tasks and cores. -/
def Obligations.TaskAndCoreCommands : Prop :=
  ∀ (s : State) (p : Port), s.sys.up = true →
    (∀ t x, Admitted s p rightOps → x = s.task t →
      (∀ l, l = opLogged p 0x000B0070 [BitVec.ofNat 32 (taskStateNo x.state)] [BitVec.ofNat 32 t] s →
        (∀ cap ∈ s.boat.caps, cap.holder ≠ 0x100 + t) →
        (x.state = .waiting → exec (.taskDisable p t) s =
          .next (l.setTask t { x with state := .disabled, trig := none, pend := none })) ∧
        (x.state = .ready ∨ x.state = .preempted → exec (.taskDisable p t) s =
          .next (l.setTask t { x with state := .disabled, ovrFlag := true, trig := none, pend := none })) ∧
        (x.state = .running → exec (.taskDisable p t) s = .next (l.setTask t { x with state := .disabling }))) ∧
      (∀ l, l = opLogged p 0x000B0070 [BitVec.ofNat 32 (taskStateNo x.state)] [BitVec.ofNat 32 (t + 512)] s →
        (x.state = .disabled → taskValid x = true → exec (.taskEnable p t) s = .next (l.setTask t { x with state := .waiting })) ∧
        (x.state = .disabling → exec (.taskEnable p t) s = .next (l.setTask t { x with pending := true }))) ∧
      (x.state = .suspended ∨ x.state = .disabled →
        ∃ u, exec (.taskReload p t) s = .next u ∧ (u.task t).state = .waiting ∧ (u.task t).seq = 0 ∧ (u.task t).ovrRun = 0) ∧
      (x.state ≠ .suspended → x.state ≠ .disabled → exec (.taskReload p t) s = .next (pwRefused p 0x000B0070 s))) ∧
    (∀ c k, Admitted s p rightOps → c < 8 → k = s.core c →
      (k.state = .off → k.bistOff = false → k.eccOff = false → k.failed = false → k.reduced = false → k.halt = false →
        ∃ u, exec (.coreEnable p c) s = .next u ∧ (u.core c).state = .idle ∧ (u.core c).en = true) ∧
      (∀ l, l = opLogged p 0x000B0004 [coreEnBits s] [coreEnBits s &&& ~~~(BitVec.ofNat 32 (1 <<< c))] s → k.en = true →
        (k.state = .idle → k.bistOff = false → k.halt = false → exec (.coreDisable p c) s = .next (pmuSync c
          (l.setCore c { k with en := false, pending := false, task := none, state := .off }))) ∧
        (k.state = .run → exec (.coreDisable p c) s = .next (pmuSync c
          (l.setCore c { k with en := false, pending := false, state := .shutdown }))))) ∧
    (∀ c k, k = s.core c → k.state = .shutdown → k.task = none →
      (k.en = false → k.bistOff = false → k.halt = false →
        exec (.coreShutdownComplete c) s = .next (pmuSync c (s.setCore c { k with pending := false, state := .off }))) ∧
      (k.en = true → k.bistOff = false → k.eccOff = false → k.failed = false → k.reduced = false → k.halt = false →
        exec (.coreShutdownComplete c) s = .next (pmuSync c (s.setCore c { k with pending := false, state := .idle })))) ∧
    (∀ c k, c < 8 → k = s.core c → k.state = .idle → k.halt = false → k.bistOff = false → s.bist.running = none →
      (s.unit (8 + c)).pending = false →
      (s.sec.debug ≠ 0 → reducedNow s = false →
        ∃ u, exec (.coreHalt c false) s = .next u ∧ (u.core c).state = .halt ∧ (u.core c).halt = true) ∧
      (s.sec.debug = 0 → exec (.coreHalt c false) s = .next s)) ∧
    (∀ c k, k = s.core c → k.state = .halt → k.halt = true → k.en = true → k.bistOff = false → k.eccOff = false →
      k.failed = false → k.reduced = false →
      ∃ u, exec (.coreHaltRelease c) s = .next u ∧ (u.core c).state = .idle ∧ (u.core c).halt = false)

/-- R241, R242, R244 to R246: the performance monitor's own commands. -/
def Obligations.PerformanceMonitor : Prop :=
  ∀ (s : State), s.sys.up = true →
    (∀ c k, c < 8 → counting s c = true → cycNow s c < 2 ^ 64 →
      ∃ t, exec (.pmuCounterWrap c k) s = .next t ∧ (t.pmu c).cyc = cycNow s c ∧ (t.pmu c).since = some s.now ∧
        (2 ^ 64 ≤ (s.pmu c).cyc + cyclesSince s c → (t.pmu c).ovf.getLsbD 8 = true)) ∧
    (∀ c k q e t0 t v, c < 8 → k < 8 → q = s.pmu c → counting s c = true → q.since = some t0 → t0 < s.now → q.run = .sends t →
      e = look 0 q.evsel k → evEn e = true → evEvent e = 0x0B → (evFilt e = false ∨ evTask e = t) →
      (∀ j, j < 8 → j ≠ k → evEn (look 0 q.evsel j) = false) → v = look 0 q.cnt k + 6 * (s.now - t0) →
      ∃ u, exec (.pmuCounterWrap c k) s = .next u ∧ (u.pmu c).cnt = put 0 q.cnt k (v % 2 ^ 48) ∧
        (2 ^ 48 ≤ v → (u.pmu c).ovf.getLsbD k = true) ∧
        (2 ^ 48 ≤ v → evIrq e = true → (u.pmu c).sample.getLsbD 31 = true ∧ bits (u.pmu c).sample 27 25 = k ∧
          bits (u.pmu c).sample 24 16 = t % 512 ∧ (u.pmu c).sample.getLsbD 15 = q.sample.getLsbD 31 ∧
          u.host.irqStat.getLsbD 7 = true)) ∧
    (∀ c k, s.cox.freeze = true → exec (.pmuCounterWrap c k) s = .next s) ∧
    (∀ p c, c < 8 → 0 < cycNow s c ∨ counting s c = true → cycNow s c < 2 ^ 64 →
      ∃ t, exec (.pmuSnap p) s = .next t ∧ t.cox.snapValid = true ∧ (t.pmu c).snapCyc = cycNow s c ∧
        (t.pmu c).snap = (t.pmu c).cnt) ∧
    (∀ p c n, c < 8 → n = cycNow s c → 0 < n → n < 2 ^ 64 →
      (∃ t, exec (.pmuFreeze p true) s = .next t ∧ t.cox.freeze = true ∧ (t.pmu c).since = none ∧ (t.pmu c).cyc = n) ∧
      (∃ t, exec (.pmuFreeze p false) s = .next t ∧ t.cox.freeze = false ∧ (t.pmu c).cyc = n ∧
        ((s.core c).state = .run → (t.pmu c).since = some s.now)))

/-- R252, R267, R343: what reading one byte gives after a store, a scrub, a program and an erase. -/
def Obligations.MemoryStoresExactly : Prop :=
  (∀ (m : Tab Byte) (a x : Nat) (bs : List Byte), wf 0 m = true →
    wf 0 (memBytes a bs m) = true ∧
    look 0 (memBytes a bs m) x = (if a ≤ x then (bs[x - a]?).getD (look 0 m x) else look 0 m x)) ∧
  (∀ (s : State) (p x : Nat), wf 0 s.boat.mem = true →
    wf 0 (memZero p s).boat.mem = true ∧
    look 0 (memZero p s).boat.mem x = if 4096 * p ≤ x ∧ x < 4096 * (p + 1) then 0 else look 0 s.boat.mem x) ∧
  (∀ (n : Nvm) (a x : Nat) (bs : List Byte), wf 0xFF n.mem = true →
    wf 0xFF (flashProgram n a bs).mem = true ∧
    flashAt (flashProgram n a bs) x = (if a ≤ x then flashAt n x &&& (bs[x - a]?).getD 0xFF else flashAt n x)) ∧
  (∀ (n : Nvm) (a len x : Nat), wf 0xFF n.mem = true →
    wf 0xFF (flashErase n a len).mem = true ∧
    flashAt (flashErase n a len) x = if a ≤ x ∧ x < a + len then 0xFF else flashAt n x)

/-- R255 to R258, R261 to R263, R267: pages. -/
def Obligations.PagesOfTheBoathouse : Prop :=
  ∀ (s : State), s.sys.up = true →
    (∀ r p rest, (heldPages s r.holder).length + 1 ≤ budgetOf s r.holder → freePages s = p :: rest →
      ∃ t, exec (.boatPageRequest [r]) s = .next t ∧ (t.page p).state = .held ∧ (t.page p).holder = r.holder ∧
        (t.page p).gen = ((s.page p).gen + 1) % 4096 ∧ (∀ q, q ≠ p → t.page q = s.page q) ∧
        look [] t.fab.sent 0x405 = frameWords 0x405 (look 0 s.fab.srcSeq 0x405) 5 0 (crcFor s 0x405 5) [pageRef (p, ((s.page p).gen + 1) % 4096)]) ∧
    (∀ r, budgetOf s r.holder < (heldPages s r.holder).length + 1 →
      ∃ t, exec (.boatPageRequest [r]) s = .next t ∧ t.boat.pages = s.boat.pages ∧ t.boat.evicting = s.boat.evicting ∧
        look [] t.fab.sent 0x405 = frameWords 0x405 (look 0 s.fab.srcSeq 0x405) 5 0 (crcFor s 0x405 5) [nullReference 2]) ∧
    (∀ r, (heldPages s r.holder).length + 1 ≤ budgetOf s r.holder → freePages s = [] →
      ∃ t, exec (.boatPageRequest [r]) s = .next t ∧ t.boat.pages = s.boat.pages ∧ t.boat.evicting = true ∧
        look [] t.fab.sent 0x405 = frameWords 0x405 (look 0 s.fab.srcSeq 0x405) 5 0 (crcFor s 0x405 5) [nullReference 1]) ∧
    (∀ a b p q rest, a.port < b.port → a.holder ≠ b.holder → (heldPages s a.holder).length + 1 ≤ budgetOf s a.holder →
      (heldPages s b.holder).length + 1 ≤ budgetOf s b.holder → freePages s = p :: q :: rest →
      ∃ t, exec (.boatPageRequest [b, a]) s = .next t ∧ (t.page p).holder = a.holder ∧ (t.page q).holder = b.holder ∧
        (t.page p).state = .held ∧ (t.page q).state = .held) ∧
    (s.boat.evicting = true → evictChoice s = none →
      exec .evictionComplete s = .next { s with boat := { s.boat with evicting := false } }) ∧
    (∀ x p, s.boat.evicting = true → 0 < s.boat.reclaim → evictChoice s = some x → oldestPage s x = some p →
      ∃ t, exec .evictionComplete s = .next t ∧ t.boat.evicting = false ∧ (t.page p).state = .scrub ∧ (t.page p).holder = 0) ∧
    (s.boat.evicting = false → exec .evictionComplete s = .next s) ∧
    (∀ p, (s.page p).state = .scrub →
      exec (.pageScrubComplete p) s =
        .next ((accessBank (pageBank p) 10 (memZero p s)).setPage p { s.page p with state := .free })) ∧
    (∀ prt ref p, refPage s 0x400 ref = some p → exec (.boatHostFreeWrite prt ref) s = .next (dropPage p s)) ∧
    (∀ prt ref, refPage s 0x400 ref = none → exec (.boatHostFreeWrite prt ref) s =
      .next (refuse 0x000C00A8 { s with boat := { s.boat with cntWinref := satInc s.boat.cntWinref } })) ∧
    (∀ prt p o v, 800 ≤ p → p < 4096 → o < 4096 → (s.page p).state = .held → (s.page p).holder = 0x400 →
      exec (.boatWindowWrite prt (0x01000000 + 0x1000 * p + o) v) s = .next (accessBank (pageBank p) 9
        { s with boat := { s.boat with mem := memBytes (4096 * p + o / 4 * 4) (leBytes v.toNat 4) s.boat.mem } })) ∧
    (∀ prt p o v, p < 4096 → o < 4096 → (s.page p).state ≠ .held ∨ (s.page p).holder ≠ 0x400 →
      exec (.boatWindowWrite prt (0x01000000 + 0x1000 * p + o) v) s =
        .next (refuse (0x01000000 + 0x1000 * p + o) { s with boat := { s.boat with cntWinref := satInc s.boat.cntWinref } }))

/-- R254, R259, R260: streams and captures. -/
def Obligations.StreamsAndCaptures : Prop :=
  ∀ (s : State) (ch : Nat), s.sys.up = true → ch < 32 →
    (∀ ws, (s.ain ch).frame = some ws → hookMet s (onStream ch) = none →
      (∀ c ∈ s.boat.caps, c.filling = true → c.chan ≠ some ch) →
      (∃ t, exec (.streamFrameWrite ch true) s = .next t ∧
        t.boat.mem = memBytes (102400 * ch + 68 * (look {} s.boat.streams ch).next) (ws.flatMap (fun w => leBytes w.toNat 4)) s.boat.mem ∧
        (look {} t.boat.streams ch).count = (look {} s.boat.streams ch).count + 1 ∧
        (look {} t.boat.streams ch).next =
          (if (look {} s.boat.streams ch).next < 1504 then (look {} s.boat.streams ch).next + 1 else 0)) ∧
      (∃ t, exec (.streamFrameWrite ch false) s = .next t ∧ t.boat.mem = s.boat.mem ∧
        (look {} t.boat.streams ch).drop = (if (look {} s.boat.streams ch).drop = 0xFFFF then 0xFFFF
          else (look {} s.boat.streams ch).drop + 1))) ∧
    (∀ t w0 w1, t < 512 → bits w0 31 24 = 0x10 → bits w0 4 0 = ch → fillingCount s < 64 →
      (channelReady s ch = false → exec (.afeCaptureRequest (0x100 + t) w0 w1) s =
        .next (sendFrame 0x405 5 [pack [(4, 24, 8)], 0, 4] s)) ∧
      (∀ n, n = pagesFor (bits w1 15 0 + 1) → channelReady s ch = true →
        (heldPages s (0x100 + t)).length + n ≤ budgetOf s (0x100 + t) → n ≤ (freePages s).length →
        ∃ u c, exec (.afeCaptureRequest (0x100 + t) w0 w1) s = .next u ∧ u.boat.caps = s.boat.caps ++ [c] ∧
          c.filling = true ∧ c.holder = 0x100 + t ∧ c.chan = some ch ∧ c.count = bits w1 15 0 + 1 ∧ c.written = 0 ∧
          c.pages.map (·.1) = (freePages s).take n ∧ c.pages.length = n)) ∧
    (∀ prt v, bits v 4 0 = ch → fillingCount s < 64 →
      (channelReady s ch = false → exec (.boatHostCapWrite prt v) s = .next { refuse 0x000C00A0 s with
        boat := { s.boat with hostStatus := 7, hostCtx := 0, hostPages := 0 } }) ∧
      (∀ n, n = pagesFor (bits v 31 16 + 1) → channelReady s ch = true →
        (heldPages s 0x400).length + n ≤ s.boat.hostBudget → n ≤ (freePages s).length →
        ∃ u c, exec (.boatHostCapWrite prt v) s = .next u ∧ u.boat.caps = s.boat.caps ++ [c] ∧ c.holder = 0x400 ∧
          c.chan = some ch ∧ c.pages.length = n ∧ u.boat.hostStatus = 1 ∧ u.boat.hostCtx = c.ctx ∧ u.boat.hostPages = n))

/-- R296: suspending and resuming a stream. -/
def Obligations.StreamsResume : Prop :=
  (∀ c ws, ParametersFit c → ctxLive (fedWords ws (crcStart c)) 0x20 = some (fedWords ws (crcStart c)).reg) ∧
  (∀ (s : State) (p : Port) (n : Nat) (v : Word), s.sys.up = true → 8 ≤ n → n < 16 →
    exec (.crcValueWrite p n v) s = .next (s.setCtx n { s.ctx n with reg := v &&& crcMask (s.ctx n), live := true })) ∧
  (∀ (c d : CrcCtx) (ws vs : List Word) (v : Word), ParametersFit c → SameParameters c d →
    ctxLive (fedWords ws (crcStart c)) 0x20 = some v →
    crcResult (fedWords vs (crcLoad v d)) = crcResult (fedWords (ws ++ vs) (crcStart c)))

/-- R275, R293, R295, R297, R298, R303: the check-value unit's commands and an alarm entry's update. -/
def Obligations.CheckValueContexts : Prop :=
  ∀ (s : State) (p : Port) (n : Nat), s.sys.up = true →
    (∀ c, c = s.ctx n → 8 ≤ n → n < 16 →
      (crcFoldN c = 0 → exec (.crcStart p n) s = .next (s.setCtx n { c with reg := c.init, live := true, words := 0 })) ∧
      (crcFoldN c = 1 → exec (.crcStart p n) s =
        .next (s.setCtx n { c with reg := crcFeed c c.fold0 32 c.init, live := true, words := 0 })) ∧
      (crcFoldN c = 2 → exec (.crcStart p n) s =
        .next (s.setCtx n { c with reg := crcFeed c c.fold1 32 (crcFeed c c.fold0 32 c.init), live := true, words := 0 })) ∧
      (∀ d t, t = s.setCtx n { c with reg := crcFeed c d (crcLen c) c.reg, live := true, words := sat 0xFFFF c.words } →
        exec (.crcDinWrite p n d) s = .next { t with crc := { t.crc with ptr := (n + 1) % 16 } }) ∧
      (crcResult c = c.expect → exec (.crcCheck p n) s = .next (s.setCtx n { c with isMatch := true })) ∧
      (crcResult c ≠ c.expect →
        ∃ t, t = s.setCtx n { c with isMatch := false, mismatch := true, mismatches := c.mismatches + 1 } ∧
          exec (.crcCheck p n) s = .next (if c.cfg.getLsbD 12 then
            { t with host := { s.host with irqStat := s.host.irqStat ||| 4 } } else t))) ∧
    (n < 8 → ∀ v off, ∀ c ∈ [(Instr.crcStart p n, 0x18), (.crcCheck p n, 0x18), (.crcDinWrite p n v, 0x1C), (.crcValueWrite p n v, 0x20)],
      c.2 = off → exec c.1 s = .next (refuse (0x000E0100 + 0x40 * n + off)
        { s with crc := { s.crc with refused := satInc s.crc.refused } })) ∧
    (∃ t, exec (.crcKatRun true) s = .next t ∧ t.crc.katPass = true ∧ t.crc.katFail = false ∧
      t.crc.katRuns = s.crc.katRuns + 1 ∧ crcResult (t.ctx 7) = 0xE3069283 ∧ t.ump = s.ump) ∧
    (∃ t, exec (.crcKatRun false) s = .next t ∧ t.crc.katPass = false ∧ t.crc.katFail = true ∧
      ∃ r : Report, t.ump.reports = s.ump.reports ++ [r] ∧ r.code = codeCrcKat ∧ (r.line = 13 ↔ s.seat.rotAt = 0)) ∧
    (∀ e a ws, a = s.alarmE e → a.next = some ws → exec (.alarmEntryUpdate e) s = .next (s.setAlarm e { a with
      words := ws, next := none, run := 0, state := if alarmOn ws then a.state else .normal }))

/-- R248: a core's slice clears its counters. -/
def Obligations.CoreSliceClearsCounters : Prop :=
  ∀ (s : State) (c : Nat), s.sys.up = true → c < 8 → SliceMayStart s (coreUnit c) →
    ∃ t, exec (.bistSliceStart (coreUnit c) true) s = .next t ∧ t.bist.running = some (coreUnit c) ∧
      (∀ k, look 0 (t.pmu c).cnt k = 0) ∧ cycNow t c = 0 ∧ (t.pmu c).ovf.getLsbD 9 = true

/-- R324 to R326, R328, R332, R333, R336: slices. R334: the host's slice requests. -/
def Obligations.SelfTestSlicesAndCommands : Prop :=
  (
    ∀ (s : State), s.sys.up = true →
      (∀ l, s.bist.bootDone = true → (s.mgr l).sliceReq = true → laneBusy s = false → s.seat.state ≠ .start →
        exec (.bistSliceRequest l) s = .next ((seatCommand 3 l (s.setMgr l { s.mgr l with sliceReq := false })).setUnit (laneNo l)
          { s.unit (laneNo l) with pending := true, mode := 1 })) ∧
      (s.bist.bootDone = true → s.bist.coreEn = true → s.sec.power = 0 →
        s.bist.coreAt + s.bist.period * secTicks ≤ s.now →
        ∃ t, exec .coreSliceDue s = .next t ∧ t.bist.turn = (s.bist.turn + 1) % 8 ∧
          t.bist.coreAt = s.bist.coreAt + s.bist.period * secTicks ∧
          (s.bist.ctrlFail = false → (s.core s.bist.turn).state = .run →
            (t.core s.bist.turn).state = .shutdown ∧ (t.unit (coreUnit s.bist.turn)).pending = true)) ∧
      (∀ u v ok, s.bist.running = some v → exec (.bistSliceStart u ok) s = .next s) ∧
      (∀ u, SliceMayStart s u →
        (∃ t, exec (.bistSliceStart u true) s = .next t ∧ t.bist.running = some u ∧ t.bist.started = s.now ∧
          (t.unit u).sig = 0xFFFFFFFFFFFFFFFF ∧ (t.unit u).done = false ∧ (t.unit u).runs = (s.unit u).runs + 1) ∧
        (∃ t, exec (.bistSliceStart u false) s = .next t ∧ t.bist.ctrlFail = true ∧ t.bist.running = none ∧
          t.ump.reports = s.ump.reports ++
            [{ line := if s.bist.bootDone then 48 else 12, code := codeBistFail, detail := 0xFF, time := s.timeNow }] ∧
          (s.bist.bootDone = true → wf {} s.bist.units = true → ∀ v, v < 4 ∨ 8 ≤ v ∧ v < 16 → (t.unit v).pending = false))) ∧
      (∀ u misr sig, s.bist.running = some u → 10 * (s.now - s.bist.started) ≤ 11 * sliceTicks u →
        (isLaneUnit u = true → laneUnpowered s (laneOf u) = false) → sig = sliceSig misr (fullCount u) →
        (sig = expectedSig u →
          ∃ t, exec (.bistSliceComplete u (fullCount u) true misr) s = .next t ∧ t.bist.running = none ∧ (t.unit u).last = 1 ∧
            (t.unit u).done = true ∧ (t.unit u).sig = sig ∧ (t.unit u).count = fullCount u) ∧
        (∀ seg, (sig ≠ expectedSig u ∨ seg = false) →
        ∃ t, exec (.bistSliceComplete u (fullCount u) seg misr) s = .next t ∧ t.bist.running = none ∧ (t.unit u).last = 2 ∧
          (t.unit u).cause = (if sig = expectedSig u then 3 else 1) ∧ (t.unit u).sig = sig ∧ (t.unit u).fails = (s.unit u).fails + 1 ∧
          ∃ r ∈ t.ump.reports, r.code = codeBistFail ∧ r.detail = u)) ∧
      (∀ u n seg misr, n ≠ fullCount u → exec (.bistSliceComplete u n seg misr) s = .next s) ∧
      (∀ u, s.bist.running = some u → 11 * sliceTicks u ≤ 10 * (s.now - s.bist.started) →
        ∃ t, exec (.bistSliceTimeout u) s = .next t ∧ t.bist.running = none ∧ (t.unit u).last = 2 ∧ (t.unit u).cause = 2 ∧
          (t.unit u).done = false) ∧
      (∀ u, s.bist.running = some u → 10 * (s.now - s.bist.started) < 11 * sliceTicks u →
        exec (.bistSliceTimeout u) s = .next s)) ∧
  (
    ∀ (s : State) (p : Port) (v : Word) (u : Nat), s.sys.up = true → Admitted s p rightOps → u = bits v 3 0 →
      (s.bist.ctrlFail = false → s.bist.bootDone = true → 8 ≤ u → s.sec.power = 0 ∨ s.sec.power = 2 →
        ∃ t, exec (.bistCmdWrite p v) s = .next t ∧ (t.unit u).pending = true ∧ (t.core (u - 8)).bistOff = true ∧
          t.bist.refused = s.bist.refused) ∧
      (s.bist.ctrlFail = false → s.bist.bootDone = true → 1 ≤ u → u ≤ 3 → notRetired s (laneOf u) = true → s.sec.power = 2 →
        ∃ t, exec (.bistCmdWrite p v) s = .next t ∧ (t.unit u).pending = true ∧ t.bist.refused = s.bist.refused) ∧
      (s.bist.ctrlFail = true ∨ s.bist.bootDone = false ∨ u = 0 ∨ 4 ≤ u ∧ u ≤ 7 ∨ s.sec.power = 1 ∨ s.sec.power = 0 ∧ u < 8 ∨
          1 ≤ u ∧ u ≤ 3 ∧ notRetired s (laneOf u) = false →
        exec (.bistCmdWrite p v) s = .next { pwRefused p 0x000F000C s with
          bist := { s.bist with refused := satInc s.bist.refused } }))

/-- A step takes the front command; an idle step lets one period of TCLK pass, up to the next boundary, and the fabric grants
meanwhile (DESIGN CHOICE, log entry 2). Every command completes: the block stops on none. -/
def Obligations.StepRunsFrontCommand : Prop :=
  (∀ (c : Instr) (rest : List Instr) (s : State), step { s with pending := c :: rest } = exec c { s with pending := rest }) ∧
  (∀ s : State, s.pending = [] → s.sys.up = true →
    step s = .next { s with
      now := min (s.now + 1) (s.t0 + 12499),
      fab := fabricTo (backPressure s) s.t0 (min (s.now + 1) (s.t0 + 12499)) s.fab }) ∧
  (∀ s : State, s.pending = [] → s.sys.up = false → step s = .next s) ∧
  (∀ (c : Instr) (s : State), ∃ t, exec c s = .next t)

/-- The state after reset. -/
def Obligations.ResetState : Prop :=
  State.reset.seat.state = .start ∧ State.reset.seat.bow = none ∧ State.reset.seat.stroke = none ∧ State.reset.seat.spare = none ∧
  State.reset.sec.power = 2 ∧ State.reset.sec.debug = 0 ∧ State.reset.sec.sessions = [] ∧
  State.reset.ump.lo = 0 ∧ State.reset.ump.hi = 0 ∧ State.reset.nvm.armed = false ∧
  (∀ g, (State.reset.group g).good = false) ∧ (∀ k, energised State.reset k = false) ∧
  State.reset.boat.mem = [] ∧ State.reset.nvm.mem = [] ∧ State.reset.pending = [] ∧
  MemoriesCanonical State.reset ∧ LifecycleLegal State.reset

/-- The memories' canonical form is an invariant of the step. -/
def Obligations.StepKeepsMemoriesCanonical : Prop :=
  ∀ s t : State, MemoriesCanonical s → step s = .next t → MemoriesCanonical t

/-- R373, R374: the lifecycle is one-way; the queue is the step's alone. -/
def Obligations.LifecycleOnlyAdvances : Prop :=
  (∀ (c : Instr) (s t : State), LifecycleLegal s → exec c s = .next t →
    t.pending = s.pending ∧ LifecycleLegal t ∧ s.otp.lc ≤ t.otp.lc ∧ s.otp.lcNext ≤ t.otp.lcNext) ∧
  (∀ s t : State, LifecycleLegal s → step s = .next t → LifecycleLegal t)

/-- R341, R342, R349 to R352, R363: start-up from the flash. -/
def Obligations.StartUp : Prop :=
  ∀ s : State, s.sys.up = true →
    (∀ f, (s.unit 5).last ≠ 1 ∨ s.nvm.started = true → exec (.nvmControllerStart f) s = .next s) ∧
    (∀ f, (s.unit 5).last = 1 → s.nvm.started = false → flashUsable f = false →
      ∃ t, exec (.nvmControllerStart f) s = .next t ∧ t.nvm.usable = false ∧ t.nvm.fail = true ∧ t.nvm.passing = s.nvm.passing ∧
        ∃ r ∈ t.ump.reports, r.line = 11 ∧ r.code = codeNvmFail) ∧
    (∀ f, (s.unit 5).last = 1 → s.nvm.started = false → flashUsable f = true → s.otp.lc ≠ 2 →
      ∃ t, exec (.nvmControllerStart f) s = .next t ∧ t.nvm.started = true ∧ t.nvm.usable = true ∧
        t.nvm.sizeLog2 = f.sizeLog2 ∧ (f.fitted = none → t.nvm.mem = s.nvm.mem) ∧ t.nvm.armed = s.nvm.armed ∧
        (bankHeaderOk t.nvm 0 = true → bankHeaderOk t.nvm 1 = true →
          t.nvm.passing = some (if newer (hdrSeq (bankHeader t.nvm 1)) (hdrSeq (bankHeader t.nvm 0)) then 1 else 0)) ∧
        (bankHeaderOk t.nvm 0 = true → bankHeaderOk t.nvm 1 = false → t.nvm.passing = some 0 ∧ t.nvm.order = []) ∧
        (bankHeaderOk t.nvm 0 = false → bankHeaderOk t.nvm 1 = true → t.nvm.passing = some 1 ∧ t.nvm.order = []) ∧
        (bankHeaderOk t.nvm 0 = false → bankHeaderOk t.nvm 1 = false → t.nvm.passing = s.nvm.passing ∧
          ∃ r ∈ t.ump.reports, r.line = 11 ∧ r.code = codeCfgNone)) ∧
    (s.nvm.armed = false → exec (.nvmFail true) s = .next (report 11 codeNvmFail 0
      { s with nvm := { s.nvm with fail := true, usable := false, passing := none, order := [] } })) ∧
    (s.nvm.armed = true → exec (.nvmFail true) s = .next s) ∧
    (∃ t, exec (.nvmFail false) s = .next t ∧ t.nvm.timeouts = s.nvm.timeouts + 1 ∧ t.nvm.fail = true ∧
      t.nvm.armed = s.nvm.armed ∧ (s.nvm.wr.step ≠ 0 → t.nvm.wr.state = 6 ∧ t.nvm.wr.cause = 8 ∧ t.nvm.wr.step = 0) ∧
      ∃ r ∈ t.ump.reports, r.line = 49 ∧ r.code = codeNvmFail) ∧
    (∀ l ok bytes crc, safetySource s = some (bytes, crc) → (s.mgr l).phase = .start → (s.mgr l).tested = true →
      (s.mgr l).loaded = false → laneUnpowered s l = false →
      ∃ t, exec (.laneConfigLoad l ok) s = .next t ∧ t.fld = s.fld ∧ t.nvm.armed = s.nvm.armed ∧
        (∀ k, k ≠ l → t.laneD k = s.laneD k ∧ t.mgr k = s.mgr k) ∧
        (ok = true → crc32cBytes bytes = crc → (t.laneD l).image = some (Config.parseSafety bytes) ∧ (t.laneD l).digest = crc ∧
          (t.laneD l).blocks = [] ∧ (t.mgr l).loaded = true ∧ t.nvm = s.nvm ∧ t.ump = s.ump) ∧
        (ok = false ∨ crc32cBytes bytes ≠ crc → (t.laneD l).image = none ∧ (t.laneD l).digest ≠ crc ∧
          (ok = true → (t.laneD l).digest = crc32cBytes bytes) ∧ (t.mgr l).loaded = false ∧
          triGet t.nvm.digestFails l = triGet s.nvm.digestFails l + 1 ∧
          t.ump.reports = s.ump.reports ++ (if triGet s.nvm.digestFails l = 1 then
            [{ line := 11, code := codeCfgDigest, detail := 0, time := s.timeNow }] else []))) ∧
    (∀ l ok, safetySource s = none ∨ (s.mgr l).phase ≠ .start ∨ (s.mgr l).tested = false ∨ (s.mgr l).loaded = true ∨
      laneUnpowered s l = true → exec (.laneConfigLoad l ok) s = .next s) ∧
    (∀ bytes crc, safetySource s = some (bytes, crc) → (s.unit 4).last = 1 → s.nvm.fieldLoaded = false →
      ∃ t, exec .fieldPartLoad s = .next t ∧ t.fld.safety = some (Config.parseSafety bytes) ∧ t.nvm.fieldLoaded = true) ∧
    (s.nvm.passing = none → exec .fullPassComplete s = .next s) ∧
    (∀ b, s.nvm.passing = some b → bankReason s b = 0 →
      ∃ t, exec .fullPassComplete s = .next t ∧ t.nvm.armed = true ∧ t.nvm.bank = b ∧ t.nvm.passing = none ∧
        t.nvm.digest = BitVec.ofNat 32 (secCrc (bankHeader s.nvm b) 0) ∧ t.nvm.mem = s.nvm.mem ∧ t.lane = s.lane) ∧
    (∀ b, s.nvm.passing = some b → bankReason s b ≠ 0 →
      ∃ t, exec .fullPassComplete s = .next t ∧ t.nvm.armed = s.nvm.armed ∧ t.nvm.passing = s.nvm.order.head? ∧
        t.nvm.mem = s.nvm.mem ∧ t.fld.safety = none ∧ (∀ l, (t.laneD l).image = none) ∧
        ∃ r ∈ t.ump.reports, r.line = 49 ∧ r.code = codeCfgBank) ∧
    (s.nvm.armed = true → s.nvm.logReady = false →
      ∃ t, exec .logScanComplete s = .next t ∧ t.nvm.logReady = true ∧ t.nvm.armed = true ∧ t.nvm.bank = s.nvm.bank ∧
        ((currentArea s.nvm).isSome → t.nvm.lostChanges = (logScan s.nvm).lostChanges)) ∧
    (s.nvm.armed = false ∨ s.nvm.logReady = true → exec .logScanComplete s = .next s)

/-- R354, R356, R357: image writes. -/
def Obligations.ImageWrites : Prop :=
  ∀ s : State, s.sys.up = true →
    (∀ p v, s.crc.katFail = false → s.nvm.wr.step = 0 → s.nvm.usable = true → s.nvm.wp = false →
      ∃ t, exec (.cfgOpen p v) s = .next t ∧ t.nvm.wr.state = 1 ∧ t.nvm.wr.step = 1 ∧ t.nvm.wr.byModule = false ∧
        t.nvm.wr.target = otherBank s ∧ t.nvm.imgPending = false ∧ bankHeaderOk t.nvm (otherBank s) = false ∧
        (∀ a, a < bankBase s.nvm (otherBank s) ∨ bankBase s.nvm (otherBank s) + 4096 ≤ a →
          flashAt t.nvm a = flashAt s.nvm a) ∧ t = { s with nvm := t.nvm }) ∧
    (∀ p v, s.crc.katFail = true → exec (.cfgOpen p v) s = .next (refuse addrWrCtrl s)) ∧
    (∀ p v, s.crc.katFail = false → s.nvm.wr.step ≠ 0 → exec (.cfgOpen p v) s =
      .next (refuse addrWrCtrl { s with nvm := { s.nvm with wr := { s.nvm.wr with cause := 1 } } })) ∧
    (∀ p v, s.crc.katFail = false → s.nvm.wr.state = 2 → s.nvm.wr.byModule = false → (s.nvm.armed = true → s.nvm.logReady = true) →
      logFull s.nvm = false →
      ∃ t, exec (.cfgCommit p v) s = .next t ∧ t.nvm.wr.state = 3 ∧ t.nvm.wr.step = 4 ∧
        t.nvm.wr.slot = (sessionOf s p).map (·.slot) ∧ t.nvm.mem = s.nvm.mem) ∧
    (∀ p v, s.nvm.wr.state ≠ 2 ∨ s.nvm.wr.byModule = true ∨ s.crc.katFail = true → exec (.cfgCommit p v) s = .next (refuse addrWrCtrl s)) ∧
    (∀ p v, s.crc.katFail = false → s.nvm.wr.state = 2 → s.nvm.wr.byModule = false → logFull s.nvm = true →
      exec (.cfgCommit p v) s = .next (secRefuse addrWrCtrl codeLogFull (touchSession p s))) ∧
    (∀ p, 1 ≤ s.nvm.wr.step → s.nvm.wr.step ≤ 5 → s.nvm.wr.byModule = false →
      ∃ t, exec (.cfgCancel p) s = .next t ∧ t.nvm.wr.state = 6 ∧ t.nvm.wr.cause = 9 ∧ t.nvm.wr.step = 0 ∧
        bankHeaderOk t.nvm s.nvm.wr.target = false) ∧
    (∀ p, s.nvm.wr.step = 0 ∨ s.nvm.wr.step = 6 ∨ s.nvm.wr.byModule = true → exec (.cfgCancel p) s = .next s) ∧
    (s.nvm.wr.step ≠ 0 → ∃ t, exec (.flashOperationComplete false) s = .next t ∧ t.nvm.wr.state = 6 ∧
      t.nvm.wr.cause = 8 ∧ t.nvm.wr.step = 0 ∧ bankHeaderOk t.nvm s.nvm.wr.target = false ∧
      t.nvm.armed = s.nvm.armed ∧ t.nvm.bank = s.nvm.bank) ∧
    (∀ ok, s.nvm.wr.step = 0 → exec (.flashOperationComplete ok) s = .next s) ∧
    (s.nvm.wr.step = 4 → commitCause s = 0 → ∃ t, exec (.flashOperationComplete true) s = .next t ∧
      t.nvm.wr.step = 5 ∧ t.nvm.wr.state = 4 ∧ t.nvm.mem = s.nvm.mem ∧
      t.nvm.wr.header = s.nvm.wr.header.take 0xC0 ++ commitRecord s s.nvm.wr.header) ∧
    (∀ p v, s.crc.katFail = false → s.nvm.wr.step = 0 → s.nvm.usable = false ∨ s.nvm.wp = true →
      exec (.cfgOpen p v) s = .next (refuse addrWrCtrl { s with nvm := { s.nvm with wr := { state := 6, cause := 8 } } })) ∧
    (s.nvm.wr.step = 4 → commitCause s ≠ 0 → ∃ t, exec (.flashOperationComplete true) s = .next t ∧
      t.nvm.wr.state = 6 ∧ t.nvm.wr.cause = commitCause s ∧
      t.sys.refused = (if s.nvm.wr.byModule then s.sys.refused else satInc s.sys.refused) ∧ bankHeaderOk t.nvm s.nvm.wr.target = false) ∧
    (s.nvm.wr.step = 6 → ∃ t, exec (.flashOperationComplete true) s = .next t ∧ t.nvm.wr.state = 5 ∧ t.nvm.wr.step = 0 ∧
      t.nvm.wr.cause = 0 ∧ t.nvm.imgPending = true ∧ t.nvm.armed = s.nvm.armed ∧ t.nvm.bank = s.nvm.bank) ∧
    (persistDue s = true → ∃ t, exec .cmPersistStart s = .next t ∧ t.nvm.wr.state = 1 ∧ t.nvm.wr.byModule = true ∧
      t.nvm.wr.target = otherBank s ∧ t.nvm.wr.slot = some s.nvm.cmSlot ∧ t.nvm.cmUnsaved = none ∧
      bankHeaderOk t.nvm (otherBank s) = false) ∧
    (persistDue s = false → exec .cmPersistStart s = .next s)

/-- R356 to R361, R372, R275: the change log and CM parameters. -/
def Obligations.LogAndChanges : Prop :=
  ∀ s : State, s.sys.up = true →
    (∀ p c, Admitted s p rightCm → cmValueOk s c = true → s.nvm.armed = true → s.sec.power = 0 →
      (s.nvm.imgPending = true → s.nvm.wr.byModule = true) →
      ∃ t, exec (.passwordClassChange p c) s = .next t ∧ t.nvm.cmChanged = true ∧
        t.nvm.cmUnsaved = some (s.nvm.cmUnsaved.getD s.now) ∧ t.nvm.logSeq = (s.nvm.logSeq + 1) % 4294967296 ∧
        t.nvm.cmChanges = put [] s.nvm.cmChanges (cmKey c) (cmValue c) ∧
        (∀ r uid ms, c = .interval r uid ms → bookedInterval t r uid = some ms) ∧
        (∀ n ws, c = .alarm n ws → (t.alarmE n).next = some ws ∧ ∀ k, k ≠ n → t.alarmE k = s.alarmE k)) ∧
    (∀ p c, hasRight s p rightCm = false ∨ cmValueOk s c = false ∨ s.nvm.armed = false ∨ s.sec.power ≠ 0 ∨
        s.nvm.imgPending = true ∧ s.nvm.wr.byModule = false →
      exec (.passwordClassChange p c) s = .next (pwRefused p (cmParam c) s)) ∧
    (∀ p v, s.nvm.logReady = true → (v.toNat + 4294967296 - s.nvm.logAck) % 4294967296 < logUnexported s.nvm →
      ∃ t, exec (.logAckWrite p v) s = .next t ∧ t.nvm.logAck = (v.toNat + 1) % 4294967296 ∧
        t = { s with nvm := { s.nvm with logAck := t.nvm.logAck, logErasing := t.nvm.logErasing } }) ∧
    (∀ p v, s.nvm.logReady = false ∨ logUnexported s.nvm ≤ (v.toNat + 4294967296 - s.nvm.logAck) % 4294967296 →
      exec (.logAckWrite p v) s = .next (refuse addrLogAck s)) ∧
    (MemoriesCanonical s → s.nvm.logReady = true → s.nvm.logErasing = true → s.nvm.usable = true → s.nvm.wp = false →
      s.nvm.logNext < 8192 →
      ∃ t, exec .logAreaEraseComplete s = .next t ∧ t.nvm.logErasing = false ∧ t.nvm.logOther = true ∧
        areaOk t.nvm (1 - s.nvm.logArea) = true ∧ areaGen t.nvm (1 - s.nvm.logArea) = (s.nvm.logGen + 1) % 4294967296 ∧
        ∀ a, a < logBase s.nvm (1 - s.nvm.logArea) ∨ logBase s.nvm (1 - s.nvm.logArea) + 0x81000 ≤ a →
          flashAt t.nvm a = flashAt s.nvm a) ∧
    (s.nvm.logReady = false ∨ s.nvm.logErasing = false ∨ s.nvm.usable = false ∨ s.nvm.wp = true → exec .logAreaEraseComplete s = .next s)

/-- R367, R368: the seal. -/
def Obligations.SealInputs : Prop :=
  ∀ s : State, s.sys.up = true →
    (∀ a b, s.now < (s.sec.sealSamples + 1) * 100000 → exec (.sealInputChange a b) s = .next s) ∧
    (∀ a b, (s.sec.sealSamples + 1) * 100000 ≤ s.now →
      ∃ t, exec (.sealInputChange a b) s = .next t ∧ t.sec.sealSamples = s.sec.sealSamples + 1 ∧
        t.sec.sealA = (if a ≠ s.sec.sealA ∧ s.sec.sealRunA = 19 then a else s.sec.sealA) ∧
        t.sec.sealB = (if b ≠ s.sec.sealB ∧ s.sec.sealRunB = 19 then b else s.sec.sealB) ∧
        t.sec.sealRunA = (if a = s.sec.sealA then 0 else (s.sec.sealRunA + 1) % 20) ∧
        t.sec.sealRunB = (if b = s.sec.sealB then 0 else (s.sec.sealRunB + 1) % 20) ∧
        t.sec.sealOpenRun = (if a = false ∧ b = false then min 20 (s.sec.sealOpenRun + 1) else 0) ∧
        t.sec.sealDisc = (s.sec.sealDisc && decide (t.sec.sealOpenRun < 20)) ∧
        t.sec.sealDiffRun = (if t.sec.sealA = t.sec.sealB then 0 else min 1000 (s.sec.sealDiffRun + 1)) ∧
        t.sec.cntSeal = s.sec.cntSeal + (if t.sec.sealA ≠ s.sec.sealA then 1 else 0) + (if t.sec.sealB ≠ s.sec.sealB then 1 else 0) ∧
        t.seat = s.seat ∧ t.fld = s.fld ∧ t.lane = s.lane ∧ t.otp = s.otp ∧
        (t.sec.sealA = s.sec.sealA → t.sec.sealB = s.sec.sealB → t = { s with sec := t.sec }) ∧
        (t.sec.sealA ≠ s.sec.sealA ∨ t.sec.sealB ≠ s.sec.sealB →
          (∃ r ∈ t.ump.reports, r.line = 50 ∧ r.code = codeSealChange) ∧ (sealClosed t = false → t.nvm.wr.sealOk = false))) ∧
    (s.sec.sealDiffRun = 1000 → s.sec.sealDisc = false →
      ∃ t, exec .sealDisc s = .next t ∧ t.sec = { s.sec with sealDisc := true, cntDisc := s.sec.cntDisc + 1 } ∧
        sealClosed t = false ∧ t.nvm.wr.sealOk = false ∧ ∃ r ∈ t.ump.reports, r.line = 50 ∧ r.code = codeSealChange) ∧
    (s.sec.sealDiffRun ≠ 1000 ∨ s.sec.sealDisc = true → exec .sealDisc s = .next s)

/-- R369 to R371: logins. -/
def Obligations.Logins : Prop :=
  ∀ s : State, s.sys.up = true →
    (∀ p k, ∃ t nonce, exec (.loginChallenge p k) s = .next t ∧ (t.login p).nonce = some nonce ∧ nonce.length = 16 ∧
      (t.login p).used = false ∧ (t.login p).issued = s.now ∧ (t.login p).slot = k % 8 ∧
      (t.login p).salt = (pwSlot s (k % 8)).salt ∧ t.sec.sessions = s.sec.sessions) ∧
    (∀ p k, (s.login p).nonce = none ∨ slotLocked s k = true ∨ (pwSlot s k).defined = false ∨
        (s.login p).issued + 1000000000 ≤ s.now → k < 8 →
      exec (.loginRespond p k) s = .next (secRefuse addrLogin codeAccessRefused
        (s.setLogin p { s.login p with lastFail := true }))) ∧
    (∀ p k nonce, k < 8 → Judged s p k nonce → (s.login p).used = true ∨ ¬ RightResponse s p k nonce →
      ∃ t, exec (.loginRespond p k) s = .next t ∧ (t.login p).used = true ∧ (t.login p).lastFail = true ∧
        t.sec.sessions = s.sec.sessions ∧
        ((s.slotCnt k).fails < 2 → (t.slotCnt k).fails = (s.slotCnt k).fails + 1 ∧ t.ump = s.ump) ∧
        (2 ≤ (s.slotCnt k).fails → (t.slotCnt k).fails = 0 ∧ (t.slotCnt k).lockUntil = some (s.now + 6000000000) ∧
          slotLocked t k = true ∧ ∃ r ∈ t.ump.reports, r.line = 50 ∧ r.code = codePwdLock ∧ r.detail = 0)) ∧
    (∀ p k nonce, k < 8 → Judged s p k nonce → (s.login p).used = false → RightResponse s p k nonce →
      (otherSessions s p).length < 4 →
      ∃ t, exec (.loginRespond p k) s = .next t ∧
        sessionOf t p = some { port := p, slot := k, rights := (pwSlot s k).rights, last := s.now } ∧
        (t.login p).used = true ∧
        t.sec.slots = put {} s.sec.slots k { fails := 0, lockUntil := none, logins := (s.slotCnt k).logins + 1 } ∧
        ∀ q, q ≠ p → sessionOf t q = sessionOf s q) ∧
    (∀ p k nonce, k < 8 → Judged s p k nonce → (s.login p).used = false → RightResponse s p k nonce →
      4 ≤ (otherSessions s p).length →
      exec (.loginRespond p k) s = .next (secRefuse addrLogin codeAccessRefused
        (s.setLogin p { s.login p with used := true, lastFail := true }))) ∧
    (∀ p k, exec (.loginRespond p k) s = exec (.loginRespond p (k % 8)) s) ∧
    (∀ p, ∃ t, exec (.logout p) s = .next t ∧ sessionOf t p = none ∧ (∀ q, q ≠ p → sessionOf t q = sessionOf s q) ∧
      t = { s with sec := { s.sec with sessions := t.sec.sessions } }) ∧
    (∀ p, ∃ t, exec (.sessionTimeout p) s = .next t ∧ t = { s with sec := { s.sec with sessions := t.sec.sessions } } ∧
      ∀ x, x ∈ t.sec.sessions ↔ x ∈ s.sec.sessions ∧ (x.port = p → s.now ≤ x.last + 60000000000)) ∧
    (∀ p, exec (.nonceExpiry (some p)) s = .next (if (s.login p).issued + 1000000000 ≤ s.now then
      s.setLogin p { s.login p with nonce := none } else s)) ∧
    exec (.nonceExpiry none) s = .next (if s.sec.chalAt + 6000000000 ≤ s.now then
      { s with sec := { s.sec with chal := none } } else s) ∧
    (∀ k, exec (.slotLockEnd k) s = .next (if slotLocked s k then s else
      s.setSlotCnt k { s.slotCnt k with lockUntil := none }))

/-- R373 to R376, R337, R381: keys, lifecycle, debug levels. -/
def Obligations.LifecycleDebugKeys : Prop :=
  ∀ (s : State) (p : Port), s.sys.up = true →
    (s.otp.lc = 0 → s.sec.power = 2 → s.sec.debug = 0 → sealClosed s = true →
      ∃ t, exec (.lcField p) s = .next t ∧ t.otp = { s.otp with lcNext := max s.otp.lcNext 1 } ∧ t.sec = s.sec) ∧
    (s.otp.lc ≠ 0 ∨ s.sec.power ≠ 2 ∨ s.sec.debug ≠ 0 ∨ sealClosed s = false →
      exec (.lcField p) s = .next (secRefuse addrLcCtrl codeAccessRefused s)) ∧
    (s.otp.lc ≤ 1 → s.sec.power = 2 → sealClosed s = true → GoodToken s s.otp.vendorKey 3 →
      ∃ t, exec (.lcRma p) s = .next t ∧
        t.otp = { s.otp with lcNext := max s.otp.lcNext 2, imageKey := none, debugKey := none } ∧ t.sec.chalUsed = true) ∧
    (1 < s.otp.lc ∨ s.sec.power ≠ 2 ∨ sealClosed s = false ∨ ¬ GoodToken s s.otp.vendorKey 3 →
      ∃ t, exec (.lcRma p) s = .next t ∧ t.otp = s.otp ∧ Refused s t codeAccessRefused) ∧
    (∃ t c, exec (.dbgChallenge p) s = .next t ∧ t.sec = { s.sec with chal := some c, chalUsed := false, chalAt := s.now } ∧
      c.length = 16) ∧
    (s.sec.debug = 0 → (s.otp.lc = 0 ∨ s.otp.lc = 1 ∧ GoodToken s s.otp.debugKey 1 ∨
        2 ≤ s.otp.lc ∧ GoodToken s s.otp.vendorKey 1) →
      ∃ t, exec (.openCm p) s = .next t ∧ t.sec.debug = 1 ∧ t.sec.power = s.sec.power ∧ t.otp = s.otp) ∧
    (s.sec.debug = 0 → (s.otp.lc = 1 ∧ ¬ GoodToken s s.otp.debugKey 1 ∨
        2 ≤ s.otp.lc ∧ ¬ GoodToken s s.otp.vendorKey 1) →
      ∃ t, exec (.openCm p) s = .next t ∧ t.sec.debug = 0 ∧ t.otp = s.otp ∧ Refused s t codeDebugRefused) ∧
    (s.sec.debug ≠ 0 → exec (.openCm p) s = .next s) ∧
    (s.otp.lc = 1 ∨ s.nvm.wr.step ≠ 0 → exec (.openFull p) s = .next (secRefuse addrDbgCtrl codeDebugRefused s)) ∧
    (s.otp.lc ≠ 1 → s.nvm.wr.step = 0 → GoodToken s s.otp.vendorKey 2 →
      ∃ t, exec (.openFull p) s = .next t ∧ t.sec.debug = 2 ∧ t.sec.power = 2 ∧ t.sec.sessions = [] ∧
        t.sec.zeroised = true ∧ t.sys.keyClosed = true ∧ t.sys.fullSeen = true ∧ t.ump.full = true ∧ t.fld.forced = 0xF ∧
        t.seat.holdReq = true ∧ t.seat.holdInForce = true ∧ t.seat.state = s.seat.state ∧ t.otp = s.otp) ∧
    (s.otp.lc ≠ 1 → s.nvm.wr.step = 0 → ¬ GoodToken s s.otp.vendorKey 2 →
      ∃ t, exec (.openFull p) s = .next t ∧ t.sec.debug = s.sec.debug ∧ t.otp = s.otp ∧ Refused s t codeDebugRefused) ∧
    (s.sec.debug = 1 → ∃ t, exec (.dbgClose p) s = .next t ∧ t.sec.debug = 0 ∧ t.sec.power = s.sec.power ∧ t.otp = s.otp) ∧
    (s.sec.debug = 2 → exec (.dbgClose p) s = .next (secRefuse addrDbgCtrl codeDebugRefused s)) ∧
    (s.sec.debug = 0 → exec (.dbgClose p) s = .next s) ∧
    (∀ v, v.getLsbD 3 = true → s.otp.lc = 0 → s.otp.lcNext ≠ 2 → s.sec.power = 2 → sealClosed s = true →
      (bits v 1 0 = 1 → s.otp.imageKey = none → exec (.keyProgram p v) s = .next { s with
        otp := { s.otp with imageKey := some (regBytes s.sec.keyData) }, sec := { s.sec with keyData := [] } }) ∧
      (bits v 1 0 = 2 → s.otp.debugKey = none → exec (.keyProgram p v) s = .next { s with
        otp := { s.otp with debugKey := some (regBytes s.sec.keyData) }, sec := { s.sec with keyData := [] } })) ∧
    (∀ v, v.getLsbD 3 = true →
      bits v 1 0 = 1 ∧ (s.otp.imageKey.isSome ∨ s.otp.lc ≠ 0 ∨ s.sec.power ≠ 2 ∨ sealClosed s = false ∨ s.otp.lcNext = 2) ∨
      bits v 1 0 = 2 ∧ (s.otp.debugKey.isSome ∨ s.otp.lc ≠ 0 ∨ s.sec.power ≠ 2 ∨ sealClosed s = false ∨ s.otp.lcNext = 2) →
      exec (.keyProgram p v) s = .next (secRefuse addrKeyCtrl codeAccessRefused s)) ∧
    (s.otp.lc = 0 → s.sec.power = 2 → sealClosed s = true → s.otp.imageKey.isSome →
      exec (.setAuthReq p) s = .next { s with otp := { s.otp with authReq := true } }) ∧
    (s.otp.lc ≠ 0 ∨ s.sec.power ≠ 2 ∨ sealClosed s = false ∨ s.otp.imageKey = none →
      exec (.setAuthReq p) s = .next (secRefuse addrKeyCtrl codeAccessRefused s))

/-- R377 to R379: power requests. -/
def Obligations.PowerRequests : Prop :=
  ∀ (s : State) (p : Port), s.sys.up = true →
    (s.seat.holdInForce = true → startFault s = false → s.sec.debug ≠ 2 → s.otp.lc ≠ 2 →
      exec (.pwrReqRun p) s = .next { s with
        sys := { s.sys with reqBits := 0, reqRefused := false },
        fld := { s.fld with lor := { s.fld.lor with holdRun := true } } }) ∧
    (s.seat.holdInForce = false → s.sec.power = 1 → s.seat.holdReq = false →
      ∃ t, exec (.pwrReqRun p) s = .next t ∧ t.sec.power = 0 ∧ t.seat = s.seat ∧ t.lane = s.lane ∧ t.fld = s.fld ∧
        t.sys.reqRefused = false) ∧
    (s.seat.holdInForce = false ∨ startFault s = true ∨ s.sec.debug = 2 ∨ s.otp.lc = 2 →
      s.sec.power ≠ 1 ∨ s.seat.holdReq = true → exec (.pwrReqRun p) s = .next (pwrRefuse (requested 0 s))) ∧
    (s.sec.power = 0 → s.seat.holdReq = false →
      ∃ t, exec (.pwrReqReduced p) s = .next t ∧ t.sec.power = 1 ∧ (∀ c, c < 8 → (t.core c).reduced = true) ∧
        t.seat = s.seat ∧ t.lane = s.lane ∧ t.fld = s.fld ∧ t.sys.reqBits = 1) ∧
    (s.sec.power ≠ 0 ∨ s.seat.holdReq = true → exec (.pwrReqReduced p) s = .next (pwrRefuse (requested 1 s))) ∧
    (s.sec.power ≠ 2 ∨ startFault s = false →
      ∃ t, exec (.pwrReqHold p) s = .next t ∧ t.seat = { s.seat with holdReq := true, holdInForce := true } ∧
        t.sec = s.sec ∧ t.lane = s.lane ∧ t.fld.lor.holdRun = false ∧ (t.fld.lor.armed = true → t.fld.lor.forHold = false) ∧
        (t.fld.lor.accepted = true → t.fld.lor.forHold = false) ∧ t.fld = { s.fld with lor := t.fld.lor } ∧ t.sys.reqBits = 2) ∧
    (s.sec.power = 2 → startFault s = true → exec (.pwrReqHold p) s = .next (pwrRefuse (requested 2 s))) ∧
    (s.sec.power = 2 → ∃ t, exec (.pwrReqOff p) s = .next t ∧ t.sys.up = false ∧ t.sys.off = true ∧ t.sec.debug = 0 ∧
      t.sec.sessions = [] ∧ t.otp = s.otp ∧ t.sys.boots = s.sys.boots ∧ t.sys.fullSeen = s.sys.fullSeen ∧
      (∀ k, energised t k = false)) ∧
    (s.sec.power ≠ 2 → exec (.pwrReqOff p) s = .next (pwrRefuse (requested 3 s)))

/-- R384 to R392: the switch, the time base and PTP. -/
def Obligations.NetworkAndTime : Prop :=
  ∀ s : State, s.sys.up = true →
    (∀ p f, 2 ≤ p ∨ switchUp s = false → exec (.ethFrameReceive p f) s = .next s) ∧
    (∀ p f, p < 2 → switchUp s = true → f.pause = true ∨ f.length < 64 ∨ 1522 < f.length →
      exec (.ethFrameReceive p f) s = .next (ethRx p s)) ∧
    (∀ p f, p < 2 → switchUp s = true → f.pause = false → 64 ≤ f.length → f.length ≤ 1522 → isGroupMac f.dst = true →
      ((s.eth p).groupSec = s.now / 100000000 → 10000 ≤ (s.eth p).groupCount →
        exec (.ethFrameReceive p f) s = .next (ethDrop p (ethRx p s))) ∧
      (s.nvm.armed = false → (s.eth p).groupSec ≠ s.now / 100000000 ∨ (s.eth p).groupCount < 10000 →
        exec (.ethFrameReceive p f) s = .next (ethTx (1 - p) (egressQueue s f) f.length (learn f.src p
          ((ethRx p s).setEth p { (ethRx p s).eth p with
            groupSec := s.now / 100000000,
            groupCount := (if (s.eth p).groupSec = s.now / 100000000 then (s.eth p).groupCount else 0) + 1 }))))) ∧
    (∀ p f, p < 2 → switchUp s = true → f.pause = false → 64 ≤ f.length → f.length ≤ 1522 → isGroupMac f.dst = false →
      (s.nvm.armed = false ∨ f.dst ≠ s.otp.mac → exec (.ethFrameReceive p f) s = .next (
        match macPort (learn f.src p s) f.dst with
        | some q => if q = p then learn f.src p (ethRx p s) else ethTx q (egressQueue s f) f.length (learn f.src p (ethRx p s))
        | none => ethTx (1 - p) (egressQueue s f) f.length (learn f.src p (ethRx p s)))) ∧
      (s.nvm.armed = true → f.dst = s.otp.mac → exec (.ethFrameReceive p f) s = .next
        (coreTakes f (ethTx 2 (egressQueue s f) f.length (learn f.src p (ethRx p s)))))) ∧
    (∀ m, ∃ t, exec (.macAgeOut m) s = .next t ∧ t = { s with net := { s.net with macs := t.net.macs } } ∧
      ∀ e, e ∈ t.net.macs ↔ e ∈ s.net.macs ∧ (e.1 = m → s.now < e.2.2 + 30000000000)) ∧
    (∀ p link speed, 2 ≤ p ∨ s.now < ((s.eth p).polls + 1) * 10000000 → exec (.phyPoll p link speed) s = .next s) ∧
    (∀ p link speed, p < 2 → ((s.eth p).polls + 1) * 10000000 ≤ s.now →
      ((s.eth p).link = link → exec (.phyPoll p link speed) s = .next (s.setEth p { egressTo s.now (s.eth p) with
        polls := (s.eth p).polls + 1, speed := speed % 4 })) ∧
      ((s.eth p).link ≠ link → ∃ t, exec (.phyPoll p link speed) s = .next t ∧
        (∃ r ∈ t.ump.reports, r.line = 51 ∧ r.code = codeEthLink) ∧
        t.net = (s.setEth p { egressTo s.now (s.eth p) with
          polls := (s.eth p).polls + 1, link := link, speed := speed % 4, changes := (s.eth p).changes + 1 }).net ∧
        (link = false → (s.eth (1 - p)).link = false → ∀ x ∈ t.sec.sessions, x.port = .spi) ∧
        (link = true ∨ (s.eth (1 - p)).link = true → t.sec = s.sec))) ∧
    (∀ p dom origin received corr d, p < 2 → dom = s.nvm.net.domain → switchUp s = true → ptpSlave s = true → s.net.ptpDelay = some d →
      ∃ t off, exec (.ptpMessage ⟨p, dom⟩ (.sync false origin received corr)) s = .next t ∧ off = received - (origin + corr) - d ∧
        t.net.ptpSyncAt = some s.now ∧ t.net.ptpState = 3 ∧
        t.net.ptpGood = (if -1000 ≤ off ∧ off ≤ 1000 then (if s.net.ptpGood < 16 then s.net.ptpGood + 1 else 16) else 0) ∧
        t.net.ptpLocked = decide (16 ≤ t.net.ptpGood) ∧
        (s.time.valid = true → -1000000000 ≤ off → off ≤ 1000000000 → t.timeNow = s.timeNow ∧
          -2147483 ≤ t.time.map.rate ∧ t.time.map.rate ≤ 2147483 ∧ t.time.steps = s.time.steps) ∧
        (s.time.valid = false ∨ off < -1000000000 ∨ 1000000000 < off →
          t.timeNow = Int.toNat ((s.timeNow : Int) + -off / 10) ∧ t.time.valid = true ∧ t.time.steps = s.time.steps + 1)) ∧
    (∀ p dom origin received corr, p < 2 → dom = s.nvm.net.domain → switchUp s = true → ptpSlave s = true →
      exec (.ptpMessage ⟨p, dom⟩ (.sync true origin received corr)) s = .next { s with net := { s.net with
        ptpSyncAt := some s.now, ptpPend := some (received, corr) } }) ∧
    (∀ p dom t1 t2 t3 received corr, p < 2 → dom = s.nvm.net.domain → switchUp s = true → ptpSlave s = true →
      s.net.ptpT12 = some (t1, t2) → s.net.ptpT3 = some t3 →
      exec (.ptpMessage ⟨p, dom⟩ (.delayResp received corr)) s = .next { s with net := { s.net with
        ptpDelay := some (((t2 - t1) + (received - corr - t3)) / 2), ptpT3 := none } }) ∧
    (∀ p dom c, p < 2 → dom = s.nvm.net.domain → switchUp s = true → s.nvm.armed = true →
      ∃ t, exec (.ptpMessage ⟨p, dom⟩ (.announce c)) s = .next t ∧
        (clockBetter c (ownClock s) = true → s.net.ptpBest = none ∨ s.nvm.net.slaveOnly = true → ptpSlave t = true) ∧
        (s.nvm.net.slaveOnly = false → s.net.ptpBest = none → clockBetter c (ownClock s) = false → t.net.ptpState = 4) ∧
        t = { s with net := { s.net with ptpBest := t.net.ptpBest, ptpState := t.net.ptpState } }) ∧
    (∀ p dom corr r, p < 2 → switchUp s = true → exec (.ptpMessage ⟨p, dom⟩ (.through corr r)) s = .next { s with net := { s.net with
      ptpRes := BitVec.ofNat 32 (max s.net.ptpRes.toNat (min r 0xFFFFFFFF)), ptpCorr := corr + r } }) ∧
    (∀ p dom m, 2 ≤ p ∨ switchUp s = false ∨ ((∀ c r, m ≠ .through c r) ∧ dom ≠ s.nvm.net.domain) →
      exec (.ptpMessage ⟨p, dom⟩ m) s = .next s) ∧
    (ptpLostDue s = true → ∃ t, exec .ptpLost s = .next t ∧ t.net.ptpLocked = false ∧ t.time = s.time ∧ t.now = s.now ∧
      ∃ r ∈ t.ump.reports, r.line = 51 ∧ r.code = codePtpLost) ∧
    ((∀ t0, s.net.ptpSyncAt = some t0 → s.now < t0 + 400000000) → (∀ t0, s.net.ptpBadAt = some t0 → s.now < t0 + 1000000000) →
      exec .ptpLost s = .next s) ∧
    (s.nvm.armed = true → s.net.ptpState ≤ 1 → s.nvm.net.slaveOnly = false →
      exec .ptpSyncInterval s = .next { s with net := { s.net with ptpState := 4 } }) ∧
    (s.nvm.armed = true → s.net.ptpState = 4 →
      ∃ t, exec .ptpSyncInterval s = .next t ∧ t.net.ptpSent = s.net.ptpSent + 1 ∧ t.net.ptpState = 4 ∧ t.time = s.time) ∧
    (s.nvm.armed = true → ptpSlave s = true →
      ∃ t, exec .ptpSyncInterval s = .next t ∧ t.net.ptpSent = s.net.ptpSent + 1 ∧
        t.net.ptpT3 = some (10 * (s.timeNow : Int)) ∧ t.time = s.time) ∧
    (s.nvm.armed = false → exec .ptpSyncInterval s = .next s) ∧
    (s.net.ppsAt ≠ s.timeNow / 100000000 →
      ∃ t, exec .ppsSecond s = .next t ∧ t.net.pps = (s.net.ptpLocked || (s.nvm.armed && s.nvm.net.ppsFree)) ∧
        t = { s with net := { s.net with ppsAt := s.timeNow / 100000000, pps := t.net.pps } }) ∧
    (s.net.ppsAt = s.timeNow / 100000000 → exec .ppsSecond s = .next s)

/-- R404 to R408: the register protocol and the host SPI port. -/
def Obligations.HostProtocols : Prop :=
  (∀ (s : State) (peer txn : Nat),
    (∀ a n, NewRequest s peer (readRequest txn a n) →
      ∃ t, exec (.regProtoRead peer ⟨txn, requestCrc (readRequest txn a n)⟩ a n) s = .next t ∧ SafetySideKept s t ∧
        (rangeOk a n = true → ∃ data, data.length = n ∧
          Answered t peer (readRequest txn a n) (responseWords 1 0 txn 0 a n data)) ∧
        (rangeOk a n = false → Answered t peer (readRequest txn a n) (responseWords 1 2 txn 0 a n []) ∧ t.sys = s.sys)) ∧
    (∀ a vs, NewRequest s peer (writeRequest txn a vs) →
      ∃ t, exec (.regProtoWrite peer ⟨txn, requestCrc (writeRequest txn a vs)⟩ a vs) s = .next t ∧
        (rangeOk a vs.length = true → t.sys.up = true →
          Answered t peer (writeRequest txn a vs) (responseWords 2 0 txn 0 a vs.length []) ∨
          Answered t peer (writeRequest txn a vs) (responseWords 2 3 txn 0 a vs.length [])) ∧
        (rangeOk a vs.length = false →
          Answered t peer (writeRequest txn a vs) (responseWords 2 2 txn 0 a vs.length []) ∧ t.sys = s.sys ∧ SafetySideKept s t)) ∧
    (∀ i n, NewRequest s peer (bulkReadRequest txn i n) →
      ∃ t, exec (.regProtoBulkRead peer ⟨txn, requestCrc (bulkReadRequest txn i n)⟩ i n) s = .next t ∧ SafetySideKept s t ∧
        (s.nvm.logReady = true → 1 ≤ n → n ≤ 16 → slotsFrom s.nvm i ≠ [] →
          Answered t peer (bulkReadRequest txn i n) (responseWords 3 0 txn 1 i ((slotsFrom s.nvm i).take n).length
            (((slotsFrom s.nvm i).take n).flatMap (exportEntry s.nvm)))) ∧
        (s.nvm.logReady = false ∨ n = 0 ∨ 16 < n ∨ slotsFrom s.nvm i = [] →
          Answered t peer (bulkReadRequest txn i n) (responseWords 3 2 txn 1 i n []))) ∧
    (∀ off bytes, NewRequest s peer (bulkWriteRequest txn off bytes) → off % 256 = 0 → 4 ≤ bytes.length →
      bytes.length ≤ 1024 → s.nvm.wr.state = 2 → s.nvm.wr.byModule = false →
      ∃ t, exec (.regProtoBulkWrite peer ⟨txn, requestCrc (bulkWriteRequest txn off bytes)⟩ off bytes) s = .next t ∧
        (256 ≤ off → off + bytes.length ≤ bankSize s.nvm → MemoriesCanonical s →
          Answered t peer (bulkWriteRequest txn off bytes) (responseWords 4 0 txn 2 off bytes.length []) ∧ t.nvm.wr.state = 2 ∧
          (∀ i b, bytes[i]? = some b → flashAt t.nvm (bankBase s.nvm s.nvm.wr.target + off + i) =
            (flashAt s.nvm (bankBase s.nvm s.nvm.wr.target + off + i) &&& b)) ∧
          (∀ a, a < bankBase s.nvm s.nvm.wr.target + off ∨ bankBase s.nvm s.nvm.wr.target + off + bytes.length ≤ a →
            flashAt t.nvm a = flashAt s.nvm a)) ∧
        (bankSize s.nvm < off + bytes.length → t.nvm.wr.state = 6 ∧ t.nvm.wr.cause = 3 ∧
          t.sys.refused = satInc s.sys.refused ∧
          Answered t peer (bulkWriteRequest txn off bytes) (responseWords 4 3 txn 2 off bytes.length []))) ∧
    (NewRequest s peer (requestBytes 0x10 txn 0 0 0 []) →
      ∃ t, exec (.regProtoSubscribe peer ⟨txn, requestCrc (requestBytes 0x10 txn 0 0 0 [])⟩) s = .next t ∧
        (s.net.subs.length < 4 → peer ∈ t.net.subs ∧ (∀ q, q ≠ peer → (q ∈ t.net.subs ↔ q ∈ s.net.subs)) ∧
          Answered t peer (requestBytes 0x10 txn 0 0 0 []) (responseWords 0x10 0 txn 0 0 0 [])) ∧
        (4 ≤ s.net.subs.length → peer ∉ s.net.subs → t.net.subs = s.net.subs ∧
          Answered t peer (requestBytes 0x10 txn 0 0 0 []) (responseWords 0x10 3 txn 0 0 0 []))) ∧
    (NewRequest s peer (requestBytes 0x11 txn 0 0 0 []) →
      ∃ t, exec (.regProtoUnsubscribe peer ⟨txn, requestCrc (requestBytes 0x11 txn 0 0 0 [])⟩) s = .next t ∧
        (∀ q, q ∈ t.net.subs ↔ q ∈ s.net.subs ∧ q ≠ peer) ∧
        Answered t peer (requestBytes 0x11 txn 0 0 0 []) (responseWords 0x11 0 txn 0 0 0 []))) ∧
  (∀ (s : State) (peer txn a n off : Nat) (vs : List Word) (bytes : List Byte) (e : Instr × List Byte) (crc : Word),
    s.sys.up = true →
    e ∈ [(Instr.regProtoRead peer ⟨txn, crc⟩ a n, readRequest txn a n), (.regProtoWrite peer ⟨txn, crc⟩ a vs, writeRequest txn a vs),
      (.regProtoBulkRead peer ⟨txn, crc⟩ off n, bulkReadRequest txn off n),
      (.regProtoBulkWrite peer ⟨txn, crc⟩ off bytes, bulkWriteRequest txn off bytes),
      (.regProtoSubscribe peer ⟨txn, crc⟩, requestBytes 0x10 txn 0 0 0 []),
      (.regProtoUnsubscribe peer ⟨txn, crc⟩, requestBytes 0x11 txn 0 0 0 [])] →
    (s.nvm.armed = false → exec e.1 s = .next s) ∧
    (s.nvm.armed = true → crc ≠ requestCrc e.2 → exec e.1 s = .next (moduleCheck 3 false s)) ∧
    (s.nvm.armed = true → crc = requestCrc e.2 → ∀ ws, keptResponse s peer e.2 = some ws →
      exec e.1 s = .next (coreUnicast 0 (udpFrame (4 * ws.length)) { s with host := { s.host with resp := ws } }))) ∧
  (∀ s : State, s.sys.up = true →
    (∀ a n, 1 ≤ n → n ≤ 256 → ∃ t sent, exec (.hspiRead a n) s = .next t ∧ t.host.resp.length = n ∧ SafetySideKept s t ∧
      t.host.miso = sent ++ beBytes (spiCrc (spiHead 0x0B a n ++ sent)) ∧
      ∃ waits, waits ≤ 64 ∧ sent = List.replicate waits 0 ++ 0xA5 :: wireBytes t.host.resp) ∧
    (∀ a vs crc, 1 ≤ vs.length → vs.length ≤ 256 → crc ≠ spiWriteCrc a vs →
      ∃ t, exec (.hspiWrite a vs crc) s = .next t ∧ t.host.resp = [0xC3] ∧
        t.net.hspiCrc = (if s.net.hspiCrc = 0xFFFF then 0xFFFF else s.net.hspiCrc + 1) ∧ t.sys = s.sys ∧ SafetySideKept s t) ∧
    (∀ a vs, 1 ≤ vs.length → vs.length ≤ 256 → ∃ t, exec (.hspiWrite a vs (spiWriteCrc a vs)) s = .next t ∧
      (t.sys.up = true → t.host.resp = [0x5A] ∨ t.host.resp = [0x3C])) ∧
    (∀ a n, n = 0 ∨ 256 < n → exec (.hspiRead a n) s = .next s) ∧
    exec .hspiAbort s = .next { s with net := { s.net with
      hspiAbort := if s.net.hspiAbort = 0xFFFF then 0xFFFF else s.net.hspiAbort + 1 } })

/-- R420, R425, R427, R428, R430: reset and boot. -/
def Obligations.ResetSources : Prop :=
  ∀ s : State,
    (s.sys.vsysGood = false →
      ∃ t, exec .vsysGood s = .next t ∧ t.sys.vsysGood = true ∧ vsysEdge 0 < t.sys.vsys ∧
        (s.sys.rstLow = false → s.sys.rails &&& 0x1F8#9 = 0 → Booted s t) ∧
        (s.sys.rstLow = true ∨ s.sys.rails &&& 0x1F8#9 ≠ 0 →
          t = { s with sys := t.sys, fresh := s.fresh + 1 } ∧ t.sys.up = s.sys.up)) ∧
    (s.sys.vsysGood = true → exec .vsysGood s = .next s) ∧
    (s.sys.vsysGood = true →
      ∃ t, exec .brownOut s = .next t ∧ HeldInReset t ∧ t.sys.vsysGood = false ∧ t.sys.vsys < vsysEdge 3 ∧
        t.sys.cause = (if s.sys.off then 4 ||| 8 else 4) ∧ t.sys.boots = 0 ∧ t.sys.fullSeen = false ∧ t.sys.keyClosed = false ∧
        (∀ l, (t.mgr l).phase ≠ .retired ∧ laneUnpowered t l = false) ∧ (∀ c, (t.core c).failed = false) ∧
        t.seat.twoOarTicks = 0 ∧ t.seat.stopReq = false ∧ t.otp = s.otp) ∧
    (s.sys.vsysGood = false → exec .brownOut s = .next s) ∧
    (s.sys.up = true ∨ s.sys.off = true → ∃ t, exec .sysRstN s = .next t ∧ HeldInReset t ∧
      t.sys.rstLow = true ∧ t.sys.cause = (if s.sys.off then 2 ||| 8 else 2) ∧ t.sys.off = false ∧ t.sys.boots = s.sys.boots ∧
      t.sys.fullSeen = s.sys.fullSeen ∧ t.sys.keyClosed = s.sys.keyClosed ∧
      (∀ l, ((t.mgr l).phase = .retired ↔ (s.mgr l).phase = .retired) ∧ laneUnpowered t l = laneUnpowered s l) ∧
      t.seat.twoOarTicks = s.seat.twoOarTicks ∧ t.seat.stopReq = s.seat.stopReq ∧
      (wf ({} : Machine.Core) s.cox.cores = true → ∀ c, (t.core c).failed = (s.core c).failed) ∧ t.otp = s.otp ∧
      (s.nvm.wr.step ≠ 5 → s.nvm.logErasing = false → t.nvm.mem = s.nvm.mem)) ∧
    (s.sys.up = false → s.sys.off = false → exec .sysRstN s = .next { s with sys := { s.sys with rstLow := true } }) ∧
    (s.sys.rstLow = true → s.sys.vsysGood = true → s.sys.up = false → s.sys.rails &&& 0x1F8#9 = 0 →
      ∃ t, exec .sysRstNRelease s = .next t ∧ t.sys.rstLow = false ∧ Booted s t) ∧
    (s.sys.rstLow = false ∨ s.sys.vsysGood = false ∨ s.sys.up = true ∨ s.sys.rails &&& 0x1F8#9 ≠ 0 →
      exec .sysRstNRelease s = .next { s with sys := { s.sys with rstLow := false } }) ∧
    (s.sys.up = true → exec .mcoreWd s = .next (report 54 codeMcoreWd 0 { s with net := { s.net with subs := [], cache := [] } }))

/-- R413 to R423, R429: supplies, clocks and temperature. -/
def Obligations.SuppliesAndClocks : Prop :=
  ∀ s : State, s.sys.up = true →
    (∀ v n, vsysBad v = true → 51 ≤ n → ∃ t, exec (.vsysFault ⟨v, n⟩) s = .next t ∧
      t.sys = { s.sys with vsys := v, vsysOut := true, vsysDecl := true, vsysCause := true } ∧ t.fld = s.fld ∧
      t.ump.reports = s.ump.reports ++ (if s.sys.vsysDecl then [] else
        [{ line := 9, code := codeVsysFault, detail := 0, time := s.timeNow }])) ∧
    (∀ v n, vsysBad v = false ∨ n < 51 → exec (.vsysFault ⟨v, n⟩) s = .next { s with sys := { s.sys with
      vsys := v, vsysOut := vsysBad v, vsysDecl := s.sys.vsysDecl && vsysBad v } }) ∧
    (∀ v n, 1750 ≤ v → v ≤ 3300 → 100001 ≤ n → exec (.vsysRecovered ⟨v, n⟩) s = .next { s with sys := { s.sys with
      vsys := v, vsysOut := false, vsysDecl := false, vsysCause := false } }) ∧
    (∀ v n, v < 1750 ∨ 3300 < v ∨ n < 100001 → exec (.vsysRecovered ⟨v, n⟩) s = .next { s with sys := { s.sys with
      vsys := v, vsysOut := vsysBad v, vsysDecl := s.sys.vsysDecl && vsysBad v } }) ∧
    (∀ n mv k l, n < 3 → l = laneOf (n + 1) → railIn n mv = false → 10 ≤ k →
      ∃ t, exec (.railOutOfRange ⟨n, mv, k⟩) s = .next t ∧ laneUnpowered t l = true ∧ t.laneD l = {} ∧
        t.sys.rails.getLsbD n = true ∧ t.ump = s.ump ∧ t.fld = s.fld ∧ ∀ j, j ≠ l → t.laneD j = s.laneD j) ∧
    (∀ n mv k, 3 ≤ n → n < 8 → railIn n mv = false → 10 ≤ k →
      ∃ t, exec (.railOutOfRange ⟨n, mv, k⟩) s = .next t ∧ t.sys.rails.getLsbD n = true ∧ t.lane = s.lane ∧ t.fld = s.fld ∧
        (n ≠ 7 ∨ s.nvm.armed = true → t.ump.reports = s.ump.reports ++ (if s.sys.rails.getLsbD n then [] else
          [{ line := 9, code := codeRegFail, detail := 0, time := s.timeNow }])) ∧
        (n = 7 → s.nvm.armed = false → s.sys.rails.getLsbD n = false → t.nvm.usable = false ∧ t.nvm.passing = none ∧
          t.ump.reports = s.ump.reports ++ [{ line := 9, code := codeRegFail, detail := 0, time := s.timeNow },
            { line := 11, code := codeNvmFail, detail := 0, time := s.timeNow }])) ∧
    (∀ n mv k, n < 9 → railIn n mv = true → (n < 3 → s.sys.laneOff.getLsbD n = false) →
      ∃ t, exec (.railOutOfRange ⟨n, mv, k⟩) s = .next t ∧ t.sys.rails.getLsbD n = false ∧
        t = { s with sys := { s.sys with rails := t.sys.rails } }) ∧
    (∀ n mv k, railIn n mv = false → k < 10 → exec (.railOutOfRange ⟨n, mv, k⟩) s = .next s) ∧
    (∀ c n, c < 20 → clkGood c n = true → ∃ t, exec (.clockSupervisorWindow c n) s = .next t ∧
      t.sys.clkOut.getLsbD c = false ∧ t = { s with sys := t.sys }) ∧
    (∀ c n, c < 13 ∨ c = 19 → clkGood c n = false → s.sys.clkOut.getLsbD c = false →
      ∃ t, exec (.clockSupervisorWindow c n) s = .next t ∧ t.sys.clkOut.getLsbD c = true ∧ t.lane = s.lane ∧
        (c < 9 ∨ c = 19 ∨ Unhooked s 0x002 4 →
          ∃ r ∈ t.ump.reports, r.code = codeClkFail ∧ r.line = (if 9 ≤ c ∧ c ≤ 12 then 7 else 8)) ∧
        (c = 0 ∨ c = 19 → t.fld.forced = 0xF) ∧ (9 ≤ c → c ≤ 12 → t.fld.local' = s.fld.local' ||| 0xF)) ∧
    (∀ c n, c < 13 ∨ c = 19 → clkGood c n = false → s.sys.clkOut.getLsbD c = true →
      ∃ t, exec (.clockSupervisorWindow c n) s = .next t ∧ t = { s with sys := t.sys }) ∧
    (∀ c n l, 13 ≤ c → c ≤ 18 → l = laneOf ((c - 13) / 2 + 1) → clkGood c n = false → (s.laneD l).faulty = none →
      s.bist.running ≠ some (laneNo l) → laneUnpowered s l = false →
      ∃ t, exec (.clockSupervisorWindow c n) s = .next t ∧ t = { withdrawn l 0x02 s with sys := t.sys }) ∧
    (∀ b, (if b then s.sys.pllB else s.sys.pllA) = true → ∃ t, exec (.pllLockLoss b) s = .next t ∧
      (if b then t.sys.pllB else t.sys.pllA) = false ∧ (if b then t.sys.pllA else t.sys.pllB) = (if b then s.sys.pllA else s.sys.pllB) ∧
      t.ump.reports = s.ump.reports ++ [{ line := 8, code := codeClkFail, detail := 0, time := s.timeNow }]) ∧
    (∀ b, (if b then s.sys.pllB else s.sys.pllA) = false → exec (.pllLockLoss b) s = .next s) ∧
    (∀ t0, s.sys.spreadFrom = some t0 → t0 + 100000 ≤ s.now →
      exec .spreadRampComplete s = .next { s with sys := { s.sys with applied := true } }) ∧
    ((∀ t0, s.sys.spreadFrom = some t0 → s.now < t0 + 100000) → exec .spreadRampComplete s = .next s) ∧
    (∀ ts, s.now < (s.sys.tempReads + 1) * 100000 → exec (.dieTempRead ts) s = .next s) ∧
    (∀ a b c d e, (s.sys.tempReads + 1) * 100000 ≤ s.now → ∃ t m, exec (.dieTempRead [a, b, c, d, e]) s = .next t ∧
      t.sys.temps = [a, b, c, d, e] ∧ t.sys.tempReads = s.sys.tempReads + 1 ∧
      t.sys.tempMax = some m ∧ a ≤ m ∧ b ≤ m ∧ c ≤ m ∧ d ≤ m ∧ e ≤ m ∧ (∀ o, s.sys.tempMax = some o → o ≤ m) ∧
      t.ump.reports = s.ump.reports ++ (if (([a, b, c, d, e].zip s.sys.temps).any fun x => 125 ≤ x.1 ∧ x.2 < 125) then
        [{ line := 10, code := codeDieOvertemp, detail := 0, time := s.timeNow }] else []))

/-- R469 to R475: the PERTURB block. -/
def Obligations.ValidationHooks : Prop :=
  (∀ (s : State) (p : Port) (n : Nat) (v : Word), s.sys.up = true → n < 16 →
    (HooksOpen s p → (s.hk n).cfg = 0 → bits v 3 0 ≤ 5 → overlapsOther s n (v &&& 0xFFFFF) = false →
      exec (.perturbTgtWrite p n v) s = .next ((hookLogged p (0x001F0100 + 16 * n) (s.hk n).tgt v s).setHk n
        { s.hk n with tgt := v &&& 0xFFFFF })) ∧
    (perturbOpen s p = false ∨ (s.hk n).cfg ≠ 0 ∨ 5 < bits v 3 0 ∨ overlapsOther s n (v &&& 0xFFFFF) = true →
      ∃ t, exec (.perturbTgtWrite p n v) s = .next t ∧ HookRefused s t) ∧
    (HooksOpen s p → v = 0 ∨ cfgOk s n v = true →
      exec (.perturbCfgWrite p n v) s = .next ((hookLogged p (0x001F0104 + 16 * n) (s.hk n).cfg v s).setHk n
        { s.hk n with cfg := v, lfsr := s.hook.seed })) ∧
    (perturbOpen s p = false ∨ v ≠ 0 ∧ (hookBound s (s.hk n).tgt v < bits v 13 0 + bits v 27 14 ∨ bits (s.hk n).tgt 3 0 = 0 ∨
        overlapsOther s n (s.hk n).tgt = true ∨
        (bits (s.hk n).tgt 3 0 ≠ 1 ∨ (routeAt s (bits (s.hk n).tgt 11 4)).safe = true) ∧ bits v 31 28 ≠ 0) →
      ∃ t, exec (.perturbCfgWrite p n v) s = .next t ∧ HookRefused s t)) ∧
  (∀ (s : State) (p : Port) (v : Word), s.sys.up = true →
    (HooksOpen s p → v ≠ 0 → ∃ t, exec (.perturbSeedWrite p v) s = .next t ∧ t.hook = { s.hook with seed := v } ∧
      t.nvm = (hookLogged p 0x001F0008 s.hook.seed v s).nvm) ∧
    (perturbOpen s p = false ∨ v = 0 → ∃ t, exec (.perturbSeedWrite p v) s = .next t ∧ HookRefused s t) ∧
    (∀ n, 16 ≤ n → exec (.perturbTgtWrite p n v) s = .next s ∧ exec (.perturbCfgWrite p n v) s = .next s)) ∧
  (∀ (s : State) (on : Word → Bool) (n : Nat), n < 16 → hookOn s on n = true → (∀ m, m < n → hookOn s on m = false) →
    hookMet s on = some n) ∧
  (∀ (s : State) (on : Word → Bool) (n : Nat) (item : Instr), hookOn s on n = true →
    ∃ rel, (holdItem on n item s).hook.held = s.hook.held ++ [{ hook := n, tgt := (s.hk n).tgt, rel, item }] ∧
      (∀ e, lastHeld s on = some e → e.rel ≤ rel) ∧
      s.now + unitTicks (s.hk n) (hookDelay (s.hk n)) ≤ rel ∧
      rel ≤ max (s.now + unitTicks (s.hk n) (hookDelay (s.hk n) + hookJitter (s.hk n)))
        (((lastHeld s on).map HeldItem.rel).getD 0) ∧
      ((holdItem on n item s).hk n).cnt = satInc (s.hk n).cnt) ∧
  (∀ (s : State) (n : Nat), s.sys.up = true →
    (heldBy s n = [] → exec (.perturbRelease n) s = .next s) ∧
    (∀ e rest, heldBy s n = e :: rest → e.rel < s.t0 + 12500 → itemBlocked s e.item = false → heldBehind s e = false →
      exec (.perturbRelease n) s = .next (deliver e.item { advance e.rel s with
        hook := { s.hook with held := s.hook.held.erase e } })) ∧
    (∀ e rest, heldBy s n = e :: rest → s.t0 + 12500 ≤ e.rel ∨ itemBlocked s e.item = true ∨ heldBehind s e = true →
      exec (.perturbRelease n) s = .next s))

/-- R10, R390, R409: host accesses. -/
def Obligations.RegisterAccesses : Prop :=
  ∀ (s : State) (p : Port), s.sys.up = true →
    (∀ a, (∃ t w, exec (.latchingRead p a) s = .next t ∧ t.host.resp = [w] ∧ SafetySideKept s t) ∧
      (∃ t w, exec (.clearingRead p a) s = .next t ∧ t.host.resp = [w] ∧ SafetySideKept s t)) ∧
    exec (.latchingRead p 0x00140000) s = .next { s with host := { s.host with
      resp := [BitVec.ofNat 32 s.timeNow],
      latch := put 0 (put 0 (put 0 s.host.latch 0x00140004 (BitVec.ofNat 32 (s.timeNow / 4294967296)))
        0x00140008 (BitVec.ofNat 32 s.now)) 0x0014000C (BitVec.ofNat 32 (s.now / 4294967296)) } } ∧
    exec (.latchingRead p 0x00140018) s = .next { s with host := { s.host with
      resp := [BitVec.ofInt 32 s.time.lastStep],
      latch := put 0 s.host.latch 0x0014001C (BitVec.ofInt 32 (s.time.lastStep / 4294967296)) } } ∧
    (∀ a ∈ [0x00140004, 0x00140008, 0x0014000C, 0x0014001C], exec (.latchingRead p a) s =
      .next { s with host := { s.host with resp := [look 0 s.host.latch a] } }) ∧
    (∃ t, exec (.clearingRead p 0x00000060) s = .next t ∧ t.host.resp = [s.sys.refused] ∧ t.sys = { s.sys with refused := 0 }) ∧
    (∀ a v, 0x20000 ≤ a → a < 0x70400 → exec (.registerWrite p a v) s =
      .next { s with sys := { s.sys with refused := satInc s.sys.refused, refusedAddr := BitVec.ofNat 32 a } }) ∧
    (∀ a v, 0x140000 ≤ a → a < 0x150000 → exec (.registerWrite p a v) s = .next s) ∧
    (∀ v, exec (.registerWrite p 0x00130000 v) s = .next { s with host := { s.host with
      irqStat := s.host.irqStat &&& ~~~(v.setWidth 8) } }) ∧
    (∀ v, exec (.registerWrite p 0x00130004 v) s = .next { s with host := { s.host with irqEn := v.setWidth 8 } })
end

