-- ==== Sys2Proof/Laws/State.lean ====
section
/-!
SUPPORT. The small lemmas of State: tables (a read after a write, and the canonical form that every write keeps), and for
each setter what a read of the same entry gives, what a read of another entry gives, and the fields it leaves alone.
-/
namespace Sys2Proof.Machine

open Sys2Proof

/-! ## Tables -/

theorem look_put_same {α : Type} [DecidableEq α] (d : α) (m : Tab α) (k : Nat) (v : α) (h : wf d m = true) :
    look d (put d m k v) k = v := by
  suffices H : ∀ lo, wfFrom d lo m = true → look d (put d m k v) k = v from H _ h
  clear h
  intro lo hm
  induction m generalizing lo with
  | nil => by_cases hv : v = d <;> simp [put, look, hv]
  | cons e m ih =>
    obtain ⟨k', v'⟩ := e
    simp only [wfFrom, Bool.and_eq_true, decide_eq_true_eq] at hm
    have above : ∀ (m : Tab α) (n : Nat), wfFrom d (some n) m = true → ∀ j, j ≤ n → look d m j = d := by
      intro m
      induction m with
      | nil => intro n _ j _; rfl
      | cons e m ih2 =>
        intro n hn j hj
        obtain ⟨k2, v2⟩ := e
        simp only [wfFrom, Bool.and_eq_true, decide_eq_true_eq] at hn
        have : j ≠ k2 := by omega
        simp only [look, this, if_false]
        exact ih2 k2 hn.2 j (by omega)
    unfold put
    by_cases h1 : k < k'
    · by_cases hv : v = d
      · subst hv
        have hne : k ≠ k' := by omega
        simp only [h1, if_true, look, hne, if_false]
        exact above m k' hm.2 k (by omega)
      · simp [h1, hv, look]
    · by_cases h2 : k = k'
      · subst h2
        by_cases hv : v = d
        · subst hv; simp only [lt_irrefl, if_false, if_true]; exact above m k hm.2 k (le_refl k)
        · simp [hv, look]
      · simp only [h1, if_false, h2, look]; exact ih _ hm.2

theorem look_put_other {α : Type} [DecidableEq α] (d : α) (m : Tab α) (k j : Nat) (v : α) (hj : j ≠ k) :
    look d (put d m k v) j = look d m j := by
  induction m with
  | nil => by_cases hv : v = d <;> simp [put, look, hv, hj]
  | cons e m ih =>
    obtain ⟨k', v'⟩ := e
    unfold put
    by_cases h1 : k < k'
    · by_cases hv : v = d <;> simp [h1, hv, look, hj]
    · by_cases h2 : k = k'
      · subst h2
        by_cases hv : v = d <;> simp [hv, look, hj]
      · simp only [h1, if_false, h2, look]; rw [ih]

/-- A value other than the default reads back from any table. -/
theorem look_put_ne {α : Type} [DecidableEq α] (d : α) (m : Tab α) (k : Nat) (v : α) (hv : v ≠ d) :
    look d (put d m k v) k = v := by
  induction m with
  | nil => simp [put, look, hv]
  | cons e m ih =>
    obtain ⟨k', v'⟩ := e
    unfold put
    by_cases h1 : k < k'
    · simp [h1, hv, look]
    · by_cases h2 : k = k'
      · subst h2; simp [hv, look]
      · simp only [h1, if_false, h2, look]; exact ih

theorem wfFrom_put {α : Type} [DecidableEq α] (d : α) (m : Tab α) (k : Nat) (v : α) (lo : Option Nat)
    (hk : ∀ n, lo = some n → n < k) (h : wfFrom d lo m = true) : wfFrom d lo (put d m k v) = true := by
  induction m generalizing lo with
  | nil =>
    by_cases hv : v = d
    · simp [put, hv, wfFrom]
    · cases lo with
      | none => simp [put, hv, wfFrom]
      | some n => simp [put, hv, wfFrom, hk n rfl]
  | cons e m ih =>
    obtain ⟨k', v'⟩ := e
    have h0 := h
    simp only [wfFrom, Bool.and_eq_true, decide_eq_true_eq] at h
    unfold put
    by_cases h1 : k < k'
    · by_cases hv : v = d
      · simp only [h1, hv, if_true]; exact h0
      · simp only [h1, hv, if_true, if_false, wfFrom, Bool.and_eq_true, decide_eq_true_eq]
        refine ⟨⟨?_, hv⟩, ⟨trivial, h.1.2⟩, h.2⟩
        cases lo with
        | none => rfl
        | some n => simpa using hk n rfl
    · by_cases h2 : k = k'
      · subst h2
        by_cases hv : v = d
        · simp only [lt_irrefl, if_false, if_true, hv]
          cases m with
          | nil => rfl
          | cons e2 m2 =>
            obtain ⟨k2, v2⟩ := e2
            have h2 := h.2
            simp only [wfFrom, Bool.and_eq_true, decide_eq_true_eq] at h2 ⊢
            refine ⟨⟨?_, h2.1.2⟩, h2.2⟩
            cases lo with
            | none => rfl
            | some n => have := hk n rfl; simp; omega
        · simp only [lt_irrefl, if_false, if_true, hv, wfFrom, Bool.and_eq_true, decide_eq_true_eq]
          refine ⟨⟨?_, hv⟩, h.2⟩
          cases lo with
          | none => rfl
          | some n => simpa using hk n rfl
      · simp only [h1, if_false, h2, wfFrom, Bool.and_eq_true, decide_eq_true_eq]
        exact ⟨h.1, ih _ (fun n hn => by cases hn; omega) h.2⟩

/-- Every write of a table, and so every write of the flash and of the waveform memory, keeps the canonical form. -/
theorem wf_put {α : Type} [DecidableEq α] (d : α) (m : Tab α) (k : Nat) (v : α) (h : wf d m = true) :
    wf d (put d m k v) = true := wfFrom_put d m k v none (fun _ hn => by cases hn) h

/-- The second of two writes to one place stands alone. -/
theorem put_put {α : Type} [DecidableEq α] {d v w : α} (h : v ≠ d) : ∀ (m : Tab α) (k : Nat), put d (put d m k v) k w = put d m k w
  | [], k => by simp [put, h]
  | (k', v') :: m, k => by
    simp only [put]
    split
    · simp [put, *]
    · split
      · simp [put, *]
      · simp [put, *, put_put h m k]

theorem reset_memories_wf : wf (0 : Byte) State.reset.boat.mem = true ∧ wf (0xFF : Byte) State.reset.nvm.mem = true := ⟨rfl, rfl⟩

/-! ## Values per lane, group and supply -/

@[simp] theorem triGet_triSet_same {α : Type} (t : Tri α) (l : Lane) (v : α) : triGet (triSet t l v) l = v := by cases l <;> rfl
@[simp] theorem triGet_triSet_other {α : Type} (t : Tri α) (l k : Lane) (v : α) (h : k ≠ l) :
    triGet (triSet t l v) k = triGet t k := by cases l <;> cases k <;> first | rfl | exact absurd rfl h
@[simp] theorem triSet_triSet {α : Type} (t : Tri α) (l : Lane) (v w : α) : triSet (triSet t l v) l w = triSet t l w := by
  cases l <;> rfl
@[simp] theorem triSet_triGet {α : Type} (t : Tri α) (l : Lane) : triSet t l (triGet t l) = t := by cases l <;> rfl

@[simp] theorem State.laneD_setLane_same (s : State) (l : Lane) (d : LaneDie) : (s.setLane l d).laneD l = d :=
  triGet_triSet_same _ _ _
@[simp] theorem State.laneD_setLane_other (s : State) (l k : Lane) (d : LaneDie) (h : k ≠ l) :
    (s.setLane l d).laneD k = s.laneD k := triGet_triSet_other _ _ _ _ h
@[simp] theorem State.mgr_setMgr_same (s : State) (l : Lane) (m : LaneMgr) : (s.setMgr l m).mgr l = m :=
  triGet_triSet_same _ _ _
@[simp] theorem State.mgr_setMgr_other (s : State) (l k : Lane) (m : LaneMgr) (h : k ≠ l) :
    (s.setMgr l m).mgr k = s.mgr k := triGet_triSet_other _ _ _ _ h
@[simp] theorem State.laneD_setMgr (s : State) (l k : Lane) (m : LaneMgr) : (s.setMgr l m).laneD k = s.laneD k := rfl
@[simp] theorem State.mgr_setLane (s : State) (l k : Lane) (d : LaneDie) : (s.setLane l d).mgr k = s.mgr k := rfl
@[simp] theorem State.setLane_setLane (s : State) (l : Lane) (d e : LaneDie) : (s.setLane l d).setLane l e = s.setLane l e := by
  simp [State.setLane]
@[simp] theorem State.group_setGroup_same (s : State) (g : Group) (v : GroupSt) : (s.setGroup g v).group g = v := by
  cases g <;> rfl
@[simp] theorem State.group_setGroup_other (s : State) (g k : Group) (v : GroupSt) (h : k ≠ g) :
    (s.setGroup g v).group k = s.group k := by cases g <;> cases k <;> first | rfl | exact absurd rfl h
@[simp] theorem State.supply_setSupply_same (s : State) (g : Supply) (v : SupplySt) : (s.setSupply g v).supply g = v := by
  cases g <;> rfl
@[simp] theorem State.supply_setSupply_other (s : State) (g k : Supply) (v : SupplySt) (h : k ≠ g) :
    (s.setSupply g v).supply k = s.supply k := by cases g <;> cases k <;> first | rfl | exact absurd rfl h

/-! ## Entries of tables -/

theorem State.si_setSi_same (s : State) (n : Nat) (v : Si) (h : wf {} s.fld.si = true) : (s.setSi n v).si n = v :=
  look_put_same _ _ _ _ h
@[simp] theorem State.si_setSi_other (s : State) (n k : Nat) (v : Si) (hk : k ≠ n) :
    (s.setSi n v).si k = s.si k := look_put_other _ _ _ _ _ hk
theorem State.tp_setTp_same (s : State) (n : Nat) (v : Tp) (h : wf {} s.fld.tp = true) : (s.setTp n v).tp n = v :=
  look_put_same _ _ _ _ h
@[simp] theorem State.tp_setTp_other (s : State) (n k : Nat) (v : Tp) (hk : k ≠ n) :
    (s.setTp n v).tp k = s.tp k := look_put_other _ _ _ _ _ hk
theorem State.so_setSo_same (s : State) (n : Nat) (v : So) (h : wf {} s.fld.so = true) : (s.setSo n v).so n = v :=
  look_put_same _ _ _ _ h
@[simp] theorem State.so_setSo_other (s : State) (n k : Nat) (v : So) (hk : k ≠ n) :
    (s.setSo n v).so k = s.so k := look_put_other _ _ _ _ _ hk
theorem State.cio_setCio_same (s : State) (n : Nat) (v : Cio) (h : wf {} s.fld.cio = true) : (s.setCio n v).cio n = v :=
  look_put_same _ _ _ _ h
@[simp] theorem State.cio_setCio_other (s : State) (n k : Nat) (v : Cio) (hk : k ≠ n) :
    (s.setCio n v).cio k = s.cio k := look_put_other _ _ _ _ _ hk
theorem State.ain_setAin_same (s : State) (n : Nat) (v : Ain) (h : wf {} s.afe.ch = true) : (s.setAin n v).ain n = v :=
  look_put_same _ _ _ _ h
@[simp] theorem State.ain_setAin_other (s : State) (n k : Nat) (v : Ain) (hk : k ≠ n) :
    (s.setAin n v).ain k = s.ain k := look_put_other _ _ _ _ _ hk
theorem State.tachT_setTach_same (s : State) (n : Nat) (v : Tach) (h : wf {} s.tach = true) : (s.setTach n v).tachT n = v :=
  look_put_same _ _ _ _ h
@[simp] theorem State.tachT_setTach_other (s : State) (n k : Nat) (v : Tach) (hk : k ≠ n) :
    (s.setTach n v).tachT k = s.tachT k := look_put_other _ _ _ _ _ hk
theorem State.rg_setRg_same (s : State) (n : Nat) (v : Ring) (h : wf {} s.ring = true) : (s.setRg n v).rg n = v :=
  look_put_same _ _ _ _ h
@[simp] theorem State.rg_setRg_other (s : State) (n k : Nat) (v : Ring) (hk : k ≠ n) :
    (s.setRg n v).rg k = s.rg k := look_put_other _ _ _ _ _ hk
theorem State.task_setTask_same (s : State) (n : Nat) (v : Task) (h : wf {} s.cox.tasks = true) : (s.setTask n v).task n = v :=
  look_put_same _ _ _ _ h
@[simp] theorem State.task_setTask_other (s : State) (n k : Nat) (v : Task) (hk : k ≠ n) :
    (s.setTask n v).task k = s.task k := look_put_other _ _ _ _ _ hk
theorem State.core_setCore_same (s : State) (n : Nat) (v : Core) (h : wf {} s.cox.cores = true) : (s.setCore n v).core n = v :=
  look_put_same _ _ _ _ h
@[simp] theorem State.core_setCore_other (s : State) (n k : Nat) (v : Core) (hk : k ≠ n) :
    (s.setCore n v).core k = s.core k := look_put_other _ _ _ _ _ hk
theorem State.pmu_setPmu_same (s : State) (n : Nat) (v : Pmu) (h : wf {} s.cox.pmu = true) : (s.setPmu n v).pmu n = v :=
  look_put_same _ _ _ _ h
@[simp] theorem State.pmu_setPmu_other (s : State) (n k : Nat) (v : Pmu) (hk : k ≠ n) :
    (s.setPmu n v).pmu k = s.pmu k := look_put_other _ _ _ _ _ hk
theorem State.unit_setUnit_same (s : State) (n : Nat) (v : BUnit) (h : wf {} s.bist.units = true) : (s.setUnit n v).unit n = v :=
  look_put_same _ _ _ _ h
@[simp] theorem State.unit_setUnit_other (s : State) (n k : Nat) (v : BUnit) (hk : k ≠ n) :
    (s.setUnit n v).unit k = s.unit k := look_put_other _ _ _ _ _ hk
theorem State.eth_setEth_same (s : State) (n : Nat) (v : EthPort) (h : wf {} s.net.ports = true) : (s.setEth n v).eth n = v :=
  look_put_same _ _ _ _ h
@[simp] theorem State.eth_setEth_other (s : State) (n k : Nat) (v : EthPort) (hk : k ≠ n) :
    (s.setEth n v).eth k = s.eth k := look_put_other _ _ _ _ _ hk
theorem State.hk_setHk_same (s : State) (n : Nat) (v : Hook) (h : wf {} s.hook.hooks = true) : (s.setHk n v).hk n = v :=
  look_put_same _ _ _ _ h
@[simp] theorem State.hk_setHk_other (s : State) (n k : Nat) (v : Hook) (hk : k ≠ n) :
    (s.setHk n v).hk k = s.hk k := look_put_other _ _ _ _ _ hk

/-! ## What the setters leave alone -/

@[simp] theorem State.setLane_frame (s : State) (l : Lane) (d : LaneDie) :
    (s.setLane l d).sys = s.sys ∧ (s.setLane l d).now = s.now ∧ (s.setLane l d).t0 = s.t0 ∧
    (s.setLane l d).fresh = s.fresh ∧ (s.setLane l d).fab = s.fab ∧ (s.setLane l d).seat = s.seat ∧
    (s.setLane l d).fld = s.fld ∧ (s.setLane l d).afe = s.afe ∧ (s.setLane l d).tach = s.tach ∧
    (s.setLane l d).ring = s.ring ∧ (s.setLane l d).node = s.node ∧ (s.setLane l d).cox = s.cox ∧
    (s.setLane l d).ump = s.ump ∧ (s.setLane l d).bist = s.bist ∧ (s.setLane l d).time = s.time ∧
    (s.setLane l d).host = s.host ∧ (s.setLane l d).otp = s.otp ∧ (s.setLane l d).nvm = s.nvm ∧
    (s.setLane l d).sec = s.sec ∧ (s.setLane l d).net = s.net ∧ (s.setLane l d).boat = s.boat ∧
    (s.setLane l d).alarm = s.alarm ∧ (s.setLane l d).crc = s.crc ∧ (s.setLane l d).hook = s.hook ∧
    (s.setLane l d).pending = s.pending := by simp [State.setLane]
@[simp] theorem State.setMgr_frame (s : State) (l : Lane) (m : LaneMgr) :
    (s.setMgr l m).sys = s.sys ∧ (s.setMgr l m).now = s.now ∧ (s.setMgr l m).t0 = s.t0 ∧
    (s.setMgr l m).fresh = s.fresh ∧ (s.setMgr l m).fab = s.fab ∧ (s.setMgr l m).lane = s.lane ∧
    (s.setMgr l m).fld = s.fld ∧ (s.setMgr l m).afe = s.afe ∧ (s.setMgr l m).tach = s.tach ∧
    (s.setMgr l m).ring = s.ring ∧ (s.setMgr l m).node = s.node ∧ (s.setMgr l m).cox = s.cox ∧
    (s.setMgr l m).ump = s.ump ∧ (s.setMgr l m).bist = s.bist ∧ (s.setMgr l m).time = s.time ∧
    (s.setMgr l m).host = s.host ∧ (s.setMgr l m).otp = s.otp ∧ (s.setMgr l m).nvm = s.nvm ∧
    (s.setMgr l m).sec = s.sec ∧ (s.setMgr l m).net = s.net ∧ (s.setMgr l m).boat = s.boat ∧
    (s.setMgr l m).alarm = s.alarm ∧ (s.setMgr l m).crc = s.crc ∧ (s.setMgr l m).hook = s.hook ∧
    (s.setMgr l m).pending = s.pending := by simp [State.setMgr]
@[simp] theorem State.setGroup_frame (s : State) (g : Group) (v : GroupSt) :
    (s.setGroup g v).sys = s.sys ∧ (s.setGroup g v).now = s.now ∧ (s.setGroup g v).t0 = s.t0 ∧
    (s.setGroup g v).fresh = s.fresh ∧ (s.setGroup g v).fab = s.fab ∧ (s.setGroup g v).seat = s.seat ∧
    (s.setGroup g v).lane = s.lane ∧ (s.setGroup g v).afe = s.afe ∧ (s.setGroup g v).tach = s.tach ∧
    (s.setGroup g v).ring = s.ring ∧ (s.setGroup g v).node = s.node ∧ (s.setGroup g v).cox = s.cox ∧
    (s.setGroup g v).ump = s.ump ∧ (s.setGroup g v).bist = s.bist ∧ (s.setGroup g v).time = s.time ∧
    (s.setGroup g v).host = s.host ∧ (s.setGroup g v).otp = s.otp ∧ (s.setGroup g v).nvm = s.nvm ∧
    (s.setGroup g v).sec = s.sec ∧ (s.setGroup g v).net = s.net ∧ (s.setGroup g v).boat = s.boat ∧
    (s.setGroup g v).alarm = s.alarm ∧ (s.setGroup g v).crc = s.crc ∧ (s.setGroup g v).hook = s.hook ∧
    (s.setGroup g v).pending = s.pending := by cases g <;> simp [State.setGroup]
@[simp] theorem State.setSupply_frame (s : State) (g : Supply) (v : SupplySt) :
    (s.setSupply g v).sys = s.sys ∧ (s.setSupply g v).now = s.now ∧ (s.setSupply g v).t0 = s.t0 ∧
    (s.setSupply g v).fresh = s.fresh ∧ (s.setSupply g v).fab = s.fab ∧ (s.setSupply g v).seat = s.seat ∧
    (s.setSupply g v).lane = s.lane ∧ (s.setSupply g v).afe = s.afe ∧ (s.setSupply g v).tach = s.tach ∧
    (s.setSupply g v).ring = s.ring ∧ (s.setSupply g v).node = s.node ∧ (s.setSupply g v).cox = s.cox ∧
    (s.setSupply g v).ump = s.ump ∧ (s.setSupply g v).bist = s.bist ∧ (s.setSupply g v).time = s.time ∧
    (s.setSupply g v).host = s.host ∧ (s.setSupply g v).otp = s.otp ∧ (s.setSupply g v).nvm = s.nvm ∧
    (s.setSupply g v).sec = s.sec ∧ (s.setSupply g v).net = s.net ∧ (s.setSupply g v).boat = s.boat ∧
    (s.setSupply g v).alarm = s.alarm ∧ (s.setSupply g v).crc = s.crc ∧ (s.setSupply g v).hook = s.hook ∧
    (s.setSupply g v).pending = s.pending := by cases g <;> simp [State.setSupply]
@[simp] theorem State.setNd_frame (s : State) (u : U64) (v : Node) :
    (s.setNd u v).sys = s.sys ∧ (s.setNd u v).now = s.now ∧ (s.setNd u v).t0 = s.t0 ∧ (s.setNd u v).fresh = s.fresh ∧
    (s.setNd u v).fab = s.fab ∧ (s.setNd u v).seat = s.seat ∧ (s.setNd u v).lane = s.lane ∧ (s.setNd u v).fld = s.fld ∧
    (s.setNd u v).afe = s.afe ∧ (s.setNd u v).tach = s.tach ∧ (s.setNd u v).ring = s.ring ∧ (s.setNd u v).cox = s.cox ∧
    (s.setNd u v).ump = s.ump ∧ (s.setNd u v).bist = s.bist ∧ (s.setNd u v).time = s.time ∧
    (s.setNd u v).host = s.host ∧ (s.setNd u v).otp = s.otp ∧ (s.setNd u v).nvm = s.nvm ∧ (s.setNd u v).sec = s.sec ∧
    (s.setNd u v).net = s.net ∧ (s.setNd u v).boat = s.boat ∧ (s.setNd u v).alarm = s.alarm ∧
    (s.setNd u v).crc = s.crc ∧ (s.setNd u v).hook = s.hook ∧ (s.setNd u v).pending = s.pending := by simp [State.setNd]
@[simp] theorem State.setSi_frame (s : State) (n : Nat) (v : Si) :
    (s.setSi n v).sys = s.sys ∧ (s.setSi n v).now = s.now ∧ (s.setSi n v).t0 = s.t0 ∧ (s.setSi n v).fresh = s.fresh ∧
    (s.setSi n v).fab = s.fab ∧ (s.setSi n v).seat = s.seat ∧ (s.setSi n v).lane = s.lane ∧ (s.setSi n v).afe = s.afe ∧
    (s.setSi n v).tach = s.tach ∧ (s.setSi n v).ring = s.ring ∧ (s.setSi n v).node = s.node ∧
    (s.setSi n v).cox = s.cox ∧ (s.setSi n v).ump = s.ump ∧ (s.setSi n v).bist = s.bist ∧ (s.setSi n v).time = s.time ∧
    (s.setSi n v).host = s.host ∧ (s.setSi n v).otp = s.otp ∧ (s.setSi n v).nvm = s.nvm ∧ (s.setSi n v).sec = s.sec ∧
    (s.setSi n v).net = s.net ∧ (s.setSi n v).boat = s.boat ∧ (s.setSi n v).alarm = s.alarm ∧
    (s.setSi n v).crc = s.crc ∧ (s.setSi n v).hook = s.hook ∧ (s.setSi n v).pending = s.pending := by simp [State.setSi]
@[simp] theorem State.setTp_frame (s : State) (n : Nat) (v : Tp) :
    (s.setTp n v).sys = s.sys ∧ (s.setTp n v).now = s.now ∧ (s.setTp n v).t0 = s.t0 ∧ (s.setTp n v).fresh = s.fresh ∧
    (s.setTp n v).fab = s.fab ∧ (s.setTp n v).seat = s.seat ∧ (s.setTp n v).lane = s.lane ∧ (s.setTp n v).afe = s.afe ∧
    (s.setTp n v).tach = s.tach ∧ (s.setTp n v).ring = s.ring ∧ (s.setTp n v).node = s.node ∧
    (s.setTp n v).cox = s.cox ∧ (s.setTp n v).ump = s.ump ∧ (s.setTp n v).bist = s.bist ∧ (s.setTp n v).time = s.time ∧
    (s.setTp n v).host = s.host ∧ (s.setTp n v).otp = s.otp ∧ (s.setTp n v).nvm = s.nvm ∧ (s.setTp n v).sec = s.sec ∧
    (s.setTp n v).net = s.net ∧ (s.setTp n v).boat = s.boat ∧ (s.setTp n v).alarm = s.alarm ∧
    (s.setTp n v).crc = s.crc ∧ (s.setTp n v).hook = s.hook ∧ (s.setTp n v).pending = s.pending := by simp [State.setTp]
@[simp] theorem State.setSo_frame (s : State) (n : Nat) (v : So) :
    (s.setSo n v).sys = s.sys ∧ (s.setSo n v).now = s.now ∧ (s.setSo n v).t0 = s.t0 ∧ (s.setSo n v).fresh = s.fresh ∧
    (s.setSo n v).fab = s.fab ∧ (s.setSo n v).seat = s.seat ∧ (s.setSo n v).lane = s.lane ∧ (s.setSo n v).afe = s.afe ∧
    (s.setSo n v).tach = s.tach ∧ (s.setSo n v).ring = s.ring ∧ (s.setSo n v).node = s.node ∧
    (s.setSo n v).cox = s.cox ∧ (s.setSo n v).ump = s.ump ∧ (s.setSo n v).bist = s.bist ∧ (s.setSo n v).time = s.time ∧
    (s.setSo n v).host = s.host ∧ (s.setSo n v).otp = s.otp ∧ (s.setSo n v).nvm = s.nvm ∧ (s.setSo n v).sec = s.sec ∧
    (s.setSo n v).net = s.net ∧ (s.setSo n v).boat = s.boat ∧ (s.setSo n v).alarm = s.alarm ∧
    (s.setSo n v).crc = s.crc ∧ (s.setSo n v).hook = s.hook ∧ (s.setSo n v).pending = s.pending := by simp [State.setSo]
@[simp] theorem State.setCio_frame (s : State) (n : Nat) (v : Cio) :
    (s.setCio n v).sys = s.sys ∧ (s.setCio n v).now = s.now ∧ (s.setCio n v).t0 = s.t0 ∧
    (s.setCio n v).fresh = s.fresh ∧ (s.setCio n v).fab = s.fab ∧ (s.setCio n v).seat = s.seat ∧
    (s.setCio n v).lane = s.lane ∧ (s.setCio n v).afe = s.afe ∧ (s.setCio n v).tach = s.tach ∧
    (s.setCio n v).ring = s.ring ∧ (s.setCio n v).node = s.node ∧ (s.setCio n v).cox = s.cox ∧
    (s.setCio n v).ump = s.ump ∧ (s.setCio n v).bist = s.bist ∧ (s.setCio n v).time = s.time ∧
    (s.setCio n v).host = s.host ∧ (s.setCio n v).otp = s.otp ∧ (s.setCio n v).nvm = s.nvm ∧
    (s.setCio n v).sec = s.sec ∧ (s.setCio n v).net = s.net ∧ (s.setCio n v).boat = s.boat ∧
    (s.setCio n v).alarm = s.alarm ∧ (s.setCio n v).crc = s.crc ∧ (s.setCio n v).hook = s.hook ∧
    (s.setCio n v).pending = s.pending := by simp [State.setCio]
@[simp] theorem State.setAin_frame (s : State) (n : Nat) (v : Ain) :
    (s.setAin n v).sys = s.sys ∧ (s.setAin n v).now = s.now ∧ (s.setAin n v).t0 = s.t0 ∧
    (s.setAin n v).fresh = s.fresh ∧ (s.setAin n v).fab = s.fab ∧ (s.setAin n v).seat = s.seat ∧
    (s.setAin n v).lane = s.lane ∧ (s.setAin n v).fld = s.fld ∧ (s.setAin n v).tach = s.tach ∧
    (s.setAin n v).ring = s.ring ∧ (s.setAin n v).node = s.node ∧ (s.setAin n v).cox = s.cox ∧
    (s.setAin n v).ump = s.ump ∧ (s.setAin n v).bist = s.bist ∧ (s.setAin n v).time = s.time ∧
    (s.setAin n v).host = s.host ∧ (s.setAin n v).otp = s.otp ∧ (s.setAin n v).nvm = s.nvm ∧
    (s.setAin n v).sec = s.sec ∧ (s.setAin n v).net = s.net ∧ (s.setAin n v).boat = s.boat ∧
    (s.setAin n v).alarm = s.alarm ∧ (s.setAin n v).crc = s.crc ∧ (s.setAin n v).hook = s.hook ∧
    (s.setAin n v).pending = s.pending := by simp [State.setAin]
@[simp] theorem State.setTach_frame (s : State) (n : Nat) (v : Tach) :
    (s.setTach n v).sys = s.sys ∧ (s.setTach n v).now = s.now ∧ (s.setTach n v).t0 = s.t0 ∧
    (s.setTach n v).fresh = s.fresh ∧ (s.setTach n v).fab = s.fab ∧ (s.setTach n v).seat = s.seat ∧
    (s.setTach n v).lane = s.lane ∧ (s.setTach n v).fld = s.fld ∧ (s.setTach n v).afe = s.afe ∧
    (s.setTach n v).ring = s.ring ∧ (s.setTach n v).node = s.node ∧ (s.setTach n v).cox = s.cox ∧
    (s.setTach n v).ump = s.ump ∧ (s.setTach n v).bist = s.bist ∧ (s.setTach n v).time = s.time ∧
    (s.setTach n v).host = s.host ∧ (s.setTach n v).otp = s.otp ∧ (s.setTach n v).nvm = s.nvm ∧
    (s.setTach n v).sec = s.sec ∧ (s.setTach n v).net = s.net ∧ (s.setTach n v).boat = s.boat ∧
    (s.setTach n v).alarm = s.alarm ∧ (s.setTach n v).crc = s.crc ∧ (s.setTach n v).hook = s.hook ∧
    (s.setTach n v).pending = s.pending := by simp [State.setTach]
@[simp] theorem State.setRg_frame (s : State) (n : Nat) (v : Ring) :
    (s.setRg n v).sys = s.sys ∧ (s.setRg n v).now = s.now ∧ (s.setRg n v).t0 = s.t0 ∧ (s.setRg n v).fresh = s.fresh ∧
    (s.setRg n v).fab = s.fab ∧ (s.setRg n v).seat = s.seat ∧ (s.setRg n v).lane = s.lane ∧ (s.setRg n v).fld = s.fld ∧
    (s.setRg n v).afe = s.afe ∧ (s.setRg n v).tach = s.tach ∧ (s.setRg n v).node = s.node ∧ (s.setRg n v).cox = s.cox ∧
    (s.setRg n v).ump = s.ump ∧ (s.setRg n v).bist = s.bist ∧ (s.setRg n v).time = s.time ∧
    (s.setRg n v).host = s.host ∧ (s.setRg n v).otp = s.otp ∧ (s.setRg n v).nvm = s.nvm ∧ (s.setRg n v).sec = s.sec ∧
    (s.setRg n v).net = s.net ∧ (s.setRg n v).boat = s.boat ∧ (s.setRg n v).alarm = s.alarm ∧
    (s.setRg n v).crc = s.crc ∧ (s.setRg n v).hook = s.hook ∧ (s.setRg n v).pending = s.pending := by simp [State.setRg]
@[simp] theorem State.setTask_frame (s : State) (n : Nat) (v : Task) :
    (s.setTask n v).sys = s.sys ∧ (s.setTask n v).now = s.now ∧ (s.setTask n v).t0 = s.t0 ∧
    (s.setTask n v).fresh = s.fresh ∧ (s.setTask n v).fab = s.fab ∧ (s.setTask n v).seat = s.seat ∧
    (s.setTask n v).lane = s.lane ∧ (s.setTask n v).fld = s.fld ∧ (s.setTask n v).afe = s.afe ∧
    (s.setTask n v).tach = s.tach ∧ (s.setTask n v).ring = s.ring ∧ (s.setTask n v).node = s.node ∧
    (s.setTask n v).ump = s.ump ∧ (s.setTask n v).bist = s.bist ∧ (s.setTask n v).time = s.time ∧
    (s.setTask n v).host = s.host ∧ (s.setTask n v).otp = s.otp ∧ (s.setTask n v).nvm = s.nvm ∧
    (s.setTask n v).sec = s.sec ∧ (s.setTask n v).net = s.net ∧ (s.setTask n v).boat = s.boat ∧
    (s.setTask n v).alarm = s.alarm ∧ (s.setTask n v).crc = s.crc ∧ (s.setTask n v).hook = s.hook ∧
    (s.setTask n v).pending = s.pending := by simp [State.setTask]
@[simp] theorem State.setCore_frame (s : State) (n : Nat) (v : Core) :
    (s.setCore n v).sys = s.sys ∧ (s.setCore n v).now = s.now ∧ (s.setCore n v).t0 = s.t0 ∧
    (s.setCore n v).fresh = s.fresh ∧ (s.setCore n v).fab = s.fab ∧ (s.setCore n v).seat = s.seat ∧
    (s.setCore n v).lane = s.lane ∧ (s.setCore n v).fld = s.fld ∧ (s.setCore n v).afe = s.afe ∧
    (s.setCore n v).tach = s.tach ∧ (s.setCore n v).ring = s.ring ∧ (s.setCore n v).node = s.node ∧
    (s.setCore n v).ump = s.ump ∧ (s.setCore n v).bist = s.bist ∧ (s.setCore n v).time = s.time ∧
    (s.setCore n v).host = s.host ∧ (s.setCore n v).otp = s.otp ∧ (s.setCore n v).nvm = s.nvm ∧
    (s.setCore n v).sec = s.sec ∧ (s.setCore n v).net = s.net ∧ (s.setCore n v).boat = s.boat ∧
    (s.setCore n v).alarm = s.alarm ∧ (s.setCore n v).crc = s.crc ∧ (s.setCore n v).hook = s.hook ∧
    (s.setCore n v).pending = s.pending := by simp [State.setCore]
@[simp] theorem State.setPmu_frame (s : State) (n : Nat) (v : Pmu) :
    (s.setPmu n v).sys = s.sys ∧ (s.setPmu n v).now = s.now ∧ (s.setPmu n v).t0 = s.t0 ∧
    (s.setPmu n v).fresh = s.fresh ∧ (s.setPmu n v).fab = s.fab ∧ (s.setPmu n v).seat = s.seat ∧
    (s.setPmu n v).lane = s.lane ∧ (s.setPmu n v).fld = s.fld ∧ (s.setPmu n v).afe = s.afe ∧
    (s.setPmu n v).tach = s.tach ∧ (s.setPmu n v).ring = s.ring ∧ (s.setPmu n v).node = s.node ∧
    (s.setPmu n v).ump = s.ump ∧ (s.setPmu n v).bist = s.bist ∧ (s.setPmu n v).time = s.time ∧
    (s.setPmu n v).host = s.host ∧ (s.setPmu n v).otp = s.otp ∧ (s.setPmu n v).nvm = s.nvm ∧
    (s.setPmu n v).sec = s.sec ∧ (s.setPmu n v).net = s.net ∧ (s.setPmu n v).boat = s.boat ∧
    (s.setPmu n v).alarm = s.alarm ∧ (s.setPmu n v).crc = s.crc ∧ (s.setPmu n v).hook = s.hook ∧
    (s.setPmu n v).pending = s.pending := by simp [State.setPmu]
@[simp] theorem State.setUnit_frame (s : State) (n : Nat) (v : BUnit) :
    (s.setUnit n v).sys = s.sys ∧ (s.setUnit n v).now = s.now ∧ (s.setUnit n v).t0 = s.t0 ∧
    (s.setUnit n v).fresh = s.fresh ∧ (s.setUnit n v).fab = s.fab ∧ (s.setUnit n v).seat = s.seat ∧
    (s.setUnit n v).lane = s.lane ∧ (s.setUnit n v).fld = s.fld ∧ (s.setUnit n v).afe = s.afe ∧
    (s.setUnit n v).tach = s.tach ∧ (s.setUnit n v).ring = s.ring ∧ (s.setUnit n v).node = s.node ∧
    (s.setUnit n v).cox = s.cox ∧ (s.setUnit n v).ump = s.ump ∧ (s.setUnit n v).time = s.time ∧
    (s.setUnit n v).host = s.host ∧ (s.setUnit n v).otp = s.otp ∧ (s.setUnit n v).nvm = s.nvm ∧
    (s.setUnit n v).sec = s.sec ∧ (s.setUnit n v).net = s.net ∧ (s.setUnit n v).boat = s.boat ∧
    (s.setUnit n v).alarm = s.alarm ∧ (s.setUnit n v).crc = s.crc ∧ (s.setUnit n v).hook = s.hook ∧
    (s.setUnit n v).pending = s.pending := by simp [State.setUnit]
@[simp] theorem State.setEth_frame (s : State) (n : Nat) (v : EthPort) :
    (s.setEth n v).sys = s.sys ∧ (s.setEth n v).now = s.now ∧ (s.setEth n v).t0 = s.t0 ∧
    (s.setEth n v).fresh = s.fresh ∧ (s.setEth n v).fab = s.fab ∧ (s.setEth n v).seat = s.seat ∧
    (s.setEth n v).lane = s.lane ∧ (s.setEth n v).fld = s.fld ∧ (s.setEth n v).afe = s.afe ∧
    (s.setEth n v).tach = s.tach ∧ (s.setEth n v).ring = s.ring ∧ (s.setEth n v).node = s.node ∧
    (s.setEth n v).cox = s.cox ∧ (s.setEth n v).ump = s.ump ∧ (s.setEth n v).bist = s.bist ∧
    (s.setEth n v).time = s.time ∧ (s.setEth n v).host = s.host ∧ (s.setEth n v).otp = s.otp ∧
    (s.setEth n v).nvm = s.nvm ∧ (s.setEth n v).sec = s.sec ∧ (s.setEth n v).boat = s.boat ∧
    (s.setEth n v).alarm = s.alarm ∧ (s.setEth n v).crc = s.crc ∧ (s.setEth n v).hook = s.hook ∧
    (s.setEth n v).pending = s.pending := by simp [State.setEth]
@[simp] theorem State.setHk_frame (s : State) (n : Nat) (v : Hook) :
    (s.setHk n v).sys = s.sys ∧ (s.setHk n v).now = s.now ∧ (s.setHk n v).t0 = s.t0 ∧ (s.setHk n v).fresh = s.fresh ∧
    (s.setHk n v).fab = s.fab ∧ (s.setHk n v).seat = s.seat ∧ (s.setHk n v).lane = s.lane ∧ (s.setHk n v).fld = s.fld ∧
    (s.setHk n v).afe = s.afe ∧ (s.setHk n v).tach = s.tach ∧ (s.setHk n v).ring = s.ring ∧
    (s.setHk n v).node = s.node ∧ (s.setHk n v).cox = s.cox ∧ (s.setHk n v).ump = s.ump ∧ (s.setHk n v).bist = s.bist ∧
    (s.setHk n v).time = s.time ∧ (s.setHk n v).host = s.host ∧ (s.setHk n v).otp = s.otp ∧ (s.setHk n v).nvm = s.nvm ∧
    (s.setHk n v).sec = s.sec ∧ (s.setHk n v).net = s.net ∧ (s.setHk n v).boat = s.boat ∧
    (s.setHk n v).alarm = s.alarm ∧ (s.setHk n v).crc = s.crc ∧ (s.setHk n v).pending = s.pending := by simp [State.setHk]

/-! ## Shared operations -/

@[simp] theorem refuse_frame (addr : Nat) (s : State) :
    (refuse addr s).now = s.now ∧ (refuse addr s).t0 = s.t0 ∧ (refuse addr s).fresh = s.fresh ∧
    (refuse addr s).fab = s.fab ∧ (refuse addr s).seat = s.seat ∧ (refuse addr s).lane = s.lane ∧
    (refuse addr s).fld = s.fld ∧ (refuse addr s).afe = s.afe ∧ (refuse addr s).tach = s.tach ∧
    (refuse addr s).ring = s.ring ∧ (refuse addr s).node = s.node ∧ (refuse addr s).cox = s.cox ∧
    (refuse addr s).ump = s.ump ∧ (refuse addr s).bist = s.bist ∧ (refuse addr s).time = s.time ∧
    (refuse addr s).host = s.host ∧ (refuse addr s).otp = s.otp ∧ (refuse addr s).nvm = s.nvm ∧
    (refuse addr s).sec = s.sec ∧ (refuse addr s).net = s.net ∧ (refuse addr s).boat = s.boat ∧
    (refuse addr s).alarm = s.alarm ∧ (refuse addr s).crc = s.crc ∧ (refuse addr s).hook = s.hook ∧
    (refuse addr s).pending = s.pending := by simp [refuse]
/-- A refused access counts, keeps its address, and changes nothing else of the SYS block (R10). -/
theorem refuse_counts (addr : Nat) (s : State) : (refuse addr s).sys =
    { s.sys with refused := satInc s.sys.refused, refusedAddr := BitVec.ofNat 32 addr } := rfl
@[simp] theorem advance_frame (tick : Nat) (s : State) :
    (advance tick s).sys = s.sys ∧ (advance tick s).t0 = s.t0 ∧ (advance tick s).fresh = s.fresh ∧
    (advance tick s).seat = s.seat ∧ (advance tick s).lane = s.lane ∧
    (advance tick s).fld = s.fld ∧ (advance tick s).afe = s.afe ∧ (advance tick s).tach = s.tach ∧
    (advance tick s).ring = s.ring ∧ (advance tick s).node = s.node ∧ (advance tick s).cox = s.cox ∧
    (advance tick s).ump = s.ump ∧ (advance tick s).bist = s.bist ∧ (advance tick s).time = s.time ∧
    (advance tick s).host = s.host ∧ (advance tick s).otp = s.otp ∧ (advance tick s).nvm = s.nvm ∧
    (advance tick s).sec = s.sec ∧ (advance tick s).net = s.net ∧ (advance tick s).boat = s.boat ∧
    (advance tick s).alarm = s.alarm ∧ (advance tick s).crc = s.crc ∧ (advance tick s).hook = s.hook ∧
    (advance tick s).pending = s.pending := by simp [advance]
/-- The raw tick count never moves back on a clock that is within its cycle, and never reaches the next boundary. -/
theorem advance_now (tick : Nat) (s : State) (h : s.now < s.t0 + cycleTicks) :
    s.now ≤ (advance tick s).now ∧ (advance tick s).now < s.t0 + cycleTicks := by
  unfold advance cycleTicks at *; dsimp only; omega

/-- A command answers a next state: `f` of the state on a module that is up, the same state otherwise. -/
theorem run_up (s : State) (f : State → State) (h : s.sys.up = true) : run s f = .next (f s) := by simp [run, h]
theorem run_down (s : State) (f : State → State) (h : s.sys.up = false) : run s f = .next s := by simp [run, h]
theorem whenever_true (f : State → State) (s : State) : whenever true f s = f s := rfl
theorem whenever_false (f : State → State) (s : State) : whenever false f s = s := rfl

end Sys2Proof.Machine
end

