-- ==== Sys2Proof/Laws/Ops.lean ====
section
/-!
SUPPORT. The shared operations: what each can change (a lemma `f_only` says which parts of the state `f` may touch, and that
every other part stays as it is), when a gate lets a command through, and what the expiry of a block does.
-/
namespace Sys2Proof.Machine

open Sys2Proof

/-! ## Folds over the state -/

theorem foldl_net {α : Type} {f : State → α → State} (h : ∀ t a, f t a = { t with net := (f t a).net }) (l : List α) (s : State) :
    l.foldl f s = { s with net := (l.foldl f s).net } := by
  induction l generalizing s with
  | nil => rfl
  | cons a l ih => rw [List.foldl_cons, ih, h]

theorem foldl_fresh_net {α : Type} {f : State → α → State} (h : ∀ t a, f t a = { t with fresh := (f t a).fresh, net := (f t a).net })
    (l : List α) (s : State) : l.foldl f s = { s with fresh := (l.foldl f s).fresh, net := (l.foldl f s).net } := by
  induction l generalizing s with
  | nil => rfl
  | cons a l ih => rw [List.foldl_cons, ih, h]

theorem foldl_fld {α : Type} {f : State → α → State} (h : ∀ t a, f t a = { t with fld := (f t a).fld }) (l : List α) (s : State) :
    l.foldl f s = { s with fld := (l.foldl f s).fld } := by
  induction l generalizing s with
  | nil => rfl
  | cons a l ih => rw [List.foldl_cons, ih, h]

theorem foldl_seat {α : Type} {f : State → α → State} (h : ∀ t a, f t a = { t with seat := (f t a).seat }) (l : List α) (s : State) :
    l.foldl f s = { s with seat := (l.foldl f s).seat } := by
  induction l generalizing s with
  | nil => rfl
  | cons a l ih => rw [List.foldl_cons, ih, h]

theorem foldl_lane_ump {α : Type} {f : State → α → State} (h : ∀ t a, f t a = { t with lane := (f t a).lane, ump := (f t a).ump })
    (l : List α) (s : State) : l.foldl f s = { s with lane := (l.foldl f s).lane, ump := (l.foldl f s).ump } := by
  induction l generalizing s with
  | nil => rfl
  | cons a l ih => rw [List.foldl_cons, ih, h]

theorem foldl_boat {α : Type} {f : State → α → State} (h : ∀ t a, f t a = { t with boat := (f t a).boat }) (l : List α) (s : State) :
    l.foldl f s = { s with boat := (l.foldl f s).boat } := by
  induction l generalizing s with
  | nil => rfl
  | cons a l ih => rw [List.foldl_cons, ih, h]

theorem foldl_fab_boat {α : Type} {f : State → α → State} (h : ∀ t a, f t a = { t with fab := (f t a).fab, boat := (f t a).boat })
    (l : List α) (s : State) : l.foldl f s = { s with fab := (l.foldl f s).fab, boat := (l.foldl f s).boat } := by
  induction l generalizing s with
  | nil => rfl
  | cons a l ih => rw [List.foldl_cons, ih, h]

theorem foldl_pmu {α : Type} {f : State → α → State}
    (h : ∀ t a, f t a = { t with fresh := (f t a).fresh, fab := (f t a).fab, cox := (f t a).cox, host := (f t a).host, net := (f t a).net })
    (l : List α) (s : State) :
    l.foldl f s = { s with fresh := (l.foldl f s).fresh, fab := (l.foldl f s).fab, cox := (l.foldl f s).cox,
                           host := (l.foldl f s).host, net := (l.foldl f s).net } := by
  induction l generalizing s with
  | nil => rfl
  | cons a l ih => rw [List.foldl_cons, ih, h]

theorem foldl_cox {α : Type} {f : State → α → State} (h : ∀ t a, f t a = { t with cox := (f t a).cox }) (l : List α) (s : State) :
    l.foldl f s = { s with cox := (l.foldl f s).cox } := by
  induction l generalizing s with
  | nil => rfl
  | cons a l ih => rw [List.foldl_cons, ih, h]

/-! ## What an operation can change -/

theorem setGroup_only (s : State) (g : Group) (v : GroupSt) : s.setGroup g v = { s with fld := (s.setGroup g v).fld } := by cases g <;> rfl

theorem setSupply_only (s : State) (g : Supply) (v : SupplySt) : s.setSupply g v = { s with fld := (s.setSupply g v).fld } := by cases g <;> rfl

theorem ethTx_only (p q len : Nat) (s : State) : ethTx p q len s = { s with net := (ethTx p q len s).net } := by
  unfold ethTx; dsimp only; split <;> rfl

theorem coreSends_only (q len : Nat) (s : State) : coreSends q len s = { s with net := (coreSends q len s).net } := by
  have h := foldl_net (f := fun t p => if (t.eth p).link = true then ethTx p q len t else t) (fun t p => by
    split
    · exact ethTx_only _ _ _ _
    · rfl) [0, 1] (ethRx 2 s)
  unfold coreSends
  generalize List.foldl _ _ _ = t at h ⊢
  rw [h]; rfl

theorem coreUnicast_only (q len : Nat) (s : State) :
    coreUnicast q len s = { s with fresh := (coreUnicast q len s).fresh, net := (coreUnicast q len s).net } := by
  unfold coreUnicast
  split
  · have h : ethRx 2 (fresh s).2 = { s with fresh := s.fresh + 1, net := (ethRx 2 (fresh s).2).net } := rfl
    dsimp only
    generalize ethRx 2 (fresh s).2 = t at h ⊢
    split
    · rw [ethTx_only, h]
    · rw [ethTx_only, h]
    · rw [ethTx_only, ethTx_only 1, h]
  · rw [coreSends_only]

theorem pushEvent_only (src cls code : Nat) (data : List Word) (time : Nat) (s : State) :
    pushEvent src cls code data time s = { s with
      fresh := (pushEvent src cls code data time s).fresh, host := (pushEvent src cls code data time s).host,
      net := (pushEvent src cls code data time s).net } := by
  unfold pushEvent
  dsimp only
  rw [foldl_fresh_net (fun t _ => coreUnicast_only 0 _ t)]

theorem sendAs_only (src seq cls seat since : Nat) (data : List Word) (s : State) :
    sendAs src seq cls seat since data s = { s with fab := (sendAs src seq cls seat since data s).fab } := rfl

theorem sendFrom_only (src cls seat since : Nat) (ws : List Word) (s : State) :
    sendFrom src cls seat since ws s = { s with fab := (sendFrom src cls seat since ws s).fab } := rfl

theorem sendFrame_only (src cls : Nat) (ws : List Word) (s : State) :
    sendFrame src cls ws s = { s with fab := (sendFrame src cls ws s).fab } := rfl

theorem countPort_only (p i n : Nat) (s : State) : countPort p i n s = { s with fab := (countPort p i n s).fab } := rfl

theorem heardFrom_only (ep src seq : Nat) (s : State) : heardFrom ep src seq s = { s with fab := (heardFrom ep src seq s).fab } := rfl

theorem holdCopies_only (on : Word → Bool) (n : Nat) (item : Instr) (copies : List Instr) (s : State) :
    holdCopies on n item copies s = { s with hook := (holdCopies on n item copies s).hook } := by
  unfold holdCopies; dsimp only; split <;> rfl

theorem emitFrom_only (src : Option Nat) (r : Report) (s : State) :
    emitFrom src r s = { s with
      fresh := (emitFrom src r s).fresh, fab := (emitFrom src r s).fab, ump := (emitFrom src r s).ump,
      host := (emitFrom src r s).host, net := (emitFrom src r s).net, hook := (emitFrom src r s).hook } := by
  unfold emitFrom
  split
  · rfl
  · rename_i src
    have h := sendFrame_only src 4 (alarmWords r) s
    dsimp only
    generalize sendFrame src 4 (alarmWords r) s = s1 at h ⊢
    split
    · rw [holdCopies_only, h]
    · have h2 : atUmpire r (heardFrom 13 src (look 0 s.fab.srcSeq src) s1) =
          { s1 with fab := (heardFrom 13 src (look 0 s.fab.srcSeq src) s1).fab,
                    ump := (atUmpire r (heardFrom 13 src (look 0 s.fab.srcSeq src) s1)).ump } := rfl
      generalize atUmpire r (heardFrom 13 src (look 0 s.fab.srcSeq src) s1) = s2 at h2 ⊢
      split
      · unfold alarmEvent
        have h3 := heardFrom_only 8 src (look 0 s.fab.srcSeq src) s2
        generalize heardFrom 8 src (look 0 s.fab.srcSeq src) s2 = s3 at h3 ⊢
        rw [pushEvent_only, h3, h2, h]
      · rw [h2, h]

theorem emit_only (r : Report) (s : State) :
    emit r s = { s with
      fresh := (emit r s).fresh, fab := (emit r s).fab, ump := (emit r s).ump,
      host := (emit r s).host, net := (emit r s).net, hook := (emit r s).hook } := emitFrom_only _ _ _

theorem report_only (line code detail : Nat) (s : State) :
    report line code detail s = { s with
      fresh := (report line code detail s).fresh, fab := (report line code detail s).fab, ump := (report line code detail s).ump,
      host := (report line code detail s).host, net := (report line code detail s).net, hook := (report line code detail s).hook } :=
  emitFrom_only _ _ _

theorem laneReport_only (l : Lane) (code detail : Nat) (s : State) :
    laneReport l code detail s = { s with
      fresh := (laneReport l code detail s).fresh, fab := (laneReport l code detail s).fab,
      ump := (laneReport l code detail s).ump, host := (laneReport l code detail s).host,
      net := (laneReport l code detail s).net, hook := (laneReport l code detail s).hook } := emitFrom_only _ _ _

theorem laneTelReport_only (l : Lane) (code : Nat) (s : State) :
    laneTelReport l code s = { s with
      fresh := (laneTelReport l code s).fresh, fab := (laneTelReport l code s).fab,
      ump := (laneTelReport l code s).ump, host := (laneTelReport l code s).host,
      net := (laneTelReport l code s).net, hook := (laneTelReport l code s).hook } := emitFrom_only _ _ _

theorem refreshSo_only (s : State) (k : Nat) : refreshSo s k = { s with fld := (refreshSo s k).fld } := by
  unfold refreshSo; dsimp only; split <;> rfl

theorem refreshCio_only (s : State) (k : Nat) : refreshCio s k = { s with fld := (refreshCio s k).fld } := by
  unfold refreshCio; dsimp only; split <;> rfl

theorem refreshAll_only (s : State) : refreshAll s = { s with fld := (refreshAll s).fld } := by
  unfold refreshAll
  rw [foldl_fld refreshCio_only, foldl_fld refreshSo_only]

theorem groupCause_only (g : Group) (f : GroupSt → GroupSt) (s : State) :
    groupCause g f s = { s with fld := (groupCause g f s).fld } := by
  unfold groupCause
  dsimp only
  split
  · rw [refreshAll_only, foldl_fld (fun _ _ => rfl), setGroup_only]
  · rw [refreshAll_only, setGroup_only]

theorem groupTry_only (g : Group) (s : State) : groupTry g s = { s with fld := (groupTry g s).fld } := by
  unfold groupTry groupEnable; dsimp only; repeat' split
  all_goals first | rfl | rw [setGroup_only]

theorem groupMet_only (g : Group) (f : GroupSt → GroupSt) (s : State) : groupMet g f s = { s with fld := (groupMet g f s).fld } := by
  unfold groupMet
  rw [groupTry_only, setGroup_only]

theorem forcedLines_only (umpire own : BitVec 4) (s : State) :
    forcedLines umpire own s = { s with fld := (forcedLines umpire own s).fld } := by
  unfold forcedLines
  dsimp only
  rw [foldl_fld]
  intro t g
  by_cases h1 : (umpire ||| own).getLsbD (groupNo g) = true <;> by_cases h2 : (t.group g).forced = true <;>
    simp only [h1, h2, if_true, if_false, Bool.false_eq_true]
  · exact groupCause_only _ _ _
  · exact groupMet_only _ _ _

theorem linesFollow_only (s : State) : linesFollow s = { s with fld := (linesFollow s).fld } := forcedLines_only _ _ _

theorem localAssert_only (gs : BitVec 4) (s : State) : localAssert gs s = { s with fld := (localAssert gs s).fld } := forcedLines_only _ _ _

theorem groupEnable_only (g : Group) (s : State) : groupEnable g s = { s with fld := (groupEnable g s).fld } := setGroup_only _ _ _

theorem groupComplete_only (g : Group) (s : State) : groupComplete g s = { s with fld := (groupComplete g s).fld } := by
  unfold groupComplete
  dsimp only
  split
  · rw [groupEnable_only, setGroup_only]
  · rw [setGroup_only]

theorem holdGroups_only (s : State) : holdGroups s = { s with fld := (holdGroups s).fld } :=
  foldl_fld (fun _ _ => groupCause_only _ _ _) _ _

theorem groupsAtReset_only (s : State) : groupsAtReset s = { s with fld := (groupsAtReset s).fld } := by
  unfold groupsAtReset
  rw [forcedLines_only, holdGroups_only]

theorem inputsCarry_only (k : Nat) (s : State) : inputsCarry k s = { s with fld := (inputsCarry k s).fld } :=
  foldl_fld (fun _ _ => by split <;> rfl) _ _

theorem overload_only (k : Nat) (s : State) :
    overload k s = { s with
      fresh := (overload k s).fresh, fab := (overload k s).fab, fld := (overload k s).fld, ump := (overload k s).ump,
      host := (overload k s).host, net := (overload k s).net, hook := (overload k s).hook } := by
  unfold overload
  have h := inputsCarry_only k (s.setTp k { s.tp k with overload := true, passRun := 0, staticRun := 0 })
  generalize inputsCarry k _ = t at h ⊢
  rw [report_only, h]; rfl

theorem supplyWarn_only (v : Supply) (s : State) :
    supplyWarn v s = { s with
      fresh := (supplyWarn v s).fresh, fab := (supplyWarn v s).fab, fld := (supplyWarn v s).fld, ump := (supplyWarn v s).ump,
      host := (supplyWarn v s).host, net := (supplyWarn v s).net, hook := (supplyWarn v s).hook } := by
  unfold supplyWarn
  rw [report_only, setSupply_only]

theorem counterWrap_only (c k n : Nat) (s : State) :
    counterWrap c k n s = { s with
      fresh := (counterWrap c k n s).fresh, fab := (counterWrap c k n s).fab, cox := (counterWrap c k n s).cox,
      host := (counterWrap c k n s).host, net := (counterWrap c k n s).net } := by
  unfold counterWrap
  dsimp only
  split
  · rw [pushEvent_only, sendFrame_only]; rfl
  · rfl

theorem countCycles_only (c n : Nat) (r : CoreRun) (q : Cycles) (s : State) (k : Nat) :
    countCycles c n r q s k = { s with
      fresh := (countCycles c n r q s k).fresh, fab := (countCycles c n r q s k).fab, cox := (countCycles c n r q s k).cox,
      host := (countCycles c n r q s k).host, net := (countCycles c n r q s k).net } := by
  unfold countCycles
  dsimp only
  split
  · split
    · rw [counterWrap_only]; rfl
    · rfl
  · rfl

theorem pmuSync_only (c : Nat) (s : State) :
    pmuSync c s = { s with
      fresh := (pmuSync c s).fresh, fab := (pmuSync c s).fab, cox := (pmuSync c s).cox,
      host := (pmuSync c s).host, net := (pmuSync c s).net } := by
  unfold pmuSync
  dsimp only
  split
  · rfl
  · rw [foldl_pmu (fun _ _ => countCycles_only _ _ _ _ _ _)]; rfl

theorem coreTo_only (c : Nat) (st : CoreState) (s : State) :
    coreTo c st s = { s with
      fresh := (coreTo c st s).fresh, fab := (coreTo c st s).fab, cox := (coreTo c st s).cox,
      host := (coreTo c st s).host, net := (coreTo c st s).net } := by
  unfold coreTo
  rw [pmuSync_only]; rfl

theorem pmuSeen_only (a : Nat) (s : State) :
    pmuSeen a s = { s with
      fresh := (pmuSeen a s).fresh, fab := (pmuSeen a s).fab, cox := (pmuSeen a s).cox,
      host := (pmuSeen a s).host, net := (pmuSeen a s).net } := by
  unfold pmuSeen
  dsimp only
  split
  · exact pmuSync_only _ _
  · rfl

theorem fresh_only (x0 : State) : (fresh x0).2 = { x0 with fresh := (fresh x0).2.fresh } := rfl
theorem ethRx_only (x0 : Nat) (x1 : State) : ethRx x0 x1 = { x1 with net := (ethRx x0 x1).net } := rfl
theorem ethDrop_only (x0 : Nat) (x1 : State) : ethDrop x0 x1 = { x1 with net := (ethDrop x0 x1).net } := rfl
theorem refuse_only (x0 : Nat) (x1 : State) : refuse x0 x1 = { x1 with sys := (refuse x0 x1).sys } := rfl
theorem holdItem_only (x0 : Word → Bool) (x1 : Nat) (x2 : Instr) (x3 : State) :
    holdItem x0 x1 x2 x3 = { x3 with hook := (holdItem x0 x1 x2 x3).hook } := by
  unfold holdItem; (try dsimp only); ((try rw [holdCopies_only])); first | done | rfl
theorem noteWait_only (x0 x1 x2 : Nat) (x3 : State) : noteWait x0 x1 x2 x3 = { x3 with fab := (noteWait x0 x1 x2 x3).fab } := rfl
theorem laneFrame_only (x0 : Lane) (x1 x2 : Nat) (x3 : List Word) (x4 : State) :
    laneFrame x0 x1 x2 x3 x4 = { x4 with fab := (laneFrame x0 x1 x2 x3 x4).fab } := rfl
theorem advance_only (x0 : Nat) (x1 : State) :
    advance x0 x1 = { x1 with now := (advance x0 x1).now, fab := (advance x0 x1).fab } := rfl
theorem atUmpire_only (x0 : Report) (x1 : State) : atUmpire x0 x1 = { x1 with ump := (atUmpire x0 x1).ump } := rfl
theorem alarmEvent_only (x0 : Nat) (x1 : List Word) (x2 : Nat) (x3 : State) :
    alarmEvent x0 x1 x2 x3 = { x3 with
      fresh := (alarmEvent x0 x1 x2 x3).fresh,
      host := (alarmEvent x0 x1 x2 x3).host,
      net := (alarmEvent x0 x1 x2 x3).net } := by
  unfold alarmEvent; (try dsimp only); ((try rw [pushEvent_only])); first | done | rfl
theorem laneSend_only (x0 : Lane) (x1 : LaneOut) (x2 : State) :
    laneSend x0 x1 x2 = { x2 with fab := (laneSend x0 x1 x2).fab, lane := (laneSend x0 x1 x2).lane } := rfl
theorem flagFaulty_only (x0 : Lane) (x1 : Nat) (x2 : State) :
    flagFaulty x0 x1 x2 = { x2 with
      fresh := (flagFaulty x0 x1 x2).fresh,
      fab := (flagFaulty x0 x1 x2).fab,
      lane := (flagFaulty x0 x1 x2).lane,
      ump := (flagFaulty x0 x1 x2).ump,
      host := (flagFaulty x0 x1 x2).host,
      net := (flagFaulty x0 x1 x2).net,
      hook := (flagFaulty x0 x1 x2).hook } := by
  unfold flagFaulty; (try dsimp only); (repeat' split) <;> (((try rw [laneSend_only]); (try rw [laneReport_only])); first | done | rfl)
theorem recheck_only (x0 : Lane) (x1 : Bool) (x2 : State) :
    recheck x0 x1 x2 = { x2 with
      fresh := (recheck x0 x1 x2).fresh,
      fab := (recheck x0 x1 x2).fab,
      seat := (recheck x0 x1 x2).seat,
      lane := (recheck x0 x1 x2).lane,
      ump := (recheck x0 x1 x2).ump,
      host := (recheck x0 x1 x2).host,
      net := (recheck x0 x1 x2).net,
      hook := (recheck x0 x1 x2).hook } := by
  unfold recheck; (try dsimp only); (repeat' split) <;> (((try rw [flagFaulty_only])); first | done | rfl)
theorem telArrive_only (x0 : Lane) (x1 : Nat) (x2 : List Byte) (x3 : State) :
    telArrive x0 x1 x2 x3 = { x3 with lane := (telArrive x0 x1 x2 x3).lane } := by
  unfold telArrive; (try dsimp only); (repeat' split) <;> rfl
theorem groupOvercurrent_only (x0 : Group) (x1 : State) :
    groupOvercurrent x0 x1 = { x1 with
      fresh := (groupOvercurrent x0 x1).fresh,
      fab := (groupOvercurrent x0 x1).fab,
      fld := (groupOvercurrent x0 x1).fld,
      ump := (groupOvercurrent x0 x1).ump,
      host := (groupOvercurrent x0 x1).host,
      net := (groupOvercurrent x0 x1).net,
      hook := (groupOvercurrent x0 x1).hook } := by
  unfold groupOvercurrent; (try dsimp only); ((try rw [groupCause_only]); (try rw [report_only])); first | done | rfl
theorem groupOvertemp_only (x0 : Group) (x1 : State) :
    groupOvertemp x0 x1 = { x1 with
      fresh := (groupOvertemp x0 x1).fresh,
      fab := (groupOvertemp x0 x1).fab,
      fld := (groupOvertemp x0 x1).fld,
      ump := (groupOvertemp x0 x1).ump,
      host := (groupOvertemp x0 x1).host,
      net := (groupOvertemp x0 x1).net,
      hook := (groupOvertemp x0 x1).hook } := by
  unfold groupOvertemp; (try dsimp only); ((try rw [groupCause_only]); (try rw [report_only])); first | done | rfl
theorem channelOn_only (x0 : Nat) (x1 : State) : channelOn x0 x1 = { x1 with afe := (channelOn x0 x1).afe } := rfl
theorem chanEnable_only (x0 : Nat) (x1 : State) : chanEnable x0 x1 = { x1 with afe := (chanEnable x0 x1).afe } := by
  unfold chanEnable; (try dsimp only); (repeat' split) <;> rfl
theorem chanDisable_only (x0 : Nat) (x1 : State) : chanDisable x0 x1 = { x1 with afe := (chanDisable x0 x1).afe } := by
  unfold chanDisable; (try dsimp only); (repeat' split) <;> rfl
theorem tachOn_only (x0 : Nat) (x1 : State) : tachOn x0 x1 = { x1 with tach := (tachOn x0 x1).tach } := rfl
theorem tachEnable_only (x0 : Nat) (x1 : State) : tachEnable x0 x1 = { x1 with tach := (tachEnable x0 x1).tach } := by
  unfold tachEnable; (try dsimp only); (repeat' split) <;> rfl
theorem tachDisable_only (x0 : Nat) (x1 : State) : tachDisable x0 x1 = { x1 with tach := (tachDisable x0 x1).tach } := by
  unfold tachDisable; (try dsimp only); (repeat' split) <;> rfl
theorem abortSlice_only (x0 : Nat) (x1 : State) :
    abortSlice x0 x1 = { x1 with
      fresh := (abortSlice x0 x1).fresh,
      fab := (abortSlice x0 x1).fab,
      ump := (abortSlice x0 x1).ump,
      bist := (abortSlice x0 x1).bist,
      host := (abortSlice x0 x1).host,
      net := (abortSlice x0 x1).net,
      hook := (abortSlice x0 x1).hook } := by
  unfold abortSlice; (try dsimp only); (repeat' split) <;> rfl
theorem dropSlice_only (x0 : Nat) (x1 : State) : dropSlice x0 x1 = { x1 with bist := (dropSlice x0 x1).bist } := rfl
theorem countFailure_only (x0 : Lane) (x1 : Nat) (x2 : State) :
    countFailure x0 x1 x2 = { x2 with
      fresh := (countFailure x0 x1 x2).fresh,
      fab := (countFailure x0 x1 x2).fab,
      seat := (countFailure x0 x1 x2).seat,
      ump := (countFailure x0 x1 x2).ump,
      bist := (countFailure x0 x1 x2).bist,
      host := (countFailure x0 x1 x2).host,
      net := (countFailure x0 x1 x2).net,
      hook := (countFailure x0 x1 x2).hook } := by
  unfold countFailure; (try dsimp only); (repeat' split) <;> (((try rw [dropSlice_only]); (try rw [report_only])); first | done | rfl)
theorem enterState_only (x0 : SeatState) (x1 : Nat) (x2 : Option Lane) (x3 : State) :
    enterState x0 x1 x2 x3 = { x3 with seat := (enterState x0 x1 x2 x3).seat } := rfl
theorem setDue_only (x0 x1 x2 : Option Lane) (x3 : State) : setDue x0 x1 x2 x3 = { x3 with seat := (setDue x0 x1 x2 x3).seat } := rfl
theorem abortCommand_only (x0 : Lane) (x1 : State) :
    abortCommand x0 x1 = { x1 with
      fresh := (abortCommand x0 x1).fresh,
      fab := (abortCommand x0 x1).fab,
      seat := (abortCommand x0 x1).seat,
      ump := (abortCommand x0 x1).ump,
      bist := (abortCommand x0 x1).bist,
      host := (abortCommand x0 x1).host,
      net := (abortCommand x0 x1).net,
      hook := (abortCommand x0 x1).hook } := by
  unfold abortCommand; (try dsimp only); (repeat' split) <;> (((try rw [abortSlice_only])); first | done | rfl)
theorem abortComplete_only (x0 : Lane) (x1 : State) :
    abortComplete x0 x1 = { x1 with
      fresh := (abortComplete x0 x1).fresh,
      fab := (abortComplete x0 x1).fab,
      seat := (abortComplete x0 x1).seat,
      ump := (abortComplete x0 x1).ump,
      bist := (abortComplete x0 x1).bist,
      host := (abortComplete x0 x1).host,
      net := (abortComplete x0 x1).net,
      hook := (abortComplete x0 x1).hook } := by
  unfold abortComplete; (try dsimp only); (repeat' split) <;> (((try rw [abortCommand_only])); first | done | rfl)
theorem rotationInstant_only (x0 : State) : rotationInstant x0 = { x0 with seat := (rotationInstant x0).seat } := rfl
theorem twoOarLimit_only (x0 : State) :
    twoOarLimit x0 = { x0 with
      fresh := (twoOarLimit x0).fresh,
      fab := (twoOarLimit x0).fab,
      seat := (twoOarLimit x0).seat,
      ump := (twoOarLimit x0).ump,
      host := (twoOarLimit x0).host,
      net := (twoOarLimit x0).net,
      hook := (twoOarLimit x0).hook } := by
  unfold twoOarLimit; (try dsimp only); ((try rw [report_only])); first | done | rfl
theorem filterChange_only (x0 : Nat) (x1 : State) : filterChange x0 x1 = { x1 with fld := (filterChange x0 x1).fld } := rfl
theorem pulseBegin_only (x0 : Nat) (x1 : State) : pulseBegin x0 x1 = { x1 with fld := (pulseBegin x0 x1).fld } := rfl
theorem lorHist_only (x0 : State) : lorHist x0 = { x0 with fld := (lorHist x0).fld } := rfl
theorem outPulseBegin_only (x0 : Nat) (x1 : State) : outPulseBegin x0 x1 = { x1 with fld := (outPulseBegin x0 x1).fld } := by
  unfold outPulseBegin; (try dsimp only); (repeat' split) <;> rfl
theorem outShort_only (x0 : Nat) (x1 : State) :
    outShort x0 x1 = { x1 with
      fresh := (outShort x0 x1).fresh,
      fab := (outShort x0 x1).fab,
      fld := (outShort x0 x1).fld,
      ump := (outShort x0 x1).ump,
      host := (outShort x0 x1).host,
      net := (outShort x0 x1).net,
      hook := (outShort x0 x1).hook } := by
  unfold outShort; (try dsimp only); (repeat' split) <;> (((try rw [report_only])); first | done | rfl)
theorem outHold_only (x0 x1 : Nat) (x2 : State) :
    outHold x0 x1 x2 = { x2 with
      fresh := (outHold x0 x1 x2).fresh,
      fab := (outHold x0 x1 x2).fab,
      fld := (outHold x0 x1 x2).fld,
      ump := (outHold x0 x1 x2).ump,
      host := (outHold x0 x1 x2).host,
      net := (outHold x0 x1 x2).net,
      hook := (outHold x0 x1 x2).hook } := by
  unfold outHold; (try dsimp only); ((try rw [refreshSo_only]); (try rw [report_only])); first | done | rfl
theorem outStuck_only (x0 : Nat) (x1 : State) :
    outStuck x0 x1 = { x1 with
      fresh := (outStuck x0 x1).fresh,
      fab := (outStuck x0 x1).fab,
      fld := (outStuck x0 x1).fld,
      ump := (outStuck x0 x1).ump,
      host := (outStuck x0 x1).host,
      net := (outStuck x0 x1).net,
      hook := (outStuck x0 x1).hook } := by
  unfold outStuck; (try dsimp only); (repeat' split) <;> (((try rw [outHold_only])); first | done | rfl)
theorem outOpenLoad_only (x0 : Nat) (x1 : State) :
    outOpenLoad x0 x1 = { x1 with
      fresh := (outOpenLoad x0 x1).fresh,
      fab := (outOpenLoad x0 x1).fab,
      fld := (outOpenLoad x0 x1).fld,
      ump := (outOpenLoad x0 x1).ump,
      host := (outOpenLoad x0 x1).host,
      net := (outOpenLoad x0 x1).net,
      hook := (outOpenLoad x0 x1).hook } := by
  unfold outOpenLoad; (try dsimp only); ((try rw [report_only])); first | done | rfl
theorem outClear_only (x0 : Nat) (x1 : State) : outClear x0 x1 = { x1 with fld := (outClear x0 x1).fld } := rfl
theorem wdTrip_only (x0 : State) :
    wdTrip x0 = { x0 with
      fresh := (wdTrip x0).fresh,
      fab := (wdTrip x0).fab,
      fld := (wdTrip x0).fld,
      ump := (wdTrip x0).ump,
      host := (wdTrip x0).host,
      net := (wdTrip x0).net,
      hook := (wdTrip x0).hook } := by
  unfold wdTrip; (try dsimp only); ((try rw [refreshAll_only]); (try rw [report_only])); first | done | rfl
theorem wdRelease_only (x0 : State) : wdRelease x0 = { x0 with fld := (wdRelease x0).fld } := by
  unfold wdRelease; (try dsimp only); ((try rw [refreshAll_only])); first | done | rfl
theorem cioSilence_only (x0 : Nat) (x1 : State) :
    cioSilence x0 x1 = { x1 with
      fresh := (cioSilence x0 x1).fresh,
      fab := (cioSilence x0 x1).fab,
      fld := (cioSilence x0 x1).fld,
      ump := (cioSilence x0 x1).ump,
      host := (cioSilence x0 x1).host,
      net := (cioSilence x0 x1).net,
      hook := (cioSilence x0 x1).hook } := by
  unfold cioSilence; (try dsimp only); ((try rw [refreshCio_only]); (try rw [report_only])); first | done | rfl
theorem cioOverload_only (x0 : Nat) (x1 : State) :
    cioOverload x0 x1 = { x1 with
      fresh := (cioOverload x0 x1).fresh,
      fab := (cioOverload x0 x1).fab,
      fld := (cioOverload x0 x1).fld,
      ump := (cioOverload x0 x1).ump,
      host := (cioOverload x0 x1).host,
      net := (cioOverload x0 x1).net,
      hook := (cioOverload x0 x1).hook } := by
  unfold cioOverload; (try dsimp only); ((try rw [refreshCio_only]); (try rw [report_only])); first | done | rfl
theorem cioShort_only (x0 : Nat) (x1 : State) :
    cioShort x0 x1 = { x1 with
      fresh := (cioShort x0 x1).fresh,
      fab := (cioShort x0 x1).fab,
      fld := (cioShort x0 x1).fld,
      ump := (cioShort x0 x1).ump,
      host := (cioShort x0 x1).host,
      net := (cioShort x0 x1).net,
      hook := (cioShort x0 x1).hook } := by
  unfold cioShort; (try dsimp only); (repeat' split) <;> (((try rw [report_only])); first | done | rfl)
theorem umpCheck_only (x0 : Bool) (x1 : State) :
    umpCheck x0 x1 = { x1 with
      fresh := (umpCheck x0 x1).fresh,
      fab := (umpCheck x0 x1).fab,
      fld := (umpCheck x0 x1).fld,
      ump := (umpCheck x0 x1).ump,
      host := (umpCheck x0 x1).host,
      net := (umpCheck x0 x1).net,
      hook := (umpCheck x0 x1).hook } := by
  unfold umpCheck; (try dsimp only); (repeat' split) <;> (((try rw [report_only]); (try rw [linesFollow_only])); first | done | rfl)
theorem logAppend_only (x0 x1 x2 : Nat) (x3 x4 : List Word) (x5 : Nat) (x6 : State) :
    logAppend x0 x1 x2 x3 x4 x5 x6 = { x6 with
      host := (logAppend x0 x1 x2 x3 x4 x5 x6).host,
      nvm := (logAppend x0 x1 x2 x3 x4 x5 x6).nvm } := rfl
theorem logEvent_only (x0 x1 x2 : Nat) (x3 x4 : List Word) (x5 : State) :
    logEvent x0 x1 x2 x3 x4 x5 = { x5 with
      host := (logEvent x0 x1 x2 x3 x4 x5).host,
      nvm := (logEvent x0 x1 x2 x3 x4 x5).nvm } := by
  unfold logEvent; (try dsimp only); (repeat' split) <;> rfl
theorem secRefuse_only (x0 x1 : Nat) (x2 : State) :
    secRefuse x0 x1 x2 = { x2 with
      sys := (secRefuse x0 x1 x2).sys,
      fresh := (secRefuse x0 x1 x2).fresh,
      fab := (secRefuse x0 x1 x2).fab,
      ump := (secRefuse x0 x1 x2).ump,
      host := (secRefuse x0 x1 x2).host,
      sec := (secRefuse x0 x1 x2).sec,
      net := (secRefuse x0 x1 x2).net,
      hook := (secRefuse x0 x1 x2).hook } := rfl
theorem dropSession_only (x0 : Port) (x1 : State) : dropSession x0 x1 = { x1 with sec := (dropSession x0 x1).sec } := rfl
theorem touchSession_only (x0 : Port) (x1 : State) : touchSession x0 x1 = { x1 with sec := (touchSession x0 x1).sec } := rfl
theorem sealReport_only (x0 : Word) (x1 : State) :
    sealReport x0 x1 = { x1 with
      fresh := (sealReport x0 x1).fresh,
      fab := (sealReport x0 x1).fab,
      ump := (sealReport x0 x1).ump,
      host := (sealReport x0 x1).host,
      nvm := (sealReport x0 x1).nvm,
      net := (sealReport x0 x1).net,
      hook := (sealReport x0 x1).hook } := by
  unfold sealReport; (try dsimp only); (repeat' split) <;> (((try rw [logEvent_only]); (try rw [report_only])); first | done | rfl)
theorem sealWatch_only (x0 : State) : sealWatch x0 = { x0 with nvm := (sealWatch x0).nvm } := by
  unfold sealWatch; (try dsimp only); (repeat' split) <;> rfl
theorem fresh16_only (x0 : State) : (fresh16 x0).2 = { x0 with fresh := (fresh16 x0).2.fresh } := rfl
theorem challenge_only (x0 : Port) (x1 : Nat) (x2 : State) :
    challenge x0 x1 x2 = { x2 with fresh := (challenge x0 x1 x2).fresh, sec := (challenge x0 x1 x2).sec } := rfl
theorem takePage_only (x0 x1 x2 : Nat) (x3 : State) : takePage x0 x1 x2 x3 = { x3 with boat := (takePage x0 x1 x2 x3).boat } := rfl
theorem noteLow_only (x0 : State) : noteLow x0 = { x0 with boat := (noteLow x0).boat } := rfl
theorem dropPage_only (x0 : Nat) (x1 : State) : dropPage x0 x1 = { x1 with boat := (dropPage x0 x1).boat } := rfl
theorem memPut_only (x0 : Nat) (x1 : Word) (x2 : State) : memPut x0 x1 x2 = { x2 with boat := (memPut x0 x1 x2).boat } := rfl
theorem memPuts_only (x0 : Nat) (x1 : List Word) (x2 : State) : memPuts x0 x1 x2 = { x2 with boat := (memPuts x0 x1 x2).boat } := rfl
theorem accessBank_only (x0 x1 : Nat) (x2 : State) : accessBank x0 x1 x2 = { x2 with boat := (accessBank x0 x1 x2).boat } := rfl
theorem memZero_only (x0 : Nat) (x1 : State) : memZero x0 x1 = { x1 with boat := (memZero x0 x1).boat } := rfl
theorem capFrame_only (x0 : Nat) (x1 : Capture) (x2 x3 : Nat) (x4 : List (Nat × Nat)) (x5 : State) :
    capFrame x0 x1 x2 x3 x4 x5 = { x5 with fab := (capFrame x0 x1 x2 x3 x4 x5).fab } := by
  unfold capFrame; (try dsimp only); (repeat' split) <;> rfl
theorem pickCtx_only (x0 : State) : (pickCtx x0).2 = { x0 with fresh := (pickCtx x0).2.fresh } := rfl
theorem newCapture_only (x0 x1 : Nat) (x2 : Bool) (x3 : Option Nat) (x4 : List (Nat × Nat)) (x5 : Nat) (x6 : State) :
    newCapture x0 x1 x2 x3 x4 x5 x6 = { x6 with
      fresh := (newCapture x0 x1 x2 x3 x4 x5 x6).fresh,
      boat := (newCapture x0 x1 x2 x3 x4 x5 x6).boat } := rfl
theorem hostCapEnd_only (x0 : Nat) (x1 : Capture) (x2 : State) :
    hostCapEnd x0 x1 x2 = { x2 with boat := (hostCapEnd x0 x1 x2).boat } := by
  unfold hostCapEnd; (try dsimp only); (repeat' split) <;> rfl
theorem setCap_only (x0 : Capture) (x1 : State) : setCap x0 x1 = { x1 with boat := (setCap x0 x1).boat } := rfl
theorem countWinref_only (x0 : Nat) (x1 : State) :
    countWinref x0 x1 = { x1 with sys := (countWinref x0 x1).sys, boat := (countWinref x0 x1).boat } := rfl
theorem hostFree_only (x0 : Word) (x1 : State) :
    hostFree x0 x1 = { x1 with sys := (hostFree x0 x1).sys, boat := (hostFree x0 x1).boat } := by
  unfold hostFree; (try dsimp only); (repeat' split) <;> rfl
theorem windowWrite_only (x0 : Nat) (x1 : Word) (x2 : State) :
    windowWrite x0 x1 x2 = { x2 with sys := (windowWrite x0 x1 x2).sys, boat := (windowWrite x0 x1 x2).boat } := by
  unfold windowWrite; (try dsimp only); (repeat' split) <;> rfl
theorem supplyTrack_only (x0 : Nat) (x1 : State) : supplyTrack x0 x1 = { x1 with afe := (supplyTrack x0 x1).afe } := by
  unfold supplyTrack; (try dsimp only); (repeat' split) <;> rfl
theorem decimReady_only (x0 : Nat) (x1 : Word) (x2 : State) :
    decimReady x0 x1 x2 = { x2 with afe := (decimReady x0 x1 x2).afe } := rfl
theorem ainOpen_only (x0 : Nat) (x1 : State) :
    ainOpen x0 x1 = { x1 with
      fresh := (ainOpen x0 x1).fresh,
      fab := (ainOpen x0 x1).fab,
      afe := (ainOpen x0 x1).afe,
      ump := (ainOpen x0 x1).ump,
      host := (ainOpen x0 x1).host,
      net := (ainOpen x0 x1).net,
      hook := (ainOpen x0 x1).hook } := by
  unfold ainOpen; (try dsimp only); ((try rw [report_only])); first | done | rfl
theorem ainShort_only (x0 : Nat) (x1 : State) :
    ainShort x0 x1 = { x1 with
      fresh := (ainShort x0 x1).fresh,
      fab := (ainShort x0 x1).fab,
      afe := (ainShort x0 x1).afe,
      ump := (ainShort x0 x1).ump,
      host := (ainShort x0 x1).host,
      net := (ainShort x0 x1).net,
      hook := (ainShort x0 x1).hook } := by
  unfold ainShort; (try dsimp only); ((try rw [report_only])); first | done | rfl
theorem settled_only (x0 : Nat) (x1 : State) : settled x0 x1 = { x1 with afe := (settled x0 x1).afe } := rfl
theorem calStart_only (x0 : Nat) (x1 : State) : calStart x0 x1 = { x1 with afe := (calStart x0 x1).afe } := by
  unfold calStart; (try dsimp only); (repeat' split) <;> rfl
theorem cmpWrite_only (x0 x1 : Nat) (x2 : Word) (x3 : State) :
    cmpWrite x0 x1 x2 x3 = { x3 with sys := (cmpWrite x0 x1 x2 x3).sys, tach := (cmpWrite x0 x1 x2 x3).tach } := by
  unfold cmpWrite; (try dsimp only); (repeat' split) <;> rfl
theorem stepWrite_only (x0 x1 : Nat) (x2 : Word) (x3 : State) :
    stepWrite x0 x1 x2 x3 = { x3 with sys := (stepWrite x0 x1 x2 x3).sys, tach := (stepWrite x0 x1 x2 x3).tach } := by
  unfold stepWrite; (try dsimp only); (repeat' split) <;> rfl
theorem crcRefuse_only (x0 : Nat) (x1 : State) :
    crcRefuse x0 x1 = { x1 with sys := (crcRefuse x0 x1).sys, crc := (crcRefuse x0 x1).crc } := rfl
theorem hostCtx_only (x0 x1 : Nat) (x2 : CrcCtx → CrcCtx) (x3 : State) :
    hostCtx x0 x1 x2 x3 = { x3 with sys := (hostCtx x0 x1 x2 x3).sys, crc := (hostCtx x0 x1 x2 x3).crc } := by
  unfold hostCtx; (try dsimp only); (repeat' split) <;> rfl
theorem hostCheck_only (x0 : Nat) (x1 : State) :
    hostCheck x0 x1 = { x1 with sys := (hostCheck x0 x1).sys, host := (hostCheck x0 x1).host, crc := (hostCheck x0 x1).crc } := by
  unfold hostCheck; (try dsimp only); (repeat' split) <;> (((try rw [hostCtx_only])); first | done | rfl)
theorem moduleCheck_only (x0 : Nat) (x1 : Bool) (x2 : State) :
    moduleCheck x0 x1 x2 = { x2 with fresh := (moduleCheck x0 x1 x2).fresh, crc := (moduleCheck x0 x1 x2).crc } := rfl
theorem taskSend_only (x0 x1 : Nat) (x2 : List Word) (x3 : State) :
    taskSend x0 x1 x2 x3 = { x3 with
      fresh := (taskSend x0 x1 x2 x3).fresh,
      fab := (taskSend x0 x1 x2 x3).fab,
      cox := (taskSend x0 x1 x2 x3).cox,
      host := (taskSend x0 x1 x2 x3).host,
      net := (taskSend x0 x1 x2 x3).net } := by
  unfold taskSend; (try dsimp only); (repeat' split) <;> (((try rw [pushEvent_only]); (try rw [sendAs_only])); first | done | rfl)
theorem alarmFrame_only (x0 x1 : Nat) (x2 : Alarm) (x3 x4 : Word) (x5 : State) :
    alarmFrame x0 x1 x2 x3 x4 x5 = { x5 with
      fresh := (alarmFrame x0 x1 x2 x3 x4 x5).fresh,
      fab := (alarmFrame x0 x1 x2 x3 x4 x5).fab,
      cox := (alarmFrame x0 x1 x2 x3 x4 x5).cox,
      host := (alarmFrame x0 x1 x2 x3 x4 x5).host,
      net := (alarmFrame x0 x1 x2 x3 x4 x5).net } := by
  unfold alarmFrame; (try dsimp only); ((try rw [taskSend_only])); first | done | rfl
theorem alarmNoData_only (x0 : Nat) (x1 x2 : Word) (x3 : State) :
    alarmNoData x0 x1 x2 x3 = { x3 with
      fresh := (alarmNoData x0 x1 x2 x3).fresh,
      fab := (alarmNoData x0 x1 x2 x3).fab,
      cox := (alarmNoData x0 x1 x2 x3).cox,
      host := (alarmNoData x0 x1 x2 x3).host,
      net := (alarmNoData x0 x1 x2 x3).net,
      alarm := (alarmNoData x0 x1 x2 x3).alarm } := by
  unfold alarmNoData; (try dsimp only); (repeat' split) <;> (((try rw [alarmFrame_only])); first | done | rfl)
theorem reportLink_only (x0 : State) :
    reportLink x0 = { x0 with
      fresh := (reportLink x0).fresh,
      fab := (reportLink x0).fab,
      ump := (reportLink x0).ump,
      host := (reportLink x0).host,
      net := (reportLink x0).net,
      hook := (reportLink x0).hook } := rfl
theorem linkFailed_only (x0 : Nat) (x1 : State) :
    linkFailed x0 x1 = { x1 with
      fresh := (linkFailed x0 x1).fresh,
      fab := (linkFailed x0 x1).fab,
      ump := (linkFailed x0 x1).ump,
      host := (linkFailed x0 x1).host,
      net := (linkFailed x0 x1).net,
      hook := (linkFailed x0 x1).hook } := rfl
theorem acceptFrame_only (x0 x1 x2 : Nat) (x3 : List Word) (x4 : State) :
    acceptFrame x0 x1 x2 x3 x4 = { x4 with
      fresh := (acceptFrame x0 x1 x2 x3 x4).fresh,
      fab := (acceptFrame x0 x1 x2 x3 x4).fab,
      ump := (acceptFrame x0 x1 x2 x3 x4).ump,
      host := (acceptFrame x0 x1 x2 x3 x4).host,
      net := (acceptFrame x0 x1 x2 x3 x4).net } := by
  unfold acceptFrame; (try dsimp only); (repeat' split) <;> (((try rw [atUmpire_only]); (try rw [alarmEvent_only])); first | done | rfl)
theorem frameEnd_only (x0 x1 x2 : Nat) (x3 : Route) (x4 : OpenFrame) (x5 : State) :
    frameEnd x0 x1 x2 x3 x4 x5 = { x5 with
      fresh := (frameEnd x0 x1 x2 x3 x4 x5).fresh,
      fab := (frameEnd x0 x1 x2 x3 x4 x5).fab,
      ump := (frameEnd x0 x1 x2 x3 x4 x5).ump,
      host := (frameEnd x0 x1 x2 x3 x4 x5).host,
      net := (frameEnd x0 x1 x2 x3 x4 x5).net,
      hook := (frameEnd x0 x1 x2 x3 x4 x5).hook } := by
  unfold frameEnd; (try dsimp only); (repeat' split) <;> (((try rw [report_only]); (try rw [countPort_only]); (try rw [acceptFrame_only])); first | done | rfl)
theorem coreOff_only (x0 : Nat) (x1 : State) :
    coreOff x0 x1 = { x1 with
      fresh := (coreOff x0 x1).fresh,
      fab := (coreOff x0 x1).fab,
      cox := (coreOff x0 x1).cox,
      host := (coreOff x0 x1).host,
      net := (coreOff x0 x1).net } := by
  unfold coreOff; (try dsimp only); ((try rw [coreTo_only])); first | done | rfl
theorem coreDown_only (x0 : Nat) (x1 : State) :
    coreDown x0 x1 = { x1 with
      fresh := (coreDown x0 x1).fresh,
      fab := (coreDown x0 x1).fab,
      cox := (coreDown x0 x1).cox,
      host := (coreDown x0 x1).host,
      net := (coreDown x0 x1).net } := by
  unfold coreDown; (try dsimp only); (repeat' split) <;> (((try rw [coreTo_only]); (try rw [coreOff_only])); first | done | rfl)
theorem coreUp_only (x0 : Nat) (x1 : State) :
    coreUp x0 x1 = { x1 with
      fresh := (coreUp x0 x1).fresh,
      fab := (coreUp x0 x1).fab,
      cox := (coreUp x0 x1).cox,
      host := (coreUp x0 x1).host,
      net := (coreUp x0 x1).net } := by
  unfold coreUp; (try dsimp only); (repeat' split) <;> (((try rw [coreTo_only])); first | done | rfl)
theorem coreFree_only (x0 : Nat) (x1 : State) :
    coreFree x0 x1 = { x1 with
      fresh := (coreFree x0 x1).fresh,
      fab := (coreFree x0 x1).fab,
      cox := (coreFree x0 x1).cox,
      host := (coreFree x0 x1).host,
      net := (coreFree x0 x1).net } := by
  unfold coreFree; (try dsimp only); (repeat' split) <;> (((try rw [coreTo_only]); (try rw [coreOff_only])); first | done | rfl)
theorem setResult_only (x0 : Nat) (x1 : CallResult) (x2 : State) :
    setResult x0 x1 x2 = { x2 with cox := (setResult x0 x1 x2).cox } := rfl
theorem memFault_only (x0 : Nat) (x1 : State) :
    memFault x0 x1 = { x1 with
      fresh := (memFault x0 x1).fresh,
      fab := (memFault x0 x1).fab,
      cox := (memFault x0 x1).cox,
      ump := (memFault x0 x1).ump,
      host := (memFault x0 x1).host,
      net := (memFault x0 x1).net,
      hook := (memFault x0 x1).hook } := by
  unfold memFault; (try dsimp only); (repeat' split) <;> (((try rw [coreFree_only]); (try rw [report_only])); first | done | rfl)
theorem eccEnd_only (x0 : Nat) (x1 : State) :
    eccEnd x0 x1 = { x1 with
      fresh := (eccEnd x0 x1).fresh,
      fab := (eccEnd x0 x1).fab,
      cox := (eccEnd x0 x1).cox,
      host := (eccEnd x0 x1).host,
      net := (eccEnd x0 x1).net } := by
  unfold eccEnd; (try dsimp only); (repeat' split) <;> (((try rw [coreFree_only])); first | done | rfl)
theorem taskEnable_only (x0 : Nat) (x1 : State) : taskEnable x0 x1 = { x1 with cox := (taskEnable x0 x1).cox } := by
  unfold taskEnable; (try dsimp only); (repeat' split) <;> rfl
theorem loadImage_only (x0 : Nat) (x1 : State) : loadImage x0 x1 = { x1 with boat := (loadImage x0 x1).boat } := by
  unfold loadImage; (try dsimp only); (repeat' split) <;> rfl
theorem coreEnable_only (x0 : Nat) (x1 : State) :
    coreEnable x0 x1 = { x1 with
      fresh := (coreEnable x0 x1).fresh,
      fab := (coreEnable x0 x1).fab,
      cox := (coreEnable x0 x1).cox,
      host := (coreEnable x0 x1).host,
      net := (coreEnable x0 x1).net } := by
  unfold coreEnable; (try dsimp only); ((try rw [coreUp_only])); first | done | rfl
theorem coreDisable_only (x0 : Nat) (x1 : State) :
    coreDisable x0 x1 = { x1 with
      fresh := (coreDisable x0 x1).fresh,
      fab := (coreDisable x0 x1).fab,
      cox := (coreDisable x0 x1).cox,
      host := (coreDisable x0 x1).host,
      net := (coreDisable x0 x1).net } := by
  unfold coreDisable; (try dsimp only); (repeat' split) <;> (((try rw [coreDown_only])); first | done | rfl)
theorem haltRelease_only (x0 : Nat) (x1 : State) :
    haltRelease x0 x1 = { x1 with
      fresh := (haltRelease x0 x1).fresh,
      fab := (haltRelease x0 x1).fab,
      cox := (haltRelease x0 x1).cox,
      host := (haltRelease x0 x1).host,
      net := (haltRelease x0 x1).net } := by
  unfold haltRelease; (try dsimp only); (repeat' split) <;> (((try rw [coreUp_only])); first | done | rfl)
theorem bistFail_only (x0 : Bool) (x1 : Nat) (x2 : State) :
    bistFail x0 x1 x2 = { x2 with
      fresh := (bistFail x0 x1 x2).fresh,
      fab := (bistFail x0 x1 x2).fab,
      ump := (bistFail x0 x1 x2).ump,
      host := (bistFail x0 x1 x2).host,
      net := (bistFail x0 x1 x2).net,
      hook := (bistFail x0 x1 x2).hook } := by
  unfold bistFail; (try dsimp only); (repeat' split) <;> rfl
theorem corePend_only (x0 : Nat) (x1 : State) :
    corePend x0 x1 = { x1 with
      fresh := (corePend x0 x1).fresh,
      fab := (corePend x0 x1).fab,
      cox := (corePend x0 x1).cox,
      bist := (corePend x0 x1).bist,
      host := (corePend x0 x1).host,
      net := (corePend x0 x1).net } := by
  unfold corePend; (try dsimp only); ((try rw [coreDown_only])); first | done | rfl
theorem coreSliceAbort_only (x0 : Nat) (x1 : State) :
    coreSliceAbort x0 x1 = { x1 with
      fresh := (coreSliceAbort x0 x1).fresh,
      fab := (coreSliceAbort x0 x1).fab,
      cox := (coreSliceAbort x0 x1).cox,
      ump := (coreSliceAbort x0 x1).ump,
      bist := (coreSliceAbort x0 x1).bist,
      host := (coreSliceAbort x0 x1).host,
      net := (coreSliceAbort x0 x1).net,
      hook := (coreSliceAbort x0 x1).hook } := by
  unfold coreSliceAbort; (try dsimp only); (repeat' split) <;> (((try rw [coreUp_only]); (try rw [abortSlice_only]); (try rw [dropSlice_only])); first | done | rfl)
theorem bootNext_only (x0 : Nat) (x1 : Bool) (x2 : State) : bootNext x0 x1 x2 = { x2 with bist := (bootNext x0 x1 x2).bist } := by
  unfold bootNext; (try dsimp only); (repeat' split) <;> rfl
theorem ringAlarm_only (x0 x1 x2 : Nat) (x3 : State) :
    ringAlarm x0 x1 x2 x3 = { x3 with
      fresh := (ringAlarm x0 x1 x2 x3).fresh,
      fab := (ringAlarm x0 x1 x2 x3).fab,
      ump := (ringAlarm x0 x1 x2 x3).ump,
      host := (ringAlarm x0 x1 x2 x3).host,
      net := (ringAlarm x0 x1 x2 x3).net,
      hook := (ringAlarm x0 x1 x2 x3).hook } := by
  unfold ringAlarm; (try dsimp only); ((try rw [emitFrom_only])); first | done | rfl
theorem ringBreak_only (x0 : Nat) (x1 : State) :
    ringBreak x0 x1 = { x1 with
      fresh := (ringBreak x0 x1).fresh,
      fab := (ringBreak x0 x1).fab,
      ring := (ringBreak x0 x1).ring,
      ump := (ringBreak x0 x1).ump,
      host := (ringBreak x0 x1).host,
      net := (ringBreak x0 x1).net,
      hook := (ringBreak x0 x1).hook } := by
  unfold ringBreak; (try dsimp only); ((try rw [ringAlarm_only])); first | done | rfl
theorem ringClosed_only (x0 : Nat) (x1 : State) :
    ringClosed x0 x1 = { x1 with
      fresh := (ringClosed x0 x1).fresh,
      fab := (ringClosed x0 x1).fab,
      ring := (ringClosed x0 x1).ring,
      ump := (ringClosed x0 x1).ump,
      host := (ringClosed x0 x1).host,
      net := (ringClosed x0 x1).net,
      hook := (ringClosed x0 x1).hook } := by
  unfold ringClosed; (try dsimp only); ((try rw [ringAlarm_only])); first | done | rfl
theorem ringDown_only (x0 : Nat) (x1 : State) :
    ringDown x0 x1 = { x1 with
      fresh := (ringDown x0 x1).fresh,
      fab := (ringDown x0 x1).fab,
      ring := (ringDown x0 x1).ring,
      ump := (ringDown x0 x1).ump,
      host := (ringDown x0 x1).host,
      net := (ringDown x0 x1).net,
      hook := (ringDown x0 x1).hook } := by
  unfold ringDown; (try dsimp only); ((try rw [ringAlarm_only])); first | done | rfl
theorem validFrame_only (x0 : Nat) (x1 : State) : validFrame x0 x1 = { x1 with ring := (validFrame x0 x1).ring } := rfl
theorem nodeHeard_only (x0 x1 : Nat) (x2 : State) : nodeHeard x0 x1 x2 = { x2 with ring := (nodeHeard x0 x1 x2).ring } := by
  unfold nodeHeard; (try dsimp only); (repeat' split) <;> rfl
theorem reportStore_only (x0 : Nat) (x1 : RingReport) (x2 : State) :
    reportStore x0 x1 x2 = { x2 with fab := (reportStore x0 x1 x2).fab, ring := (reportStore x0 x1 x2).ring } := by
  unfold reportStore; (try dsimp only); (repeat' split) <;> rfl
theorem setSignal_only (x0 : Bool) (x1 : Nat) (x2 : RingReceiver) (x3 : State) :
    setSignal x0 x1 x2 x3 = { x3 with ring := (setSignal x0 x1 x2 x3).ring, node := (setSignal x0 x1 x2 x3).node } := by
  unfold setSignal; (try dsimp only); (repeat' split) <;> rfl
theorem bootUp_only (x0 : State) :
    bootUp x0 = { x0 with
      sys := (bootUp x0).sys,
      fresh := (bootUp x0).fresh,
      fld := (bootUp x0).fld,
      ump := (bootUp x0).ump,
      bist := (bootUp x0).bist,
      otp := (bootUp x0).otp,
      sec := (bootUp x0).sec } := by
  unfold bootUp; (try dsimp only); ((try rw [groupsAtReset_only]); (try rw [fresh_only])); first | done | rfl
theorem cellsLogged_only (x0 : State) :
    cellsLogged x0 = { x0 with host := (cellsLogged x0).host, nvm := (cellsLogged x0).nvm, hook := (cellsLogged x0).hook } := by
  unfold cellsLogged; (try dsimp only); (repeat' split) <;> (((try rw [logEvent_only])); first | done | rfl)
theorem hooksEnd_only (x0 : State) :
    hooksEnd x0 = { x0 with host := (hooksEnd x0).host, nvm := (hooksEnd x0).nvm, hook := (hooksEnd x0).hook } := by
  unfold hooksEnd; (try dsimp only); ((try rw [cellsLogged_only])); first | done | rfl
theorem debugChallenge_only (x0 : State) :
    debugChallenge x0 = { x0 with fresh := (debugChallenge x0).fresh, sec := (debugChallenge x0).sec } := rfl
theorem lcMove_only (x0 : Nat) (x1 : State) :
    lcMove x0 x1 = { x1 with host := (lcMove x0 x1).host, otp := (lcMove x0 x1).otp, nvm := (lcMove x0 x1).nvm } := by
  unfold lcMove; (try dsimp only); ((try rw [logEvent_only])); first | done | rfl
theorem lcField_only (x0 : State) :
    lcField x0 = { x0 with
      sys := (lcField x0).sys,
      fresh := (lcField x0).fresh,
      fab := (lcField x0).fab,
      ump := (lcField x0).ump,
      host := (lcField x0).host,
      otp := (lcField x0).otp,
      nvm := (lcField x0).nvm,
      sec := (lcField x0).sec,
      net := (lcField x0).net,
      hook := (lcField x0).hook } := by
  unfold lcField; (try dsimp only); (repeat' split) <;> (((try rw [secRefuse_only]); (try rw [lcMove_only])); first | done | rfl)
theorem holdDisarm_only (x0 : State) : holdDisarm x0 = { x0 with fld := (holdDisarm x0).fld } := rfl
theorem keyProgram_only (x0 : Word) (x1 : State) :
    keyProgram x0 x1 = { x1 with
      sys := (keyProgram x0 x1).sys,
      fresh := (keyProgram x0 x1).fresh,
      fab := (keyProgram x0 x1).fab,
      ump := (keyProgram x0 x1).ump,
      host := (keyProgram x0 x1).host,
      otp := (keyProgram x0 x1).otp,
      sec := (keyProgram x0 x1).sec,
      net := (keyProgram x0 x1).net,
      hook := (keyProgram x0 x1).hook } := by
  unfold keyProgram; (try dsimp only); (repeat' split) <;> rfl
theorem setAuthReq_only (x0 : State) :
    setAuthReq x0 = { x0 with
      sys := (setAuthReq x0).sys,
      fresh := (setAuthReq x0).fresh,
      fab := (setAuthReq x0).fab,
      ump := (setAuthReq x0).ump,
      host := (setAuthReq x0).host,
      otp := (setAuthReq x0).otp,
      sec := (setAuthReq x0).sec,
      net := (setAuthReq x0).net,
      hook := (setAuthReq x0).hook } := by
  unfold setAuthReq; (try dsimp only); (repeat' split) <;> rfl
theorem requested_only (x0 : Nat) (x1 : State) : requested x0 x1 = { x1 with sys := (requested x0 x1).sys } := rfl
theorem pwrRefuse_only (x0 : State) :
    pwrRefuse x0 = { x0 with
      sys := (pwrRefuse x0).sys,
      fresh := (pwrRefuse x0).fresh,
      fab := (pwrRefuse x0).fab,
      ump := (pwrRefuse x0).ump,
      host := (pwrRefuse x0).host,
      sec := (pwrRefuse x0).sec,
      net := (pwrRefuse x0).net,
      hook := (pwrRefuse x0).hook } := rfl
theorem pwrHold_only (x0 : State) :
    pwrHold x0 = { x0 with
      sys := (pwrHold x0).sys,
      fresh := (pwrHold x0).fresh,
      fab := (pwrHold x0).fab,
      seat := (pwrHold x0).seat,
      fld := (pwrHold x0).fld,
      ump := (pwrHold x0).ump,
      host := (pwrHold x0).host,
      sec := (pwrHold x0).sec,
      net := (pwrHold x0).net,
      hook := (pwrHold x0).hook } := by
  unfold pwrHold; (try dsimp only); (repeat' split) <;> rfl
theorem passBegin_only (x0 : Nat) (x1 : List Nat) (x2 : State) :
    passBegin x0 x1 x2 = { x2 with nvm := (passBegin x0 x1 x2).nvm } := rfl
theorem noBank_only (x0 : State) :
    noBank x0 = { x0 with
      fresh := (noBank x0).fresh,
      fab := (noBank x0).fab,
      ump := (noBank x0).ump,
      host := (noBank x0).host,
      net := (noBank x0).net,
      hook := (noBank x0).hook } := rfl
theorem writeEnd_only (x0 : ImgWrite) (x1 : State) :
    writeEnd x0 x1 = { x1 with
      fresh := (writeEnd x0 x1).fresh,
      host := (writeEnd x0 x1).host,
      nvm := (writeEnd x0 x1).nvm,
      net := (writeEnd x0 x1).net } := by
  unfold writeEnd; (try dsimp only); ((try rw [pushEvent_only])); first | done | rfl
theorem writeFail_only (x0 : Nat) (x1 : State) :
    writeFail x0 x1 = { x1 with
      fresh := (writeFail x0 x1).fresh,
      host := (writeFail x0 x1).host,
      nvm := (writeFail x0 x1).nvm,
      net := (writeFail x0 x1).net } := by
  unfold writeFail; (try dsimp only); (repeat' split) <;> (((try rw [writeEnd_only])); first | done | rfl)
theorem writeBegin_only (x0 : Bool) (x1 : Option Nat) (x2 : State) :
    writeBegin x0 x1 x2 = { x2 with nvm := (writeBegin x0 x1 x2).nvm } := rfl
theorem cfgOpen_only (x0 : State) : cfgOpen x0 = { x0 with sys := (cfgOpen x0).sys, nvm := (cfgOpen x0).nvm } := by
  unfold cfgOpen; (try dsimp only); (repeat' split) <;> rfl
theorem cfgCommit_only (x0 : Port) (x1 : State) :
    cfgCommit x0 x1 = { x1 with
      sys := (cfgCommit x0 x1).sys,
      fresh := (cfgCommit x0 x1).fresh,
      fab := (cfgCommit x0 x1).fab,
      ump := (cfgCommit x0 x1).ump,
      host := (cfgCommit x0 x1).host,
      nvm := (cfgCommit x0 x1).nvm,
      sec := (cfgCommit x0 x1).sec,
      net := (cfgCommit x0 x1).net,
      hook := (cfgCommit x0 x1).hook } := by
  unfold cfgCommit; (try dsimp only); (repeat' split) <;> rfl
theorem cfgCancel_only (x0 : State) :
    cfgCancel x0 = { x0 with
      fresh := (cfgCancel x0).fresh,
      host := (cfgCancel x0).host,
      nvm := (cfgCancel x0).nvm,
      net := (cfgCancel x0).net } := by
  unfold cfgCancel; (try dsimp only); (repeat' split) <;> (((try rw [writeFail_only])); first | done | rfl)
theorem logAckWrite_only (x0 : Word) (x1 : State) :
    logAckWrite x0 x1 = { x1 with sys := (logAckWrite x0 x1).sys, nvm := (logAckWrite x0 x1).nvm } := by
  unfold logAckWrite; (try dsimp only); (repeat' split) <;> rfl
theorem vsysSeen_only (x0 : Nat) (x1 : State) : vsysSeen x0 x1 = { x1 with sys := (vsysSeen x0 x1).sys } := rfl
theorem powerUp_only (x0 : State) :
    powerUp x0 = { x0 with
      sys := (powerUp x0).sys,
      fresh := (powerUp x0).fresh,
      fld := (powerUp x0).fld,
      ump := (powerUp x0).ump,
      bist := (powerUp x0).bist,
      otp := (powerUp x0).otp,
      sec := (powerUp x0).sec } := by
  unfold powerUp; (try dsimp only); (repeat' split) <;> (((try rw [bootUp_only])); first | done | rfl)
theorem vsysGood_only (x0 : State) :
    vsysGood x0 = { x0 with
      sys := (vsysGood x0).sys,
      fresh := (vsysGood x0).fresh,
      fld := (vsysGood x0).fld,
      ump := (vsysGood x0).ump,
      bist := (vsysGood x0).bist,
      otp := (vsysGood x0).otp,
      sec := (vsysGood x0).sec } := by
  unfold vsysGood; (try dsimp only); (repeat' split) <;> (((try rw [powerUp_only]); (try rw [vsysSeen_only]); (try rw [fresh_only])); first | done | rfl)
theorem newMap_only (x0 : Nat) (x1 : Int) (x2 : State) : newMap x0 x1 x2 = { x2 with time := (newMap x0 x1 x2).time } := rfl
theorem setLocked_only (x0 : Bool) (x1 : State) :
    setLocked x0 x1 = { x1 with host := (setLocked x0 x1).host, net := (setLocked x0 x1).net } := by
  unfold setLocked; (try dsimp only); (repeat' split) <;> rfl
theorem bankWait_only (x0 : State) : (bankWait x0).2 = { x0 with fresh := (bankWait x0).2.fresh } := rfl
theorem valueAt_only (x0 : Port) (x1 : Nat) (x2 : State) :
    (valueAt x0 x1 x2).2 = { x2 with
      fresh := (valueAt x0 x1 x2).2.fresh,
      fab := (valueAt x0 x1 x2).2.fab,
      cox := (valueAt x0 x1 x2).2.cox,
      host := (valueAt x0 x1 x2).2.host,
      net := (valueAt x0 x1 x2).2.net,
      boat := (valueAt x0 x1 x2).2.boat } := by
  unfold valueAt; (try dsimp only); (repeat' split) <;> (((try rw [fresh_only]); (try rw [bankWait_only]); (try rw [accessBank_only]); (try rw [pmuSeen_only])); first | done | rfl)

/-! ## Reports -/

/-- A report reaches beyond the Umpire only by its alarm frame: the fabric, a hook, the event queue with its NOTIFYs. -/
@[simp] theorem report_frame (line code detail : Nat) (s : State) :
    (report line code detail s).sys = s.sys ∧ (report line code detail s).now = s.now ∧
    (report line code detail s).t0 = s.t0 ∧ (report line code detail s).seat = s.seat ∧
    (report line code detail s).lane = s.lane ∧ (report line code detail s).fld = s.fld ∧
    (report line code detail s).afe = s.afe ∧ (report line code detail s).tach = s.tach ∧
    (report line code detail s).ring = s.ring ∧ (report line code detail s).node = s.node ∧
    (report line code detail s).cox = s.cox ∧ (report line code detail s).bist = s.bist ∧
    (report line code detail s).time = s.time ∧ (report line code detail s).otp = s.otp ∧
    (report line code detail s).nvm = s.nvm ∧ (report line code detail s).sec = s.sec ∧
    (report line code detail s).boat = s.boat ∧ (report line code detail s).alarm = s.alarm ∧
    (report line code detail s).crc = s.crc ∧ (report line code detail s).pending = s.pending := by
  rw [report_only]; simp

@[simp] theorem laneReport_frame (l : Lane) (code detail : Nat) (s : State) :
    (laneReport l code detail s).sys = s.sys ∧ (laneReport l code detail s).now = s.now ∧
    (laneReport l code detail s).t0 = s.t0 ∧ (laneReport l code detail s).seat = s.seat ∧
    (laneReport l code detail s).lane = s.lane ∧ (laneReport l code detail s).fld = s.fld ∧
    (laneReport l code detail s).afe = s.afe ∧ (laneReport l code detail s).tach = s.tach ∧
    (laneReport l code detail s).ring = s.ring ∧ (laneReport l code detail s).node = s.node ∧
    (laneReport l code detail s).cox = s.cox ∧ (laneReport l code detail s).bist = s.bist ∧
    (laneReport l code detail s).time = s.time ∧ (laneReport l code detail s).otp = s.otp ∧
    (laneReport l code detail s).nvm = s.nvm ∧ (laneReport l code detail s).sec = s.sec ∧
    (laneReport l code detail s).boat = s.boat ∧ (laneReport l code detail s).alarm = s.alarm ∧
    (laneReport l code detail s).crc = s.crc ∧ (laneReport l code detail s).pending = s.pending := by
  rw [laneReport_only]; simp

/-- A report on a line of a CM block that sends no alarm frame is at the Umpire's line at once. -/
theorem report_direct {line : Nat} (h : lineSrc line = none) (code detail : Nat) (s : State) : report line code detail s =
    { s with ump := { s.ump with reports := s.ump.reports ++ [{ line := line, code := code, detail := detail, time := s.timeNow }] } } := by
  simp [report, emit, emitFrom, h, atUmpire]

/-- A report that no hook holds is at the Umpire's line; a held one waits in its hook (R307, R469). -/
theorem report_arrives {line src : Nat} (h : lineSrc line = some src) (code detail : Nat) (s : State)
    (hu : routeHook (sendFrame src 4 (alarmWords { line := line, code := code, detail := detail, time := s.timeNow }) s) src 4 = none) :
    (report line code detail s).ump.reports =
      s.ump.reports ++ [{ line := line, code := code, detail := detail, time := s.timeNow }] := by
  unfold report emit emitFrom
  rw [h]
  dsimp only
  rw [hu]
  dsimp only
  split
  · unfold alarmEvent; rw [pushEvent_only]; rfl
  · rfl

/-! ## The log -/

theorem flashRead_mem {n m : Nvm} (h : n.mem = m.mem) (a k : Nat) : flashRead n a k = flashRead m a k := by
  unfold flashRead flashAt; rw [h]

theorem flashAt_programmed (n : Nvm) (a : Nat) (bs : List Byte) (x : Nat) (h : x < a) : flashAt (flashProgram n a bs) x = flashAt n x := by
  induction bs generalizing n a with
  | nil => rfl
  | cons b bs ih =>
    rw [flashProgram, ih _ _ (by omega)]
    exact look_put_other _ _ _ _ _ (by omega)

/-- Bytes programmed into a blank part of the flash read back. -/
theorem flashRead_programmed (n : Nvm) (a : Nat) (bs : List Byte) (hw : wf (0xFF : Byte) n.mem = true)
    (hb : ∀ i, i < bs.length → flashAt n (a + i) = 0xFF) : flashRead (flashProgram n a bs) a bs.length = bs := by
  induction bs generalizing n a with
  | nil => rfl
  | cons b bs ih =>
    have h0 := hb 0 (by simp)
    have hs : ∀ i, i < bs.length → flashAt { n with mem := put 0xFF n.mem a (flashAt n a &&& b) } (a + 1 + i) = 0xFF := by
      intro i hi
      have := hb (i + 1) (by simpa using hi)
      rw [show a + (i + 1) = a + 1 + i by omega] at this
      exact (look_put_other (0xFF : Byte) n.mem a (a + 1 + i) _ (by omega)).trans this
    have hr := ih { n with mem := put 0xFF n.mem a (flashAt n a &&& b) } (a + 1) (wf_put _ _ _ _ hw) hs
    have hf : flashAt (flashProgram { n with mem := put 0xFF n.mem a (flashAt n a &&& b) } (a + 1) bs) a = b := by
      rw [flashAt_programmed _ _ _ _ (by omega)]
      show look _ (put _ _ _ _) _ = _
      rw [look_put_same _ _ _ _ hw, show flashAt n a = 0xFF by simpa using h0]
      show (255#8) &&& b = b
      exact BitVec.allOnes_and
    rw [flashProgram]
    unfold flashRead at hr ⊢
    rw [List.length_cons, List.range_succ_eq_map, List.map_cons, List.map_map]
    refine congrArg₂ _ (by simpa using hf) ?_
    conv => rhs; rw [← hr]
    apply List.map_congr_left
    intro i _
    simp only [Function.comp, Nat.succ_eq_add_one]
    rw [show a + (i + 1) = a + 1 + i by omega]

theorem logTurn_mem (n : Nvm) : (logTurn n).mem = n.mem := by
  unfold logTurn
  split
  · unfold logReclaim
    split <;> rfl
  · rfl

theorem entryBytes_length (actor kind param : Nat) (old new : List Word) (target : Nat) (s : State) :
    (entryBytes actor kind param old new target s).length = 64 := by
  have h4 : ∀ ws : List Word, (four ws).length = 4 := fun ws => by simp [four]
  have hf : ∀ ws : List Word, (ws.flatMap (fun w => leBytes w.toNat 4)).length = 4 * ws.length := by
    intro ws
    induction ws with
    | nil => rfl
    | cons w ws ih => simp only [List.flatMap_cons, List.length_append, ih, List.length_cons]; simp [leBytes]; omega
  unfold entryBytes
  dsimp only
  rw [hf]
  simp [entryWords, h4]

/-- An entry programmed in a blank slot reads back, and the change follows (R360). -/
theorem logThen_blank {s : State} (h : NextSlotBlank s.nvm) (actor kind param : Nat) (old new : List Word) (target : Nat)
    (refusal apply : State → State) :
    logThen actor kind param old new target refusal apply s = apply (logAppend actor kind param old new target s) := by
  have hl := entryBytes_length actor kind param old new target s
  have hm : (logAppend actor kind param old new target s).nvm.mem =
      (flashProgram (logTurn s.nvm) (nextSlot s.nvm) (entryBytes actor kind param old new target s)).mem := by
    unfold logAppend; dsimp only
  have hr := flashRead_programmed (logTurn s.nvm) (nextSlot s.nvm) (entryBytes actor kind param old new target s)
    (by rw [logTurn_mem]; exact h.1) (fun i hi => by
      have h2 := h.2 i (by omega)
      unfold flashAt at h2 ⊢
      rw [logTurn_mem]; exact h2)
  unfold logThen
  dsimp only
  rw [if_pos]
  rw [← flashRead_mem hm] at hr
  exact hr

/-! ## The gates -/

/-- Every meaning that passes the gate answers a next state. -/
theorem run_next (s : State) (f : State → State) : ∃ t, run s f = .next t := ⟨_, rfl⟩

/-- A password-class request that is admitted takes its effect on the state in which its log entry stands (R360, R372). -/
theorem gate_admitted {s : State} {p : Port} {right : Nat} (h : Admitted s p right) (kind addr : Nat) (old new : List Word)
    (apply : State → State) :
    gate p right true kind addr old new apply s =
      apply (logAppend (slotOf s p) kind addr old new (if kind = 1 then (inForceSeq s + 1) % 4294967296 else 0) (touchSession p s)) := by
  obtain ⟨h1, h2, h3, h4, h5, h6⟩ := h
  unfold gate
  dsimp only
  rw [if_neg (by simp [h1]), if_neg (by simp [h2, h3]), if_neg (by simp [h4]), if_neg (by simp [h5])]
  exact logThen_blank (s := touchSession p s) h6 _ _ _ _ _ _ _ _

/-- Without the right, or with a value out of range, it is refused and the session renewed (R370, R372). -/
theorem gate_refused {s : State} {p : Port} {right : Nat} {ok : Bool} (h : hasRight s p right = false ∨ ok = false) (kind addr : Nat)
    (old new : List Word) (apply : State → State) :
    gate p right ok kind addr old new apply s = pwRefused p addr s := by
  rcases h with h | h <;> simp [gate, h, pwRefused]

/-- An item that meets no hook has its effect at once (R469). -/
theorem hooked_unmet {s : State} {on : Word → Bool} (h : hookMet s on = none) (item : Instr) (go : State → State) :
    hooked on item go s = go s := by simp [hooked, h]

/-- A frame that meets no hook on its route goes on at once (R469). -/
theorem hookedFrame_unmet {s : State} {src cls : Nat} (h : Unhooked s src cls) (wait : Nat) (item : Instr) (go : State → State) :
    hookedFrame src cls wait item go s = go s := by
  unfold Unhooked at h; simp [hookedFrame, h]

/-- The expiry of a block that lane `l` evaluates: the block's state and outputs change as the library says, and every fault
entered is reported (R84, R85). -/
theorem blockEvent_eval {s : State} {l : Lane} {blk : Nat} {b : Block} {st : BlockState}
    {f : Ctx → Block → BlockState → Option (BlockState × (List Val → List Val))} {r : BlockState × (List Val → List Val)}
    (h : Evaluating s l blk b st) (hf : f (evCtx s l) b st = some r) :
    run s (blockEvent l blk f) = .next ((entered (blockHeld st) (blockHeld r.1)).foldl (fun t c => laneReport l c blk t)
      (blockAfter l blk r.1 r.2 s)) := by
  obtain ⟨hu, hi, hb, hfa, he⟩ := h
  subst hb
  simp only [Option.bind_eq_some_iff] at hi
  obtain ⟨img, hi, hg⟩ := hi
  simp only [evCtx, hi, Option.getD_some] at hf
  simp [run, hu, blockEvent, hi, hg, he, hfa, hf, blockAfter]

/-- An expiry that is not due changes nothing. -/
theorem blockEvent_none {s : State} {l : Lane} {blk : Nat} {b : Block} {st : BlockState}
    {f : Ctx → Block → BlockState → Option (BlockState × (List Val → List Val))}
    (h : Evaluating s l blk b st) (hf : f (evCtx s l) b st = none) : run s (blockEvent l blk f) = .next s := by
  obtain ⟨hu, hi, hb, hfa, he⟩ := h
  subst hb
  simp only [Option.bind_eq_some_iff] at hi
  obtain ⟨img, hi, hg⟩ := hi
  simp only [evCtx, hi, Option.getD_some] at hf
  simp [run, hu, blockEvent, hi, hg, he, hfa, hf]

/-- The cycle of an event is the present one. -/
@[simp] theorem evCtx_cycle (s : State) (l : Lane) : (evCtx s l).cycle = s.seat.cycle := rfl

/-- The faults that `entered` names (R84). -/
theorem entered_self (h : List Held) : entered h h = [] := by
  have e : h.foldl List.erase h = [] := by
    induction h with
    | nil => rfl
    | cons a h ih => rw [List.foldl_cons, List.erase_cons_head, ih]
  simp [entered, e]

theorem raise_unheld {code cycle : Nat} {h : List Held} (hu : ∀ x ∈ h, x.code ≠ code) : raise true code cycle h = h ++ [⟨code, cycle⟩] := by
  have e : holds code h = false := by simpa [holds] using hu
  simp [raise, e]

end Sys2Proof.Machine
end

