-- ==== Sys2Proof/Laws/Memory.lean ====
section
/-!
SUPPORT. The waveform memory (R252) and the flash (R340) keep their canonical form: keys rising, no entry equal to what an
unlisted address reads as. Every operation that writes one of them is built from the operations below.
-/
namespace Sys2Proof.Machine

open Sys2Proof

theorem wfFrom_lower {α : Type} [DecidableEq α] (d : α) (m : Tab α) (k : Nat) (lo : Option Nat) (h : ∀ n, lo = some n → n < k)
    (hm : wfFrom d (some k) m = true) : wfFrom d lo m = true := by
  cases m with
  | nil => rfl
  | cons e m =>
    obtain ⟨k', v⟩ := e
    simp only [wfFrom, Bool.and_eq_true, decide_eq_true_eq] at hm ⊢
    refine ⟨⟨?_, hm.1.2⟩, hm.2⟩
    cases lo with
    | none => rfl
    | some n => have := h n rfl; have := hm.1.1; simp; omega

theorem wfFrom_filter {α : Type} [DecidableEq α] (d : α) (p : Nat × α → Bool) (m : Tab α) (lo : Option Nat)
    (h : wfFrom d lo m = true) : wfFrom d lo (m.filter p) = true := by
  induction m generalizing lo with
  | nil => rfl
  | cons e m ih =>
    obtain ⟨k, v⟩ := e
    simp only [wfFrom, Bool.and_eq_true] at h
    by_cases hp : p (k, v) = true
    · rw [List.filter_cons_of_pos hp]
      simp only [wfFrom, Bool.and_eq_true]
      exact ⟨h.1, ih _ h.2⟩
    · rw [List.filter_cons_of_neg hp]
      refine wfFrom_lower d _ k lo ?_ (ih _ h.2)
      intro n hn; subst hn; simpa using h.1.1

theorem wf_filter {α : Type} [DecidableEq α] (d : α) (p : Nat × α → Bool) (m : Tab α) (h : wf d m = true) :
    wf d (m.filter p) = true := wfFrom_filter d p m none h

/-! ## The waveform memory -/

theorem wf_memBytes (a : Nat) (bs : List Byte) (m : Tab Byte) (h : wf 0 m = true) : wf 0 (memBytes a bs m) = true := by
  induction bs generalizing a m with
  | nil => exact h
  | cons b bs ih => exact ih _ _ (wf_put _ _ _ _ h)

theorem wf_memPut (a : Nat) (w : Word) (s : State) (h : wf 0 s.boat.mem = true) : wf 0 (memPut a w s).boat.mem = true :=
  wf_memBytes _ _ _ h

theorem wf_memPuts (a : Nat) (ws : List Word) (s : State) (h : wf 0 s.boat.mem = true) : wf 0 (memPuts a ws s).boat.mem = true :=
  wf_memBytes _ _ _ h

theorem wf_memZero (p : Nat) (s : State) (h : wf 0 s.boat.mem = true) : wf 0 (memZero p s).boat.mem = true := wf_filter _ _ _ h

/-! ## The flash -/

theorem wf_flashErase (n : Nvm) (a len : Nat) (h : wf 0xFF n.mem = true) : wf 0xFF (flashErase n a len).mem = true :=
  wf_filter _ _ _ h

theorem wf_flashProgram (n : Nvm) (a : Nat) (bs : List Byte) (h : wf 0xFF n.mem = true) :
    wf 0xFF (flashProgram n a bs).mem = true := by
  induction bs generalizing a n with
  | nil => exact h
  | cons b bs ih => exact ih _ _ (wf_put _ _ _ _ h)

theorem wf_areaStart (area gen first : Nat) (n : Nvm) (h : wf 0xFF n.mem = true) : wf 0xFF (areaStart area gen first n).mem = true :=
  wf_flashProgram _ _ _ (wf_flashErase _ _ _ h)

theorem wf_logAppend (actor kind param : Nat) (old new : List Word) (target : Nat) (s : State) (h : wf 0xFF s.nvm.mem = true) :
    wf 0xFF (logAppend actor kind param old new target s).nvm.mem = true := by
  have h1 : wf 0xFF (logTurn s.nvm).mem = true := by rw [logTurn_mem]; exact h
  unfold logAppend
  exact wf_flashProgram (logTurn s.nvm) _ _ h1

/-- The flash that a reset interrupts. -/
theorem wf_tornFlash (cut : Nat) (n : Nvm) (h : wf 0xFF n.mem = true) : wf 0xFF (tornFlash cut n).mem = true := by
  have h1 : wf 0xFF (if n.wr.step = 5 then flashProgram n (bankBase n n.wr.target) (n.wr.header.take (cut % 257)) else n).mem = true := by
    split
    · exact wf_flashProgram _ _ _ h
    · exact h
  unfold tornFlash
  dsimp only
  split
  · exact wf_flashErase _ _ _ h1
  · exact h1

/-- A device fitted since the last boot is read into the canonical form. -/
theorem wf_flashFound (f : FlashFacts) (n : Nvm) (h : wf 0xFF n.mem = true) : wf 0xFF (flashFound f n).mem = true := by
  unfold flashFound
  cases f.fitted with
  | none => exact h
  | some m =>
    show wf 0xFF (m.foldl (fun t e => put 0xFF t e.1 e.2) []) = true
    suffices H : ∀ t : Tab Byte, wf 0xFF t = true → wf 0xFF (m.foldl (fun t e => put 0xFF t e.1 e.2) t) = true from H [] rfl
    induction m with
    | nil => exact fun _ ht => ht
    | cons e m ih => exact fun t ht => ih _ (wf_put _ _ _ _ ht)

end Sys2Proof.Machine
end

