-- ==== Sys2Proof/Machine/Flags.lean ====
section
/-!
DEFINITION. What the module shows at its pins, computed from the state: the safe outputs and configurable pins, the
forced-off lines, ALIVE, IRQ_N and PPS_OUT. The block has no processor flags.
-/
namespace Sys2Proof.Machine

open Sys2Proof

/-- Both switches of SOk conduct: commanded on, and not in an off-pulse (R148, R152). -/
def soConducts (s : State) (k : Nat) : Bool := s.sys.up && switchA s k && switchB s k

/-- What the module drives on TPk (R105): none while it is not driven. -/
def tpPin (s : State) (k : Nat) : Option Bool := if s.sys.up then tpOutput s k else none

/-- The level the module drives on CIOn (R167). -/
def cioDriven (s : State) (n : Nat) : Bool := s.sys.up && pinDriven s n

/-- The forced-off line of a group is asserted (R15, R315, R316). -/
def lineForced (s : State) (g : Group) : Bool := s.linesLow.getLsbD (groupNo g)

/-- The level of ALIVE (R318). -/
def alivePin (s : State) : Bool := s.sys.up && s.fld.alive

/-- The level of PPS_OUT: high for 100 ms from the whole second (R392). -/
def ppsOut (s : State) : Bool :=
  s.sys.up && s.net.pps && ppsRuns s && decide (s.timeNow / secTicks = s.net.ppsAt) && decide (s.timeNow % secTicks < 10000000)

/-- IRQ_N is driven low (R409). -/
def irqLow (s : State) : Bool := s.sys.up && s.nvm.armed && decide (s.host.irqStat &&& s.host.irqEn ≠ 0)

end Sys2Proof.Machine
end

