-- ==== Sys2Proof/WellFormed.lean ====
section
/-!
DEFINITION. Well-formed commands: every operand lies in the range the manual gives it. A command from outside is always
well formed; the meanings answer for the others too, and no statement needs them.
-/
namespace Sys2Proof

/-! ## Ranges -/

def okBlk (n : Nat) : Bool := decide (n < 4096)        -- R73
def okSi (n : Nat) : Bool := decide (n < 64)           -- R99
def okTp (n : Nat) : Bool := decide (n < 16)           -- R105
def okSo (n : Nat) : Bool := decide (n < 12)           -- R148
def okCio (n : Nat) : Bool := decide (n < 24)          -- R167
def okAin (n : Nat) : Bool := decide (n < 32)          -- R175
def okTach (n : Nat) : Bool := decide (n < 8)          -- R190
def okRing (n : Nat) : Bool := decide (n < 4)          -- R200
def okNode (n : Nat) : Bool := decide (n < 511)        -- R211
def okTask (n : Nat) : Bool := decide (n < 512)        -- R229
def okDsp (n : Nat) : Bool := decide (n < 8)           -- R221
def okSrc (n : Nat) : Bool := decide (n < 4096)        -- R23
def okCls (n : Nat) : Bool := decide (n < 16)          -- R23
def okPage (n : Nat) : Bool := decide (n < 4096)       -- R253
def okCtx (n : Nat) : Bool := decide (n < 16)          -- R293
def okHost32 (n : Nat) : Bool := decide (n < 4294967296)   -- R10
def okUnit (n : Nat) : Bool := decide (1 ≤ n ∧ n ≤ 5) || decide (8 ≤ n ∧ n ≤ 15)   -- R323
def okSlot (n : Nat) : Bool := decide (n < 8)          -- R369
def okConn (n : Nat) : Bool := decide (n < 64)         -- R393
def okEth (n : Nat) : Bool := decide (n < 2)           -- R384
def okMac (n : Nat) : Bool := decide (n < 281474976710656)

/-- A report carries up to eleven values (R210). -/
def okReport (r : RingReport) : Bool := okNode r.addr && decide (r.seq < 256) && decide (r.values.length ≤ 11)

def okCopy (c : CopyReq) : Bool :=
  decide (c.pageOff + c.bytes ≤ 4096) && decide (c.bytes % 4 = 0) && (!c.toPage || decide (c.data.length = c.bytes))

def okFlash (f : FlashFacts) : Bool := decide (f.jedec < 16777216)

def okChange : CmChange → Bool
  | .alarm n ws => okPage n && decide (ws.length = 8)
  | .feature _ _ => true
  | .interval r _ _ => okRing r

def wellFormed : Instr → Bool
  | .safetyCycleBoundary => true
  | .laneInputImage _ a => a.tachLost.all okTach && a.decimLost.all okAin
  | .tonExpiry _ b => okBlk b
  | .tofExpiry _ b => okBlk b
  | .tpPulseExpiry _ b => okBlk b
  | .discTimeout _ b => okBlk b
  | .muteTimeout _ b => okBlk b
  | .muteLamp _ b => okBlk b
  | .lockFb _ b => okBlk b
  | .standstillReached _ b => okBlk b
  | .tachMissing _ b => okBlk b
  | .speedDisc _ b => okBlk b
  | .edmTimeout _ b => okBlk b
  | .resetOpenHistory _ b => okBlk b
  | .resetStuck _ b => okBlk b
  | .vibSegmentEnd _ b => okBlk b
  | .vibDisc _ b => okBlk b
  | .evaluationOverrun _ => true
  | .lockstepMismatch _ => true
  | .laneUncorrectableEcc _ => true
  | .laneConfigPassComplete _ _ => true
  | .seatVoteFrame _ _ _ => true
  | .voteDeadline => true
  | .rotationInstant => true
  | .scullTimeout => true
  | .twoOarLimit => true
  | .failureWindowExpiry _ => true
  | .spareAbortCommand _ => true
  | .spareAbortComplete _ => true
  | .stateCopyFrame _ _ _ => true
  | .catchUpEvaluationEnd _ => true
  | .segmentRecheckComplete _ _ => true
  | .lastResetFrame e src who => decide (e < 16) && okSrc src && okSrc who
  | .fabricFrameReceive p _ _ => decide (p < 32)
  | .linkFail l => decide (l < 10)
  | .creditTimeoutDiscard p => decide (p < 32)
  | .inputFilterChange n => okSi n
  | .lorOpenHistory => true
  | .testPulseBegin k => okTp k
  | .testPulseWindowEnd k => okTp k
  | .tpOverload k => okTp k
  | .vfldLowWarning _ => true
  | .vfldSag _ => true
  | .vfldMissing _ => true
  | .vfldRecovery _ => true
  | .outputPulseBegin k => okSo k
  | .outputPulseEnd k => okSo k
  | .outShortVfld k => okSo k
  | .outStuckOff k => okSo k
  | .outOverload k => okSo k
  | .outOpenLoad k => okSo k
  | .outDiagClear k => okSo k
  | .grpOvercurrent _ => true
  | .grpOvertemp _ => true
  | .groupShutdownComplete _ => true
  | .outputWatchdogTrip => true
  | .outputWatchdogRelease => true
  | .cioCommandFrame src _ _ => okSrc src
  | .cioHeartbeatFrame src => okSrc src
  | .cioSilent n => okCio n
  | .cioOverload n => okCio n
  | .cioShortVfld n => okCio n
  | .cioCmdValueWrite _ _ => true
  | .cioHeartbeatWrite _ _ => true
  | .afeFullRateFrame ch _ xs => okAin ch && decide (xs.length = 16)
  | .afeDecimatedSample ch _ _ => okAin ch
  | .ainOpen ch => okAin ch
  | .ainShort ch => okAin ch
  | .ainSettlingComplete ch => okAin ch
  | .afeCalRequest _ ch => okAin ch
  | .afeCalComplete ch _ => okAin ch
  | .afeChannelEnable _ ch => okAin ch
  | .afeChannelDisable _ ch => okAin ch
  | .afeShutdownComplete ch => okAin ch
  | .tachCountedEdge t _ => okTach t
  | .tachCmpWrite _ t k _ => okTach t && decide (k < 2)
  | .tachStepWrite _ t k _ => okTach t && decide (k < 2)
  | .tachEnable _ t => okTach t
  | .tachDisable _ t => okTach t
  | .ringSuperframeStart r _ => okRing r
  | .ringFrameReceive r _ => okRing r
  | .ringReportReceive r rep => okRing r && okReport rep
  | .ringReplyReceive r a q _ => okRing r && okNode a && decide (q.seq < 256)
  | .ringAnnounceReceive r _ => okRing r
  | .ringBurstFrameReceive r a q _ => okRing r && okNode a && decide (q.seq < 256)
  | .ringSlotFail r a => okRing r && okNode a
  | .nodeBeacon _ b => decide (b.seq < 256) && decide (b.sf < 4294967296) && decide (b.ring < 4)
  | .nodeDiscover r _ => okRing r
  | .nodeAssign _ _ a _ _ => okNode a
  | .nodeIdent _ => true
  | .nodeBurst _ rate count => decide (rate < 8) && decide (1 ≤ count ∧ count ≤ 65536)
  | .nodeBurstAbort _ => true
  | .nodePark _ _ => true
  | .nodeRelease _ => true
  | .nodeReportWindow _ r => decide (r.values.length ≤ 11)
  | .nodeBeaconLoss _ => true
  | .lossOfSignal r _ => okRing r
  | .ringBreak r => okRing r
  | .ringClosed r => okRing r
  | .ringDown r => okRing r
  | .nodeLost r a => okRing r && okNode a
  | .nodeStale r a => okRing r && okNode a
  | .ringBurstRequest r b => okRing r && okNode b.addr && okSrc b.src && decide (b.rate < 8) && decide (b.countM1 < 65536)
  | .ringBurstCmdWrite _ r _ => okRing r
  | .ringEnable _ r => okRing r
  | .ringDisable _ r => okRing r
  | .ringShutdownComplete r => okRing r
  | .periodicRelease t => okTask t
  | .taskTrigger t f => okTask t && okSrc f.src && okCls f.cls
  | .coxDispatch => true
  | .done c => okDsp c
  | .yield c => okDsp c
  | .send c cls _ _ => okDsp c && okCls cls
  | .sendBufferRoom c => okDsp c
  | .pageReq c => okDsp c
  | .pageFree c _ => okDsp c
  | .copy c q => okDsp c && okCopy q
  | .copyComplete c => okDsp c
  | .copyWait c => okDsp c
  | .time c => okDsp c
  | .pmuRead c idx => okDsp c && decide (idx ≤ 8)
  | .lvtRead c r a => okDsp c && okRing r && okNode a
  | .coxOverrun t => okTask t
  | .coxMemfault c => okDsp c
  | .dspEcc c => okDsp c
  | .taskDisable _ t => okTask t
  | .taskEnable _ t => okTask t
  | .taskReload _ t => okTask t
  | .coreEnable _ c => okDsp c
  | .coreDisable _ c => okDsp c
  | .coreShutdownComplete c => okDsp c
  | .pmuCounterWrap c k => okDsp c && decide (k ≤ 8)
  | .pmuSnap _ => true
  | .pmuFreeze _ _ => true
  | .boatPageRequest rs => rs.all (fun r => decide (r.port < 13) && okSrc r.holder) && decide (rs.map (·.port)).Nodup
  | .evictionComplete => true
  | .pageScrubComplete p => okPage p
  | .afeCaptureRequest src _ _ => okSrc src
  | .boatHostCapWrite _ _ => true
  | .streamFrameWrite ch _ => okAin ch
  | .boatHostFreeWrite _ _ => true
  | .boatWindowWrite _ a _ => okHost32 a
  | .boatEcc e => (match e.reader with | .core k => okDsp k | .host => true | .other => true)
  | .alarmEntryUpdate n => okPage n
  | .crcStart _ n => okCtx n
  | .crcCheck _ n => okCtx n
  | .crcDinWrite _ n _ => okCtx n
  | .crcValueWrite _ n _ => okCtx n
  | .crcKatRun _ => true
  | .umpireErrorLatch => true
  | .handlingWindowClose => true
  | .umpSelfCheck _ => true
  | .groupMonitorSelfCheck _ _ => true
  | .fieldDieSelfCheck _ => true
  | .umpStatusLoClear _ _ => true
  | .umpStatusHiClear _ _ => true
  | .bistSliceRequest _ => true
  | .coreSliceDue => true
  | .bistSliceStart u _ => okUnit u
  | .bistSliceComplete u _ _ _ => okUnit u
  | .bistSliceTimeout u => okUnit u
  | .bistCmdWrite _ _ => true
  | .vsysGood => true
  | .nvmControllerStart f => okFlash f
  | .nvmFail _ => true
  | .fullPassComplete => true
  | .laneConfigLoad _ _ => true
  | .fieldPartLoad => true
  | .logScanComplete => true
  | .cfgOpen _ _ => true
  | .cfgCommit _ _ => true
  | .cfgCancel _ => true
  | .flashOperationComplete _ => true
  | .cmPersistStart => true
  | .logAckWrite _ _ => true
  | .logAreaEraseComplete => true
  | .sealInputChange _ _ => true
  | .sealDisc => true
  | .loginChallenge _ k => okSlot k
  | .loginRespond _ k => okSlot k
  | .logout _ => true
  | .nonceExpiry _ => true
  | .sessionTimeout _ => true
  | .slotLockEnd k => okSlot k
  | .passwordClassChange _ c => okChange c
  | .lcField _ => true
  | .lcRma _ => true
  | .dbgChallenge _ => true
  | .openCm _ => true
  | .openFull _ => true
  | .dbgClose _ => true
  | .keyProgram _ _ => true
  | .setAuthReq _ => true
  | .pwrReqRun _ => true
  | .pwrReqReduced _ => true
  | .pwrReqHold _ => true
  | .pwrReqOff _ => true
  | .ethFrameReceive p f => okEth p && okMac f.dst && okMac f.src
  | .macAgeOut m => okMac m
  | .phyPoll p _ sp => okEth p && decide (sp < 3)
  | .telegramDatagram _ _ => true
  | .telegramFrameArrival _ c _ => okConn c
  | .telWatchdog _ b => okBlk b
  | .telOutSend _ b => okBlk b
  | .outboundTelegram c => okConn c
  | .ptpMessage p _ => okEth p.port && decide (p.domain < 128)
  | .ptpLost => true
  | .ppsSecond => true
  | .regProtoRead _ _ a n => okHost32 a && decide (n < 65536)
  | .regProtoWrite _ _ a vs => okHost32 a && decide (vs.length ≤ 256)
  | .regProtoBulkRead _ _ i n => okHost32 i && decide (n < 65536)
  | .regProtoBulkWrite _ _ o bs => okHost32 o && decide (bs.length ≤ 1024)
  | .regProtoSubscribe _ _ => true
  | .regProtoUnsubscribe _ _ => true
  | .hspiRead a n => okHost32 a && decide (1 ≤ n ∧ n ≤ 256)
  | .hspiWrite a vs _ => okHost32 a && decide (1 ≤ vs.length ∧ vs.length ≤ 256)
  | .hspiAbort => true
  | .clockSupervisorWindow c _ => decide (c < 20)
  | .pllLockLoss _ => true
  | .vsysFault _ => true
  | .vsysRecovered _ => true
  | .brownOut => true
  | .railOutOfRange v => decide (v.rail < 9)
  | .sysRstN => true
  | .mcoreWd => true
  | .dieTempRead ts => decide (ts.length = 5)
  | .perturbTgtWrite _ n _ => decide (n < 16)
  | .perturbCfgWrite _ n _ => decide (n < 16)
  | .perturbSeedWrite _ _ => true
  | .perturbRelease n => decide (n < 16)
  | .latchingRead _ a => okHost32 a
  | .clearingRead _ a => okHost32 a
  | .registerWrite _ a _ => okHost32 a
  | .samplingInstant _ => true
  | .sysRstNRelease => true
  | .coreHalt c _ => okDsp c
  | .coreHaltRelease c => okDsp c
  | .ptpSyncInterval => true
  | .spreadRampComplete => true
  | .signalReturn r _ => okRing r

end Sys2Proof
end

