-- ==== Sys2Proof/Tests/Slice0.lean ====
section
/-!
SUPPORT. Tests: ill-formed commands are refused by WellFormed, witnesses for the hypotheses of the statements, and small
steps whose results the spec gives.
-/
namespace Sys2Proof.Tests

open Sys2Proof Sys2Proof.Machine

/-! ## Ill-formed commands, which WellFormed refuses: one for each check -/

theorem test_wellFormed_refuses_blocks_lanes_fabric :
    ([.laneInputImage .l1 { tachLost := [8] }, .laneInputImage .l1 { decimLost := [32] }, .tonExpiry .l1 4096,
      .tofExpiry .l1 4096, .tpPulseExpiry .l1 4096, .discTimeout .l1 4096, .muteTimeout .l1 4096, .muteLamp .l1 4096,
      .lockFb .l1 4096, .standstillReached .l1 4096, .tachMissing .l1 4096, .speedDisc .l1 4096, .edmTimeout .l1 4096,
      .resetOpenHistory .l1 4096, .resetStuck .l1 4096, .vibSegmentEnd .l1 4096, .vibDisc .l1 4096, .lastResetFrame 16 0 0,
      .lastResetFrame 0 4096 0, .lastResetFrame 0 0 4096, .fabricFrameReceive 32 [] 0, .linkFail 10,
      .creditTimeoutDiscard 32] : List Instr).all (fun c => !wellFormed c) = true := by decide

theorem test_wellFormed_refuses_field :
    ([.inputFilterChange 64, .testPulseBegin 16, .testPulseWindowEnd 16, .tpOverload 16, .outputPulseBegin 12,
      .outputPulseEnd 12, .outShortVfld 12, .outStuckOff 12, .outOverload 12, .outOpenLoad 12, .outDiagClear 12,
      .cioCommandFrame 4096 0 0, .cioHeartbeatFrame 4096, .cioSilent 24, .cioOverload 24, .cioShortVfld 24,
      .afeFullRateFrame 32 0 (List.replicate 16 0), .afeFullRateFrame 0 0 [], .afeDecimatedSample 32 0 0,
      .ainOpen 32, .ainShort 32, .ainSettlingComplete 32, .afeCalRequest .spi 32, .afeCalComplete 32 0,
      .afeChannelEnable .spi 32, .afeChannelDisable .spi 32, .afeShutdownComplete 32, .tachCountedEdge 8 ⟨0, []⟩,
      .tachCmpWrite (.task 0) 8 0 0, .tachCmpWrite (.host .spi) 0 2 0, .tachStepWrite (.host .spi) 8 0 0,
      .tachStepWrite (.task 0) 0 2 0, .tachEnable .spi 8, .tachDisable .spi 8] : List Instr).all (fun c => !wellFormed c) = true := by
  decide

theorem test_wellFormed_refuses_rings :
    ([.ringSuperframeStart 4 0, .ringFrameReceive 4 { at' := .portA, header := 0, words := [], crc := 0 },
      .ringReportReceive 4 { addr := 0, seq := 0, values := [] },
      .ringReportReceive 0 { addr := 511, seq := 0, values := [] }, .ringReportReceive 0 { addr := 0, seq := 256, values := [] },
      .ringReportReceive 0 { addr := 0, seq := 0, values := List.replicate 12 0 }, .ringReplyReceive 4 0 ⟨0, true⟩ [],
      .ringReplyReceive 0 511 ⟨0, true⟩ [], .ringReplyReceive 0 0 ⟨256, false⟩ [], .ringAnnounceReceive 4 ⟨0, 0⟩,
      .ringBurstFrameReceive 4 0 ⟨0, 0, true⟩ [], .ringBurstFrameReceive 0 511 ⟨0, 0, true⟩ [], .ringBurstFrameReceive 0 0 ⟨256, 0, true⟩ [],
      .ringSlotFail 4 0, .ringSlotFail 0 511, .nodeBeacon 0 { seq := 256, sf := 0 }, .nodeBeacon 0 { seq := 0, sf := 4294967296 },
      .nodeBeacon 0 { seq := 0, sf := 0, ring := 4 }, .nodeDiscover 4 ⟨0, true, true⟩, .nodeAssign ⟨0, true⟩ 0 511 0 0,
      .nodeBurst ⟨0, {}⟩ 8 1, .nodeBurst ⟨0, {}⟩ 0 0, .nodeReportWindow 0 ⟨List.replicate 12 0, false⟩,
      .lossOfSignal 4 .portA, .ringBreak 4, .ringClosed 4,
      .ringDown 4, .nodeLost 4 0, .nodeLost 0 511, .nodeStale 4 0, .nodeStale 0 511,
      .ringBurstRequest 4 ⟨0, 0, 0, 0, 0, false⟩, .ringBurstRequest 0 ⟨0, 511, 0, 0, 0, false⟩,
      .ringBurstRequest 0 ⟨4096, 0, 0, 0, 0, false⟩, .ringBurstRequest 0 ⟨0, 0, 8, 0, 0, false⟩,
      .ringBurstRequest 0 ⟨0, 0, 0, 65536, 0, false⟩, .ringBurstCmdWrite .spi 4 0, .ringEnable .spi 4, .ringDisable .spi 4,
      .ringShutdownComplete 4, .signalReturn 4 .portA] : List Instr).all (fun c => !wellFormed c) = true := by decide

theorem test_wellFormed_refuses_cores :
    ([.periodicRelease 512, .taskTrigger 512 ⟨0, 0, 0, []⟩, .taskTrigger 0 ⟨4096, 0, 0, []⟩, .taskTrigger 0 ⟨0, 16, 0, []⟩,
      .done 8, .yield 8, .send 8 0 [] true, .send 0 16 [] true, .sendBufferRoom 8, .pageReq 8, .pageFree 8 0,
      .copy 8 { ref := 0, toPage := false, pageOff := 0, dataOff := 0, bytes := 4 },
      .copy 0 { ref := 0, toPage := false, pageOff := 4096, dataOff := 0, bytes := 4 },
      .copy 0 { ref := 0, toPage := false, pageOff := 0, dataOff := 0, bytes := 3 },
      .copy 0 { ref := 0, toPage := true, pageOff := 0, dataOff := 0, bytes := 4 },
      .copyComplete 8, .copyWait 8, .time 8, .pmuRead 8 0, .pmuRead 0 9, .lvtRead 8 0 0,
      .lvtRead 0 4 0, .lvtRead 0 0 511, .coxOverrun 512, .coxMemfault 8, .dspEcc 8, .taskDisable .spi 512,
      .taskEnable .spi 512, .taskReload .spi 512, .coreEnable .spi 8, .coreDisable .spi 8, .coreShutdownComplete 8,
      .pmuCounterWrap 8 0, .pmuCounterWrap 0 9, .boatPageRequest [⟨13, 0, 0, false⟩], .boatPageRequest [⟨0, 4096, 0, false⟩],
      .boatPageRequest [⟨0, 0, 0, false⟩, ⟨0, 1, 0, false⟩],
      .pageScrubComplete 4096, .afeCaptureRequest 4096 0 0, .streamFrameWrite 32 true, .boatWindowWrite .spi 4294967296 0,
      .boatEcc ⟨.core 8, false⟩, .alarmEntryUpdate 4096, .crcStart .spi 16, .crcCheck .spi 16, .crcDinWrite .spi 16 0,
      .crcValueWrite .spi 16 0, .coreHalt 8 false, .coreHaltRelease 8] : List Instr).all (fun c => !wellFormed c) = true := by
  decide

theorem test_wellFormed_refuses_module :
    ([.bistSliceStart 0 true, .bistSliceStart 6 true, .bistSliceComplete 7 0 true 0, .bistSliceTimeout 16,
      .nvmControllerStart { jedec := 16777216 }, .loginChallenge .spi 8, .loginRespond .spi 8, .slotLockEnd 8,
      .passwordClassChange .spi (.alarm 4096 (List.replicate 8 0)), .passwordClassChange .spi (.alarm 0 []),
      .passwordClassChange .spi (.interval 4 0 1),
      .ethFrameReceive 2 { dst := 0, src := 0 }, .ethFrameReceive 0 { dst := 281474976710656, src := 0 },
      .ethFrameReceive 0 { dst := 0, src := 281474976710656 }, .macAgeOut 281474976710656, .phyPoll 2 true 0, .phyPoll 0 true 3,
      .telegramFrameArrival .l1 64 [], .telWatchdog .l1 4096, .telOutSend .l1 4096, .outboundTelegram 64,
      .ptpMessage ⟨2, 0⟩ .delayReq, .ptpMessage ⟨0, 128⟩ .delayReq,
      .regProtoRead 0 ⟨0, 0⟩ 4294967296 1, .regProtoRead 0 ⟨0, 0⟩ 0 65536, .regProtoWrite 0 ⟨0, 0⟩ 4294967296 [],
      .regProtoWrite 0 ⟨0, 0⟩ 0 (List.replicate 257 0), .regProtoBulkRead 0 ⟨0, 0⟩ 4294967296 1, .regProtoBulkRead 0 ⟨0, 0⟩ 0 65536,
      .regProtoBulkWrite 0 ⟨0, 0⟩ 4294967296 [], .regProtoBulkWrite 0 ⟨0, 0⟩ 0 (List.replicate 1025 0), .hspiRead 4294967296 1, .hspiRead 0 0,
      .hspiRead 0 257, .hspiWrite 4294967296 [0] 0, .hspiWrite 0 [] 0, .clockSupervisorWindow 20 0, .railOutOfRange ⟨9, 0, 0⟩,
      .dieTempRead [], .perturbTgtWrite .spi 16 0, .perturbCfgWrite .spi 16 0, .perturbRelease 16, .latchingRead .spi 4294967296,
      .clearingRead .spi 4294967296, .registerWrite .spi 4294967296 0] : List Instr).all (fun c => !wellFormed c) = true := by
  decide +kernel

theorem test_wellFormed_accepts :
    ([.safetyCycleBoundary, .tonExpiry .l1 4095, .fabricFrameReceive 31 [] 0, .bistSliceStart 1 true, .bistSliceStart 5 true,
      .bistSliceStart 15 true, .hspiRead 4294967295 256] : List Instr).all wellFormed = true := by decide

/-! ## States for the witnesses -/

/-- A running module with nothing configured. -/
def up : State := { State.reset with sys := { up := true } }

/-- A running module in ROWING, cycle `cyc`, whose lane L1 holds a seat and evaluates one block. -/
def lane (b : Block) (st : BlockState) (cyc : Nat) : State :=
  let s := { up with seat := { up.seat with state := .rowing, bow := some .l1, cycle := cyc } }
  (s.setLane .l1 { image := some { graph := [b] }, blocks := put .none [] 0 st }).setMgr .l1 { phase := .seated }

def on : Src := .const true
def pairOf (nd : Nat) : PairCfg := { a := on, b := on, nd }
def latePair : PairSt := { agreed := true, meas := some (100, true) }

/-! ## Witnesses: blocks -/

def resetPad : ResetCfg := { rin := 0, permit := on }

theorem witness_TimerAndResetBlocks :
    Evaluating (lane (.ton on 3) (.ton (some 5)) 8) .l1 0 (.ton on 3) (.ton (some 5)) ∧ 3 ≤ 8 - 5 ∧
    Evaluating (lane (.tof on 3) (.tof true (some 5)) 8) .l1 0 (.tof on 3) (.tof true (some 5)) ∧
    Evaluating (lane (.tp on 3) (.tp (some 5) none) 8) .l1 0 (.tp on 3) (.tp (some 5) none) ∧
    Evaluating (lane (.ton on 3) (.ton (some 5)) 7) .l1 0 (.ton on 3) (.ton (some 5)) ∧ 7 - 5 < 3 ∧
    Evaluating (lane (.tof on 3) (.tof true (some 5)) 7) .l1 0 (.tof on 3) (.tof true (some 5)) ∧
    Evaluating (lane (.tp on 3) (.tp (some 5) none) 7) .l1 0 (.tp on 3) (.tp (some 5) none) ∧
    Evaluating (lane (.reset resetPad) (.reset { openSince := some 100 }) 500) .l1 0
      (.reset resetPad) (.reset { openSince := some 100 }) ∧ 400 ≤ 500 - 100 ∧
    rinOpen (evCtx (lane (.reset resetPad) (.reset { openSince := some 100 }) 500) .l1) resetPad = true ∧
    Evaluating (lane (.reset resetPad) (.reset { press := some (1, true) }) 80002) .l1 0
      (.reset resetPad) (.reset { press := some (1, true) }) ∧ 80001 ≤ 80002 - 1 ∧
    Unheld codeResetStuck (.reset { press := some (1, true) }) := by
  refine ⟨⟨rfl, rfl, rfl, rfl, rfl⟩, by decide, ⟨rfl, rfl, rfl, rfl, rfl⟩, ⟨rfl, rfl, rfl, rfl, rfl⟩,
    ⟨rfl, rfl, rfl, rfl, rfl⟩, by decide, ⟨rfl, rfl, rfl, rfl, rfl⟩, ⟨rfl, rfl, rfl, rfl, rfl⟩,
    ⟨rfl, rfl, rfl, rfl, rfl⟩, by decide, by decide, ⟨rfl, rfl, rfl, rfl, rfl⟩, by decide, ?_⟩
  intro h hh; cases hh

theorem witness_ChannelPairTimesOut :
    PairLate 106 5 latePair ∧ ¬ PairLate 106 5 {} ∧
    Evaluating (lane (.dual (pairOf 5)) (.pair latePair) 106) .l1 0 (.dual (pairOf 5)) (.pair latePair) ∧
    Evaluating (lane (.estop (pairOf 5) false) (.pair latePair) 106) .l1 0 (.estop (pairOf 5) false) (.pair latePair) ∧
    Evaluating (lane (.lcurt { ossd := pairOf 5 }) (.lcurt { pair := latePair }) 106) .l1 0
      (.lcurt { ossd := pairOf 5 }) (.lcurt { pair := latePair }) ∧ Unheld codeDiscTimeout (.lcurt { pair := latePair }) ∧
    Evaluating (lane (.guard { door := pairOf 5, lockPair := pairOf 5 }) (.guard { door := latePair }) 106) .l1 0
      (.guard { door := pairOf 5, lockPair := pairOf 5 }) (.guard { door := latePair }) ∧
    Unheld codeDiscTimeout (.guard { door := latePair }) ∧
    Evaluating (lane (.guard { door := pairOf 5, lockPair := pairOf 5 }) (.guard { lockPair := latePair }) 106) .l1 0
      (.guard { door := pairOf 5, lockPair := pairOf 5 }) (.guard { lockPair := latePair }) ∧
    Unheld codeDiscTimeout (.guard { lockPair := latePair }) ∧
    Evaluating (lane (.thc (pairOf 5) (pairOf 5)) (.thc { p1 := latePair }) 106) .l1 0
      (.thc (pairOf 5) (pairOf 5)) (.thc { p1 := latePair }) ∧ Unheld codeDiscTimeout (.thc { p1 := latePair }) ∧
    Evaluating (lane (.thc (pairOf 5) (pairOf 5)) (.thc { p2 := latePair }) 106) .l1 0
      (.thc (pairOf 5) (pairOf 5)) (.thc { p2 := latePair }) ∧ Unheld codeDiscTimeout (.thc { p2 := latePair }) ∧
    Evaluating (lane (.enable (pairOf 5) on) (.enable { pair := latePair }) 106) .l1 0
      (.enable (pairOf 5) on) (.enable { pair := latePair }) ∧ Unheld codeDiscTimeout (.enable { pair := latePair }) := by
  refine ⟨⟨100, true, rfl, by decide, rfl⟩, ?_, ⟨rfl, rfl, rfl, rfl, rfl⟩, ⟨rfl, rfl, rfl, rfl, rfl⟩,
    ⟨rfl, rfl, rfl, rfl, rfl⟩, ?_, ⟨rfl, rfl, rfl, rfl, rfl⟩, ?_, ⟨rfl, rfl, rfl, rfl, rfl⟩, ?_,
    ⟨rfl, rfl, rfl, rfl, rfl⟩, ?_, ⟨rfl, rfl, rfl, rfl, rfl⟩, ?_, ⟨rfl, rfl, rfl, rfl, rfl⟩, ?_⟩
  · rintro ⟨c0, f, h, -⟩; cases h
  all_goals intro h hh; cases hh

def curtain : LcurtCfg := { ossd := pairOf 5, nMute := 10 }
def door : GuardCfg := { door := pairOf 5, lockPair := pairOf 5, lock := .ptl, nLock := 9 }
def contactor : EdmCfg := { outBlk := 0, fb := on, nOff := 9 }

theorem witness_MonitoredTimesRunOut :
    Evaluating (lane (.lcurt curtain) (.lcurt { muting := some 90 }) 100) .l1 0
      (.lcurt curtain) (.lcurt { muting := some 90 }) ∧ curtain.nMute ≤ 100 - 90 ∧ curtain.nLamp + 1 ≤ 100 - 90 ∧
    Unheld codeMuteTimeout (.lcurt { muting := some 90 }) ∧ Unheld codeMuteLamp (.lcurt { muting := some 90 }) ∧
    Evaluating (lane (.lcurt curtain) (.lcurt { muting := some 99, lampSeen := true, lampDark := 1 }) 100) .l1 0
      (.lcurt curtain) (.lcurt { muting := some 99, lampSeen := true, lampDark := 1 }) ∧
    rb (evCtx (lane (.lcurt curtain) (.lcurt { muting := some 99, lampSeen := true, lampDark := 1 }) 100) .l1) curtain.lrb = false ∧
    Unheld codeMuteLamp (.lcurt { muting := some 99, lampSeen := true, lampDark := 1 }) ∧
    Evaluating (lane (.guard door) (.guard { cmdSince := some 90 }) 100) .l1 0 (.guard door) (.guard { cmdSince := some 90 }) ∧
    door.lock ≠ .none ∧ door.nLock + 1 ≤ 100 - 90 ∧ Unheld codeLockFb (.guard { cmdSince := some 90 }) ∧
    Evaluating (lane (.edm contactor) (.edm { window := some 90 }) 100) .l1 0
      (.edm contactor) (.edm { window := some 90 }) ∧ contactor.nOff + 1 ≤ 100 - 90 ∧
    Unheld codeEdmFail (.edm { window := some 90 }) := by
  refine ⟨⟨rfl, rfl, rfl, rfl, rfl⟩, by decide, by decide, ?_, ?_, ⟨rfl, rfl, rfl, rfl, rfl⟩, by decide, ?_,
    ⟨rfl, rfl, rfl, rfl, rfl⟩, by decide, by decide, ?_, ⟨rfl, rfl, rfl, rfl, rfl⟩, by decide, ?_⟩
  all_goals intro h hh; cases hh

def speed : SpeedCfg := { tachA := 0, tachB := 1, pprA := 60, pprB := 60, limit := 100, hys := 5, nSS := 10, nx := 9 }
def slowSince : SpeedSt := { ssSince := some 90 }
def oneMissing : SpeedSt := { missA := 7, xSince := some 90 }

/-- The image of the cycle holds a frame without edges for each of the two timers. -/
def slowState : State :=
  let s := lane (.speed speed) (.speed slowSince) 100
  { s with fld := { s.fld with image := { s.fld.image with tach := [(0, ⟨0, 0, 0⟩), (1, ⟨0, 0, 0⟩)] } } }

theorem witness_SpeedBlockEvents :
    Evaluating slowState .l1 0 (.speed speed) (.speed slowSince) ∧ speed.nSS ≤ 100 - 90 ∧ slowSince.held = [] ∧
    bothSlow (evCtx slowState .l1) speed = true ∧
    Evaluating (lane (.speed speed) (.speed oneMissing) 100) .l1 0 (.speed speed) (.speed oneMissing) ∧ 7 ≤ oneMissing.missA ∧
    speedIn (evCtx (lane (.speed speed) (.speed oneMissing) 100) .l1) speed.tachA speed.pprA = none ∧
    oneMissing.xSince = some 90 ∧ speed.nx + 1 ≤ 100 - 90 ∧
    Unheld codeTachMissing (.speed oneMissing) ∧ Unheld codeSpeedDisc (.speed oneMissing) := by
  refine ⟨⟨rfl, rfl, rfl, rfl, rfl⟩, by decide, rfl, by decide, ⟨rfl, rfl, rfl, rfl, rfl⟩, by decide, by decide, rfl, by decide,
    ?_, ?_⟩ <;> intro h hh <;> cases hh

def vib : VibCfg := { chA := 0, chB := 1, sensA := 1, sensB := 1, limit := 1, nx := 9 }

theorem witness_VibrationGuardEvents :
    Evaluating (lane (.vibguard vib) (.vib { xSince := some 989 }) 999) .l1 0 (.vibguard vib) (.vib { xSince := some 989 }) ∧
    (999 - 0) % (vib.nWin / 8) + 1 = vib.nWin / 8 ∧ ({ xSince := some 989 } : VibSt).done ≠ some 999 ∧ vib.nx + 1 ≤ 999 - 989 ∧
    Unheld codeVibDisc (.vib { xSince := some 989 }) := by
  refine ⟨⟨rfl, rfl, rfl, rfl, rfl⟩, by decide, by decide, by decide, ?_⟩; intro h hh; cases hh

/-! ## Witnesses: lanes and seats -/

/-- A running module in a seat state, lanes L1 and L2 in the seats. -/
def seats (st : SeatState) (cyc : Nat) : State :=
  { up with seat := { up.seat with state := st, bow := some .l1, stroke := some .l2, cycle := cyc } }

def aVote : Vote := ⟨1, 0, 0, 0⟩

theorem witness_LaneErrorsAndVoteFrames :
    up.sys.up = true ∧ (up.laneD .l1).faulty = none ∧ up.seat.judged = false ∧ (up.laneD .l1).out = .none ∧
    ((up.setLane .l1 { faulty := some 5 }).laneD .l1).faulty = some 5 ∧
    ((up.setLane .l1 { out := .vote aVote }).laneD .l1).out = .vote aVote ∧
    ((up.setLane .l1 { out := .withdraw 5 }).laneD .l1).out = .withdraw 5 := ⟨rfl, rfl, rfl, rfl, rfl, rfl, rfl⟩

theorem witness_LaneTakesInputImage :
    ((up.setLane .l1 { image := some {} }).laneD .l1).image = some {} ∧
    ((up.setLane .l1 { image := some {}, faulty := some 3 }).laneD .l1).faulty = some 3 ∧
    ((up.setLane .l1 { image := some {}, lclkOut := 1 }).laneD .l1).lclkOut = 1 ∧ 50500 < 50501 ∧
    GoodImage {} ∧ GoodImage { lclk := 49000 } ∧ GoodImage { lclk := 50500 } ∧ up.seat.state = .start ∧
    (up.mgr .l1).phase = .start ∧ (lane (.logic .and []) .none 8).seat.state ≠ .start ∧
    (lane (.logic .and []) .none 8).seat.state ≠ .lockout ∧ ((lane (.logic .and []) .none 8).mgr .l1).phase = .seated ∧
    ((lane (.logic .and []) .none 8).laneD .l1).evaluated ≠ some 8 := by
  refine ⟨rfl, rfl, rfl, by decide, ⟨rfl, by decide, by decide, rfl⟩, ⟨rfl, by decide, by decide, rfl⟩,
    ⟨rfl, by decide, by decide, rfl⟩, rfl, rfl, ?_, ?_, rfl, ?_⟩ <;> decide

def copying : State :=
  ((seats .recovering 9).setMgr .l3 { phase := .copying 9, copyFrom := some .l1 }).setLane .l1 { copySrc := some (9, []) }

def agreeing : State :=
  ((seats .recovering 9).setMgr .l3 { phase := .agreeing 7, recheck := some false }).setLane .l3
    { image := some {}, buf := some ({ cycle := 7 }, {}), evaluated := some 6 }

theorem witness_SpareCopyAndAbort :
    (copying.mgr .l3).phase = .copying copying.seat.cycle ∧ (copying.mgr .l3).copyFrom = some .l1 ∧
    (copying.laneD .l1).copySrc = some (copying.seat.cycle, []) ∧ (agreeing.mgr .l3).recheck = some false ∧
    (agreeing.mgr .l3).phase = .agreeing 7 ∧ (agreeing.laneD .l3).buf = some ({ cycle := 7 }, {}) ∧
    (agreeing.laneD .l3).image = some {} ∧ (∀ n, (agreeing.laneD .l3).evaluated = some n → n < 7) ∧
    (let s := { up.setMgr .l3 { phase := .aborting } with bist := { up.bist with running := some 3 } }
     (s.mgr .l3).phase = .aborting ∧ s.bist.running = some (laneNo .l3)) ∧
    up.bist.running ≠ some (laneNo .l3) := by
  refine ⟨rfl, rfl, rfl, rfl, rfl, rfl, rfl, ?_, ⟨rfl, rfl⟩, by decide⟩
  intro n h; cases h; decide

theorem witness_StepSixAndSchedules :
    up.seat.judged = false ∧ ({ up with seat := { up.seat with judged := true } } : State).seat.judged = true ∧
    (let s := { up with seat := { up.seat with rotAt := 9, cycle := 9 } }
     s.seat.rotAt ≠ 0 ∧ s.seat.rotAt ≤ s.seat.cycle) ∧
    (let s := { up with seat := { up.seat with rotAt := 10, cycle := 9 } }
     s.seat.cycle < s.seat.rotAt) ∧
    (let s := { up with seat := { up.seat with state := .twoOar, twoOarTicks := up.img.twoOarH * hourTicks } }
     s.seat.state = .twoOar ∧ s.seat.stopReq = false ∧ s.img.twoOarH * hourTicks ≤ s.seat.twoOarTicks) := by decide

theorem witness_LockoutEntryAndExit :
    StepSixDue (seats .rowing 9) ∧ SeatsDrive (seats .rowing 9) ∧ Gone (seats .rowing 9) .l1 ∧ Gone (seats .rowing 9) .l2 ∧
    StepSixDue (seats .sculling 9) ∧ SeatsDrive (seats .sculling 9) ∧ scullLane (seats .sculling 9) = some .l1 ∧
    Gone (seats .sculling 9) .l1 ∧
    (seats .recovering 9).seat.holdReq = false ∧ SeatsDrive (seats .twoOar 9) ∧
    (let s := { seats .sculling 1000 with seat := { (seats .sculling 1000).seat with scullSince := some 0 } }
     s.seat.scullSince = some 0 ∧ 8 * s.img.scullMs ≤ s.seat.cycle - 0) ∧
    (seats .lockout 9).seat.state = .lockout ∧ (seats .lockout 9).seat.lorAccepted = false := by
  refine ⟨⟨rfl, rfl, rfl⟩, by unfold SeatsDrive; decide, ?_, ?_, ⟨rfl, rfl, rfl⟩, by unfold SeatsDrive; decide, rfl, ?_, rfl,
    by unfold SeatsDrive; decide, ⟨rfl, by decide⟩, rfl, rfl⟩ <;> · intro v h; cases h

/-! ## Witnesses: inputs, outputs, supplies, pins -/

/-- The running module with its field die changed. -/
def fieldDie (f : Field → Field) : State := { up with fld := f up.fld }

theorem witness_InputFilterAndReleaseHistory :
    (let s := fieldDie fun f => { f with si := [(3, { run := 2, runLevel := true })] }
     (siCfg s.img 3).filter ≤ (s.si 3).run ∧ (s.si 3).runLevel ≠ (s.si 3).level) ∧
    (let s := fieldDie fun f => { f with si := [(3, { run := 1, runLevel := true })] }
     (s.si 3).run < (siCfg s.img 3).filter) ∧
    (let s := fieldDie fun f => { f with
       lor := { f.lor with armed := true, st := { openSince := some 10 } }, image := { f.image with cycle := 410 } }
     s.fld.lor.armed = true ∧ s.fld.lor.st.hist = false ∧ s.fld.lor.st.stuck = none ∧ s.fld.lor.st.openSince = some 10 ∧
     400 ≤ s.fld.image.cycle - 10) ∧ up.fld.lor.armed = false := by decide

theorem witness_TestPulses :
    (let s := fieldDie fun f => { f with slotOn := true, safety := some { tp := [(0, { mode := .pulse })] } }
     s.fld.slotOn = true ∧ (tpCfg s 0).mode = .pulse ∧ (s.tp 0).next ≤ s.slot ∧ s.fld.sub < 4) ∧
    (let s := fieldDie fun f => { f with
       slotBase := 15, tp := [(0, { window := true, pulse := some 5 })],
       si := [(2, { hist := 0x401 })] }
     (s.tp 0).window = true ∧ (s.tp 0).pulse = some 5 ∧ 1 ≤ s.slot ∧ 5 + 9 ≤ s.slot - 1 ∧ siGen s 2 = none ∧
     (siCfg s.img 2).extUs ≤ 150 ∧ judgedWindow s 5 = true ∧ histAt (s.si 2).hist (s.slot - 1) (5 - 1) = true ∧
     histAt (s.si 2).hist (s.slot - 1) (5 + 9) = true ∧ (∀ i, i < 6 → histAt (s.si 2).hist (s.slot - 1) (5 + 1 + i) = false)) ∧
    (let s := fieldDie fun f => { f with safety := some { tp := [(1, { mode := .staticOn })] }, tp := [(1, { zeroRun := 2 })] }
     sagIn s = false ∧ (tpCfg s 1).mode ≠ .off ∧ (s.tp 1).overload = false ∧ 2 ≤ (s.tp 1).zeroRun) := by decide

theorem witness_FieldSupplies :
    (let s := fieldDie fun f => { f with v1 := { f.v1 with n192 := 1, n160 := 66, n100 := 66 } }
     1 ≤ (s.supply .v1).n192 ∧ (s.supply .v1).warn = false ∧ 66 ≤ (s.supply .v1).n160 ∧ (s.supply .v1).low = false ∧
     66 ≤ (s.supply .v1).n100 ∧ (s.supply .v1).missing = false) ∧
    (let s := fieldDie fun f => { f with v1 := { f.v1 with up := 3201, low := true }, vin := { f.vin with up := 3201 } }
     3201 ≤ (s.supply .v1).up ∧ (s.supply .v1).low = true ∧ 3201 ≤ (s.supply .vin).up ∧ (s.supply .vin).once = false) := by decide

theorem witness_OutputGroupsSwitchedOff :
    (let s := fieldDie fun f => { f with sog1 := { f.sog1 with ocRun := 320, hot := true } }
     320 ≤ (s.group .sog1).ocRun ∧ (s.group .sog1).overcur = false ∧ (s.group .sog1).hot = true ∧
     (s.group .sog1).overtemp = false) ∧
    (let s := { (fieldDie fun f => { f with ciog2 := { f.ciog2 with shutdown := some 5 } }) with now := 10005 }
     (s.group .ciog2).shutdown = some 5 ∧ 5 + 10000 ≤ s.now) ∧
    (let s := { (fieldDie fun f => { f with ciog2 := { f.ciog2 with shutdown := some 5 } }) with now := 10004 }
     (s.group .ciog2).shutdown = some 5 ∧ s.now < 5 + 10000) ∧
    (let s := fieldDie fun f => { f with wd := { f.wd with missed := 2 } }
     2 ≤ s.fld.wd.missed ∧ s.fld.wd.tripped = false) ∧
    (let s := fieldDie fun f => { f with wd := { f.wd with missed := 1 } }
     s.fld.wd.missed < 2) ∧
    (let s := fieldDie fun f => { f with wd := { f.wd with tripped := true, okRun := 8 } }
     s.fld.wd.tripped = true ∧ 8 ≤ s.fld.wd.okRun) ∧ up.fld.wd.okRun < 8 := by decide

theorem witness_OutputPulsesAndDiagnoses :
    (let s := fieldDie fun f => { f with
       slotOn := true, safety := some { so := [(0, { pulse := true }), (1, { pulse := true })] },
       so := [(0, { on := true })] }
     s.fld.slotOn = true ∧ (look {} s.img.so 0).pulse = true ∧ (s.so 0).next ≤ s.slot ∧ s.fld.sub < 4 ∧ (s.so 0).on = true ∧
     (look {} s.img.so 1).pulse = true ∧ (s.so 1).next ≤ s.slot ∧ (s.so 1).on = false) ∧
    (let s := fieldDie fun f => { f with slotBase := 11, so := [(0, { window := true, pulse := some 5, hist := 0x40 })] }
     (s.so 0).window = true ∧ (s.so 0).pulse = some 5 ∧ 1 ≤ s.slot ∧ 5 + 5 ≤ s.slot - 1 ∧ 1 ≤ 5 ∧
     histAt (s.so 0).hist (s.slot - 1) (5 - 1) = true) ∧
    (let s := fieldDie fun f => { f with slotBase := 11, so := [(0, { window := true, pulse := some 5 })] }
     (s.so 0).window = true ∧ (s.so 0).pulse = some 5 ∧ histAt (s.so 0).hist (s.slot - 1) (5 - 1) = false) ∧
    (let s := fieldDie fun f => { f with so := [(0, { shortDue := true, stuckDue := true, limRun := 128, openRun := 32 }),
        (1, { shortDue := true, code := codeOutShort, cleanRun := 8 })] }
     (s.so 0).shortDue = true ∧ (s.so 0).code ≠ codeOutShort ∧ (s.so 0).code ≠ codeOutCross ∧ (s.so 0).stuckDue = true ∧
     (s.so 0).hold = false ∧ 128 ≤ (s.so 0).limRun ∧ 32 ≤ (s.so 0).openRun ∧ (s.so 0).openLoad = false ∧
     (s.so 1).shortDue = true ∧ (s.so 1).code = codeOutShort ∧ 8 ≤ (s.so 1).cleanRun) := by decide

/-- Without hooks no target meets one. -/
theorem hookless (s : State) (h : s.hook = {}) (on : Word → Bool) : hookMet s on = none := by
  have h1 : (List.range 16).find? (hookOn s on) = none := by
    rw [List.find?_eq_none]; intro n _; simp [hookOn, State.hk, h, look]
  have h2 : lastHeld s on = none := by simp [lastHeld, h]
  simp [hookMet, h1, h2]

/-- Without hooks no frame meets one. -/
theorem unhooked (s : State) (h : s.hook = {}) (src cls : Nat) : Unhooked s src cls := by
  unfold Unhooked routeHook
  cases routeIdx s src cls with
  | none => rfl
  | some i => simp [hookless s h]

theorem witness_ConfigurablePins :
    (let s := { (fieldDie fun f => { f with safety := some { cio := [(0, { mode := .outputStd, src := 0x410, timeoutMs := 1 })] } })
       with seat := { up.seat with cycle := 1 } }
     0 < s.seat.cycle ∧ (∀ n, n < 24 → silentDue s n = false) ∧ (cioCfg s 0).mode = .outputStd ∧ (cioCfg s 0).src = 0x410 ∧
     (cioCfg s 1).mode ≠ .outputStd ∧ Unhooked s 0x410 2 ∧ Unhooked s 0x410 3 ∧
     cioRefuses 0x410 1 s = false ∧ cioRefuses 0x410 2 s = true) ∧
    (let s := { (fieldDie fun f => { f with safety := some { cio := [(0, { mode := .outputStd, timeoutMs := 1 })] } })
       with seat := { up.seat with cycle := 9 } }
     (cioCfg s 0).mode = .outputStd ∧ (s.cio 0).silent = false ∧ 8 * (cioCfg s 0).timeoutMs + 1 ≤ s.seat.cycle - (s.cio 0).since) ∧
    (let s := fieldDie fun f => { f with cio := [(0, { limRun := 128, shortDue := true }), (1, { shortDue := true, short := true })] }
     128 ≤ (s.cio 0).limRun ∧ (s.cio 0).held = false ∧ (s.cio 0).shortDue = true ∧ (s.cio 0).short = false ∧
     (s.cio 1).shortDue = true ∧ (s.cio 1).short = true) := by
  refine ⟨⟨by decide, by decide, rfl, rfl, by decide, unhooked _ rfl _ _, unhooked _ rfl _ _, by decide, by decide⟩,
    by decide, by decide⟩

/-! ## Witnesses: the Umpire and the cycle -/

/-- The running module with its Umpire changed. -/
def umpire (f : Ump → Ump) : State := { up with ump := f up.ump }

def lockoutReport : Report := { line := 9, code := codeVsysFault, detail := 0, time := 7 }
def eventReport : Report := { line := 38, code := codeOutShort, detail := 0, time := 7 }

theorem witness_ErrorLatches :
    (umpire fun u => { u with reports := [lockoutReport] }).ump.reports = [lockoutReport] ∧ lockoutReport.code ≠ 0 ∧
    lockoutReport.line < 32 ∧ (umpire fun u => { u with reports := [lockoutReport] }).ump.first = none ∧
    lineScope lockoutReport.line = .lockout ∧ lockoutReport.line < 15 ∧
    (umpire fun u => { u with reports := [eventReport] }).ump.reports = [eventReport] ∧ 32 ≤ eventReport.line ∧
    eventReport.line < 64 ∧ lineScope 11 = .start ∧
    (umpire fun u => { u with reports := [lockoutReport, { lockoutReport with line := 8 }] }).ump.reports =
      [lockoutReport, { lockoutReport with line := 8 }] ∧ 8 < lockoutReport.line := by decide

/-- The self-checks' turns have come. -/
def checking : State := { up with now := 1000000, t0 := 1000000 }

theorem witness_SelfChecksOfTheUmpireSide :
    (let s := { (umpire fun u => { u with handling := some 5 }) with now := 15005 }
     s.ump.reports = [] ∧ s.ump.handling = some 5 ∧ 5 + 15000 ≤ s.now ∧ s.ump.selfPostponed = none) ∧
    (let s := { (umpire fun u => { u with handling := some 5, selfPostponed := some true }) with now := 15005 }
     s.ump.reports = [] ∧ s.ump.handling = some 5 ∧ 5 + 15000 ≤ s.now ∧ s.ump.selfPostponed = some true) ∧
    (let s := { (umpire fun u => { u with handling := some 5 }) with now := 15004 }
     s.ump.handling = some 5 ∧ s.now < 5 + 15000) ∧
    (∀ k, k < 6 → checkDue checking k = true) ∧ checking.ump.handling = none ∧
    checkDue { checking with ump := { checking.ump with handling := some 999999 } } 0 = true ∧
    (∀ k, k < 6 → checkDue (checkTaken k checking) k = false) := by decide

theorem witness_StatusClears :
    (let s := umpire fun u => { u with lo := 0x200, handling := some 5 }
     s.ump.reports = [] ∧ s.ump.lo.getLsbD 9 = true ∧ s.ump.handling.isSome = true) ∧
    (let s := { (umpire fun u => { u with lo := 0x200 }) with sys := { up.sys with vsysCause := true } }
     s.ump.lo.getLsbD 9 = true ∧ s.ump.handling = none ∧ causePersists s 9 = true) ∧
    (let s := umpire fun u => { u with lo := 0x200 }
     s.ump.lo = BitVec.ofNat 32 (1 <<< 9) ∧ s.ump.handling = none ∧ causePersists s 9 = false) ∧
    (let s := { (umpire fun u => { u with lo := 0x200 }) with seat := { up.seat with state := .lockout } }
     causePersists s 9 = false ∧ s.seat.state = .lockout) := by decide

theorem witness_CyclesAndSamples :
    (fieldDie fun f => { f with sub := 3 }).fld.sub < 4 ∧ 4 ≤ (fieldDie fun f => { f with sub := 4 }).fld.sub := by decide

/-! ## Witnesses: telegrams and the fabric -/

def conn : ConnCfg := { id := 7, peer := 5, period := 1, nw := 16, nbIn := 1, safe := [true] }

/-- L1 evaluates TEL_IN of connection 2 in cycle 30. -/
def telegrams : State :=
  let s := { (fieldDie fun f => { f with safety := some { conns := [(2, conn)], graph := [.telIn 2, .telOut { conn := 2, telIn := 0, bools := [], nums := [] }] } })
    with seat := { up.seat with state := .rowing, bow := some .l1, stroke := some .l2, cycle := 30 },
         nvm := { up.nvm with armed := true } }
  (s.setLane .l1 { image := s.fld.safety, blocks := [(0, .telIn { state := .live, ref := some (13, false) })],
                   telDue := [(1, (4, [1, 2]))], telOut := [(2, (4, [1, 2]))] }).setMgr .l1 { phase := .seated }

theorem witness_TelegramsInAndOut :
    telegrams.nvm.armed = true ∧ connOf telegrams 5 [7, 0, 0, 0] = some 2 ∧ connOf telegrams 6 [7, 0, 0, 0] = none ∧
    Unhooked telegrams (0x600 + 2) 9 ∧ (telegrams.laneD .l1).image = telegrams.fld.safety ∧
    ((telegrams.laneD .l1).image.map (·.graph[0]?)) = some (some (.telIn 2)) ∧
    look .none (telegrams.laneD .l1).blocks 0 = .telIn { state := .live, ref := some (13, false) } ∧
    evaluates telegrams .l1 = true ∧ (telegrams.laneD .l1).faulty = none ∧
    telExpired conn telegrams.seat.cycle { state := .live, ref := some (13, false) } = true ∧ (telegrams.laneD .l1).tel = [] ∧
    (telegrams.laneD .l1).telDue.find? (fun e => e.1 == 1) = some (1, 4, [1, 2]) ∧
    up.seat.state = .start ∧ running telegrams.seat.state = true ∧
    telegramOf telegrams 2 telegrams.seat.bow ≠ telegramOf telegrams 2 telegrams.seat.stroke ∧
    (let s := telegrams.setLane .l2 { telOut := [(2, (4, [1, 2]))] }
     telegramOf s 2 s.seat.bow = (4, [1, 2]) ∧ telegramOf s 2 s.seat.stroke = (4, [1, 2])) ∧
    (let s := { telegrams with seat := { telegrams.seat with state := .sculling } }
     telegramOf s 2 (scullLane s) = (4, [1, 2])) := by
  refine ⟨rfl, rfl, rfl, unhooked _ rfl _ _, rfl, rfl, rfl, rfl, rfl, rfl, rfl, rfl, rfl, rfl, by decide, ⟨rfl, rfl⟩, rfl⟩

theorem witness_TelegramRoundTrip : 65535 < 65536 ∧ (List.replicate 64 true).length ≤ 64 ∧
    (List.replicate 8 (none : Option Word)).length ≤ 8 := by simp

theorem witness_ReservedClassIsRouteMiss :
    wordOk (tagWord 2 1 10 true 5, 5) = true ∧ tagValid (tagWord 2 1 10 true 5) = true ∧
    10 ≤ tagCls (tagWord 2 1 10 true 5) := by decide +kernel

/-- The running module with an arbitration point. -/
def pointAt (p : Nat) (a : Arb) : State := { up with fab := up.fab.setPoint p a }

def waitingCopy : Tab (List QWord) := [(3, [{ word := { src := 0x100, seq := 1, cls := 4, last := true, payload := 5 } }])]

theorem witness_FabricReceivers :
    Unhooked up 2 4 ∧ wordOk (tagWord 2 1 4 true 5, 6) = false ∧
    wordOk (tagWord 3 1 4 true 5, 5) = true ∧ tagValid (tagWord 3 1 4 true 5) = true ∧ reservedSrc 3 = true ∧
    tagSrc (tagWord 3 1 4 true 5) = 3 ∧
    wordOk (tagWord 0x321 127 4 true 5, 5) = true ∧ tagLast (tagWord 0x321 127 4 true 5) = true ∧
    tagCls (tagWord 0x321 127 4 true 5) = 4 ∧ tagSeq (tagWord 0x321 127 4 true 5) = 127 ∧ reservedSrc 0x321 = false ∧
    routeFor up 0x321 4 = some (romEntry 0x321 0x323 4 0x2100 false false 1 7) ∧ portEndpoint 24 = some 8 ∧
    (romEntry 0x321 0x323 4 0x2100 false false 1 7).dest.getLsbD 8 = true ∧
    needsCrc (romEntry 0x321 0x323 4 0x2100 false false 1 7) 4 = false ∧ (up.rx 8 0x321).frame = none ∧
    (127 + 256 - (up.rx 8 0x321).last) % 256 = 128 ∧ 128 < (128 + 256 - (up.rx 8 0x321).last) % 256 ∧
    (255 + 256 - (up.rx 8 0x321).last) % 256 = 0 ∧ linkPorts[9]?.isSome = true ∧
    ((pointAt 20 { queues := waitingCopy, starved := 4096 }).fab.point 20).queues ≠ [] ∧
    4096 ≤ ((pointAt 20 { queues := waitingCopy, starved := 4096 }).fab.point 20).starved ∧
    ((pointAt 20 { queues := waitingCopy, starved := 4095 }).fab.point 20).starved < 4096 ∧
    resetter 0x343 = some 1 ∧ resetter 0x344 ≠ some 1 := by
  refine ⟨unhooked _ rfl _ _, ?_, ?_, ?_, ?_, ?_, ?_, ?_, ?_, ?_, ?_, rfl, ?_, rfl, rfl, rfl, ?_, ?_, ?_, ?_, ?_, ?_, ?_, ?_, ?_⟩ <;>
    decide +kernel

/-! ## Witnesses: analog channels and timers -/

/-- A running module whose host, over SPI, holds every right, with the log ready and a configuration armed. -/
def host : State :=
  { up with
    nvm := { up.nvm with armed := true, logReady := true }
    sec := { up.sec with power := 0, sessions := [{ port := .spi, slot := 0, rights := 0xF, last := 0 }] } }

/-- Where flash holds nothing, the next slot of the log is blank. -/
theorem emptyFlash (n : Nvm) (h : n.mem = []) : NextSlotBlank n := by
  constructor
  · rw [h]; rfl
  · intro i _; unfold flashAt; rw [h]; rfl

theorem witness_Admitted : Admitted host .spi rightOps ∧ Admitted host .spi rightCm ∧ hasRight host (.udp 1) rightCm = false := by
  refine ⟨⟨rfl, rfl, rfl, rfl, rfl, emptyFlash _ rfl⟩, ⟨rfl, rfl, rfl, rfl, rfl, emptyFlash _ rfl⟩, rfl⟩

/-- The admitted module with one analog channel. -/
def channel (x : Ain) : State := { host with afe := { host.afe with ch := [(3, x)] } }

def iepe : AfeCfg := { mode := .iepe }

/-- A channel in RUN with 16 samples taken since the last decimated one. -/
def sampled : Ain := { cfg := iepe, state := .run, accNew := true }

/-- A bias reading above the window, and one below it, whatever the thresholds are within their tolerance. -/
theorem bias_outside (ch : Nat) : biasAbove ch 2121 = true ∧ biasAbove ch 79 = false ∧ biasBelow ch 79 = true := by
  have h1 := Nat.mod_lt (Config.biasHigh ch) (by decide : 0 < 41)
  simp only [biasAbove, biasBelow, decide_eq_true_eq, decide_eq_false_iff_not]; omega

/-- A reading that lies within the window at every tolerance. -/
theorem bias_inside (ch : Nat) : biasAbove ch 1200 = false ∧ biasBelow ch 1200 = false := by
  have h2 := Nat.mod_lt (Config.biasLow ch) (by decide : 0 < 41)
  simp only [biasAbove, biasBelow, decide_eq_false_iff_not]; omega

theorem witness_AnalogChannels :
    chanValid { state := .run } = true ∧ gained { state := .run } 8388607 = 8388607 ∧
    8388607 < gained { state := .run } 8388608 ∧ gained { state := .run } (-8388609) < -8388608 ∧ chanValid {} = false ∧
    Sampling (channel sampled) 3 ∧ channelLive ((channel sampled).ain 3) = true ∧ (List.replicate 16 (0 : Int)).length = 16 ∧
    (let s := channel { state := .shutdown, tail := some (0, 0, true) }
     Sampling s 3 ∧ (s.ain 3).state = .shutdown ∧ (s.ain 3).tail.isSome = true) ∧
    ((channel sampled).ain 3).cfg.mode = .iepe ∧ ((channel sampled).ain 3).accNew = true ∧
    sagIn (channel sampled) = false ∧ hookMet (channel sampled) (onDecim 3) = none ∧
    ((channel sampled).ain 3).accValid = true ∧ ((channel sampled).ain 3).accFlags = 0 ∧
    ((channel sampled).ain 3).flagOpen = false ∧ ((channel sampled).ain 3).flagShort = false ∧
    -8388608 ≤ ((channel sampled).ain 3).accValue ∧ ((channel sampled).ain 3).accValue ≤ 8388607 ∧
    biasAbove 3 2121 = true ∧ biasAbove 3 79 = false ∧ biasBelow 3 79 = true ∧
    biasAbove 3 1200 = false ∧ biasBelow 3 1200 = false ∧
    (let x := ((channel { flagOpen := true, outAbove := true, outRun := 16 }).ain 3)
     x.flagOpen = true ∧ x.outAbove = true ∧ 16 ≤ x.outRun ∧ x.openL = false) ∧
    (let x := ((channel { flagShort := true, outRun := 16 }).ain 3)
     x.flagShort = true ∧ x.outAbove = false ∧ 16 ≤ x.outRun ∧ x.shortL = false) ∧
    (let x := ((channel { state := .settling, inRun := 3125 }).ain 3)
     x.state = .settling ∧ 3125 ≤ x.inRun ∧ x.calRun = false ∧ channelLive x = true) := by
  refine ⟨rfl, by decide, by decide, by decide, rfl, ⟨by decide, rfl⟩, rfl, rfl, ⟨⟨by decide, rfl⟩, rfl, rfl⟩, rfl, rfl, rfl,
    hookless _ rfl _, rfl, rfl, rfl, rfl, by decide, by decide, (bias_outside 3).1, (bias_outside 3).2.1, (bias_outside 3).2.2,
    (bias_inside 3).1, (bias_inside 3).2, by decide, by decide, by decide⟩

theorem witness_AnalogChannels_switching :
    chanWritable host 3 = true ∧ Admitted host .spi rightOps ∧ (host.ain 3).state = .off ∧
    (let s := channel { state := .run }
     chanWritable s 3 = true ∧ Admitted s .spi rightOps ∧ channelLive (s.ain 3) = true) ∧
    (let s := channel { state := .shutdown }
     chanWritable s 3 = true ∧ Admitted s .spi rightOps ∧ (s.ain 3).state = .shutdown ∧ (s.ain 3).tail = none ∧
     (s.ain 3).ready = none ∧ (s.ain 3).pending = false) ∧
    ((channel { state := .shutdown, pending := true }).ain 3).pending = true ∧
    ainPresent host 32 = false ∧ ((channel { guard := true }).ain 3).guard = true ∧
    (let x := (channel { state := .run, calRun := true, calCount := 3500, calSum := 10485760000 }).ain 3
     x.calRun = true ∧ 3500 ≤ x.calCount ∧ 97 * x.calSum ≤ 1048576000000 ∧ 1048576000000 ≤ 103 * x.calSum) ∧
    (let x := (channel { state := .run, calRun := true, calCount := 3500 }).ain 3
     x.calRun = true ∧ 3500 ≤ x.calCount ∧ 103 * x.calSum < 1048576000000) ∧
    (host.ain 3).calRun = false := by
  refine ⟨rfl, witness_Admitted.1, rfl, ⟨rfl, ⟨rfl, rfl, rfl, rfl, rfl, emptyFlash _ rfl⟩, rfl⟩,
    ⟨rfl, ⟨rfl, rfl, rfl, rfl, rfl, emptyFlash _ rfl⟩, rfl, rfl, rfl, rfl⟩, rfl, rfl, rfl, by decide, by decide, rfl⟩

/-- The admitted module with one capture timer. -/
def timer (x : Tach) : State := { host with tach := [(1, x)] }

/-- A timer in RUN whose next sample above the comparator's upper threshold is a counted edge. -/
def rising : Tach := { state := .run, cmp0 := 1, agree := 15, cfg := { filt := 16, edge := .rising } }

theorem witness_CaptureTimers :
    (let x := (timer rising).tachT 1
     x.state = .run ∧ comparator x.cfg x.comp 1000000 ≠ x.level ∧ x.cfg.filt ≤ x.agree + 1 ∧
     edgeSelected x.cfg (comparator x.cfg x.comp 1000000) = true ∧ x.cmp0.toNat = 1 ∧ (x.edgeCnt + 1) % max 1 x.cfg.per = 1 ∧
     x.cmp1.toNat ≠ 1 ∧ x.total % max 1 x.cfg.n = 0 ∧ 5 < (timer rising).t0 + 12500 ∧ (timer rising).t0 + 12500 ≤ 12500 ∧
     comparator x.cfg x.comp (-1000000) = x.level) ∧
    (let x := (timer { rising with agree := 14 }).tachT 1
     comparator x.cfg x.comp 1000000 ≠ x.level ∧ x.agree + 1 < x.cfg.filt) ∧
    (let x := (timer { rising with state := .off }).tachT 1
     x.cfg.filt ≤ x.agree + 1 ∧ x.state ≠ .run) ∧
    edgeSelected { rising.cfg with edge := .falling } true = false ∧ (host.tachT 1).state ≠ .run ∧
    (5 : Word).toNat < ((timer {}).tachT 1).cfg.per ∧ ((timer { cfg := { per := 5 } }).tachT 1).cfg.per ≤ (5 : Word).toNat ∧
    (host.tachT 1).safety = false ∧ (host.tachT 1).state = .off ∧ ((timer { state := .shutdown }).tachT 1).state = .shutdown ∧
    Admitted (timer { state := .shutdown }) .spi rightOps ∧
    Admitted (timer { state := .run }) .spi rightOps ∧ ((timer { safety := true }).tachT 1).safety = true := by
  refine ⟨by decide, by decide, by decide, by decide, by decide, by decide, by decide, rfl, rfl, rfl,
    ⟨rfl, rfl, rfl, rfl, rfl, emptyFlash _ rfl⟩, ⟨rfl, rfl, rfl, rfl, rfl, emptyFlash _ rfl⟩, rfl⟩

/-! ## Witnesses: rings and nodes -/

/-- The admitted module with node 7 on its rings. -/
def node (n : Node) : State := { host with node := [(7, n)], now := 5000000 }

theorem witness_NodeBehaviour :
    host.sys.up = true ∧ ((node {}).nd 7).powered = true ∧ ((node {}).nd 7).lostA = false ∧
    (1 + 256 - ((node {}).nd 7).ctlLast) % 256 = 2 ∧
    (0 + 256 - ((node {}).nd 7).ctlLast) % 256 = 1 ∧ (127 + 256 - ((node {}).nd 7).ctlLast) % 256 = 128 ∧
    (let n := (node { followA := false }).nd 7
     (255 + 256 - n.ctlLast) % 256 = 0 ∧ n.followA = false) ∧
    ((node {}).nd 7).addr = none ∧ ((node {}).nd 7).parked = false ∧ ((node {}).nd 7).followA = true ∧
    ((node {}).rg 1).turnedA = false ∧ ((node {}).rg 1).turnedB = false ∧ (7 : U64) ≠ 8 ∧
    ((node { addr := some 3 }).nd 7).addr = some 3 ∧ ((node { powered := false }).nd 7).powered = false ∧
    (let s := { node { addr := some 3 } with ring := [(1, { nodes := [(3, { uid := 7, state := .present })] })] }
     nodePlace s 7 = some (1, 3)) ∧
    ((node {}).nd 7).beaconAt + 50 * 100000 ≤ (node {}).now ∧ host.now < ((node {}).nd 8).beaconAt + 50 * 100000 ∧
    (let n := (node { addr := some 3, interval := 4, phase := 3, sf := 3 }).nd 7
     n.addr = some 3 ∧ 0 < n.interval ∧ n.phase < n.interval ∧ n.sf = n.phase + 0 * n.interval ∧ n.owed = []) ∧
    ((node { addr := some 3, interval := 4, phase := 3, sf := 3, owed := [2] }).nd 7).owed = 2 :: [] ∧
    (let n := (node { addr := some 3, interval := 4, phase := 3, sf := 6 }).nd 7
     0 < 3 ∧ 3 < n.interval ∧ n.phase < n.interval ∧ n.sf = n.phase + 0 * n.interval + 3) := by decide

/-- The admitted module with ring 1. -/
def ring (x : Ring) : State := { host with ring := [(1, x)] }

theorem witness_RingConditions :
    RingRuns (ring { state := .loop }) 1 ∧
    (let x := (ring { state := .loop, missRun := 2 }).rg 1
     x.broken = false ∧ 2 ≤ x.missRun) ∧
    (let x := (ring { state := .split, broken := true, bothRun := 16 }).rg 1
     x.broken = true ∧ 16 ≤ x.bothRun) ∧
    (let x := (ring { state := .loop, silentRun := 8 }).rg 1
     x.state ≠ .down ∧ 8 ≤ x.silentRun) ∧
    (let s := ring { state := .loop, nodes := [(3, { state := .present, missed := 3 })] }
     (s.rnode 1 3).state = .present ∧ 3 ≤ (s.rnode 1 3).missed ∧ ∀ b, (s.rg 1).burst = some b → b.addr ≠ 3) ∧
    (let s := { ring { state := .loop, nodes := [(3, { state := .present, interval := 1, stamp := some 0 })] } with now := 500001 }
     (s.rnode 1 3).stale = false ∧ (s.rnode 1 3).stamp = some 0 ∧ 0 + (2 * (s.rnode 1 3).interval + 3) * 100000 < s.now) ∧
    Unhooked (ring { state := .loop }) (0x408 + 1) 4 := by
  refine ⟨⟨by decide, by decide⟩, by decide, by decide, by decide, ⟨rfl, by decide, ?_⟩, by decide, unhooked _ rfl _ _⟩
  intro b h; cases h

/-- Ring 1 in superframe 4, with two slots and two nodes; node identity 8 is booked. -/
def traffic : State :=
  ring { state := .loop, sf := 4, slots := [(3, .report), (4, .report)], cfg := { book := [(8, 5, 2)] },
         nodes := [(3, { state := .present, tries := 1 }), (4, { state := .present, tries := 2, missed := 1 })] }

theorem witness_RingTraffic :
    RingRuns traffic 1 ∧ (traffic.rnode 1 3).state ≠ .free ∧ (0 + 256 - (traffic.rnode 1 3).last) % 256 = 1 ∧
    (127 + 256 - (traffic.rnode 1 3).last) % 256 = 128 ∧ (128 + 256 - (traffic.rnode 1 3).last) % 256 = 129 ∧
    hookMet traffic (onNode 1 3) = none ∧ openSlot (traffic.rg 1) 3 = some 0 ∧ openSlot (traffic.rg 1) 4 = some 1 ∧
    (traffic.rnode 1 3).state = .present ∧ (traffic.rnode 1 3).tries < 2 ∧ (traffic.rnode 1 4).state = .present ∧
    2 ≤ (traffic.rnode 1 4).tries ∧ (traffic.rnode 1 4).missed < 2 ∧
    (traffic.rg 1).answered = false ∧ 4 ≤ (traffic.rg 1).sf ∧
    (∀ e ∈ (traffic.rg 1).nodes, e.2.uid ≠ 9) ∧ (∀ b ∈ (traffic.rg 1).cfg.book, b.1 ≠ 9) ∧ (traffic.rg 1).cfg.auto = false ∧
    (∀ e ∈ (traffic.rg 1).nodes, e.2.uid ≠ 8) ∧
    (traffic.rg 1).cfg.book.find? (fun b => decide (b.1 = 8)) = some (8, 5, 2) ∧
    (ring { state := .loop, answered := true, sf := 4 }).rg 1 = { state := .loop, answered := true, sf := 4 } ∧
    ((ring { state := .loop, sf := 3 }).rg 1).sf < 4 ∧ (hcrc8 1).toNat ≠ bits (1 : U64) 7 0 ∧
    (traffic.rg 1).slots[1]? = some (4, .report) := by
  refine ⟨⟨by decide, by decide⟩, by decide, by decide, by decide, by decide, hookless _ rfl _, by decide, by decide, rfl, by decide, rfl,
    by decide, by decide, rfl, by decide, by decide, by decide, rfl, by decide, by decide, rfl, by decide, by decide +kernel, rfl⟩

def burst : Burst := { src := 0x400, addr := 3, rate := 0, count := 16, cap := 1 }

theorem witness_RingBurstsAndSwitching :
    (let s := { ring { state := .loop } with sec := { host.sec with power := 1 } }
     ringPresent s 1 = true ∧ reducedNow s = true) ∧
    (let s := ring { state := .loop, burst := some burst, queue := List.replicate 8 burst }
     reducedNow s = false ∧ RingRuns s 1 ∧ (s.rg 1).burst.isSome = true ∧ 8 ≤ (s.rg 1).queue.length) ∧
    (let s := ring { state := .loop, burst := some burst, queue := List.replicate 7 burst }
     RingRuns s 1 ∧ (s.rg 1).burst = some burst ∧ (s.rg 1).queue.length < 8) ∧
    (let s := ring { state := .loop, nodes := [(3, { state := .present })] }
     RingRuns s 1 ∧ fillingCount s < 64 ∧ (s.rg 1).burst = none ∧ (s.rg 1).queue = [] ∧ (s.rnode 1 (3 % 512)).state = .present) ∧
    (let s := { ring { state := .loop, burst := some burst, nodes := [(3, { state := .present })] } with
                boat := { up.boat with caps := [{ serial := 1, ctx := 0, holder := 0x400 }] } }
     RingRuns s 1 ∧ (s.rg 1).burst = some burst ∧ capOf s burst = some { serial := 1, ctx := 0, holder := 0x400 } ∧
     (s.rg 1).burstMet = false ∧ (s.rnode 1 burst.addr).state ≠ .free ∧
     1 ≤ (0 + 256 - (s.rnode 1 burst.addr).last) % 256 ∧ (127 + 256 - (s.rnode 1 burst.addr).last) % 256 = 128 ∧
     burst.offset + 8 < burst.count) ∧
    Admitted host .spi rightOps ∧ (host.rg 1).state = .off ∧ Admitted (ring { state := .loop }) .spi rightOps ∧
    Admitted (ring { state := .shutdown }) .spi rightOps ∧
    (let s := { ring { state := .shutdown } with now := 100000 }
     (s.rg 1).state = .shutdown ∧ (s.rg 1).cmds = [] ∧ (s.rg 1).sfAt + 100000 ≤ s.now ∧ (s.rg 1).pending = false) ∧
    ((ring { state := .shutdown, pending := true }).rg 1).pending = true ∧
    (let s := { ring { state := .shutdown } with now := 99999 }
     s.now < (s.rg 1).sfAt + 100000) := by
  refine ⟨by decide, ⟨rfl, ⟨by decide, by decide⟩, rfl, by decide⟩, ⟨⟨by decide, by decide⟩, rfl, by decide⟩,
    ⟨⟨by decide, by decide⟩, by decide, rfl, rfl, rfl⟩,
    ⟨⟨by decide, by decide⟩, rfl, rfl, rfl, by decide, by decide, by decide, by decide⟩, witness_Admitted.1,
    rfl, ⟨rfl, rfl, rfl, rfl, rfl, emptyFlash _ rfl⟩, ⟨rfl, rfl, rfl, rfl, rfl, emptyFlash _ rfl⟩, by decide, rfl, by decide⟩

/-! ## Witnesses: tasks, cores, counters -/

/-- The admitted module at tick `now` with task 2 and core 1. -/
def cluster (now : Nat) (x : Task) (k : Core) : State :=
  { host with now, cox := { host.cox with tasks := [(2, x)], cores := [(1, k)] } }

/-- A periodic task of core 1, released every 200 ticks from tick 300; a triggered one on SRC 5 to 7 and class 4. -/
def periodic : Task := { w0 := 0x8200, w1 := 2, w2 := 3, w3 := 1, w4 := 0x20000, state := .waiting }
def triggered : Task := { w0 := 0xA200, w1 := 0x04007005, w3 := 1, state := .waiting }
def onCore1 : Core := { state := .run, task := some 2 }
def frame5 : TrigFrame := ⟨5, 4, 0, []⟩
def frame8 : TrigFrame := ⟨8, 4, 0, []⟩

theorem witness_ReleasesAndDispatch :
    (let s := cluster 700 periodic {}
     let x := s.task 2
     taskValid x = true ∧ taskTrig x = false ∧ 0 < taskPeriod x ∧ s.now = taskPhase x + 2 * taskPeriod x ∧
     x.lastRel ≠ some s.now ∧ x.state = .waiting ∧ reducedNow s = false) ∧
    ((cluster 700 { periodic with state := .suspended } {}).task 2).state = .suspended ∧
    (let s := cluster 899 { periodic with lastRel := some 700 } {}
     let x := s.task 2
     199 < taskPeriod x ∧ s.now = taskPhase x + 2 * taskPeriod x + 199 ∧ x.lastRel = some (taskPhase x + 2 * taskPeriod x)) ∧
    taskMatches triggered frame8 = false ∧ taskMatches triggered frame5 = true ∧ triggered.state = .waiting ∧
    hookMet (cluster 0 triggered {}) (onTask 2) = none ∧
    reducedNow { cluster 0 triggered {} with sec := { host.sec with power := 1 } } = true ∧
    startableTasks host = [] ∧ startableTasks (cluster 0 { periodic with state := .ready } { state := .idle }) ≠ [] := by
  refine ⟨by decide, rfl, by decide, by decide, by decide, rfl, hookless _ rfl _, rfl, by decide, by decide⟩

theorem witness_ServiceCalls :
    (let s := cluster 700 { periodic with state := .running, deadline := 700 } onCore1
     Calls s 1 2 ∧ s.now ≤ (s.task 2).deadline ∧ (s.task 2).trig = none ∧ (s.task 2).state = .running ∧ (s.task 2).pend = none) ∧
    (let s := cluster 700 { triggered with state := .running, deadline := 701, pend := some (frame5, 650) } onCore1
     Calls s 1 2 ∧ (s.task 2).pend = some (frame5, 650) ∧ hookMet s (onTask 2) = none ∧ s.now < (s.task 2).deadline ∧
     (s.core 1).state = .run ∧ (rankedTasks s).filter (fun u => taskOn (s.task u) 1 && (idleFor s u).isNone) = []) ∧
    (let s := cluster 700 { periodic with state := .running, deadline := 701 } { onCore1 with state := .shutdown }
     Calls s 1 2 ∧ (s.core 1).state = .shutdown ∧ s.now < (s.task 2).deadline ∧ (s.task 2).state = .running) ∧
    (let s := cluster 701 { periodic with state := .running, deadline := 701 } onCore1
     Calls s 1 2 ∧ (s.task 2).deadline ≤ s.now) ∧
    sendOk 5 [1] = false ∧ sendOk 4 [] = false ∧ sendOk 4 [1] = true ∧ sendOk 7 (List.replicate 255 0) = true ∧ sendOk 7 (List.replicate 256 0) = false ∧
    ({ (cluster 0 {} {}).cox with userEn := 2 } : Cox).userEn.getLsbD 1 = true ∧ host.cox.userEn.getLsbD 1 = false := by
  refine ⟨⟨⟨.inl rfl, rfl, rfl, rfl⟩, by decide, rfl, rfl, rfl⟩,
    ⟨⟨.inl rfl, rfl, rfl, rfl⟩, rfl, hookless _ rfl _, by decide, rfl, by decide⟩,
    ⟨⟨.inr rfl, rfl, rfl, rfl⟩, rfl, by decide, rfl⟩, ⟨⟨.inl rfl, rfl, rfl, rfl⟩, by decide⟩, by decide, by decide, by decide,
    by decide +kernel, by decide +kernel, rfl, rfl⟩

/-- Task 2, which runs on core 1 with a budget of two pages, holds page 800. -/
def holding : State :=
  { cluster 0 { periodic with state := .running } onCore1 with
    boat := { host.boat with ready := true, pages := [(800, { state := .held, holder := 0x102, gen := 1 })] } }

def ref800 : Word := pageRef (800, 1)
def copyOut : CopyReq := { ref := ref800, toPage := true, pageOff := 4095, dataOff := 163839, bytes := 1 }

theorem heldPages_holding : heldPages holding 0x102 = [800] := by decide +kernel
theorem witness_PageCalls :
    Calls holding 1 2 ∧ (heldPages holding (0x100 + 2)).length + 1 ≤ bits (holding.task 2).w4 27 16 ∧
    (freePages holding).head? = some 801 ∧
    bits ((cluster 0 {} onCore1).task 2).w4 27 16 < (heldPages (cluster 0 {} onCore1) (0x100 + 2)).length + 1 ∧
    freePages (cluster 0 { periodic with state := .running } onCore1) = [] ∧
    refPage holding (0x100 + 2) ref800 = some 800 ∧ refPage holding (0x100 + 2) 0 = none ∧ (holding.task 2).ctx ≠ some 800 ∧
    1 ≤ copyOut.bytes ∧ copyOut.pageOff + copyOut.bytes ≤ 4096 ∧ copyOut.dataOff + copyOut.bytes ≤ 163840 ∧
    163840 < copyOut.dataOff + 2 ∧
    ((cluster 0 { periodic with state := .running } { onCore1 with copies := [copyOut] }).core 1).copies = [copyOut] := by
  refine ⟨⟨.inl rfl, rfl, rfl, rfl⟩, ?_, by decide +kernel, ?_, by decide, by decide, by decide, by decide, by decide, by decide,
    by decide, by decide, rfl⟩
  · have h : heldPages holding (0x100 + 2) = [800] := heldPages_holding
    rw [h]; decide
  · have h : heldPages (cluster 0 {} onCore1) (0x100 + 2) = [] := by
      unfold heldPages
      rw [List.filter_eq_nil_iff]; intro p _; simp [State.page, cluster, host, up, State.reset, look]
    rw [h]; decide

theorem witness_OverrunsAndErrors :
    (let s := cluster 700 { periodic with state := .running, deadline := 700 } onCore1
     (s.task 2).deadline ≤ s.now ∧ (s.task 2).state = .running ∧ (s.core 1).task = some 2 ∧ (s.core 1).state = .run) ∧
    (let s := cluster 700 { periodic with state := .ready, deadline := 700, w0 := 0x408200 } {}
     taskLimit (s.task 2) ≠ 0 ∧ taskLimit (s.task 2) ≤ sat 15 (s.task 2).ovrRun ∧ (s.task 2).state = .ready) ∧
    (let s := cluster 700 { periodic with state := .disabling, deadline := 700 } onCore1
     (s.task 2).deadline ≤ s.now ∧ (s.task 2).state = .disabling) ∧
    (let s := cluster 699 { periodic with state := .running, deadline := 700 } onCore1
     s.now < (s.task 2).deadline) := by decide

theorem witness_OverrunsAndErrors_alarm : Unhooked (cluster 700 periodic onCore1) 0x400 4 := unhooked _ rfl _ _

theorem witness_TaskAndCoreCommands :
    (let s := cluster 0 periodic { state := .idle, en := true }
     Admitted s .spi rightOps ∧ (∀ cap ∈ s.boat.caps, cap.holder ≠ 0x100 + 2) ∧ (s.task 2).state = .waiting ∧
     (s.core 1).en = true ∧ (s.core 1).state = .idle ∧ (s.core 1).bistOff = false ∧ (s.core 1).halt = false ∧
     s.bist.running = none ∧ (s.unit (8 + 1)).pending = false ∧ s.sec.debug = 0) ∧
    (let s := { cluster 0 periodic { state := .idle, en := true } with sec := { host.sec with debug := 1 } }
     s.sec.debug ≠ 0 ∧ reducedNow s = false ∧ (s.core 1).state = .idle) ∧
    taskValid periodic = true ∧ ({ periodic with state := .disabled } : Task).state = .disabled ∧
    (let s := cluster 0 { periodic with state := .disabling } { state := .run, en := true, task := some 2 }
     Admitted s .spi rightOps ∧ (s.task 2).state = .disabling ∧ (s.core 1).en = true ∧ (s.core 1).state = .run) ∧
    (let s := cluster 0 { periodic with state := .suspended } { state := .shutdown }
     Admitted s .spi rightOps ∧ (s.task 2).state = .suspended ∧ (s.core 1).state = .shutdown ∧ (s.core 1).task = none ∧
     (s.core 1).en = false ∧ (s.core 1).bistOff = false ∧ (s.core 1).halt = false) ∧
    (let s := cluster 0 {} {}
     Admitted s .spi rightOps ∧ (s.core 1).state = .off ∧ (s.core 1).bistOff = false ∧ (s.core 1).eccOff = false ∧
     (s.core 1).failed = false ∧ (s.core 1).reduced = false ∧ (s.core 1).halt = false) ∧
    (let s := cluster 0 {} { state := .shutdown, en := true }
     (s.core 1).state = .shutdown ∧ (s.core 1).task = none ∧ (s.core 1).en = true ∧ (s.core 1).eccOff = false) ∧
    (let s := cluster 0 {} { state := .halt, halt := true, en := true }
     (s.core 1).state = .halt ∧ (s.core 1).halt = true ∧ (s.core 1).en = true ∧ (s.core 1).eccOff = false) := by
  refine ⟨⟨⟨rfl, rfl, rfl, rfl, rfl, emptyFlash _ rfl⟩, by simp [cluster, host, up, State.reset], rfl, rfl, rfl, rfl, rfl, rfl, rfl, rfl⟩, by decide, by decide, rfl,
    ⟨⟨rfl, rfl, rfl, rfl, rfl, emptyFlash _ rfl⟩, rfl, rfl, rfl⟩,
    ⟨⟨rfl, rfl, rfl, rfl, rfl, emptyFlash _ rfl⟩, rfl, rfl, rfl, rfl, rfl, rfl⟩,
    ⟨⟨rfl, rfl, rfl, rfl, rfl, emptyFlash _ rfl⟩, rfl, rfl, rfl, rfl, rfl, rfl⟩, by decide, by decide⟩

/-- Core 1 counts; it has stood in a SEND of task 2 since tick 0, and its counter 0 counts those cycles with IRQ. -/
def monitor : State :=
  let s := cluster 9 {} onCore1
  { s with cox := { s.cox with pmu := [(1, { since := some 0, run := .sends 2, evsel := [(0, 0x8004000B)], cnt := [(0, 2 ^ 48 - 54)] })] } }

theorem witness_PerformanceMonitor :
    counting monitor 1 = true ∧ (monitor.pmu 1).since = some 0 ∧ 0 < monitor.now ∧ (monitor.pmu 1).run = .sends 2 ∧
    evEn (look 0 (monitor.pmu 1).evsel 0) = true ∧ evEvent (look 0 (monitor.pmu 1).evsel 0) = 0x0B ∧
    evFilt (look 0 (monitor.pmu 1).evsel 0) = false ∧ evIrq (look 0 (monitor.pmu 1).evsel 0) = true ∧
    (∀ j, j < 8 → j ≠ 0 → evEn (look 0 (monitor.pmu 1).evsel j) = false) ∧
    2 ^ 48 ≤ look 0 (monitor.pmu 1).cnt 0 + 6 * (monitor.now - 0) ∧
    0 < cycNow monitor 1 ∧ cycNow monitor 1 < 2 ^ 64 ∧ (monitor.core 1).state = .run ∧
    ({ monitor with cox := { monitor.cox with freeze := true } } : State).cox.freeze = true := by decide

/-! ## Witnesses: waveform memory, streams, check values -/

theorem witness_MemoryStoresExactly : wf (0 : Byte) [(5, 1), (7, 2)] = true ∧ wf (0 : Byte) up.boat.mem = true ∧
    wf (0xFF : Byte) up.nvm.mem = true ∧ wf (0xFF : Byte) [(5, 0)] = true := by decide

/-- The pool is ready; the host holds page 800, and page 801 is being scrubbed. -/
def pool : State :=
  { host with boat := { host.boat with ready := true, pages := [(800, { state := .held, holder := 0x400, gen := 1 }), (801, { state := .scrub })] } }

theorem held_pool : heldPages pool 0x400 = [800] ∧ heldPages pool 0x102 = [] ∧ heldPages pool 0x101 = [] := by decide +kernel
theorem held_host : heldPages host 0x400 = [] := by
  unfold heldPages
  rw [List.filter_eq_nil_iff]; intro p _; simp [State.page, host, up, State.reset, look]

/-- A capture of the host that is full and may be evicted, in page 800. -/
def oldCapture : Capture := { serial := 1, ctx := 0, holder := 0x400, chan := some 3, pages := [(800, 1)], evict := true, filling := false }

theorem witness_PagesOfTheBoathouse :
    budgetOf pool 0x400 = 512 ∧ (heldPages pool 0x400).length = 1 ∧ (freePages pool).head? = some 802 ∧
    budgetOf pool 0x102 < (heldPages pool 0x102).length + 1 ∧ freePages host = [] ∧ (heldPages host 0x400).length + 1 ≤ 512 ∧
    (let s := { pool with boat := { pool.boat with evicting := true } }
     s.boat.evicting = true ∧ (evictChoice s).isNone = true) ∧
    (let s := { pool with boat := { pool.boat with evicting := true, caps := [oldCapture] } }
     s.boat.evicting = true ∧ 0 < s.boat.reclaim ∧ evictChoice s = some oldCapture ∧ oldestPage s oldCapture = some 800) ∧
    pool.boat.evicting = false ∧
    (pool.page 801).state = .scrub ∧ refPage pool 0x400 (pageRef (800, 1)) = some 800 ∧
    refPage pool 0x400 (pageRef (800, 2)) = none ∧ (pool.page 800).state = .held ∧ (pool.page 800).holder = 0x400 ∧
    (pool.page 4095).state ≠ .held := by
  refine ⟨by decide, ?_, by decide +kernel, ?_, by decide, ?_, by decide, by decide, rfl, rfl, by decide, by decide, rfl, rfl, by decide⟩
  · rw [held_pool.1]; rfl
  · rw [held_pool.2.1]; decide
  · rw [held_host]; decide

/-- The pool, two tasks with a budget of four pages each. -/
def budgets : State := { pool with cox := { pool.cox with tasks := [(1, { w4 := 0x40000 }), (2, { w4 := 0x40000 })] } }

theorem witness_TwoRequestsOfOneInstant : (3 : Nat) < 4 ∧ (0x101 : Nat) ≠ 0x102 ∧
    (heldPages budgets 0x101).length + 1 ≤ budgetOf budgets 0x101 ∧ (heldPages budgets 0x102).length + 1 ≤ budgetOf budgets 0x102 ∧
    (freePages budgets).take 2 = [802, 803] := by
  have h1 : heldPages budgets 0x101 = [] := held_pool.2.2
  have h2 : heldPages budgets 0x102 = [] := held_pool.2.1
  rw [h1, h2]
  decide +kernel

/-- The pool with a channel that runs and has a frame for the memory, its stream at its last frame. -/
def streaming : State :=
  { budgets with
    afe := { host.afe with ch := [(31, { state := .run, frame := some (List.replicate 17 5) })] }
    boat := { budgets.boat with streams := [(31, { next := 1504 })] } }

theorem witness_StreamsAndCaptures :
    (streaming.ain 31).frame = some (List.replicate 17 5) ∧ hookMet streaming (onStream 31) = none ∧
    (∀ c ∈ streaming.boat.caps, c.filling = true → c.chan ≠ some 31) ∧ (look {} streaming.boat.streams 31).next = 1504 ∧
    (look {} streaming.boat.streams 30).next = 0 ∧ bits (0x1000001F : Word) 31 24 = 0x10 ∧ bits (0x1000001F : Word) 4 0 = 31 ∧
    fillingCount streaming < 64 ∧ channelReady streaming 31 = true ∧ channelReady streaming 30 = false ∧
    pagesFor (bits (4095 : Word) 15 0 + 1) = 4 ∧ (heldPages streaming 0x102).length + 4 ≤ budgetOf streaming 0x102 ∧
    (pagesFor (bits (0xFFFF001F : Word) 31 16 + 1)) = 64 ∧ (heldPages streaming 0x400).length + 64 ≤ streaming.boat.hostBudget ∧
    64 ≤ (freePages streaming).length := by
  have h1 : heldPages streaming 0x102 = [] := held_pool.2.1
  have h2 : heldPages streaming 0x400 = [800] := held_pool.1
  have h3 : ((freePages streaming).take 64).length = 64 := by decide +kernel
  rw [h1, h2]
  refine ⟨rfl, hookless _ rfl _, ?_, rfl, rfl, rfl, rfl, ?_, rfl, rfl, rfl, ?_, rfl, ?_, ?_⟩
  · decide +kernel
  · decide +kernel
  · decide +kernel
  · decide +kernel
  · rw [List.length_take] at h3; omega

theorem witness_StreamsResume : ParametersFit {} ∧ ParametersFit { cfg := 0x00200305, poly := 5, init := 31 } ∧
    SameParameters {} { reg := 7 } ∧ ctxLive (fedWords [1] (crcStart {})) 0x20 = some (fedWords [1] (crcStart {})).reg := by
  refine ⟨⟨rfl, rfl⟩, ⟨rfl, rfl⟩, ⟨rfl, rfl, rfl, rfl, rfl, rfl⟩, by decide +kernel⟩

/-- The admitted module with CM context 8. -/
def context (c : CrcCtx) : State := { host with crc := { host.crc with ctx := [(8, c)] } }

theorem witness_CheckValueContexts :
    crcFoldN ((context { expect := 1 }).ctx 8) = 0 ∧ crcFoldN ((context { cfg := 0x00200720 }).ctx 8) = 1 ∧
    crcFoldN ((context { cfg := 0x00200B20 }).ctx 8) = 2 ∧ crcResult ((context { expect := 1 }).ctx 8) ≠ ((context { expect := 1 }).ctx 8).expect ∧
    crcResult (host.ctx 8) = (host.ctx 8).expect ∧
    ({ host with alarm := [(3, { next := some [1] })] } : State).alarmE 3 = { next := some [1] } := by decide +kernel

/-! ## Witnesses: self-test -/

/-- The admitted module after its boot slices, in SCULLING, with what the controller holds changed. -/
def tested (f : Bist → Bist) : State :=
  { host with seat := { host.seat with state := .sculling }, bist := f { host.bist with bootDone := true } }

/-- Every signature is reached: the MISR can hold a value that gives it after the count. -/
theorem misr_reaches (y : U64) (w : Word) : ∃ m, misrFeed m w = y := by
  have hz : (if (y ^^^ w.setWidth 64).getLsbD 0 then (y ^^^ w.setWidth 64) ^^^ 0x1B else y ^^^ w.setWidth 64).getLsbD 0 = false := by
    split <;> simp_all
  generalize hg : y ^^^ w.setWidth 64 = z at hz
  have hy : y = z ^^^ w.setWidth 64 := by rw [← hg, BitVec.xor_assoc, BitVec.xor_self, BitVec.xor_zero]
  have back : ∀ (v : U64) (b : Bool), v.getLsbD 0 = false →
      (BitVec.cons b (v.extractLsb' 1 63)).msb = b ∧ (BitVec.cons b (v.extractLsb' 1 63) : BitVec (63+1)) <<< 1 = v := by
    intro v b h
    refine ⟨by simp, ?_⟩
    apply BitVec.eq_of_getLsbD_eq
    intro i hi
    rw [BitVec.getLsbD_shiftLeft, BitVec.getLsbD_cons]
    by_cases h0 : i = 0
    · subst h0; simpa [BitVec.getLsbD] using h
    · have : 1 + (i - 1) = i := by omega
      have hi' : i < 64 := hi
      have e : ¬ i - 1 = 63 := by omega
      have e2 : ¬ i < 1 := by omega
      have e3 : i - 1 < 63 := by omega
      simp only [hi, decide_true, e2, decide_false, Bool.not_false, Bool.and_self, Bool.true_and, if_neg e, BitVec.getLsbD_extractLsb', this, e3]
  by_cases hb : z.getLsbD 0
  · rw [if_pos hb] at hz
    obtain ⟨h1, h2⟩ := back _ true hz
    refine ⟨BitVec.cons true ((z ^^^ 0x1B).extractLsb' 1 63), ?_⟩
    unfold misrFeed
    rw [if_pos h1, h2, BitVec.xor_assoc z, BitVec.xor_self, BitVec.xor_zero, ← hy]
  · rw [if_neg hb] at hz
    obtain ⟨h1, h2⟩ := back _ false hz
    refine ⟨BitVec.cons false (z.extractLsb' 1 63), ?_⟩
    unfold misrFeed
    rw [h1, if_neg (by decide), h2, ← hy]

theorem witness_SelfTestSlicesAndCommands :
    (let s := (tested id).setMgr .l3 { sliceReq := true }
     s.bist.bootDone = true ∧ (s.mgr .l3).sliceReq = true ∧ laneBusy s = false ∧ s.seat.state ≠ .start) ∧
    (let s := { tested (fun b => { b with turn := 1 }) with
       now := 6000000000, cox := { host.cox with cores := [(1, { state := .run, en := true, task := some 2 })] } }
     s.bist.coreEn = true ∧ s.sec.power = 0 ∧ s.bist.coreAt + s.bist.period * secTicks ≤ s.now ∧ s.bist.ctrlFail = false ∧
     (s.core s.bist.turn).state = .run) ∧
    SliceMayStart (tested fun b => { b with units := [(3, { pending := true })] }) 3 ∧
    SliceMayStart { host with bist := { host.bist with boot := [5, 4, 1] } } 5 ∧
    wf {} (tested fun b => { b with units := [(3, { pending := true })] }).bist.units = true ∧
    (∀ u, ∃ misr, sliceSig misr (fullCount u) = expectedSig u) ∧
    (let s := { tested (fun b => { b with running := some 3 }) with now := 19800000 }
     s.bist.running = some 3 ∧ 10 * (s.now - s.bist.started) ≤ 11 * sliceTicks 3 ∧ laneUnpowered s (laneOf 3) = false ∧
     11 * sliceTicks 3 ≤ 10 * (s.now - s.bist.started)) ∧
    (let s := { tested (fun b => { b with running := some 3 }) with now := 19799999 }
     10 * (s.now - s.bist.started) < 11 * sliceTicks 3) := by
  refine ⟨by decide, by decide, by unfold SliceMayStart; decide, by unfold SliceMayStart; decide, rfl,
    fun u => misr_reaches _ _, by decide, by decide⟩

theorem witness_SelfTestSlicesAndCommands_requests :
    Admitted (tested id) .spi rightOps ∧ bits (8 : Word) 3 0 = 8 ∧ bits (15 : Word) 3 0 = 15 ∧ bits (3 : Word) 3 0 = 3 ∧
    (tested id).sec.power = 0 ∧ (tested id).bist.ctrlFail = false ∧ (tested id).bist.bootDone = true ∧
    notRetired (tested id) (laneOf 3) = true ∧ notRetired ((tested id).setMgr .l3 { phase := .retired }) (laneOf 3) = false ∧
    (let s := { tested id with sec := { host.sec with power := 2 } }
     Admitted s .spi rightOps ∧ s.sec.power = 2) ∧ Admitted host .spi rightOps ∧ host.bist.bootDone = false := by
  refine ⟨⟨rfl, rfl, rfl, rfl, rfl, emptyFlash _ rfl⟩, by decide, by decide, by decide, rfl, rfl, rfl, by decide, by decide,
    ⟨⟨rfl, rfl, rfl, rfl, rfl, emptyFlash _ rfl⟩, rfl⟩, witness_Admitted.1, rfl⟩

theorem witness_CoreSliceClearsCounters :
    SliceMayStart { tested (fun b => { b with units := [(8, { pending := true })] }) with
      cox := { host.cox with cores := [(0, { state := .bist, bistOff := true, en := true })] } } (coreUnit 0) := by
  unfold SliceMayStart; decide

/-! ## Witnesses: the step and its invariants -/

theorem witness_StepRunsFrontCommand : up.pending = [] ∧ up.sys.up = true ∧ State.reset.pending = [] ∧ State.reset.sys.up = false :=
  ⟨rfl, rfl, rfl, rfl⟩

theorem witness_StepKeepsMemoriesCanonical : MemoriesCanonical State.reset ∧
    MemoriesCanonical { pool with boat := { pool.boat with mem := [(4096 * 800, 9)] } } ∧
    ∃ t, step { up with pending := [.hspiAbort] } = .next t :=
  ⟨⟨rfl, rfl⟩, ⟨rfl, rfl⟩, _, rfl⟩

theorem witness_LifecycleOnlyAdvances : LifecycleLegal State.reset ∧
    LifecycleLegal { up with otp := { up.otp with lc := 2, lcNext := 2, small := true } } ∧
    ∃ t, exec .safetyCycleBoundary up = .next t :=
  ⟨⟨by decide, by decide, by decide⟩, ⟨by decide, by decide, fun _ => ⟨rfl, rfl⟩⟩, _, rfl⟩

/-! ## Witnesses: start-up, image writes, the log -/

/-- An image whose SAFETY section is `flashSafety`, with its commit record, spelt as R344 to R346 say; its check values are
computed by hand. -/
def flashSafety : List Byte := leBytes 4 4 ++ [1, 2, 3, 4]
def flashHead : List Byte :=
  leBytes 0x9640C0F6 4 ++ [1, 0, 0, 0] ++ leBytes 1 4 ++ leBytes 264 4 ++
  leBytes 0 4 ++ leBytes 256 4 ++ leBytes 8 4 ++ leBytes 0xCC62F7D4 4 ++
  leBytes 0 4 ++ leBytes 264 4 ++ List.replicate 8 0 ++ leBytes 0 4 ++ leBytes 264 4 ++ List.replicate 8 0 ++
  leBytes 0 4 ++ leBytes 264 4 ++ List.replicate 8 0
def flashRecord : List Byte := leBytes 0x3C9A51E7 4 ++ leBytes 0 4 ++ leBytes 0x110 4 ++ List.replicate 48 0
def flashHeader : List Byte :=
  flashHead ++ leBytes 0xBFBB69BB 4 ++ List.replicate 104 0 ++ leBytes 0x1C09AE0C 4 ++ flashRecord ++ leBytes 0x2CB6D8EC 4

/-- A check value from the register after the bytes. -/
theorem crc_of_run {bs : List Byte} {c : Word} (h : bs.foldl crc32cByte 0xFFFFFFFF#32 = c) :
    crc32cBytes bs = c ^^^ 0xFFFFFFFF#32 := by rw [← h]; rfl

theorem run_head : flashHead.foldl crc32cByte 0xFFFFFFFF#32 = 0xA5162BF5#32 := by
  have e : flashHead = flashHead.take 40 ++ flashHead.drop 40 := by decide
  rw [e, List.foldl_append, show (flashHead.take 40).foldl crc32cByte 0xFFFFFFFF#32 = 0xF9BCA2EC#32 by decide +kernel]
  decide +kernel

theorem run_front : (flashHeader.take 0xBC).foldl crc32cByte 0xFFFFFFFF#32 = 0xE3F651F3#32 := by
  have e : flashHeader.take 0xBC = flashHead ++ (leBytes 0xBFBB69BB 4 ++ List.replicate 52 0) ++ List.replicate 52 0 := by decide +kernel
  have m : List.foldl crc32cByte 0xA5162BF5#32 (leBytes 0xBFBB69BB 4 ++ List.replicate 52 0) = 0x4A0C6631#32 := by decide +kernel
  rw [e, List.foldl_append, List.foldl_append, run_head, m]
  decide +kernel

theorem run_icrc : (flashHead ++ flashSafety).foldl crc32cByte 0xFFFFFFFF#32 = 0x40449644#32 := by
  rw [List.foldl_append, run_head]; decide +kernel

/-- The header is valid in a bank of 4 MiB flash. -/
theorem flash_headerOk : headerOk 1507328 flashHeader = true := by
  have h1 : imageHeadOk 1507328 flashHeader = true := by
    unfold imageHeadOk
    rw [show crc32cBytes (flashHeader.take 0xBC) = 0x1C09AE0C#32 from crc_of_run run_front]
    decide +kernel
  have h2 : commitOk flashHeader = true := by decide +kernel
  simp [headerOk, h1, h2]

/-- The flash of 4 MiB with that image in bank A. -/
def flash : Nvm :=
  { usable := true, sizeLog2 := 22, mem := ((List.range 264).zip (flashHeader ++ flashSafety)).filter (fun e => decide (e.2 ≠ 0xFF)) }

/-- The running module with that flash, the full pass over bank A running. -/
def passing : State :=
  { up with
    nvm := { flash with passing := some 0, staged := flashSafety }
    bist := { up.bist with units := [(4, { last := 1 }), (5, { last := 1 })] } }

theorem flash_header : bankHeader passing.nvm 0 = flashHeader := by decide +kernel
theorem flash_banks : bankHeaderOk passing.nvm 0 = true ∧ bankHeaderOk passing.nvm 1 = false := by
  refine ⟨?_, by decide +kernel⟩
  unfold bankHeaderOk
  rw [flash_header, show bankSize passing.nvm = 1507328 by decide +kernel, flash_headerOk]
  rfl

/-- The body of an image that stands at `base` with that header is valid, unless its consumers refuse it, which the spec
leaves open. -/
theorem flash_body (s : State) (base : Nat) (ho : Config.loadRefused flashSafety = false)
    (ha : allSections s.nvm base flashHeader = flashSafety)
    (h0 : secBytes s.nvm base flashHeader 0 = flashSafety) (h1 : secBytes s.nvm base flashHeader 1 = [])
    (h2 : secBytes s.nvm base flashHeader 2 = []) (h3 : secBytes s.nvm base flashHeader 3 = [])
    (hh : hmacInvalid s base flashHeader = false) : bodyReason s base flashHeader = 0 := by
  have e : (List.range 4).any (fun i => decide (secCrc flashHeader i ≠ (crc32cBytes (secBytes s.nvm base flashHeader i)).toNat)) = false := by
    rw [show List.range 4 = [0, 1, 2, 3] from rfl]
    simp only [List.any_cons, List.any_nil, h0, h1, h2, h3]
    decide +kernel
  have e2 : Machine.field flashHeader 0x50 4 = (crc32cBytes (flashHead ++ flashSafety)).toNat := by
    rw [show crc32cBytes (flashHead ++ flashSafety) = 0xBFBB69BB#32 from crc_of_run run_icrc]; decide +kernel
  have e3 : flashHeader.take 0x50 = flashHead := by decide +kernel
  have e4 : fieldLenBad flashSafety = false := by decide +kernel
  have e5 : hdrRes flashHeader = 0 := by decide +kernel
  unfold bodyReason
  rw [ha, h0, e3, ← e2]
  simp only [e, hh, e4, e5, ho]
  simp

theorem flash_reason (ho : Config.loadRefused flashSafety = false) : bankReason passing 0 = 0 := by
  have e : hasAuthority flashHeader (validHeader passing.nvm (1 - 0)) = true := by decide +kernel
  have b := flash_body passing 0 ho (by decide +kernel) (by decide +kernel) (by decide +kernel) (by decide +kernel)
    (by decide +kernel) (by decide +kernel)
  unfold bankReason
  simp only [flash_header, show bankBase passing.nvm 0 = 0 by decide, flash_banks.1, e, b]
  rfl

theorem witness_StartUp :
    (up.unit 5).last ≠ 1 ∧ (passing.unit 5).last = 1 ∧ passing.nvm.started = false ∧ flashUsable {} = true ∧
    flashUsable { sizeLog2 := 21 } = false ∧ flashUsable { sizeLog2 := 26 } = true ∧ passing.otp.lc ≠ 2 ∧
    host.nvm.armed = true ∧ passing.nvm.armed = false ∧ passing.nvm.passing = some 0 ∧ bankReason up 0 ≠ 0 ∧
    (let s := passing.setMgr .l1 { tested := true }
     safetySource s = some (flashSafety, 0) ∧ (s.mgr .l1).phase = .start ∧ (s.mgr .l1).tested = true ∧
     (s.mgr .l1).loaded = false ∧ laneUnpowered s .l1 = false ∧ (s.unit 4).last = 1 ∧ s.nvm.fieldLoaded = false) ∧
    (let s := { host with nvm := { flash with armed := true } }
     s.nvm.armed = true ∧ s.nvm.logReady = false) ∧ host.nvm.logReady = true ∧
    ({ passing with nvm := { passing.nvm with wr := { step := 1, state := 1 } } } : State).nvm.wr.step ≠ 0 := by decide +kernel

/-- The admitted module whose flash a write of `w` changes. -/
def writing (w : ImgWrite) : State := { host with nvm := { flash with logReady := true, wr := w } }

/-- A first commit, its seal closed, by the session of slot 0. -/
def committing : State :=
  let t := writing { state := 3, step := 4, target := 1, sealOk := true, slot := some 0, header := flashHeader }
  { t with nvm := { t.nvm with
      mem := t.nvm.mem ++ (List.range 8).zipWith (fun i b => (1507584 + i, b)) flashSafety
      net := { slots := [(0, { rights := 0xF, defined := true })] } } }

/-- The commit is accepted unless the image's consumers refuse it, which the spec leaves open. -/
theorem committing_cause (ho : Config.loadRefused flashSafety = false) : commitCause committing = 0 := by
  have h0 : bankBase committing.nvm committing.nvm.wr.target = 1507328 := by decide +kernel
  have hw : committing.nvm.wr.header = flashHeader := rfl
  have h5 := flash_body committing 1507328 ho (by decide +kernel) (by decide +kernel) (by decide +kernel) (by decide +kernel)
    (by decide +kernel) (by decide +kernel)
  have h7 : ¬ bankSize committing.nvm < hdrLength flashHeader := by decide +kernel
  have h8 : imageHeadOk (bankSize committing.nvm) flashHeader = true := by
    have := flash_headerOk
    simp only [headerOk, Bool.and_eq_true] at this
    rw [show bankSize committing.nvm = 1507328 by decide +kernel]; exact this.1
  have h9 : slotRight committing committing.nvm.wr rightCm = true ∧ slotRight committing committing.nvm.wr rightUser = true ∧
    slotRight committing committing.nvm.wr rightNet = true := by decide +kernel
  have h10 : committing.nvm.wr.sealOk = true ∧ committing.nvm.cmChanged = false ∧ committing.nvm.armed = false := by decide +kernel
  unfold commitCause
  simp only [hw, h0, h5, if_neg h7, h8, h9, h10]
  simp

theorem witness_ImageWrites :
    (writing {}).crc.katFail = false ∧
    ({ writing {} with crc := { (writing {}).crc with katFail := true } } : State).crc.katFail = true ∧
    ({ writing {} with nvm := { (writing {}).nvm with wp := true } } : State).nvm.wp = true ∧
    (writing { step := 6, byModule := true }).nvm.wr.byModule = true ∧
    (writing {}).nvm.wr.step = 0 ∧ (writing {}).nvm.usable = true ∧ (writing {}).nvm.wp = false ∧
    (writing { step := 2, state := 2 }).nvm.wr.state = 2 ∧ (writing { step := 2, state := 2 }).nvm.wr.byModule = false ∧
    logFull (writing {}).nvm = false ∧
    (let s := { host with nvm := { flash with logReady := true, logNext := 8177, wr := { step := 2, state := 2 } } }
     s.nvm.wr.state = 2 ∧ logFull s.nvm = true) ∧
    (writing { step := 5 }).nvm.wr.step = 5 ∧ (writing { step := 6, state := 4 }).nvm.wr.step = 6 ∧
    committing.nvm.wr.step = 4 ∧ commitCause (writing { step := 4, state := 3 }) ≠ 0 ∧
    (let s := { writing {} with now := 100000005, nvm := { (writing {}).nvm with cmUnsaved := some 5 } }
     persistDue s = true) ∧
    (let s := { writing {} with now := 100000004, nvm := { (writing {}).nvm with cmUnsaved := some 5 } }
     persistDue s = false) := by decide +kernel

theorem witness_LogAndChanges :
    Admitted host .spi rightCm ∧ cmValueOk host (.alarm 0 [0, 0x3F800000, 0x40000000, 0, 0, 0, 0, 0]) = true ∧
    host.nvm.armed = true ∧ host.sec.power = 0 ∧ host.nvm.imgPending = false ∧ host.nvm.wr.byModule = false ∧
    cmValueOk host (.alarm 0 []) = false ∧ hasRight host (.udp 1) rightCm = false ∧
    (let s := { host with nvm := { host.nvm with cm := { host.nvm.cm with rings := [(1, { book := [(7, 3, 20)] })] } } }
     cmValueOk s (.interval 1 7 10) = true ∧ cmValueOk s (.interval 1 7 9) = false ∧ cmValueOk s (.interval 1 8 10) = false) ∧
    (let s := { host with nvm := { host.nvm with logSeq := 9, logAck := 5 } }
     s.nvm.logReady = true ∧ ((8 : Word).toNat + 4294967296 - s.nvm.logAck) % 4294967296 < logUnexported s.nvm ∧
     logUnexported s.nvm ≤ ((9 : Word).toNat + 4294967296 - s.nvm.logAck) % 4294967296) ∧
    (let s := { writing {} with nvm := { (writing {}).nvm with logErasing := true, logNext := 8191 } }
     MemoriesCanonical s ∧ s.nvm.logReady = true ∧ s.nvm.logErasing = true ∧ s.nvm.usable = true ∧ s.nvm.wp = false ∧
     s.nvm.logNext < 8192) := by
  refine ⟨⟨rfl, rfl, rfl, rfl, rfl, emptyFlash _ rfl⟩, by decide +kernel, rfl, rfl, rfl, rfl, rfl, rfl, by decide, by decide,
    ⟨⟨rfl, ?_⟩, rfl, rfl, ?_, ?_, ?_⟩⟩ <;> decide +kernel

/-! ## Witnesses: seal, logins, keys, debug levels, power -/

theorem witness_SealInputs :
    host.now < (host.sec.sealSamples + 1) * 100000 ∧
    (let s := { host with now := 2000000, sec := { host.sec with sealSamples := 19, sealRunA := 19 } }
     (s.sec.sealSamples + 1) * 100000 ≤ s.now ∧ true ≠ s.sec.sealA ∧ s.sec.sealRunA = 19 ∧ s.sec.sealRunB ≠ 19) ∧
    (let s := { host with sec := { host.sec with sealA := true, sealDiffRun := 1000 } }
     s.sec.sealDiffRun = 1000 ∧ s.sec.sealDisc = false) ∧ host.sec.sealDiffRun ≠ 1000 ∧
    (let s := { host with sec := { host.sec with sealA := true, sealDisc := true } }
     s.sec.sealDisc = true) := by decide

/-- Thirty-two bytes as the eight words of a response or token register. -/
def words8 (bs : List Byte) : Tab Word := (List.range 8).map (fun i => (i, BitVec.ofNat 32 (ofLe ((bs.drop (4 * i)).take 4))))

theorem le_take4 (bs : List Byte) (h : 4 ≤ bs.length) : leBytes (BitVec.ofNat 32 (ofLe (bs.take 4))).toNat 4 = bs.take 4 := by
  match bs, h with
  | a :: b :: c :: d :: r, _ =>
    have ha := a.isLt; have hb := b.isLt; have hc := c.isLt; have hd := d.isLt
    simp only [List.take_succ_cons, List.take_zero, ofLe, BitVec.toNat_ofNat, leBytes]
    rw [Nat.mod_eq_of_lt (by omega)]
    simp only [List.cons.injEq, and_true]
    refine ⟨?_, ?_, ?_, ?_⟩ <;> (apply BitVec.eq_of_toNat_eq; simp only [BitVec.toNat_ofNat]; omega)

theorem regBytes_words8 (bs : List Byte) (h : bs.length = 32) : regBytes (words8 bs) = bs := by
  have t (i : Nat) (hi : 4 * i + 4 ≤ 32) := le_take4 (bs.drop (4 * i)) (by simp; omega)
  have e : regBytes (words8 bs) = (List.range 8).flatMap (fun i => (bs.drop (4 * i)).take 4) := by
    rw [show List.range 8 = [0, 1, 2, 3, 4, 5, 6, 7] from rfl]
    simp only [regBytes, show List.range 8 = [0, 1, 2, 3, 4, 5, 6, 7] from rfl, List.flatMap_cons, List.flatMap_nil]
    rw [← t 0, ← t 1, ← t 2, ← t 3, ← t 4, ← t 5, ← t 6, ← t 7] <;> first | rfl | decide
  have c (n : Nat) : (bs.drop n).take 4 ++ bs.drop (n + 4) = bs.drop n := by
    rw [← List.drop_drop]; exact List.take_append_drop 4 (bs.drop n)
  rw [e, show List.range 8 = [0, 1, 2, 3, 4, 5, 6, 7] from rfl]
  simp only [List.flatMap_cons, List.flatMap_nil]
  have l : bs.drop (28 + 4) = [] := by simp [h]
  rw [← l, c 28, c 24, c 20, c 16, c 12, c 8, c 4]
  exact c 0

theorem hmac_length (k m : List Byte) : (hmac k m).length = 32 := by
  simp [hmac, sha256, beBytes, leBytes] <;> decide

/-- Slot 3 is defined, port 1 holds a nonce, and its response is right. -/
def answering : State :=
  { host with
    nvm := { host.nvm with net := { slots := [(3, { salt := [1], hash := [2], rights := 1, defined := true })] } }
    sec := { host.sec with ports := [(2, { nonce := some [7], resp := words8 (hmac [2] ([7] ++ [3])) })] } }

theorem answering_right : RightResponse answering (.udp 1) 3 [7] := by
  unfold RightResponse
  exact regBytes_words8 _ (hmac_length _ _)

theorem witness_Logins :
    Judged answering (.udp 1) 3 [7] ∧ (answering.login (.udp 1)).used = false ∧ RightResponse answering (.udp 1) 3 [7] ∧
    (otherSessions answering (.udp 1)).length < 4 ∧ (answering.slotCnt 3).fails < 2 ∧
    (let s := { answering with sec := { answering.sec with
       ports := [(2, { nonce := some [7], used := true })], slots := [(3, { fails := 2 })] } }
     Judged s (.udp 1) 3 [7] ∧ (s.login (.udp 1)).used = true ∧ 2 ≤ (s.slotCnt 3).fails) ∧
    (let s := { answering with sec := { answering.sec with sessions := (List.range 4).map (fun k => ⟨.udp (k + 2), k, 1, 0⟩) } }
     Judged s (.udp 1) 3 [7] ∧ RightResponse s (.udp 1) 3 [7] ∧ 4 ≤ (otherSessions s (.udp 1)).length) ∧
    (host.login .spi).nonce = none ∧ (pwSlot answering 2).defined = false ∧
    slotLocked { host with sec := { host.sec with slots := [(3, { lockUntil := some 1 })] } } 3 = true := by
  refine ⟨⟨rfl, rfl, rfl, by decide⟩, rfl, answering_right, by decide, by decide, ⟨⟨rfl, rfl, rfl, by decide⟩, rfl, by decide⟩,
    ⟨⟨rfl, rfl, rfl, by decide⟩, answering_right, by decide⟩, rfl, rfl, rfl⟩

/-- The module in HOLD with its seal closed, in lifecycle state `lc`, a token of `level` under the key `[9]` presented. -/
def fused (lc level : Nat) : State :=
  { host with
    otp := { host.otp with lc, lcNext := lc, debugKey := some [9], vendorKey := some [9] }
    sec := { host.sec with
      power := 2, sealA := true, sealB := true, chal := some [5],
      tok := words8 (hmac [9] ([5] ++ leBytes host.otp.uid.toNat 8 ++ [BitVec.ofNat 8 level])) } }

theorem fused_token (lc level : Nat) : GoodToken (fused lc level) (some [9]) level := by
  refine ⟨[5], [9], rfl, rfl, ?_, rfl, rfl, rfl, ?_⟩
  · simp [fused, host, up, State.reset]
  · have h := regBytes_words8 _ (hmac_length [9] ([5] ++ leBytes host.otp.uid.toNat 8 ++ [BitVec.ofNat 8 level]))
    simpa only [fused] using h

theorem witness_LifecycleDebugKeys :
    (let s := fused 0 1
     s.otp.lc = 0 ∧ s.sec.power = 2 ∧ s.sec.debug = 0 ∧ sealClosed s = true ∧ s.otp.lcNext ≠ 2 ∧ s.otp.imageKey = none ∧
     (0x9 : Word).getLsbD 3 = true ∧ bits (0x9 : Word) 1 0 = 1 ∧ bits (0xA : Word) 1 0 = 2 ∧ s.otp.debugKey.isSome = true) ∧
    (host.otp.debugKey = none ∧ sealClosed host = false) ∧
    ((fused 1 3).otp.lc ≤ 1 ∧ (fused 1 3).sec.power = 2 ∧ sealClosed (fused 1 3) = true ∧
     GoodToken (fused 1 3) (fused 1 3).otp.vendorKey 3) ∧
    ((fused 1 1).otp.lc = 1 ∧ GoodToken (fused 1 1) (fused 1 1).otp.debugKey 1) ∧
    ((fused 2 1).otp.lc = 2 ∧ GoodToken (fused 2 1) (fused 2 1).otp.vendorKey 1) ∧
    ((fused 0 2).otp.lc ≠ 1 ∧ (fused 0 2).nvm.wr.step = 0 ∧ GoodToken (fused 0 2) (fused 0 2).otp.vendorKey 2) ∧
    ¬ GoodToken host host.otp.vendorKey 3 ∧ ¬ GoodToken { fused 1 1 with sec := { (fused 1 1).sec with chal := none } } (some [9]) 1 ∧
    ({ host with sec := { host.sec with debug := 1 } } : State).sec.debug = 1 ∧
    ({ host with sec := { host.sec with debug := 2 } } : State).sec.debug = 2 ∧
    ({ fused 0 0 with otp := { (fused 0 0).otp with imageKey := some [1] } } : State).otp.imageKey.isSome = true := by
  refine ⟨by decide +kernel, ⟨rfl, rfl⟩, ⟨by decide, rfl, rfl, fused_token 1 3⟩, ⟨rfl, fused_token 1 1⟩, ⟨rfl, fused_token 2 1⟩,
    ⟨by decide, rfl, fused_token 0 2⟩, ?_, ?_, rfl, rfl, rfl⟩
  · rintro ⟨c, k, h, -⟩; cases h
  · rintro ⟨c, k, h, -⟩; cases h

theorem witness_PowerRequests :
    (let s := { host with seat := { host.seat with holdInForce := true } }
     s.seat.holdInForce = true ∧ startFault s = false ∧ s.sec.debug ≠ 2 ∧ s.otp.lc ≠ 2 ∧ s.sec.power ≠ 1) ∧
    (let s := { host with sec := { host.sec with power := 1 } }
     s.seat.holdInForce = false ∧ s.sec.power = 1 ∧ s.seat.holdReq = false ∧ s.sec.power ≠ 0 ∧ s.sec.power ≠ 2) ∧
    (let s := { host with sec := { host.sec with power := 1 }, seat := { host.seat with holdReq := true } }
     s.seat.holdInForce = false ∧ s.seat.holdReq = true) ∧
    host.sec.power = 0 ∧ host.seat.holdReq = false ∧ up.sec.power = 2 ∧ startFault up = false ∧
    (let s := { up with ump := { up.ump with lo := 0x800 } }
     s.sec.power = 2 ∧ startFault s = true) := by decide

/-! ## Witnesses: network, time, host protocols -/

/-- The admitted module 130 ms after reset, in PTP state 2 with a known path delay. -/
def slave : State :=
  { host with now := 13000000, net := { host.net with ptpState := 2, ptpDelay := some 100 } }

theorem witness_NetworkAndTime :
    switchUp host = false ∧ switchUp slave = true ∧ isGroupMac 0x010000000000 = true ∧ isGroupMac 1 = false ∧
    (slave.eth 0).groupSec = slave.now / 100000000 ∧ (slave.eth 0).groupCount < 10000 ∧
    (let s := slave.setEth 0 { groupCount := 10000 }
     (s.eth 0).groupSec = s.now / 100000000 ∧ 10000 ≤ (s.eth 0).groupCount ∧ switchUp s = true) ∧
    (let s := { slave with nvm := { slave.nvm with armed := false } }
     s.nvm.armed = false ∧ switchUp s = true) ∧ macPort (learn 1 0 slave) 1 = some 0 ∧ slave.otp.mac ≠ 1 ∧
    isGroupMac slave.otp.mac = false ∧
    ((slave.eth 0).polls + 1) * 10000000 ≤ slave.now ∧ host.now < ((host.eth 0).polls + 1) * 10000000 ∧
    (slave.eth 0).link = false ∧ (slave.eth 1).link = false ∧
    (slave.setEth 1 { link := true }).eth 1 = { link := true } ∧ slave.nvm.net.domain = 0 ∧
    ptpSlave slave = true ∧ slave.net.ptpDelay = some 100 ∧ slave.time.valid = false ∧
    ({ slave with time := { slave.time with valid := true } } : State).time.valid = true ∧
    (let s := { slave with net := { slave.net with ptpT12 := some (1, 2), ptpT3 := some 3 } }
     ptpSlave s = true ∧ s.net.ptpT12 = some (1, 2) ∧ s.net.ptpT3 = some 3) ∧ slave.net.ptpBest = none ∧
    (let s := { slave with now := 400000005, net := { slave.net with ptpSyncAt := some 5, ptpLocked := true } }
     ptpLostDue s = true) ∧
    (let s := { slave with now := 400000004, net := { slave.net with ptpSyncAt := some 5 } }
     s.net.ptpSyncAt = some 5 ∧ s.now < 5 + 400000000 ∧ s.net.ptpBadAt = none) ∧
    (let s := { host with nvm := { host.nvm with net := { slaveOnly := false } } }
     s.nvm.armed = true ∧ s.net.ptpState ≤ 1 ∧ s.nvm.net.slaveOnly = false) ∧ up.nvm.armed = false ∧
    ({ host with net := { host.net with ptpState := 4 } } : State).net.ptpState = 4 ∧
    (let s := { host with now := 100000000 }
     s.net.ppsAt ≠ s.timeNow / 100000000) ∧ host.net.ppsAt = host.timeNow / 100000000 := by decide +kernel

/-- An Announce of a clock better than the module's, and of a worse one, whatever quality and identity it has. -/
theorem witness_NetworkAndTime_clocks :
    clockBetter ⟨0, 0, 0, 0⟩ (ownClock { slave with nvm := { slave.nvm with net := { prio1 := 128 } } }) = true ∧
    clockBetter ⟨255, 0, 0, 0⟩ (ownClock { slave with nvm := { slave.nvm with net := { prio1 := 128, slaveOnly := false } } }) = false := by
  simp [clockBetter, ownClock]

theorem witness_HostProtocols :
    NewRequest host 7 (readRequest 5 0 1) ∧ NewRequest host 7 (writeRequest 5 0 [1]) ∧ NewRequest host 7 (bulkReadRequest 5 0 1) ∧
    NewRequest host 7 (requestBytes 0x10 5 0 0 0 []) ∧ rangeOk 0 256 = true ∧ rangeOk 0x14FFFC 1 = true ∧ rangeOk 2 1 = false ∧ rangeOk 0 0 = false ∧
    rangeOk 0 257 = false ∧ up.nvm.logReady = false ∧
    (let s := writing { state := 2, step := 2, target := 1 }
     s.nvm.wr.state = 2 ∧ s.nvm.wr.byModule = false ∧ keptResponse s 7 (bulkWriteRequest 5 512 [1, 2, 3, 4]) = none ∧ 512 % 256 = 0 ∧ 256 ≤ 512 ∧ 512 + 1024 ≤ bankSize s.nvm ∧
     bankSize s.nvm < 1507328 + 4 ∧ 1507328 % 256 = 0) ∧
    (writing { state := 2 }).nvm.wr.state = 2 ∧ host.net.subs.length < 4 ∧
    (let s := { host with net := { host.net with subs := [1, 2, 3, 4] } }
     4 ≤ s.net.subs.length ∧ 7 ∉ s.net.subs) ∧
    slotsFrom (opLogged .spi 0 [1] [2] host).nvm 0 ≠ [] ∧ slotsFrom host.nvm 5 = [] ∧
    keptResponse { host with net := { host.net with cache := [(7, readRequest 5 0 1, [5])] } } 7 (readRequest 5 0 1) = some [5] := by
  refine ⟨⟨rfl, rfl, rfl⟩, ⟨rfl, rfl, rfl⟩, ⟨rfl, rfl, rfl⟩, ⟨rfl, rfl, rfl⟩, by decide, by decide, by decide, by decide, by decide, rfl,
    by decide +kernel, rfl, by decide, by decide, by decide +kernel, by decide, by decide +kernel⟩

theorem witness_BulkWrite : MemoriesCanonical (writing { state := 2, step := 2, target := 1 }) := by
  unfold MemoriesCanonical; decide +kernel

/-! ## Witnesses: reset, supplies, clocks, hooks, accesses -/

theorem witness_ResetSources :
    State.reset.sys.vsysGood = false ∧ State.reset.sys.rstLow = false ∧ State.reset.sys.rails &&& 0x1F8#9 = 0 ∧
    vsysEdge 0 < 2400 ∧ 0 < vsysEdge 3 ∧
    (let s := { State.reset with sys := { State.reset.sys with rstLow := true } }
     s.sys.vsysGood = false ∧ s.sys.rstLow = true) ∧
    ({ State.reset with sys := { State.reset.sys with rails := 8 } } : State).sys.rails &&& 0x1F8#9 ≠ 0 ∧
    (let s := { up with sys := { up.sys with vsysGood := true } }
     s.sys.vsysGood = true ∧ s.sys.up = true ∧ s.nvm.wr.step ≠ 5 ∧ s.nvm.logErasing = false ∧
     wf ({} : Machine.Core) s.cox.cores = true) ∧
    (let s := { State.reset with sys := { State.reset.sys with rstLow := true, vsysGood := true } }
     s.sys.rstLow = true ∧ s.sys.vsysGood = true ∧ s.sys.up = false ∧ s.sys.off = false ∧ s.sys.rails &&& 0x1F8#9 = 0) ∧
    ({ State.reset with sys := { State.reset.sys with off := true } } : State).sys.off = true := by
  have h0 := Nat.mod_lt (Config.vsysTol 0) (by decide : 0 < 61)
  refine ⟨rfl, rfl, rfl, ?_, ?_, by decide, by decide, by decide, by decide, rfl⟩
  · simp only [vsysEdge]; omega
  · simp only [vsysEdge]; omega

theorem witness_SuppliesAndClocks :
    vsysBad 1000 = true ∧ vsysBad 2400 = false ∧ railIn 0 0 = false ∧ railIn 7 0 = false ∧ railIn 7 3300 = true ∧
    host.sys.rails.getLsbD 7 = false ∧ up.nvm.armed = false ∧ host.nvm.armed = true ∧ host.sys.laneOff.getLsbD 2 = false ∧
    laneOf (2 + 1) = .l3 ∧ clkGood 0 2200 = true ∧ clkGood 0 2800 = true ∧ clkGood 0 2199 = false ∧ clkGood 0 2801 = false ∧
    clkGood 12 8799 = false ∧ clkGood 19 3200 = true ∧ host.sys.clkOut.getLsbD 12 = false ∧
    ({ host with sys := { host.sys with clkOut := 0x1000 } } : State).sys.clkOut.getLsbD 12 = true ∧
    laneOf ((18 - 13) / 2 + 1) = .l3 ∧ (host.laneD .l3).faulty = none ∧ host.bist.running ≠ some (laneNo .l3) ∧
    laneUnpowered host .l3 = false ∧ ({ host with sys := { host.sys with pllB := true } } : State).sys.pllB = true ∧
    host.sys.pllA = false ∧
    (let s := { host with now := 100005, sys := { host.sys with spreadFrom := some 5 } }
     s.sys.spreadFrom = some 5 ∧ 5 + 100000 ≤ s.now) ∧
    (let s := { host with now := 100004, sys := { host.sys with spreadFrom := some 5 } }
     s.sys.spreadFrom = some 5 ∧ s.now < 5 + 100000) ∧
    host.now < (host.sys.tempReads + 1) * 100000 ∧
    (let s := { host with now := 100000 }
     (s.sys.tempReads + 1) * 100000 ≤ s.now) := by
  have h1 := Nat.mod_lt (Config.vsysTol 1) (by decide : 0 < 61)
  refine ⟨?_, ?_, by decide, by decide, by decide, by decide, rfl, rfl, by decide, rfl, by decide, by decide, by decide, by decide, by decide,
    by decide, by decide, by decide, by decide, rfl, by decide, by decide, rfl, rfl, by decide, by decide, by decide, by decide⟩
  · simp only [vsysBad, vsysEdge, Bool.or_eq_true, decide_eq_true_eq]; omega
  · simp only [vsysBad, vsysEdge, Bool.or_eq_false_iff, decide_eq_false_iff_not]; omega

theorem witness_SuppliesAndClocks_alarm : Unhooked host 0x002 4 := unhooked _ rfl _ _

/-- The admitted module in HOLD, whose validation hooks are open, hook 2 aimed at `tgt`. -/
def hooked (tgt cfg : Word) : State :=
  { host with sec := { host.sec with power := 2 }, hook := { host.hook with hooks := [(2, { tgt, cfg })] } }

/-- Hook 2 on the stream of channel 3 holds a record of it until tick 50. -/
def heldRecord : HeldItem := { hook := 2, tgt := 0x35, rel := 50, item := .streamFrameWrite 3 true }
def heldSample : HeldItem := { hook := 2, tgt := 0x34, rel := 50, item := .afeDecimatedSample 3 0 0 }

theorem witness_ValidationHooks :
    HooksOpen (hooked 0 0) .spi ∧ ((hooked 0 0).hk 2).cfg = 0 ∧ bits (0x45 : Word) 3 0 ≤ 5 ∧ 5 < bits (6 : Word) 3 0 ∧
    overlapsOther (hooked 0 0) 3 (0x45 &&& 0xFFFFF) = false ∧ overlapsOther (hooked 0x45 1) 3 0x45 = true ∧
    perturbOpen host (.udp 5) = false ∧ ((hooked 0x45 1).hk 2).cfg ≠ 0 ∧ cfgOk (hooked 0x45 0) 2 16383 = true ∧
    hookBound (hooked 0x45 0) ((hooked 0x45 0).hk 2).tgt 0x7FFF < bits (0x7FFF : Word) 13 0 + bits (0x7FFF : Word) 27 14 ∧
    bits ((hooked 0 0).hk 2).tgt 3 0 = 0 ∧ bits ((hooked 0x45 0).hk 2).tgt 3 0 ≠ 1 ∧ bits (0x10000001 : Word) 31 28 ≠ 0 ∧
    hookOn (hooked 0x35 7) (onStream 3) 2 = true ∧ (∀ m, m < 2 → hookOn (hooked 0x35 7) (onStream 3) m = false) ∧
    lastHeld { hooked 0x35 7 with hook := { (hooked 0x35 7).hook with held := [heldRecord] } } (onStream 3) = some heldRecord ∧
    heldBy host 2 = [] ∧
    (let s := { host with hook := { host.hook with held := [heldRecord] } }
     heldBy s 2 = heldRecord :: [] ∧ heldRecord.rel < s.t0 + 12500 ∧ itemBlocked s heldRecord.item = false ∧
     heldBehind s heldRecord = false) ∧
    (let s := { host with afe := { host.afe with ch := [(3, { ready := some 1 })] }, hook := { host.hook with held := [heldSample] } }
     heldBy s 2 = heldSample :: [] ∧ itemBlocked s heldSample.item = true) := by
  refine ⟨⟨by decide, by decide, rfl, by decide, rfl, emptyFlash _ rfl⟩, rfl, by decide, by decide, by decide, by decide, by decide,
    by decide, by decide, by decide, by decide, by decide, by decide, by decide, by decide, by decide, rfl, by decide, by decide⟩

theorem witness_RegisterAccesses : host.sys.up = true ∧ 0x20000 ≤ 0x703FC ∧ 0x703FC < 0x70400 ∧
    0x140000 ≤ 0x14FFFC := by decide

/-! ## The spec's worked examples -/

/-- 02_tag_fabric, a CIO command frame: the fold word of SRC 0x12A, SEQ 0x5C, class 2, two words. -/
theorem test_fold_word : foldWord 0x12A 0x5C 2 2 = 0x12A5C202 := by decide

/-- 13_check_value_units, the two short checks: the idle word's CHK. -/
theorem test_idle_word : chk4 0 0 = 0xF ∧ wordOk (0x0000000F, 0) = true := by decide +kernel

/-- 13_check_value_units: "1234", "5678" with LEN 32 and "9" with LEN 8 give 0xE306_9283 and WORDS 3. -/
theorem test_short_check :
    let c := crcDin 0x39 { fedWords [0x34333231, 0x38373635] (crcStart {}) with cfg := 0x00080320 }
    crcResult c = 0xE3069283 ∧ c.words = 3 := by decide +kernel

/-- 09_rinly_rings (R220): SRC of node 0x022 on RING1. -/
theorem test_node_source : nodeSrc 1 0x22 = 0xA22 := by decide

/-- 10_dsp_cluster_cox, one idle core and four candidates: 0x07 is passed over, 0x10 starts on core 2. -/
theorem test_dispatch :
    let s := { up with cox := { up.cox with
      cores := [(2, { state := .idle })]
      tasks := [(0x07, { w0 := 0x5A00, state := .ready, deadline := 500000 }), (0x10, { w0 := 0x3FD600, state := .ready, deadline := 60000 }),
                (0x2A, { w0 := 0x3FD600, state := .ready, deadline := 80000 }), (0x31, { w0 := 0x31600, state := .ready, deadline := 60000 })] } }
    bestOf s (startableTasks s) = some 0x10 ∧ startableTasks s = [0x10, 0x2A, 0x31] := by decide

/-- 04_safety_logic_engine, the 1,024-pulse encoder: 25,000 ticks give 2,344. -/
theorem test_speed : speedOf 1024 { w0 := 1, period := 25000, since := 7 } = 2344 := by decide

/-- 04_safety_logic_engine, discrepancy at the limit (N_d = 4,000, SI4 off since cycle 100): accepted at the limit, one cycle
later DISC_TIMEOUT, and DISC_PARTIAL when SI4 shows on again. -/
theorem test_discrepancy :
    let p : PairSt := { agreed := true, meas := some (100, true) }
    evalPair 4100 4000 false false p = { agreed := false } ∧
    (evalPair 4101 4000 false false p).held = [⟨codeDiscTimeout, 4101⟩] ∧
    (evalPair 220 4000 true true p).held = [⟨codeDiscPartial, 220⟩] ∧
    evalPair 4102 4000 false false { held := [⟨codeDiscTimeout, 4101⟩] } = {} := by decide

/-- 02_tag_fabric, wrap, limits and a failed frame: LAST and the lost count of port 11 after each arrival of TACH3 frames. -/
def tach3 (s : State) (seq : Nat) : State := frameStart 11 5 0xA3 {} (tagWord 0xA3 seq 4 true 0, 0) s
theorem test_sequence_window :
    let s0 := up.setRx 5 0xA3 { last := 0xFD }
    let s1 := tach3 s0 0xFE
    let s4 := tach3 (tach3 (tach3 s1 0x01) 0x00) 0x01
    let s5 := tach3 s4 0x81
    (s1.rx 5 0xA3).last = 0xFE ∧ (s4.rx 5 0xA3).last = 0x01 ∧ (s4.fcnt 11).lost = 2 ∧
    (s4.fcnt 11).seqdrop = 2 ∧ (s5.rx 5 0xA3).last = 0x81 ∧ (s5.fcnt 11).lost = 129 ∧
    ((tach3 s5 0x02).rx 5 0xA3).last = 0x81 := by decide +kernel

/-- 15_self_test: 83.9 ms into L3's slice BIST_U3_COUNT shows 131,073; a core's full count is 16,392. -/
theorem test_slice_count : appliedCount 3 8390000 = 131073 ∧ fullCount 3 = 131080 ∧ fullCount 13 = 16392 := by decide

/-- 16_boot_configuration_store: a 64 Mbit device has banks of 0x37_0000 bytes; SEQ 0 is newer than 0xFFFF_FFFF, and
0x7FFF_FFFF is not. -/
theorem test_banks : bankSize { sizeLog2 := 23 } = 0x370000 ∧ newer 0 0xFFFFFFFF = true ∧ newer 0x7FFFFFFF 0xFFFFFFFF = false := by
  decide

/-- 04_safety_logic_engine: a TON with N = 8 whose input turns on in cycle 100 has Q = 1 in cycle 108. -/
theorem test_ton : reached (some 100) 8 107 = false ∧ reached (some 100) 8 108 = true := by decide

/-- The example of FIPS 180-4, which R345 and R370 build on: SHA-256 of "abc". -/
theorem test_sha : sha256 [0x61, 0x62, 0x63] =
    ([0xba7816bf, 0x8f01cfea, 0x414140de, 0x5dae2223, 0xb00361a3, 0x96177a9c, 0xb410ff61, 0xf20015ad] : List Word).flatMap beBytes := by decide +kernel

end Sys2Proof.Tests
end

section
/-!
SUPPORT. The clearing of fault bits (R319, R320, R45): what the forced-off lines leave alone, one bit of UMP_STATUS_LO, and
the statement about both status words.
-/
namespace Sys2Proof.Machine

open Sys2Proof

/-! ## The release qualifier -/

theorem setGroup_lor (s : State) (g : Group) (v : GroupSt) : (s.setGroup g v).fld.lor = s.fld.lor := by cases g <;> rfl

theorem refreshSo_lor (s : State) (k : Nat) : (refreshSo s k).fld.lor = s.fld.lor := by
  unfold refreshSo; dsimp only; split <;> rfl

theorem refreshCio_lor (s : State) (n : Nat) : (refreshCio s n).fld.lor = s.fld.lor := by
  unfold refreshCio; dsimp only; split <;> rfl

theorem foldl_lor {α : Type} {f : State → α → State} (h : ∀ t a, (f t a).fld.lor = t.fld.lor) (l : List α) (s : State) :
    (l.foldl f s).fld.lor = s.fld.lor :=
  List.foldlRecOn (motive := fun t => t.fld.lor = s.fld.lor) l f rfl (fun t ht a _ => (h t a).trans ht)

theorem refreshAll_lor (s : State) : (refreshAll s).fld.lor = s.fld.lor := by
  unfold refreshAll
  rw [foldl_lor refreshCio_lor, foldl_lor refreshSo_lor]

theorem groupCause_lor (g : Group) (f : GroupSt → GroupSt) (s : State) : (groupCause g f s).fld.lor = s.fld.lor := by
  unfold groupCause
  dsimp only
  rw [refreshAll_lor]
  split
  · rw [foldl_lor, setGroup_lor]
    exact fun _ _ => rfl
  · exact setGroup_lor _ _ _

theorem groupTry_lor (g : Group) (s : State) : (groupTry g s).fld.lor = s.fld.lor := by
  unfold groupTry groupEnable
  dsimp only
  repeat' split
  · exact setGroup_lor _ _ _
  · exact setGroup_lor _ _ _
  · rfl

theorem groupMet_lor (g : Group) (f : GroupSt → GroupSt) (s : State) : (groupMet g f s).fld.lor = s.fld.lor :=
  (groupTry_lor _ _).trans (setGroup_lor _ _ _)

/-- The forced-off lines act on the groups, not on the release qualifier. -/
theorem linesFollow_lor (s : State) : (linesFollow s).fld.lor = s.fld.lor := by
  unfold linesFollow forcedLines
  dsimp only
  rw [foldl_lor]
  intro t g
  repeat' split
  · rfl
  · exact groupCause_lor _ _ _
  · exact groupMet_lor _ _ _
  · rfl

/-! ## One bit of UMP_STATUS_LO -/

/-- A write of one bit names that bit alone. -/
theorem bits_named_one : ∀ n, n < 32 →
    (List.range 32).filter (fun k => (BitVec.ofNat 32 (1 <<< n)).getLsbD k) = [n] := by decide

theorem oneBit_getLsbD {n : Nat} (hn : n < 32) : (BitVec.ofNat 32 (1 <<< n)).getLsbD n = true := by
  rw [BitVec.getLsbD_ofNat, Nat.one_shiftLeft, Nat.testBit_two_pow_self, decide_eq_true hn]; rfl

theorem and_oneBit_ne_zero {w : Word} {n : Nat} (h : w.getLsbD n = true) (hn : n < 32) : w &&& BitVec.ofNat 32 (1 <<< n) ≠ 0 := by
  intro h0
  have := congrArg (fun x => BitVec.getLsbD x n) h0
  simp [h, oneBit_getLsbD hn] at this

theorem ne_zero_of_getLsbD {w : Word} {n : Nat} (h : w.getLsbD n = true) : w ≠ 0 := by
  rintro rfl; simp at h

/-- A bit is refused while a handling window is open or its cause persists (R319). -/
theorem clearBit_refused {s : State} {n : Nat} (hb : s.ump.lo.getLsbD n = true)
    (h : s.ump.handling.isSome = true ∨ causePersists s n = true) :
    clearBit [] s n = { s with ump := { s.ump with clrLine := n, clrRefused := sat 0xFFFF s.ump.clrRefused } } := by
  rcases h with h | h <;> simp [clearBit, hb, handlingOpen, h]

/-- Otherwise it is cleared (R319). -/
theorem clearBit_accepted {s : State} {n : Nat} (hb : s.ump.lo.getLsbD n = true) (hh : s.ump.handling = none)
    (hc : causePersists s n = false) :
    clearBit [] s n = { s with ump := { s.ump with lo := s.ump.lo &&& ~~~(BitVec.ofNat 32 (1 <<< n)) } } := by
  simp [clearBit, hb, handlingOpen, hh, hc]

/-- An accepted clearing changes no more of the Umpire than its records, and arms the qualifier of a lock-out (R320). -/
theorem acceptClear_ump (s : State) :
    (acceptClear s).ump = { s.ump with prev := s.ump.first, first := none, ovf := false, later := 0 } := by
  unfold acceptClear; dsimp only; split <;> rfl

theorem acceptClear_sys (s : State) : (acceptClear s).sys = s.sys := by
  unfold acceptClear; dsimp only; split <;> rfl

theorem acceptClear_arms {s : State} (h : s.seat.state = .lockout) : (acceptClear s).fld.lor.arming = true := by
  simp [acceptClear, h]

/-- With no report waiting, a write that leaves a named bit set is a refused access, and the lines follow (R10, R319). -/
theorem clearLo_refuses {s t : State} {bits : Word} (hr : s.ump.reports = [])
    (ht : ((List.range 32).filter (fun n => bits.getLsbD n)).foldl (clearBit []) s = t) (htr : t.ump.reports = [])
    (hw : t.ump.lo &&& bits ≠ 0) : clearLo bits s = linesFollow (refuse 0x00010004 t) := by
  have hl : t.ump.lo ≠ 0 := fun h => hw (by rw [h]; exact BitVec.zero_and)
  unfold clearLo
  simp only [hr, List.filter_nil, List.map_nil, List.isEmpty_nil, ht, hw, hl, htr, refuse_frame, and_false, if_true, if_false]

/-- With no report waiting, a write that clears the last bit set is an accepted clearing, and the lines follow (R320). -/
theorem clearLo_accepts {s t : State} {bits : Word} (hr : s.ump.reports = [])
    (ht : ((List.range 32).filter (fun n => bits.getLsbD n)).foldl (clearBit []) s = t) (htr : t.ump.reports = [])
    (hs : s.ump.lo ≠ 0) (hl : t.ump.lo = 0) : clearLo bits s = linesFollow (acceptClear t) := by
  have hz : (0 : Word) &&& bits = 0 := BitVec.zero_and
  have ha : (acceptClear t).ump.reports = [] := by rw [acceptClear_ump, htr]
  unfold clearLo
  simp only [hr, List.filter_nil, List.map_nil, List.isEmpty_nil, ht, hl, hz, hs, ha, ne_eq, not_false_eq_true, and_self, if_true]

theorem clearLo_oneBit_refused {s : State} {n : Nat} (hr : s.ump.reports = []) (hn : n < 32) (hb : s.ump.lo.getLsbD n = true)
    (h : s.ump.handling.isSome = true ∨ causePersists s n = true) :
    clearLo (BitVec.ofNat 32 (1 <<< n)) s = linesFollow (refuse 0x00010004
      { s with ump := { s.ump with clrLine := n, clrRefused := sat 0xFFFF s.ump.clrRefused } }) :=
  clearLo_refuses hr (by rw [bits_named_one n hn]; exact clearBit_refused hb h) hr (and_oneBit_ne_zero hb hn)

theorem clearLo_oneBit_accepted {s : State} {n : Nat} (hr : s.ump.reports = []) (hn : n < 32)
    (hl : s.ump.lo = BitVec.ofNat 32 (1 <<< n)) (hh : s.ump.handling = none) (hc : causePersists s n = false) :
    clearLo (BitVec.ofNat 32 (1 <<< n)) s = linesFollow (acceptClear { s with ump := { s.ump with lo := 0 } }) := by
  have hb : s.ump.lo.getLsbD n = true := by rw [hl]; exact oneBit_getLsbD hn
  have h0 : s.ump.lo &&& ~~~(BitVec.ofNat 32 (1 <<< n)) = 0 := by rw [hl, BitVec.and_not_self]
  exact clearLo_accepts hr (by rw [bits_named_one n hn]; exact (clearBit_accepted hb hh hc).trans (by rw [h0])) hr
    (ne_zero_of_getLsbD hb) rfl

theorem linesFollow_ump (s : State) : (linesFollow s).ump = s.ump := by rw [linesFollow_only]
theorem linesFollow_sys (s : State) : (linesFollow s).sys = s.sys := by rw [linesFollow_only]

/-- Without a report waiting, the Umpire latches nothing. -/
theorem latchAll_quiet {s : State} (h : s.ump.reports = []) : latchAll s = s := by simp [latchAll, h]

/-- Settles O19: the single bit written is refused or cleared, and the lines that follow leave the Umpire's records, the
refused count and the release qualifier as the write has left them. -/
theorem statusClears : Obligations.StatusClears := by
  intro s port hup hr
  refine ⟨fun n hn hb h => ?_, fun n hn hl hh hc => ?_, fun bits => ?_⟩
  · refine ⟨_, run_up _ _ hup, ?_⟩
    rw [clearLo_oneBit_refused hr hn hb h, linesFollow_ump, linesFollow_sys]
    exact ⟨rfl, rfl, rfl, rfl, rfl⟩
  · refine ⟨_, run_up _ _ hup, ?_⟩
    rw [clearLo_oneBit_accepted hr hn hl hh hc, linesFollow_ump, linesFollow_sys, linesFollow_lor, acceptClear_ump, acceptClear_sys]
    exact ⟨rfl, rfl, rfl, rfl, rfl, rfl, fun h => acceptClear_arms h⟩
  · exact (run_up _ _ hup).trans (congrArg _ (latchAll_quiet hr))

end Sys2Proof.Machine
end

section
/-!
SUPPORT. Host accesses (R10): reads leave the safety side alone, the registers of the TIME block and SYS_REFUSED, writes to
the read-only blocks, and the statement about them.
-/
namespace Sys2Proof.Machine

open Sys2Proof

/-! ## Reads leave the safety side alone -/

theorem safetySideKept_refl (s : State) : SafetySideKept s s := ⟨rfl, rfl, rfl, rfl, rfl, rfl, rfl⟩

theorem safetySideKept_trans {s t u : State} (h : SafetySideKept s t) (k : SafetySideKept t u) : SafetySideKept s u := by
  obtain ⟨h1, h2, h3, h4, h5, h6, h7⟩ := h
  obtain ⟨k1, k2, k3, k4, k5, k6, k7⟩ := k
  refine ⟨k1.trans h1, k2.trans h2, k3.trans h3, k4.trans h4, k5.trans h5, k6.trans h6, ?_⟩
  rw [k7, h7]

theorem valueAt_keeps (p : Port) (a : Nat) (s : State) : SafetySideKept s (valueAt p a s).2 := by
  rw [valueAt_only]; exact ⟨rfl, rfl, rfl, rfl, rfl, rfl, rfl⟩

theorem latchPartners_keeps (p : Port) (a : Nat) (s : State) : SafetySideKept s (latchPartners p a s) :=
  List.foldlRecOn (motive := SafetySideKept s) _ _ (safetySideKept_refl s) (fun t ht b _ =>
    safetySideKept_trans ht (safetySideKept_trans (valueAt_keeps p b t) ⟨rfl, rfl, rfl, rfl, rfl, rfl, rfl⟩))

theorem noteEventRead_keeps (a : Nat) (s : State) : SafetySideKept s (noteEventRead a s) := by
  unfold noteEventRead; split <;> exact ⟨rfl, rfl, rfl, rfl, rfl, rfl, rfl⟩

theorem clearSys_only (o : Nat) (s : State) : clearSys o s = { s with sys := (clearSys o s).sys } := by
  unfold clearSys; dsimp only; split <;> rfl
theorem clearFab_only (o : Nat) (s : State) : clearFab o s = { s with fab := (clearFab o s).fab } := by
  unfold clearFab; dsimp only; split <;> rfl
theorem clearAfe_only (o : Nat) (s : State) : clearAfe o s = { s with afe := (clearAfe o s).afe } := by
  unfold clearAfe; dsimp only; split <;> rfl
theorem clearRing_only (r o : Nat) (s : State) : clearRing r o s = { s with ring := (clearRing r o s).ring } := by
  unfold clearRing; dsimp only; split <;> rfl
theorem clearCox_only (o : Nat) (s : State) : clearCox o s = { s with cox := (clearCox o s).cox } := by
  unfold clearCox; dsimp only; split <;> rfl
theorem clearPmu_only (o : Nat) (s : State) : clearPmu o s = { s with cox := (clearPmu o s).cox } := by
  unfold clearPmu; dsimp only; repeat' split
  all_goals rfl
theorem clearBoat_only (o : Nat) (s : State) : clearBoat o s = { s with boat := (clearBoat o s).boat } := by
  unfold clearBoat; dsimp only; split <;> rfl
theorem clearEth_only (o : Nat) (s : State) : clearEth o s = { s with net := (clearEth o s).net } := by
  unfold clearEth; dsimp only; split
  · split <;> rfl
  · split <;> rfl
  · split <;> rfl
  · rfl
  · rfl
theorem clearHspi_only (o : Nat) (s : State) :
    clearHspi o s = { s with host := (clearHspi o s).host, net := (clearHspi o s).net } := by
  unfold clearHspi; dsimp only; split <;> rfl
theorem clearPerturb_only (o : Nat) (s : State) : clearPerturb o s = { s with hook := (clearPerturb o s).hook } := by
  unfold clearPerturb; dsimp only; repeat' split
  all_goals rfl

/-- What a read clears lies outside the safety side, CIO_REFUSED apart (R10). -/
theorem readClear_keeps (a : Nat) (s : State) : SafetySideKept s (readClear a s) := by
  unfold readClear
  dsimp only
  split
  case h_1 =>
    split
    · rw [clearSys_only]; exact ⟨rfl, rfl, rfl, rfl, rfl, rfl, rfl⟩
    · split
      · rw [clearFab_only]; exact ⟨rfl, rfl, rfl, rfl, rfl, rfl, rfl⟩
      · exact safetySideKept_refl s
  case h_4 => rw [clearAfe_only]; exact ⟨rfl, rfl, rfl, rfl, rfl, rfl, rfl⟩
  case h_5 => rw [clearRing_only]; exact ⟨rfl, rfl, rfl, rfl, rfl, rfl, rfl⟩
  case h_6 => rw [clearCox_only]; exact ⟨rfl, rfl, rfl, rfl, rfl, rfl, rfl⟩
  case h_7 => rw [clearBoat_only]; exact ⟨rfl, rfl, rfl, rfl, rfl, rfl, rfl⟩
  case h_8 => rw [clearPmu_only]; exact ⟨rfl, rfl, rfl, rfl, rfl, rfl, rfl⟩
  case h_12 => rw [clearEth_only]; exact ⟨rfl, rfl, rfl, rfl, rfl, rfl, rfl⟩
  case h_13 => rw [clearHspi_only]; exact ⟨rfl, rfl, rfl, rfl, rfl, rfl, rfl⟩
  case h_14 => rw [clearPerturb_only]; exact ⟨rfl, rfl, rfl, rfl, rfl, rfl, rfl⟩
  case h_15 => exact safetySideKept_refl s
  all_goals split <;> exact ⟨rfl, rfl, rfl, rfl, rfl, rfl, rfl⟩

/-- A read leaves the safety side as it is (R10). -/
theorem readWord_keeps (p : Port) (a : Nat) (s : State) : SafetySideKept s (readWord p a s).2 := by
  unfold readWord
  split
  · exact safetySideKept_refl s
  · exact safetySideKept_trans (valueAt_keeps p a s) (safetySideKept_trans (latchPartners_keeps p a _)
      (safetySideKept_trans (noteEventRead_keeps a _) (readClear_keeps a _)))

theorem hostRead_keeps (p : Port) (a : Nat) (s : State) : SafetySideKept s (hostRead p a s) :=
  safetySideKept_trans (readWord_keeps p a s) ⟨rfl, rfl, rfl, rfl, rfl, rfl, rfl⟩

theorem hostRead_resp (p : Port) (a : Nat) (s : State) : (hostRead p a s).host.resp = [(readWord p a s).1] := rfl

/-! ## Single registers -/

/-- A partner word returns what was latched and changes nothing (R10). -/
theorem hostRead_partner {a : Nat} (h : isPartner a = true) (p : Port) (s : State) :
    hostRead p a s = { s with host := { s.host with resp := [look 0 s.host.latch a] } } := by
  simp [hostRead, readWord, h]

/-- A register that shows its value, outside the performance monitor and the window, reads as that value and changes nothing. -/
theorem valueAt_shown {p : Port} {a : Nat} {s : State} {w : Word} (hwin : a < windowBase) (hpmu : a / 0x10000 ≠ 0x0D)
    (hbank : a ≠ 0x000C0084) (hlive : regLive p a s = some w) (hopen : openMask a s = 0) : valueAt p a s = (w, s) := by
  have hseen : pmuSeen a s = s := by simp [pmuSeen, hpmu]
  unfold valueAt
  simp only [hseen, Nat.not_le.mpr hwin, if_false, hbank, hlive, hopen, if_true]

theorem openMask_zero {a : Nat} {s : State} (hcrc : a / 0x10000 ≠ 0x0E) (hnvm : a ≠ 0x00100008) : openMask a s = 0 := by
  simp [openMask, hcrc, hnvm]

/-- A register of the TIME block reads as it stands (R390). -/
theorem valueAt_time {p : Port} {a : Nat} {s : State} {w : Word} (ha : a / 0x10000 = 0x14)
    (h : timeLive (a % 0x10000) s = some w) : valueAt p a s = (w, s) := by
  have hwin : a < windowBase := by unfold windowBase; omega
  refine valueAt_shown hwin (by omega) (by omega) ?_ (openMask_zero (by omega) (by omega))
  simp only [regLive, Nat.not_le.mpr hwin, if_false, ha, h]

/-- No read of the TIME block clears (R390). -/
theorem readClear_time {a : Nat} (s : State) (ha : a / 0x10000 = 0x14) : readClear a s = s := by
  simp only [readClear, ha]

theorem noteEventRead_other {a : Nat} (s : State) (ha : a ≠ 0x00130018) : noteEventRead a s = s := by
  simp [noteEventRead, ha]

/-- A read of a register of the TIME block that is no partner word returns it and latches its partners (R390). -/
theorem hostRead_time {p : Port} {a : Nat} {s : State} {w : Word} (ha : a / 0x10000 = 0x14) (hp : isPartner a = false)
    (h : timeLive (a % 0x10000) s = some w) :
    hostRead p a s = { latchPartners p a s with host := { (latchPartners p a s).host with resp := [w] } } := by
  unfold hostRead readWord
  simp only [hp, Bool.false_eq_true, if_false, valueAt_time ha h, noteEventRead_other _ (show a ≠ 0x00130018 by omega),
    readClear_time _ ha]

theorem hostRead_timeNow (p : Port) (s : State) : hostRead p 0x00140000 s = { s with host := { s.host with
      resp := [BitVec.ofNat 32 s.timeNow],
      latch := put 0 (put 0 (put 0 s.host.latch 0x00140004 (BitVec.ofNat 32 (s.timeNow / 4294967296)))
        0x00140008 (BitVec.ofNat 32 s.now)) 0x0014000C (BitVec.ofNat 32 (s.now / 4294967296)) } } := by
  have h4 (t : State) : valueAt p 0x00140004 t = (hiWord t.timeNow, t) := valueAt_time rfl rfl
  have h8 (t : State) : valueAt p 0x00140008 t = (loWord t.now, t) := valueAt_time rfl rfl
  have hC (t : State) : valueAt p 0x0014000C t = (hiWord t.now, t) := valueAt_time rfl rfl
  have hl : partners 0x00140000 = [0x00140004, 0x00140008, 0x0014000C] := by decide
  rw [hostRead_time rfl (by decide) rfl]
  unfold latchPartners
  simp only [hl, List.foldl_cons, List.foldl_nil, h4, h8, hC]
  rfl

theorem hostRead_timeStep (p : Port) (s : State) : hostRead p 0x00140018 s = { s with host := { s.host with
      resp := [BitVec.ofInt 32 s.time.lastStep],
      latch := put 0 s.host.latch 0x0014001C (BitVec.ofInt 32 (s.time.lastStep / 4294967296)) } } := by
  have h1C (t : State) : valueAt p 0x0014001C t = (BitVec.ofInt 32 (t.time.lastStep / 4294967296), t) := valueAt_time rfl rfl
  have hl : partners 0x00140018 = [0x0014001C] := by decide
  rw [hostRead_time rfl (by decide) rfl]
  unfold latchPartners
  simp only [hl, List.foldl_cons, List.foldl_nil, h1C]

/-- SYS_REFUSED returns the count and clears it (R10). -/
theorem hostRead_refused (p : Port) (s : State) :
    hostRead p 0x00000060 s = { s with
      sys := { s.sys with refused := 0 }, host := { s.host with resp := [s.sys.refused] } } := by
  have hv : valueAt p 0x00000060 s = (s.sys.refused, s) :=
    valueAt_shown (by decide) (by decide) (by decide) rfl (openMask_zero (by decide) (by decide))
  have hp : isPartner 0x00000060 = false := by decide
  have hl : partners 0x00000060 = [] := by decide
  simp only [hostRead, readWord, hp, Bool.false_eq_true, if_false, hv, latchPartners, hl, List.foldl_nil]
  rfl

/-! ## Writes -/

/-- A write to a block of the safety side is refused (R10). -/
theorem hostWrite_safety {a : Nat} (p : Port) (v : Word) (s : State) (hlo : 0x20000 ≤ a) (hhi : a < 0x70400) :
    hostWrite p a v s = refuse a s := by
  have hwin : ¬ windowBase ≤ a := by unfold windowBase; omega
  have hblk : a / 0x10000 = 2 ∨ a / 0x10000 = 3 ∨ a / 0x10000 = 4 ∨ a / 0x10000 = 5 ∨ a / 0x10000 = 6 ∨ a / 0x10000 = 7 := by
    omega
  unfold hostWrite
  simp only [hwin, if_false]
  rcases hblk with h | h | h | h | h | h <;> simp only [h]
  have ho : a % 0x10000 < 0x400 := by omega
  unfold soutWrite
  split
  · omega
  · omega
  · omega
  · rfl

/-- The TIME block takes no write (R390). -/
theorem hostWrite_time {a : Nat} (p : Port) (v : Word) (s : State) (hlo : 0x140000 ≤ a) (hhi : a < 0x150000) :
    hostWrite p a v s = s := by
  have hwin : ¬ windowBase ≤ a := by unfold windowBase; omega
  have hblk : a / 0x10000 = 0x14 := by omega
  simp only [hostWrite, hwin, if_false, hblk]

/-- Settles O60: every read is a `hostRead`, every write a `hostWrite`, and each register follows its rule above. -/
theorem registerAccesses : Obligations.RegisterAccesses := by
  intro s p hup
  have hread (a : Nat) : exec (.latchingRead p a) s = .next (hostRead p a s) := run_up _ _ hup
  have hclear (a : Nat) : exec (.clearingRead p a) s = .next (hostRead p a s) := run_up _ _ hup
  have hwrite (a : Nat) (v : Word) : exec (.registerWrite p a v) s = .next (hostWrite p a v s) := run_up _ _ hup
  refine ⟨fun a => ⟨⟨_, _, hread a, hostRead_resp p a s, hostRead_keeps p a s⟩,
      ⟨_, _, hclear a, hostRead_resp p a s, hostRead_keeps p a s⟩⟩,
    ?_, ?_, fun a ha => ?_, ⟨_, hclear _, ?_, ?_⟩, fun a v hlo hhi => ?_, fun a v hlo hhi => ?_,
    fun v => hwrite _ v, fun v => hwrite _ v⟩
  · rw [hread, hostRead_timeNow]
  · rw [hread, hostRead_timeStep]
  · have hp : ∀ b ∈ [0x00140004, 0x00140008, 0x0014000C, 0x0014001C], isPartner b = true := by decide
    rw [hread, hostRead_partner (hp a ha)]
  · rw [hostRead_refused]
  · rw [hostRead_refused]
  · rw [hwrite, hostWrite_safety p v s hlo hhi]; rfl
  · rw [hwrite, hostWrite_time p v s hlo hhi]

end Sys2Proof.Machine
end

section
/-!
SUPPORT. Configurable pins (R169 to R171): a command or heartbeat frame as a fold over the pins, each pin's own step, the
pin's diagnoses, and the statement about them.
-/
namespace Sys2Proof.Machine

open Sys2Proof

/-! ## The pins alone -/

/-- Pin `n` follows the frames of source `src` (R170). -/
abbrev FollowsSource (s : State) (src n : Nat) : Prop := (cioCfg s n).mode = .outputStd ∧ (cioCfg s n).src = src

/-- Nothing but the pins and the count of refused settings differs. -/
def OnlyPins (s t : State) : Prop := t = { s with fld := { s.fld with cio := t.fld.cio, cioRefused := t.fld.cioRefused } }

theorem onlyPins_refl (s : State) : OnlyPins s s := rfl

theorem onlyPins_trans {s t u : State} (h : OnlyPins s t) (k : OnlyPins t u) : OnlyPins s u := by
  unfold OnlyPins at *; rw [k, h]

theorem cioCfg_onlyPins {s t : State} (h : OnlyPins s t) (n : Nat) : cioCfg t n = cioCfg s n := by rw [h]; rfl

theorem fld_onlyPins {s t : State} (h : OnlyPins s t) : t = { s with fld := t.fld } := by rw [h]

theorem cycle_onlyPins {s t : State} (h : OnlyPins s t) : t.seat.cycle = s.seat.cycle := by rw [h]

theorem followsSource_onlyPins {s t : State} (h : OnlyPins s t) (src n : Nat) : FollowsSource t src n ↔ FollowsSource s src n := by
  unfold FollowsSource; rw [cioCfg_onlyPins h]

theorem onlyPins_setCio (s : State) (n : Nat) (v : Cio) : OnlyPins s (s.setCio n v) := rfl

theorem onlyPins_refreshCio (s : State) (n : Nat) : OnlyPins s (refreshCio s n) := by
  unfold refreshCio; dsimp only; split <;> rfl

theorem State.cio_setCio_ne {s : State} {n : Nat} {v : Cio} (h : v ≠ {}) : (s.setCio n v).cio n = v := look_put_ne _ _ _ _ h

/-! ## Folds over the pins -/

/-- Every step of the fold changes no more than the pins, and of them only its own. -/
structure PinSteps (f : State → Nat → State) : Prop where
  only : ∀ t k, OnlyPins t (f t k)
  other : ∀ t k j, j ≠ k → (f t k).cio j = t.cio j

theorem pinSteps_only {f : State → Nat → State} (hf : PinSteps f) {s u : State} (hu : OnlyPins s u) (l : List Nat) :
    OnlyPins s (l.foldl f u) :=
  List.foldlRecOn (motive := OnlyPins s) l f hu (fun t ht k _ => onlyPins_trans ht (hf.only t k))

/-- A pin whose own step leaves it alone is left alone by the fold. -/
theorem pinSteps_kept {f : State → Nat → State} (hf : PinSteps f) {s u : State} (hu : OnlyPins s u) {n : Nat} (l : List Nat)
    (hown : ∀ t, OnlyPins s t → n ∈ l → (f t n).cio n = t.cio n) : (l.foldl f u).cio n = u.cio n := by
  refine (List.foldlRecOn (motive := fun t => OnlyPins s t ∧ t.cio n = u.cio n) l f ⟨hu, rfl⟩ (fun t ht k hk => ?_)).2
  obtain ⟨hst, hcio⟩ := ht
  refine ⟨onlyPins_trans hst (hf.only t k), Eq.trans ?_ hcio⟩
  by_cases hnk : n = k
  · subst hnk; exact hown t hst hk
  · exact hf.other t k n hnk

/-- A pin comes to its own step as it stood before the fold, and leaves the fold as that step leaves it. -/
theorem pinSteps_own {f : State → Nat → State} (hf : PinSteps f) {s u : State} (hu : OnlyPins s u) {l : List Nat} (hd : l.Nodup)
    {n : Nat} (hn : n ∈ l) : ∃ t, OnlyPins s t ∧ t.cio n = u.cio n ∧ (l.foldl f u).cio n = (f t n).cio n := by
  obtain ⟨a, b, rfl⟩ := List.append_of_mem hn
  obtain ⟨-, hb, hab⟩ := List.nodup_append.mp hd
  have hna : n ∉ a := fun h => hab n h n (List.mem_cons_self ..) rfl
  have hnb : n ∉ b := (List.nodup_cons.mp hb).1
  have hta := pinSteps_only hf hu a
  refine ⟨a.foldl f u, hta, pinSteps_kept hf hu a (fun _ _ h => absurd h hna), ?_⟩
  rw [List.foldl_append, List.foldl_cons]
  exact pinSteps_kept hf (onlyPins_trans hta (hf.only _ n)) b (fun _ _ h => absurd h hnb)

/-! ## The level a pin drives -/

theorem refreshCio_other (s : State) {n k : Nat} (h : k ≠ n) : (refreshCio s n).cio k = s.cio k := by
  unfold refreshCio
  dsimp only
  split
  · rfl
  · exact State.cio_setCio_other _ _ _ _ h

theorem refreshCio_refused (s : State) (n : Nat) : (refreshCio s n).fld.cioRefused = s.fld.cioRefused := by
  unfold refreshCio; dsimp only; split <;> rfl

/-- A pin written with an entry that is listed whatever level it drives, and driven anew, holds that entry but for the level
and its stamp. -/
theorem refreshCio_setCio {Q : Cio → Prop} {s : State} {n : Nat} {v : Cio}
    (hl : ∀ o c, { v with out := o, changed := c } ≠ ({} : Cio)) (hQ : ∀ o c, Q { v with out := o, changed := c }) :
    Q ((refreshCio (s.setCio n v) n).cio n) := by
  have hv : (s.setCio n v).cio n = v := State.cio_setCio_ne (hl v.out v.changed)
  unfold refreshCio
  dsimp only
  split
  · rw [hv]; exact hQ v.out v.changed
  · rw [hv, State.cio_setCio_ne (hl _ _)]; exact hQ _ _

/-- A pin that is held off is not driven (R169). -/
theorem pinDriven_held {s : State} {n : Nat} (h : (s.cio n).held = true) : pinDriven s n = false := by
  unfold pinDriven
  dsimp only
  split <;> simp [h]

/-! ## A frame of a source is heard -/

/-- The measurement of a pin that follows the source starts anew; the pin is not due to fall silent. -/
def pinHeard (src : Nat) (s : State) (n : Nat) : State :=
  if FollowsSource s src n then s.setCio n { s.cio n with since := s.seat.cycle } else s

theorem pinHeard_only (src : Nat) (s : State) (n : Nat) : OnlyPins s (pinHeard src s n) := by
  unfold pinHeard; split <;> rfl

theorem pinHeard_other (src : Nat) (s : State) (n k : Nat) (h : k ≠ n) : (pinHeard src s n).cio k = s.cio k := by
  unfold pinHeard
  split
  · exact State.cio_setCio_other _ _ _ _ h
  · rfl

theorem pinHeard_steps (src : Nat) : PinSteps (pinHeard src) := ⟨pinHeard_only src, pinHeard_other src⟩

theorem pinHeard_follows {src : Nat} {s : State} {n : Nat} (hc : 0 < s.seat.cycle) (h : FollowsSource s src n) :
    (pinHeard src s n).cio n = { s.cio n with since := s.seat.cycle } := by
  unfold pinHeard
  rw [if_pos h]
  exact State.cio_setCio_ne (fun e => hc.ne' (congrArg Cio.since e))

theorem pinHeard_foreign {src : Nat} {s : State} {n : Nat} (h : ¬ FollowsSource s src n) : pinHeard src s n = s := if_neg h

/-- A pin that has just heard its source is not due to fall silent (R171). -/
theorem silentDue_pinHeard {src : Nat} {s : State} (hc : 0 < s.seat.cycle) (h : ∀ n, silentDue s n = false) (n k : Nat) :
    silentDue (pinHeard src s n) k = false := by
  by_cases hf : FollowsSource s src n
  · have hcy := cycle_onlyPins (pinHeard_only src s n)
    have hcfg := cioCfg_onlyPins (pinHeard_only src s n) k
    by_cases hk : k = n
    · subst hk
      simp [silentDue, hcy, pinHeard_follows hc hf]
    · have := h k
      unfold silentDue at this ⊢
      rw [hcy, hcfg, pinHeard_other src s n k hk]
      exact this
  · rw [pinHeard_foreign hf]; exact h k

/-- While no pin is due to fall silent, a frame of a source does no more than start measurements anew. -/
theorem cioHeard_eq {src : Nat} {s : State} (hc : 0 < s.seat.cycle) (h : ∀ n, silentDue s n = false) :
    cioHeard src s = (List.range 24).foldl (pinHeard src) s := by
  unfold cioHeard
  generalize List.range 24 = l
  induction l generalizing s with
  | nil => rfl
  | cons n l ih =>
    have hcn : 0 < (pinHeard src s n).seat.cycle := by rw [cycle_onlyPins (pinHeard_only src s n)]; exact hc
    rw [List.foldl_cons, List.foldl_cons, ← ih hcn (silentDue_pinHeard hc h n)]
    simp only [h n, whenever_false]
    rfl

theorem cioHeard_onlyPins {src : Nat} {s : State} (hc : 0 < s.seat.cycle) (h : ∀ n, silentDue s n = false) :
    OnlyPins s (cioHeard src s) := by
  rw [cioHeard_eq hc h]; exact pinSteps_only (pinHeard_steps src) (onlyPins_refl s) _

theorem cioHeard_follows {src n : Nat} {s : State} (hc : 0 < s.seat.cycle) (h : ∀ n, silentDue s n = false) (hn : n < 24)
    (hf : FollowsSource s src n) : (cioHeard src s).cio n = { s.cio n with since := s.seat.cycle } := by
  obtain ⟨t, hst, hcio, hown⟩ := pinSteps_own (pinHeard_steps src) (onlyPins_refl s) (List.nodup_range (n := 24))
    (List.mem_range.mpr hn)
  have hcy := cycle_onlyPins hst
  rw [cioHeard_eq hc h, hown, pinHeard_follows (by rw [hcy]; exact hc) ((followsSource_onlyPins hst src n).mpr hf), hcio, hcy]

theorem cioHeard_foreign {src n : Nat} {s : State} (hc : 0 < s.seat.cycle) (h : ∀ n, silentDue s n = false)
    (hf : ¬ FollowsSource s src n) : (cioHeard src s).cio n = s.cio n := by
  rw [cioHeard_eq hc h]
  refine pinSteps_kept (pinHeard_steps src) (onlyPins_refl s) _ (fun t hst _ => ?_)
  rw [pinHeard_foreign (fun e => hf ((followsSource_onlyPins hst src n).mp e))]

theorem pinHeard_refused (src : Nat) (s : State) (n : Nat) : (pinHeard src s n).fld.cioRefused = s.fld.cioRefused := by
  unfold pinHeard; split <;> rfl

theorem cioHeard_refused {src : Nat} {s : State} (hc : 0 < s.seat.cycle) (h : ∀ n, silentDue s n = false) :
    (cioHeard src s).fld.cioRefused = s.fld.cioRefused := by
  rw [cioHeard_eq hc h]
  exact List.foldlRecOn (motive := fun t => t.fld.cioRefused = s.fld.cioRefused) _ (pinHeard src) rfl
    (fun t ht k _ => (pinHeard_refused src t k).trans ht)

/-! ## A pin setting of a command frame -/

theorem cioSet_only (src : Nat) (mask value : Word) (s : State) (n : Nat) : OnlyPins s (cioSet src mask value s n) := by
  unfold cioSet
  dsimp only
  split
  · split
    · exact onlyPins_trans (onlyPins_setCio _ _ _) (onlyPins_refreshCio _ _)
    · rfl
  · exact onlyPins_refl s

theorem cioSet_other (src : Nat) (mask value : Word) (s : State) (n k : Nat) (h : k ≠ n) :
    (cioSet src mask value s n).cio k = s.cio k := by
  unfold cioSet
  dsimp only
  split
  · split
    · rw [refreshCio_other _ h, State.cio_setCio_other _ _ _ _ h]
    · rfl
  · rfl

theorem cioSet_steps (src : Nat) (mask value : Word) : PinSteps (cioSet src mask value) :=
  ⟨cioSet_only src mask value, cioSet_other src mask value⟩

theorem cioSet_foreign {src : Nat} {mask value : Word} {s : State} {n : Nat} (h : ¬ FollowsSource s src n) :
    (cioSet src mask value s n).cio n = s.cio n := by
  unfold cioSet
  dsimp only
  rw [if_neg h]
  split <;> rfl

theorem cioSet_unnamed {src : Nat} {mask value : Word} {s : State} {n : Nat} (h : mask.getLsbD n = false) :
    cioSet src mask value s n = s := by simp [cioSet, h]

/-- A named pin of the source takes its VALUE bit and keeps the cycle of the frame (R170). -/
theorem cioSet_named {src : Nat} {mask value : Word} {s : State} {n : Nat} (hm : mask.getLsbD n = true) (hf : FollowsSource s src n)
    (hs : (s.cio n).since ≠ 0) :
    ((cioSet src mask value s n).cio n).named = true ∧ ((cioSet src mask value s n).cio n).cmd = value.getLsbD n ∧
    ((cioSet src mask value s n).cio n).since = (s.cio n).since := by
  unfold cioSet
  dsimp only
  rw [if_pos hm, if_pos hf]
  exact refreshCio_setCio (Q := fun x => x.named = true ∧ x.cmd = value.getLsbD n ∧ x.since = (s.cio n).since)
    (fun _ _ e => hs (congrArg Cio.since e)) (fun _ _ => ⟨rfl, rfl, rfl⟩)

/-- A setting that is not refused is not counted (R170). -/
theorem cioSet_refused {src : Nat} {mask value : Word} {s : State} {n : Nat} (h : mask.getLsbD n = true → FollowsSource s src n) :
    (cioSet src mask value s n).fld.cioRefused = s.fld.cioRefused := by
  unfold cioSet
  dsimp only
  split
  · next hm => rw [if_pos (h hm), refreshCio_refused]; rfl
  · rfl

/-! ## A command frame -/

theorem cioSets_onlyPins {src : Nat} {mask value : Word} {s : State} (hc : 0 < s.seat.cycle) (h : ∀ n, silentDue s n = false) :
    OnlyPins s ((List.range 24).foldl (cioSet src mask value) (cioHeard src s)) :=
  pinSteps_only (cioSet_steps src mask value) (cioHeard_onlyPins hc h) _

/-- A pin of the source starts its measurement anew and, where MASK names it, takes its VALUE bit (R170). -/
theorem cioSets_follows {src n : Nat} {mask value : Word} {s : State} (hc : 0 < s.seat.cycle) (h : ∀ n, silentDue s n = false)
    (hn : n < 24) (hf : FollowsSource s src n) :
    let x := ((List.range 24).foldl (cioSet src mask value) (cioHeard src s)).cio n
    x.since = s.seat.cycle ∧ (mask.getLsbD n = true → x.named = true ∧ x.cmd = value.getLsbD n) := by
  obtain ⟨t, hst, hcio, hown⟩ := pinSteps_own (cioSet_steps src mask value) (cioHeard_onlyPins (src := src) hc h)
    (List.nodup_range (n := 24)) (List.mem_range.mpr hn)
  have hsince : (t.cio n).since = s.seat.cycle := by rw [hcio, cioHeard_follows hc h hn hf]
  dsimp only
  rw [hown]
  cases hm : mask.getLsbD n with
  | false => rw [cioSet_unnamed hm]; exact ⟨hsince, fun e => absurd e Bool.false_ne_true⟩
  | true =>
    obtain ⟨hnamed, hcmd, hkept⟩ := cioSet_named (value := value) hm ((followsSource_onlyPins hst src n).mpr hf)
      (by rw [hsince]; exact hc.ne')
    exact ⟨hkept.trans hsince, fun _ => ⟨hnamed, hcmd⟩⟩

/-- A pin of another source or mode stays as it is (R170). -/
theorem cioSets_foreign {src n : Nat} {mask value : Word} {s : State} (hc : 0 < s.seat.cycle) (h : ∀ n, silentDue s n = false)
    (hf : ¬ FollowsSource s src n) : ((List.range 24).foldl (cioSet src mask value) (cioHeard src s)).cio n = s.cio n := by
  rw [← cioHeard_foreign hc h hf]
  exact pinSteps_kept (cioSet_steps src mask value) (cioHeard_onlyPins hc h) _
    (fun t hst _ => cioSet_foreign (fun e => hf ((followsSource_onlyPins hst src n).mp e)))

theorem follows_of_not_refuses {src n : Nat} {mask : Word} {s : State} (h : cioRefuses src mask s = false) (hn : n < 24)
    (hm : mask.getLsbD n = true) : FollowsSource s src n := by
  have := List.any_eq_false.mp h n (List.mem_range.mpr hn)
  simpa [hm] using this

/-- A command frame that names no pin it may not set counts nothing (R170). -/
theorem cioSets_refused {src : Nat} {mask value : Word} {s : State} (hc : 0 < s.seat.cycle) (h : ∀ n, silentDue s n = false)
    (hr : cioRefuses src mask s = false) :
    ((List.range 24).foldl (cioSet src mask value) (cioHeard src s)).fld.cioRefused = s.fld.cioRefused := by
  refine (List.foldlRecOn (motive := fun t => OnlyPins s t ∧ t.fld.cioRefused = s.fld.cioRefused) _ (cioSet src mask value)
    ⟨cioHeard_onlyPins hc h, cioHeard_refused hc h⟩
    (fun t ht k hk => ⟨onlyPins_trans ht.1 (cioSet_only src mask value t k), ?_⟩)).2
  obtain ⟨hst, hcount⟩ := ht
  rw [cioSet_refused (fun hm => (followsSource_onlyPins hst src k).mpr (follows_of_not_refuses hr (List.mem_range.mp hk) hm)), hcount]

/-- A command frame changes the field die by its settings alone. -/
theorem cioCommand_sets (src : Nat) (mask value : Word) (s : State) :
    (cioCommand src mask value s).fld = ((List.range 24).foldl (cioSet src mask value) (cioHeard src s)).fld := by
  unfold cioCommand; dsimp only; split <;> rfl

theorem cioCommand_accepted {src : Nat} {mask value : Word} {s : State} (hr : cioRefuses src mask s = false) :
    cioCommand src mask value s = (List.range 24).foldl (cioSet src mask value) (cioHeard src s) := by
  simp [cioCommand, hr]

/-- A refused setting of a host's frame counts in SYS_REFUSED (R10). -/
theorem cioCommand_host {src : Nat} {mask value : Word} {s : State} (hp : src = 0x410 ∨ src = 0x411)
    (hr : cioRefuses src mask s = true) :
    cioCommand src mask value s = refuse 0x00070414 ((List.range 24).foldl (cioSet src mask value) (cioHeard src s)) := by
  unfold cioCommand; exact if_pos ⟨hp, hr⟩

theorem cioCommand_only {src : Nat} {mask value : Word} {s : State} (hc : 0 < s.seat.cycle) (h : ∀ n, silentDue s n = false) :
    cioCommand src mask value s =
      { s with fld := (cioCommand src mask value s).fld, sys := (cioCommand src mask value s).sys } := by
  have hp := cioSets_onlyPins (src := src) (mask := mask) (value := value) hc h
  unfold cioCommand
  dsimp only
  split
  · rw [hp]; rfl
  · rw [hp]

/-! ## Silence, overload and short -/

theorem report_cio (line code detail : Nat) (s : State) (n : Nat) : (report line code detail s).cio n = s.cio n := by
  rw [report_only]; rfl

/-- A pin written and driven anew, with a report on its way: the other pins stay (R169, R171). -/
theorem pinReport_other (line code detail : Nat) (s : State) (n : Nat) (v : Cio) (j : Nat) (h : j ≠ n) :
    (report line code detail (refreshCio (s.setCio n v) n)).cio j = s.cio j := by
  rw [report_cio, refreshCio_other _ h, State.cio_setCio_other _ _ _ _ h]

theorem fieldReport_pin (code detail : Nat) (s : State) (n : Nat) (v : Cio) :
    FieldReport 38 code s (report 38 code detail (refreshCio (s.setCio n v) n)) :=
  ⟨_, detail, by rw [refreshCio_only]; rfl⟩

theorem cioSilence_pin (n : Nat) (s : State) :
    ((cioSilence n s).cio n).silent = true ∧ ((cioSilence n s).cio n).wake = false := by
  unfold cioSilence
  dsimp only
  rw [report_cio]
  exact refreshCio_setCio (Q := fun x => x.silent = true ∧ x.wake = false)
    (fun _ _ e => Bool.noConfusion (congrArg Cio.silent e)) (fun _ _ => ⟨rfl, rfl⟩)

theorem cioOverload_pin (n : Nat) (s : State) :
    ((cioOverload n s).cio n).held = true ∧ ((cioOverload n s).cio n).overload = true := by
  unfold cioOverload
  rw [report_cio]
  exact refreshCio_setCio (Q := fun x => x.held = true ∧ x.overload = true)
    (fun _ _ e => Bool.noConfusion (congrArg Cio.held e)) (fun _ _ => ⟨rfl, rfl⟩)

/-! ## The statement -/

/-- The frames of a source, while no pin is due to fall silent (R170, R171). -/
theorem cioCommandFrame_acts {s : State} {src : Nat} (mask value : Word) (hup : s.sys.up = true) (hu : Unhooked s src 2) :
    exec (.cioCommandFrame src mask value) s = .next (cioCommand src mask value s) :=
  (run_up _ _ hup).trans (congrArg _ (hookedFrame_unmet hu _ _ _))

theorem cioHeartbeatFrame_acts {s : State} {src : Nat} (hup : s.sys.up = true) (hu : Unhooked s src 3) :
    exec (.cioHeartbeatFrame src) s = .next (cioHeard src s) :=
  (run_up _ _ hup).trans (congrArg _ (hookedFrame_unmet hu _ _ _))

/-- A command whose event is due has its effect. -/
theorem run_due {s : State} (due : State → Bool) (f : State → State) (hup : s.sys.up = true) (h : due s = true) :
    run s (fun s => whenever (due s) f s) = .next (f s) := by
  rw [run_up _ _ hup, h, whenever_true]

theorem cioSilent_acts {s : State} {n : Nat} (hup : s.sys.up = true) (h : silentDue s n = true) :
    exec (.cioSilent n) s = .next (cioSilence n s) := run_due (silentDue · n) _ hup h

theorem cioOverload_acts {s : State} {n : Nat} (hup : s.sys.up = true) (h : cioOverloadDue s n = true) :
    exec (.cioOverload n) s = .next (cioOverload n s) := run_due (cioOverloadDue · n) _ hup h

theorem cioShortVfld_acts {s : State} {n : Nat} (hup : s.sys.up = true) (h : (s.cio n).shortDue = true) :
    exec (.cioShortVfld n) s = .next (cioShort n s) := run_due (cioShortDue · n) _ hup h

/-- Settles O16: a frame's fold over the pins is judged at each pin's own step, a diagnosis at the pin it names. -/
theorem configurablePins : Obligations.ConfigurablePins := by
  refine ⟨fun s src mask value hup hc h => ⟨fun hu => ?_, fun hu => ?_, fun port => ?_, fun port => ?_⟩,
    fun s n hup => ⟨fun hmode hs hlate => ?_, fun hrun hheld => ?_, fun hdue hshort => ?_, fun hdue hshort => ?_⟩⟩
  · refine ⟨_, cioCommandFrame_acts mask value hup hu, fun n hn hm hf => ?_, fun n hf => ?_, fun hr => ?_, fun hp hr => ?_,
      cioCommand_only hc h⟩
    · unfold State.cio
      rw [cioCommand_sets]
      exact cioSets_follows hc h hn ⟨hm, hf⟩
    · unfold State.cio
      rw [cioCommand_sets]
      exact cioSets_foreign hc h (fun e => hf.elim (absurd e.1) (absurd e.2))
    · rw [cioCommand_accepted hr]
      exact ⟨cioSets_refused hc h hr, fld_onlyPins (cioSets_onlyPins hc h)⟩
    · rw [cioCommand_host hp hr, refuse_counts, cioSets_onlyPins hc h]
  · exact ⟨_, cioHeartbeatFrame_acts hup hu, fun n hn hm hf => cioHeard_follows hc h hn ⟨hm, hf⟩,
      fun n hf => cioHeard_foreign hc h (fun e => hf.elim (absurd e.1) (absurd e.2)), fld_onlyPins (cioHeard_onlyPins hc h)⟩
  · exact ⟨_, run_up _ _ hup, run_up _ _ hup⟩
  · exact ⟨_, run_up _ _ hup, run_up _ _ hup⟩
  · obtain ⟨hsilent, hwake⟩ := cioSilence_pin n s
    exact ⟨_, cioSilent_acts hup (by simp [silentDue, hmode, hs, hlate]), hsilent, hwake, pinReport_other _ _ _ _ _ _,
      fieldReport_pin _ _ _ _ _⟩
  · obtain ⟨hoff, hover⟩ := cioOverload_pin n s
    exact ⟨_, cioOverload_acts hup (by simp [cioOverloadDue, hrun, hheld]), hoff, hover, pinDriven_held hoff,
      pinReport_other _ _ _ _ _ _, fieldReport_pin _ _ _ _ _⟩
  · rw [cioShortVfld_acts hup hdue]
    simp [cioShort, hshort]
  · rw [cioShortVfld_acts hup hdue]
    simp [cioShort, hshort]

end Sys2Proof.Machine
end

section
/-!
SUPPORT. The change log and its areas (R360, R361), CM changes (R356, R372, R275), and the statement about them: what the
flash holds around what is programmed and erased, the header of an erased area, and the effect of an accepted change.
-/
namespace Sys2Proof.Machine

open Sys2Proof

/-! ## Bytes and fields -/

theorem leBytes_length (n k : Nat) : (leBytes n k).length = k := by
  induction k generalizing n with
  | zero => rfl
  | succ k ih => simp [leBytes, ih]

theorem ofLe_leBytes (n k : Nat) : ofLe (leBytes n k) = n % 256 ^ k := by
  induction k generalizing n with
  | zero => simp [leBytes, ofLe, Nat.mod_one]
  | succ k ih =>
    rw [leBytes, ofLe, ih, Nat.pow_succ', Nat.mod_mul]
    rfl

/-- A number laid down behind `pre` is read back from its offset. -/
theorem field_leBytes (pre post : List Byte) (n k : Nat) : field (pre ++ (leBytes n k ++ post)) pre.length k = n % 256 ^ k := by
  have ht : (leBytes n k ++ post).take k = leBytes n k := by rw [List.take_append_of_le_length (by rw [leBytes_length]),
    List.take_of_length_le (by rw [leBytes_length])]
  rw [field, List.drop_left, ht, ofLe_leBytes]

theorem field_leBytes_head (n k : Nat) (post : List Byte) : field (leBytes n k ++ post) 0 k = n % 256 ^ k :=
  field_leBytes [] post n k

/-! ## The flash around what is programmed and erased -/

/-- Programming changes the bytes and nothing else of the store. -/
theorem flashProgram_only (n : Nvm) (a : Nat) (bs : List Byte) : ∃ m, flashProgram n a bs = { n with mem := m } := by
  induction bs generalizing n a with
  | nil => exact ⟨n.mem, rfl⟩
  | cons b bs ih =>
    obtain ⟨m, hm⟩ := ih { n with mem := put 0xFF n.mem a (flashAt n a &&& b) } (a + 1)
    exact ⟨m, hm⟩

theorem flashAt_programmed_above (n : Nvm) (a : Nat) (bs : List Byte) (x : Nat) (h : a + bs.length ≤ x) :
    flashAt (flashProgram n a bs) x = flashAt n x := by
  induction bs generalizing n a with
  | nil => rfl
  | cons b bs ih =>
    rw [List.length_cons] at h
    rw [flashProgram, ih _ _ (by omega)]
    exact look_put_other _ _ _ _ _ (by omega)

theorem look_filter_key {α : Type} (d : α) (p : Nat → Bool) (m : Tab α) (k : Nat) :
    look d (m.filter (fun e => p e.1)) k = if p k then look d m k else d := by
  induction m with
  | nil => simp [look]
  | cons e m ih =>
    obtain ⟨k', v⟩ := e
    by_cases hp : p k' = true
    · rw [List.filter_cons_of_pos (by exact hp)]
      by_cases hk : k = k'
      · subst hk; simp [look, hp]
      · simpa only [look, hk, if_false] using ih
    · rw [List.filter_cons_of_neg (by exact hp)]
      by_cases hk : k = k'
      · subst hk; rw [ih]; simp [hp]
      · simpa only [look, hk, if_false] using ih

theorem flashAt_erased (n : Nvm) (a len x : Nat) :
    flashAt (flashErase n a len) x = if x < a ∨ a + len ≤ x then flashAt n x else 0xFF := by
  simpa [flashAt, flashErase] using look_filter_key (0xFF : Byte) (fun k => decide (k < a) || decide (a + len ≤ k)) n.mem x

/-! ## The header of a log area (R361) -/

/-- The checked words of an area's header. -/
def areaFields (gen first : Nat) : List Byte :=
  leBytes 0x1A609640 4 ++ leBytes gen 4 ++ leBytes first 4 ++ List.replicate 48 0

/-- The header of area `area`, its check word last. -/
def areaHeader (n : Nvm) (area gen first : Nat) : List Byte :=
  areaFields gen first ++ leBytes (crc32cBytes (leBytes (logHead n area) 4 ++ areaFields gen first)).toNat 4

theorem areaFields_length (gen first : Nat) : (areaFields gen first).length = 60 := by simp [areaFields, leBytes_length]

theorem areaHeader_length (n : Nvm) (area gen first : Nat) : (areaHeader n area gen first).length = 64 := by
  simp [areaHeader, areaFields_length, leBytes_length]

theorem areaStart_eq (area gen first : Nat) (n : Nvm) :
    areaStart area gen first n = flashProgram (flashErase n (logBase n area) 0x81000) (logHead n area) (areaHeader n area gen first) := by
  unfold areaStart areaHeader areaFields; rfl

theorem areaStart_only (area gen first : Nat) (n : Nvm) : ∃ m, areaStart area gen first n = { n with mem := m } := by
  obtain ⟨m, hm⟩ := flashProgram_only (flashErase n (logBase n area) 0x81000) (logHead n area) (areaHeader n area gen first)
  exact ⟨m, (areaStart_eq ..).trans hm⟩

/-- Where an area lies does not depend on the bytes. -/
theorem logBase_areaStart (area gen first k : Nat) (n : Nvm) : logBase (areaStart area gen first n) k = logBase n k := by
  obtain ⟨m, hm⟩ := areaStart_only area gen first n
  rw [hm]; rfl

theorem logHead_areaStart (area gen first k : Nat) (n : Nvm) : logHead (areaStart area gen first n) k = logHead n k := by
  unfold logHead; rw [logBase_areaStart]

/-- Outside the started area every byte stands. -/
theorem areaStart_outside (area gen first : Nat) (n : Nvm) {a : Nat} (h : a < logBase n area ∨ logBase n area + 0x81000 ≤ a) :
    flashAt (areaStart area gen first n) a = flashAt n a := by
  have he : flashAt (flashErase n (logBase n area) 0x81000) a = flashAt n a := by rw [flashAt_erased, if_pos h]
  have hl := areaHeader_length n area gen first
  have hh : logHead n area = logBase n area + 0x80000 := rfl
  rw [areaStart_eq]
  rcases h with h | h
  · rw [flashAt_programmed _ _ _ _ (by omega), he]
  · rw [flashAt_programmed_above _ _ _ _ (by omega), he]

theorem areaStart_header (area gen first : Nat) (n : Nvm) (hw : wf (0xFF : Byte) n.mem = true) :
    flashRead (areaStart area gen first n) (logHead n area) 64 = areaHeader n area gen first := by
  have hl := areaHeader_length n area gen first
  have hblank : ∀ i, i < (areaHeader n area gen first).length →
      flashAt (flashErase n (logBase n area) 0x81000) (logHead n area + i) = 0xFF := by
    intro i hi
    have hh : logHead n area = logBase n area + 0x80000 := rfl
    rw [flashAt_erased, if_neg (by omega)]
  rw [areaStart_eq, ← hl]
  exact flashRead_programmed _ _ _ (wf_flashErase _ _ _ hw) hblank

theorem areaHeader_marker (n : Nvm) (area gen first : Nat) : field (areaHeader n area gen first) 0 4 = 0x1A609640 := by
  unfold areaHeader areaFields
  generalize (crc32cBytes _).toNat = c
  simp only [List.append_assoc]
  rw [field_leBytes_head, Nat.mod_eq_of_lt (by norm_num)]

theorem areaHeader_gen (n : Nvm) (area gen first : Nat) : field (areaHeader n area gen first) 4 4 = gen % 4294967296 := by
  unfold areaHeader
  generalize (crc32cBytes _).toNat = c
  have h := field_leBytes (leBytes 0x1A609640 4) (leBytes first 4 ++ (List.replicate 48 0 ++ leBytes c 4)) gen 4
  simpa only [areaFields, List.append_assoc, leBytes_length, Nat.reducePow] using h

theorem areaHeader_check (n : Nvm) (area gen first : Nat) : field (areaHeader n area gen first) 0x3C 4 =
    (crc32cBytes (leBytes (logHead n area) 4 ++ areaFields gen first)).toNat := by
  unfold areaHeader
  generalize crc32cBytes (leBytes (logHead n area) 4 ++ areaFields gen first) = c
  have h := field_leBytes (areaFields gen first) [] c.toNat 4
  have hc : c.toNat < 256 ^ 4 := c.isLt
  rwa [areaFields_length, List.append_nil, Nat.mod_eq_of_lt hc] at h

theorem areaStart_ok (area gen first : Nat) (n : Nvm) (hw : wf (0xFF : Byte) n.mem = true) :
    areaOk (areaStart area gen first n) area = true := by
  have hf := areaFields_length gen first
  have ht : (areaHeader n area gen first).take 0x3C = areaFields gen first := by
    rw [areaHeader, List.take_append_of_le_length (by omega), List.take_of_length_le (by omega)]
  unfold areaOk
  simp only [logHead_areaStart, areaStart_header area gen first n hw, areaHeader_marker, areaHeader_check, ht, decide_true,
    Bool.and_self]

theorem areaStart_gen (area gen first : Nat) (n : Nvm) (hw : wf (0xFF : Byte) n.mem = true) :
    areaGen (areaStart area gen first n) area = gen % 4294967296 := by
  rw [areaGen, logHead_areaStart, areaStart_header area gen first n hw, areaHeader_gen]

/-! ## The log acknowledged, and an area erased (R361) -/

theorem logAckWrite_acknowledges {s : State} {v : Word} (hr : s.nvm.logReady = true)
    (h : (v.toNat + 4294967296 - s.nvm.logAck) % 4294967296 < logUnexported s.nvm) :
    logAckWrite v s = { s with nvm := logReclaim { s.nvm with logAck := (v.toNat + 1) % 4294967296 } } := by
  simp [logAckWrite, hr, h]

theorem logAckWrite_refused {s : State} {v : Word}
    (h : s.nvm.logReady = false ∨ logUnexported s.nvm ≤ (v.toNat + 4294967296 - s.nvm.logAck) % 4294967296) :
    logAckWrite v s = refuse addrLogAck s := by
  rcases h with h | h
  · simp [logAckWrite, h]
  · simp [logAckWrite, Nat.not_lt.mpr h]

theorem logReclaim_only (n : Nvm) : logReclaim n = { n with logErasing := (logReclaim n).logErasing } := by
  unfold logReclaim; split <;> rfl

/-- The log does not turn to its other area while the present one has a free slot (R361). -/
theorem logTurn_room {n : Nvm} (h : n.logNext < 8192) : logTurn n = n := if_neg (fun e => absurd e.1 h.ne)

/-- The erased area is started; of the rest of the store only its two marks differ. -/
theorem areaErased_starts {s : State} (hr : s.nvm.logReady = true) (he : s.nvm.logErasing = true) (hu : s.nvm.usable = true)
    (hp : s.nvm.wp = false) (hn : s.nvm.logNext < 8192) :
    ∃ first m, areaStart (1 - s.nvm.logArea) ((s.nvm.logGen + 1) % 4294967296) first s.nvm = { s.nvm with mem := m } ∧
      areaErased s = { s with nvm := { s.nvm with mem := m, logErasing := false, logOther := true } } := by
  obtain ⟨m, hm⟩ := areaStart_only (1 - s.nvm.logArea) ((s.nvm.logGen + 1) % 4294967296)
    ((s.nvm.logSeq + (8192 - s.nvm.logNext)) % 4294967296) s.nvm
  refine ⟨_, m, hm, ?_⟩
  unfold areaErased
  dsimp only
  rw [if_pos (by simp [hr, he, hu, hp]), hm]
  have hroom : logTurn { s.nvm with mem := m, logErasing := false, logOther := true } =
      { s.nvm with mem := m, logErasing := false, logOther := true } := logTurn_room hn
  rw [hroom]

theorem areaErased_idle {s : State}
    (h : s.nvm.logReady = false ∨ s.nvm.logErasing = false ∨ s.nvm.usable = false ∨ s.nvm.wp = true) : areaErased s = s := by
  rcases h with h | h | h | h <;> simp [areaErased, h]

/-! ## An accepted change (R356, R372, R275) -/

theorem logTurn_logSeq (n : Nvm) : (logTurn n).logSeq = n.logSeq := by
  unfold logTurn
  split
  · rw [logReclaim_only]
  · rfl

/-- An entry takes the next number; of the store, only the log and its bytes differ. -/
theorem logAppend_nvm (actor kind param : Nat) (old new : List Word) (target : Nat) (s : State) :
    ∃ m area next other first gen erasing, (logAppend actor kind param old new target s).nvm =
      { s.nvm with mem := m, logArea := area, logNext := next, logOther := other, logFirst := first, logGen := gen,
                   logErasing := erasing, logSeq := (s.nvm.logSeq + 1) % 4294967296 } := by
  obtain ⟨m, hm⟩ := flashProgram_only (logTurn s.nvm) (nextSlot s.nvm) (entryBytes actor kind param old new target s)
  unfold logAppend
  dsimp only
  rw [hm, logTurn_logSeq]
  unfold logTurn
  split
  · rw [logReclaim_only]
    exact ⟨_, _, _, _, _, _, _, rfl⟩
  · exact ⟨_, _, _, _, _, _, _, rfl⟩

/-- A change within its limits, in RUN, armed and with no host image pending, is applied where its entry stands. -/
theorem cmRequest_accepted {s : State} {p : Port} {c : CmChange} (h : Admitted s p rightCm) (hv : cmValueOk s c = true)
    (ha : s.nvm.armed = true) (hp : s.sec.power = 0) (hi : s.nvm.imgPending = true → s.nvm.wr.byModule = true) :
    ∃ target, cmRequest p c s =
      cmApply p c (logAppend (slotOf s p) 1 (cmParam c) (cmOld s c) (cmValue c) target (touchSession p s)) := by
  have hok : (cmValueOk s c && !(s.nvm.imgPending && !s.nvm.wr.byModule) && s.nvm.armed && decide (s.sec.power = 0)) = true := by
    cases hpend : s.nvm.imgPending
    · simp [hv, ha, hp]
    · simp [hv, ha, hp, hi hpend]
  unfold cmRequest
  dsimp only
  rw [hok, gate_admitted h]
  exact ⟨_, rfl⟩

theorem cmRequest_refused {s : State} {p : Port} {c : CmChange}
    (h : hasRight s p rightCm = false ∨ cmValueOk s c = false ∨ s.nvm.armed = false ∨ s.sec.power ≠ 0 ∨
      s.nvm.imgPending = true ∧ s.nvm.wr.byModule = false) : cmRequest p c s = pwRefused p (cmParam c) s := by
  refine gate_refused (h.imp id ?_) _ _ _ _ _
  rintro (h | h | h | ⟨h, hm⟩)
  · simp [h]
  · simp [h]
  · simp [h]
  · simp [h, hm]

/-- Every change is kept to be persisted, 1 s from the first one (R356); the log stands as its entry has left it. -/
theorem cmApply_kept (p : Port) (c : CmChange) (s : State) :
    (cmApply p c s).nvm.cmChanged = true ∧ (cmApply p c s).nvm.cmUnsaved = some (s.nvm.cmUnsaved.getD s.now) ∧
    (cmApply p c s).nvm.logSeq = s.nvm.logSeq ∧ (cmApply p c s).nvm.cmChanges = put [] s.nvm.cmChanges (cmKey c) (cmValue c) := by
  cases c <;> exact ⟨rfl, rfl, rfl, rfl⟩

/-- An alarm entry waits for its task (R275). -/
theorem cmApply_alarm (p : Port) (n : Nat) (ws : List Word) (s : State) :
    ((cmApply p (.alarm n ws) s).alarmE n).next = some ws ∧ ∀ k, k ≠ n → (cmApply p (.alarm n ws) s).alarmE k = s.alarmE k := by
  have hne : { s.alarmE n with next := some ws } ≠ ({} : Alarm) := fun e => Option.some_ne_none ws (congrArg Alarm.next e)
  have hn := congrArg Alarm.next (look_put_ne {} s.alarm n _ hne)
  exact ⟨hn, fun k hk => look_put_other _ _ _ _ _ hk⟩

/-- The entry of a booked node takes the new interval. -/
theorem find_bookWith (uid : U64) (ms : Nat) {book : List (U64 × Nat × Nat)}
    (h : (book.find? (fun b => decide (b.1 = uid))).isSome = true) :
    ((bookWith uid ms book).find? (fun b => decide (b.1 = uid))).map (fun b => b.2.2) = some ms := by
  unfold bookWith
  induction book with
  | nil => simp at h
  | cons b book ih =>
    by_cases hb : b.1 = uid
    · simp [hb]
    · simp only [List.map_cons, hb, if_false, List.find?_cons, decide_false] at h ⊢
      exact ih h

theorem cmApply_interval (p : Port) {r : Nat} {uid : U64} (ms : Nat) {s : State} (h : (bookedInterval s r uid).isSome = true) :
    bookedInterval (cmApply p (.interval r uid ms) s) r uid = some ms := by
  have hfound : ((look {} s.nvm.cm.rings r).book.find? (fun b => decide (b.1 = uid))).isSome = true := by
    simpa [bookedInterval] using h
  have hf := find_bookWith uid ms hfound
  have hne : { look {} s.nvm.cm.rings r with book := bookWith uid ms (look {} s.nvm.cm.rings r).book } ≠ ({} : RingCfg) := by
    intro e
    have hb : bookWith uid ms (look {} s.nvm.cm.rings r).book = [] := congrArg RingCfg.book e
    rw [hb] at hf
    simp at hf
  have hl := look_put_ne {} s.nvm.cm.rings r _ hne
  unfold bookedInterval cmApply
  dsimp only
  rw [hl]
  exact hf

/-- Settles O50: an admitted change acts on the state in which its entry stands; the log's acknowledgement and the erased
area follow their rules above. -/
theorem logAndChanges : Obligations.LogAndChanges := by
  intro s hup
  refine ⟨fun p c hadm hv ha hp hi => ?_, fun p c h => ?_, fun p v hr hd => ?_, fun p v h => ?_,
    fun hmem hr he hu hp hn => ?_, fun h => ?_⟩
  · obtain ⟨target, hreq⟩ := cmRequest_accepted hadm hv ha hp hi
    obtain ⟨m, area, next, other, first, gen, erasing, hnvm⟩ := logAppend_nvm (slotOf s p) 1 (cmParam c) (cmOld s c) (cmValue c)
      target (touchSession p s)
    have hexec : exec (.passwordClassChange p c) s = .next (cmRequest p c s) := run_up _ _ hup
    rw [hexec, hreq]
    have hkept := cmApply_kept p c
      (logAppend (slotOf s p) 1 (cmParam c) (cmOld s c) (cmValue c) target (touchSession p s))
    rw [hnvm] at hkept
    obtain ⟨hchanged, hunsaved, hseq, hchanges⟩ := hkept
    refine ⟨_, rfl, hchanged, hunsaved, hseq, hchanges, fun r uid ms hc => ?_, fun n ws hc => ?_⟩
    · subst hc
      have hbooked : (bookedInterval s r uid).isSome = true := by
        simp only [cmValueOk, Bool.and_eq_true] at hv
        obtain ⟨⟨-, hb⟩, -⟩ := hv
        exact hb
      refine cmApply_interval p ms ?_
      unfold bookedInterval at hbooked ⊢
      rw [hnvm]
      exact hbooked
    · subst hc
      exact cmApply_alarm p n ws _
  · exact (run_up _ _ hup).trans (congrArg _ (cmRequest_refused h))
  · refine ⟨_, run_up _ _ hup, ?_⟩
    rw [logAckWrite_acknowledges hr hd, logReclaim_only]
    exact ⟨rfl, rfl⟩
  · exact (run_up _ _ hup).trans (congrArg _ (logAckWrite_refused h))
  · obtain ⟨-, hwf⟩ := hmem
    obtain ⟨first, m, hstart, herased⟩ := areaErased_starts hr he hu hp hn
    have hok := areaStart_ok (1 - s.nvm.logArea) ((s.nvm.logGen + 1) % 4294967296) first s.nvm hwf
    have hgen := areaStart_gen (1 - s.nvm.logArea) ((s.nvm.logGen + 1) % 4294967296) first s.nvm hwf
    have hout := fun a => areaStart_outside (1 - s.nvm.logArea) ((s.nvm.logGen + 1) % 4294967296) first s.nvm (a := a)
    rw [hstart] at hok hgen hout
    refine ⟨_, run_up _ _ hup, ?_⟩
    rw [herased]
    exact ⟨rfl, rfl, hok, hgen.trans (Nat.mod_mod _ _), hout⟩
  · exact (run_up _ _ hup).trans (congrArg _ (areaErased_idle h))

end Sys2Proof.Machine
end

section
/-!
SUPPORT. A lane and the input image (R18 steps 2 to 5): what the image's arrival leaves alone, a lane's evaluation as a vote
of its own and nothing else of the lanes, the seats and the field die, and the statement about them.
-/
namespace Sys2Proof.Machine

open Sys2Proof

/-! ## Folds that keep a part of the state -/

/-- What every step of a fold keeps, the fold keeps. -/
theorem foldl_keeps {α β : Type} {part : State → β} {f : State → α → State} (h : ∀ t a, part (f t a) = part t) (l : List α)
    (s : State) : part (l.foldl f s) = part s :=
  List.foldlRecOn (motive := fun t => part t = part s) l f rfl (fun t ht a _ => (h t a).trans ht)

/-! ## Seats, lanes and field die -/

/-- What a lane's evaluation is read from: the seat manager, the lanes and the field die. -/
def seatsLanesField (s : State) : Seat × Tri LaneDie × Field := (s.seat, s.lane, s.fld)

theorem seatsLanesField_eq {s t : State} (h : seatsLanesField t = seatsLanesField s) :
    t.seat = s.seat ∧ t.lane = s.lane ∧ t.fld = s.fld := by
  simpa [seatsLanesField] using h

theorem imageHeard_keeps (l : Lane) (a : ImageArrival) (s : State) :
    seatsLanesField (imageHeard l a s) = seatsLanesField s := by
  unfold imageHeard
  dsimp only
  rw [foldl_keeps (part := seatsLanesField), foldl_keeps (part := seatsLanesField)]
  · rfl
  · exact fun _ _ => rfl
  · exact fun _ _ => rfl

theorem laneReport_keeps (l : Lane) (code detail : Nat) (s : State) :
    seatsLanesField (laneReport l code detail s) = seatsLanesField s := by rw [laneReport_only]; rfl

theorem laneTelReport_keeps (l : Lane) (code : Nat) (s : State) :
    seatsLanesField (laneTelReport l code s) = seatsLanesField s := by rw [laneTelReport_only]; rfl

theorem telChanges_keeps (l : Lane) (cs : List (Nat × TelState × TelState)) (s : State) :
    seatsLanesField (telChanges l cs s) = seatsLanesField s := by
  have hirq : seatsLanesField (if cs.any (fun c => decide (c.2.1 = .live ∧ c.2.2 ≠ .live)) then
      { s with host := { s.host with irqStat := s.host.irqStat ||| 0x20 } } else s) = seatsLanesField s := by split <;> rfl
  unfold telChanges
  dsimp only
  split
  · rw [foldl_keeps (part := seatsLanesField), hirq]
    intro t c
    split
    · rfl
    · rw [pushEvent_only]; rfl
  · exact hirq

/-! ## The evaluation -/

theorem laneSend_keeps (l : Lane) (out : LaneOut) (d : LaneDie) (s : State) :
    seatsLanesField (laneSend l out (s.setLane l d)) = seatsLanesField (s.setLane l { d with out := out }) := by
  have hd : (s.setLane l d).laneD l = d := State.laneD_setLane_same s l d
  unfold laneSend
  rw [laneFrame_only, hd, State.setLane_setLane]
  rfl

/-- A lane's evaluation ends in a vote for the cycle of its image; the reports that follow keep it (R49, R75). -/
theorem evaluate_votes {l : Lane} {s : State} {img : SafetyImage} (im : Image) (a : ImageArrival)
    (h : (s.laneD l).image = some img) :
    ∃ (d : LaneDie) (so cio sig : Word), seatsLanesField (evaluate l im a s) = seatsLanesField (s.setLane l d) ∧
      d.out = .vote (mkVote (s.laneD l).digest im.cycle so cio sig) ∧ d.evaluated = some im.cycle := by
  have hsched (ks : List Nat) (t : State) :=
    foldl_keeps (part := seatsLanesField) (fun t k => laneReport_keeps l codeTpSched k t) ks t
  have htel (rs : List (Nat × Nat)) (t : State) :=
    foldl_keeps (part := seatsLanesField) (fun t (r : Nat × Nat) => laneTelReport_keeps l r.1 t) rs t
  have hrep (rs : List (Nat × Nat)) (t : State) :=
    foldl_keeps (part := seatsLanesField) (fun t (r : Nat × Nat) => laneReport_keeps l r.1 r.2 t) rs t
  unfold evaluate
  simp only [h, hsched, telChanges_keeps, htel, hrep, laneSend_keeps]
  exact ⟨_, _, _, _, rfl, rfl, rfl⟩

/-! ## The image at a lane -/

section Arrival

variable {s : State} {l : Lane} {a : ImageArrival} {img : SafetyImage}

theorem laneImage_faulty {c : Nat} (h : (s.laneD l).faulty = some c) : laneImage l a s = withdrawSent l c s := by
  unfold laneImage
  simp only [h]
  rfl

theorem flagFaulty_sound {cause : Nat} (h : (s.laneD l).faulty = none) : flagFaulty l cause s = withdrawn l cause s := by
  unfold flagFaulty
  simp only [h, Option.isSome_none, Bool.false_eq_true, if_false]
  rfl

/-- The second count out of range in a row withdraws the lane (R418). -/
theorem laneImage_clockOut (hi : (s.laneD l).image = some img) (hf : (s.laneD l).faulty = none)
    (hc : a.lclk < 49000 ∨ 50500 < a.lclk) (h : 1 ≤ (s.laneD l).lclkOut) :
    laneImage l a s = withdrawn l 0x02 (s.setLane l { s.laneD l with lclkOut := (s.laneD l).lclkOut + 1 }) := by
  have hbad : lclkBad a.lclk = true := by simpa [lclkBad] using hc
  have h2 : 2 ≤ (s.laneD l).lclkOut + 1 := by omega
  unfold laneImage
  simp only [hf, hi, hbad, if_true, h2]
  exact flagFaulty_sound (by rw [State.laneD_setLane_same])

theorem lclkBad_inRange (hlo : 49000 ≤ a.lclk) (hhi : a.lclk ≤ 50500) : lclkBad a.lclk = false := by
  simp [lclkBad, hlo, hhi]

/-- With the clock in range and no invalid code, the count starts anew; an image that fails its check leaves no vote. -/
theorem laneImage_notIntact (hi : (s.laneD l).image = some img) (hf : (s.laneD l).faulty = none)
    (hg : GoodImage { a with intact := true }) (h : a.intact = false) :
    laneImage l a s = s.setLane l { s.laneD l with lclkOut := 0, out := .none } := by
  obtain ⟨-, hlo, hhi, hread⟩ := hg
  unfold laneImage
  simp [hf, hi, lclkBad_inRange hlo hhi, show a.badRead = false from hread, h]

/-- The lane as an image that passes its checks finds it. -/
def imageTaken (l : Lane) (a : ImageArrival) (s : State) : State :=
  imageHeard l a (s.setLane l { s.laneD l with lclkOut := 0 })

theorem imageTaken_keeps (l : Lane) (a : ImageArrival) (s : State) :
    (imageTaken l a s).seat = s.seat ∧ (imageTaken l a s).laneD l = { s.laneD l with lclkOut := 0 } ∧
    (∀ k, k ≠ l → (imageTaken l a s).laneD k = s.laneD k) ∧ (imageTaken l a s).fld = s.fld := by
  obtain ⟨hseat, hlane, hfld⟩ := seatsLanesField_eq (imageHeard_keeps l a (s.setLane l { s.laneD l with lclkOut := 0 }))
  refine ⟨hseat, ?_, fun k hk => ?_, hfld⟩
  · exact (congrArg (triGet · l) hlane).trans (State.laneD_setLane_same ..)
  · exact (congrArg (triGet · k) hlane).trans (State.laneD_setLane_other _ _ _ _ hk)

/-- What a lane does with an image that passes its checks (R49, R60): it catches up, then evaluates, votes with everything
off, or keeps the image for its copy. -/
def imageUsed (l : Lane) (a : ImageArrival) (img : SafetyImage) (digest : Word) (blocks : Tab BlockState) (t : State) : State :=
  let u := if catchingUp t l then catchUp l t else t
  if evaluates u l then evaluate l u.fld.image a u
  else match u.seat.state, (u.mgr l).phase with
    | .start, .start | .lockout, .start =>
      laneSend l (.vote (mkVote digest u.seat.cycle 0 0 (stateSig img u.seat.cycle blocks))) u
    | _, .copying _ | _, .agreeing _ => u.setLane l { u.laneD l with buf := some (u.fld.image, a) }
    | _, _ => u

theorem laneImage_good (hi : (s.laneD l).image = some img) (hf : (s.laneD l).faulty = none) (hg : GoodImage a) :
    laneImage l a s = imageUsed l a img (s.laneD l).digest (s.laneD l).blocks (imageTaken l a s) := by
  obtain ⟨hint, hlo, hhi, hread⟩ := hg
  have hc : lclkBad a.lclk = false := lclkBad_inRange hlo hhi
  unfold laneImage
  dsimp only
  split
  next h => rw [hf] at h; cases h
  next h => rw [hi] at h; cases h
  next img' _ h =>
    obtain rfl : img = img' := by rw [hi] at h; injection h
    simp only [hc, hread, hint, Bool.false_eq_true, if_false, Bool.false_and, Bool.not_true]
    rfl

/-- In START a lane votes with everything off (R49). -/
theorem imageUsed_start {t : State} (digest : Word) (blocks : Tab BlockState) (hst : t.seat.state = .start)
    (hph : (t.mgr l).phase = .start) :
    imageUsed l a img digest blocks t = voteSent l (mkVote digest t.seat.cycle 0 0 (stateSig img t.seat.cycle blocks)) t := by
  have hcatch : catchingUp t l = false := by simp [catchingUp, hph]
  have heval : evaluates t l = false := by simp [evaluates, hst]
  unfold imageUsed
  simp only [hcatch, Bool.false_eq_true, if_false, heval, hst, hph]
  rfl

/-- A seated or shadowing lane evaluates, once per cycle (R49, R75). -/
theorem imageUsed_evaluates {t : State} (digest : Word) (blocks : Tab BlockState) (hst : t.seat.state ≠ .start)
    (hlo : t.seat.state ≠ .lockout) (hph : (t.mgr l).phase = .seated ∨ (t.mgr l).phase = .shadow)
    (hev : (t.laneD l).evaluated ≠ some t.seat.cycle) :
    imageUsed l a img digest blocks t = evaluate l t.fld.image a t := by
  have hcatch : catchingUp t l = false := by rcases hph with h | h <;> simp [catchingUp, h]
  have heval : evaluates t l = true := by
    cases hs : t.seat.state with
    | start => exact absurd hs hst
    | lockout => exact absurd hs hlo
    | _ => rcases hph with h | h <;> simp [evaluates, hs, h, hev]
  unfold imageUsed
  simp only [hcatch, Bool.false_eq_true, if_false, heval, if_true]

end Arrival

/-- Settles O7: each check that fails ends the image's arrival; past them the lane votes with everything off or evaluates, and
the evaluation changes no lane but its own. -/
theorem laneTakesInputImage : Obligations.LaneTakesInputImage := by
  intro s l a img hup hi
  have hexec : exec (.laneInputImage l a) s = .next (laneImage l a s) := run_up _ _ hup
  rw [hexec]
  obtain ⟨hseat, hlane, hothers, hfld⟩ := imageTaken_keeps l a s
  have hmgr : (imageTaken l a s).mgr l = s.mgr l := congrArg (fun q : Seat => triGet q.lanes l) hseat
  refine ⟨fun c hf => ?_, fun hf hc h => ?_, fun hf hg h => ?_, fun hf hg hst hph => ?_, fun hf hg hst hlo hph hev => ?_⟩
  · rw [laneImage_faulty hf]
  · rw [laneImage_clockOut hi hf hc h]
  · rw [laneImage_notIntact hi hf hg h]
  · rw [laneImage_good hi hf hg, imageUsed_start _ _ (by rw [hseat]; exact hst) (by rw [hmgr]; exact hph)]
    exact ⟨_, rfl, rfl, rfl⟩
  · rw [laneImage_good hi hf hg, imageUsed_evaluates _ _ (by rw [hseat]; exact hst) (by rw [hseat]; exact hlo)
      (by rw [hmgr]; exact hph) (by rw [hlane, hseat]; exact hev)]
    obtain ⟨d, so, cio, sig, hkeeps, hout, hevaluated⟩ := evaluate_votes (s := imageTaken l a s) (l := l) (img := img)
      (imageTaken l a s).fld.image a (by rw [hlane]; exact hi)
    obtain ⟨hseat', hlane', hfld'⟩ := seatsLanesField_eq hkeeps
    have hown : (evaluate l (imageTaken l a s).fld.image a (imageTaken l a s)).laneD l = d :=
      (congrArg (triGet · l) hlane').trans (State.laneD_setLane_same ..)
    refine ⟨_, _, rfl, by rw [hown]; exact hout, ?_, by rw [hown, hevaluated, hfld], fun k hk => ?_, hseat'.trans hseat,
      hfld'.trans hfld⟩
    · rw [hlane, hfld]; rfl
    · exact ((congrArg (triGet · k) hlane').trans (State.laneD_setLane_other _ _ _ _ hk)).trans (hothers k hk)

end Sys2Proof.Machine
end

section
/-!
SUPPORT. The facts of a cycle (R17, R18): its number and instants, the contributions of the lanes and their classification.
Of what happens within a cycle only a few operations touch them; here are those that leave them alone.
-/
namespace Sys2Proof.Machine

open Sys2Proof

/-! ## The facts -/

/-- The cycle's number, whether step 6 is done, the votes it has classified, the lanes' contributions, the boundary's tick and
the present one, the sampling instants passed, and the cycle of the frozen image. -/
structure CycleFacts where
  cycle : Nat
  judged : Bool
  votes : Tri (Option Vote)
  rx : Tri Contribution
  t0 : Nat
  now : Nat
  sub : Nat
  image : Nat

def cycleFacts (s : State) : CycleFacts :=
  { cycle := s.seat.cycle, judged := s.seat.judged, votes := s.seat.votes,
    rx := ⟨s.seat.lanes.l1.rx, s.seat.lanes.l2.rx, s.seat.lanes.l3.rx⟩,
    t0 := s.t0, now := s.now, sub := s.fld.sub, image := s.fld.image.cycle }

/-- The facts stand in the seat manager, the field die and the clock alone. -/
theorem cycleFacts_elsewhere (s : State) (sys fresh fab lane afe tach ring node cox ump bist time host otp nvm sec net boat alarm crc
    hook pending) : cycleFacts { s with
      sys := sys, fresh := fresh, fab := fab, lane := lane, afe := afe, tach := tach, ring := ring, node := node, cox := cox,
      ump := ump, bist := bist, time := time, host := host, otp := otp, nvm := nvm, sec := sec, net := net, boat := boat,
      alarm := alarm, crc := crc, hook := hook, pending := pending } = cycleFacts s := rfl

section Folds

theorem cycleFacts_foldl {α : Type} {f : State → α → State} (h : ∀ t a, cycleFacts (f t a) = cycleFacts t) (l : List α) (s : State) :
    cycleFacts (l.foldl f s) = cycleFacts s := foldl_keeps h l s

theorem cycleFacts_whenever {f : State → State} (h : ∀ t, cycleFacts (f t) = cycleFacts t) (c : Bool) (s : State) :
    cycleFacts (whenever c f s) = cycleFacts s := by
  cases c
  · rfl
  · exact h s

theorem cycleFacts_each {f : Nat → State → State} (h : ∀ k t, cycleFacts (f k t) = cycleFacts t) (n : Nat)
    (due : State → Nat → Bool) (s : State) : cycleFacts (each n due f s) = cycleFacts s :=
  cycleFacts_foldl (fun t k => cycleFacts_whenever (h k) _ t) _ s

theorem cycleFacts_eachGroup {f : Group → State → State} (h : ∀ g t, cycleFacts (f g t) = cycleFacts t)
    (due : State → Group → Bool) (s : State) : cycleFacts (eachGroup due f s) = cycleFacts s :=
  cycleFacts_foldl (fun t g => cycleFacts_whenever (h g) _ t) _ s

theorem cycleFacts_eachSupply {f : Supply → State → State} (h : ∀ v t, cycleFacts (f v t) = cycleFacts t)
    (due : State → Supply → Bool) (s : State) : cycleFacts (eachSupply due f s) = cycleFacts s :=
  cycleFacts_foldl (fun t v => cycleFacts_whenever (h v) _ t) _ s

end Folds

/-! ## Setters -/

@[simp] theorem cycleFacts_setSi (s : State) (n : Nat) (v : Si) : cycleFacts (s.setSi n v) = cycleFacts s := rfl
@[simp] theorem cycleFacts_setTp (s : State) (n : Nat) (v : Tp) : cycleFacts (s.setTp n v) = cycleFacts s := rfl
@[simp] theorem cycleFacts_setSo (s : State) (n : Nat) (v : So) : cycleFacts (s.setSo n v) = cycleFacts s := rfl
@[simp] theorem cycleFacts_setCio (s : State) (n : Nat) (v : Cio) : cycleFacts (s.setCio n v) = cycleFacts s := rfl
@[simp] theorem cycleFacts_setAin (s : State) (n : Nat) (v : Ain) : cycleFacts (s.setAin n v) = cycleFacts s := rfl
@[simp] theorem cycleFacts_setTach (s : State) (n : Nat) (v : Tach) : cycleFacts (s.setTach n v) = cycleFacts s := rfl
@[simp] theorem cycleFacts_setCore (s : State) (n : Nat) (v : Core) : cycleFacts (s.setCore n v) = cycleFacts s := rfl
@[simp] theorem cycleFacts_setRx (s : State) (ep src : Nat) (r : Rx) : cycleFacts (s.setRx ep src r) = cycleFacts s := rfl
@[simp] theorem cycleFacts_setFcnt (s : State) (p : Nat) (c : PortCnt) : cycleFacts (s.setFcnt p c) = cycleFacts s := rfl
@[simp] theorem cycleFacts_setLane (s : State) (l : Lane) (d : LaneDie) : cycleFacts (s.setLane l d) = cycleFacts s := rfl
@[simp] theorem cycleFacts_setGroup (s : State) (g : Group) (v : GroupSt) : cycleFacts (s.setGroup g v) = cycleFacts s := by
  cases g <;> rfl
@[simp] theorem cycleFacts_setSupply (s : State) (g : Supply) (v : SupplySt) : cycleFacts (s.setSupply g v) = cycleFacts s := by
  cases g <;> rfl

/-- A lane's entry keeps the facts while it keeps the lane's contribution. -/
@[simp] theorem cycleFacts_setMgr (s : State) (l : Lane) (m : LaneMgr) (h : m.rx = (s.mgr l).rx) :
    cycleFacts (s.setMgr l m) = cycleFacts s := by
  cases l <;> simp only [cycleFacts, State.setMgr, triSet, h] <;> rfl

/-! ## Reports and frames -/

@[simp] theorem cycleFacts_pushEvent (src cls code : Nat) (data : List Word) (time : Nat) (s : State) :
    cycleFacts (pushEvent src cls code data time s) = cycleFacts s := by rw [pushEvent_only]; exact cycleFacts_elsewhere ..
@[simp] theorem cycleFacts_sendFrame (src cls : Nat) (ws : List Word) (s : State) :
    cycleFacts (sendFrame src cls ws s) = cycleFacts s := by rw [sendFrame_only]; exact cycleFacts_elsewhere ..
@[simp] theorem cycleFacts_sendFrom (src cls seat since : Nat) (ws : List Word) (s : State) :
    cycleFacts (sendFrom src cls seat since ws s) = cycleFacts s := by rw [sendFrom_only]; exact cycleFacts_elsewhere ..
@[simp] theorem cycleFacts_laneFrame (l : Lane) (base cls : Nat) (ws : List Word) (s : State) :
    cycleFacts (laneFrame l base cls ws s) = cycleFacts s := by rw [laneFrame_only]; exact cycleFacts_elsewhere ..
@[simp] theorem cycleFacts_countPort (p i n : Nat) (s : State) : cycleFacts (countPort p i n s) = cycleFacts s := by
  rw [countPort_only]; exact cycleFacts_elsewhere ..
@[simp] theorem cycleFacts_noteWait (src cls wait : Nat) (s : State) : cycleFacts (noteWait src cls wait s) = cycleFacts s := rfl
@[simp] theorem cycleFacts_emit (r : Report) (s : State) : cycleFacts (emit r s) = cycleFacts s := by
  rw [emit_only]; exact cycleFacts_elsewhere ..
@[simp] theorem cycleFacts_report (line code detail : Nat) (s : State) : cycleFacts (report line code detail s) = cycleFacts s :=
  cycleFacts_emit _ _
@[simp] theorem cycleFacts_refuse (addr : Nat) (s : State) : cycleFacts (refuse addr s) = cycleFacts s := rfl

/-! ## Outputs, pins and groups -/

@[simp] theorem cycleFacts_refreshSo (s : State) (k : Nat) : cycleFacts (refreshSo s k) = cycleFacts s := by
  unfold refreshSo; dsimp only; split <;> rfl
@[simp] theorem cycleFacts_refreshCio (s : State) (n : Nat) : cycleFacts (refreshCio s n) = cycleFacts s := by
  unfold refreshCio; dsimp only; split <;> rfl
@[simp] theorem cycleFacts_refreshAll (s : State) : cycleFacts (refreshAll s) = cycleFacts s :=
  (cycleFacts_foldl cycleFacts_refreshCio _ _).trans (cycleFacts_foldl cycleFacts_refreshSo _ _)

@[simp] theorem cycleFacts_groupCause (g : Group) (f : GroupSt → GroupSt) (s : State) :
    cycleFacts (groupCause g f s) = cycleFacts s := by
  unfold groupCause
  dsimp only
  rw [cycleFacts_refreshAll]
  split
  · exact (cycleFacts_foldl (fun _ _ => cycleFacts_setCio ..) _ _).trans (cycleFacts_setGroup ..)
  · exact cycleFacts_setGroup ..

@[simp] theorem cycleFacts_groupTry (g : Group) (s : State) : cycleFacts (groupTry g s) = cycleFacts s := by
  unfold groupTry groupEnable
  dsimp only
  repeat' split
  · exact cycleFacts_setGroup ..
  · exact cycleFacts_setGroup ..
  · rfl

@[simp] theorem cycleFacts_groupMet (g : Group) (f : GroupSt → GroupSt) (s : State) : cycleFacts (groupMet g f s) = cycleFacts s :=
  (cycleFacts_groupTry _ _).trans (cycleFacts_setGroup ..)

@[simp] theorem cycleFacts_groupComplete (g : Group) (s : State) : cycleFacts (groupComplete g s) = cycleFacts s := by
  unfold groupComplete groupEnable; dsimp only; split <;> simp

@[simp] theorem cycleFacts_linesFollow (s : State) : cycleFacts (linesFollow s) = cycleFacts s := by
  unfold linesFollow forcedLines
  dsimp only
  rw [cycleFacts_foldl]
  · rfl
  · intro t g
    repeat' split
    · rfl
    · exact cycleFacts_groupCause ..
    · exact cycleFacts_groupMet ..
    · rfl

@[simp] theorem cycleFacts_holdGroups (s : State) : cycleFacts (holdGroups s) = cycleFacts s :=
  cycleFacts_foldl (fun _ _ => cycleFacts_groupCause ..) _ _
@[simp] theorem cycleFacts_unholdGroups (s : State) : cycleFacts (unholdGroups s) = cycleFacts s :=
  cycleFacts_foldl (fun _ _ => cycleFacts_groupMet ..) _ _

/-! ## What has become due at inputs, generators and supplies -/

@[simp] theorem cycleFacts_filterChange (n : Nat) (s : State) : cycleFacts (filterChange n s) = cycleFacts s := rfl
@[simp] theorem cycleFacts_pulseBegin (k : Nat) (s : State) : cycleFacts (pulseBegin k s) = cycleFacts s := rfl

@[simp] theorem cycleFacts_inputsCarry (k : Nat) (s : State) : cycleFacts (inputsCarry k s) = cycleFacts s :=
  cycleFacts_foldl (fun t n => by split <;> rfl) _ _

@[simp] theorem cycleFacts_overload (k : Nat) (s : State) : cycleFacts (overload k s) = cycleFacts s := by simp [overload]

@[simp] theorem cycleFacts_declareCross (n k q : Nat) (s : State) : cycleFacts (declareCross n k q s) = cycleFacts s := by
  unfold declareCross; dsimp only; split <;> simp

@[simp] theorem cycleFacts_windowEnd (k : Nat) (s : State) : cycleFacts (windowEnd k s) = cycleFacts s := by
  unfold windowEnd
  split
  · rfl
  · rw [cycleFacts_foldl, cycleFacts_setTp]
    intro t n
    unfold foreignInput
    dsimp only
    repeat' split
    all_goals simp

@[simp] theorem cycleFacts_supplyWarn (v : Supply) (s : State) : cycleFacts (supplyWarn v s) = cycleFacts s := by simp [supplyWarn]

@[simp] theorem cycleFacts_supplySag (v : Supply) (s : State) : cycleFacts (supplySag v s) = cycleFacts s := by
  unfold supplySag
  rw [cycleFacts_report, cycleFacts_foldl (fun _ _ => cycleFacts_groupCause ..), cycleFacts_setSupply]

@[simp] theorem cycleFacts_supplyMissing (v : Supply) (s : State) : cycleFacts (supplyMissing v s) = cycleFacts s := by
  unfold supplyMissing
  rw [cycleFacts_report, cycleFacts_foldl (fun _ _ => cycleFacts_groupCause ..), cycleFacts_setSupply]

@[simp] theorem cycleFacts_supplyRecovery (v : Supply) (s : State) : cycleFacts (supplyRecovery v s) = cycleFacts s := by
  unfold supplyRecovery
  dsimp only
  split
  · rfl
  · rw [cycleFacts_foldl (fun _ _ => cycleFacts_groupMet ..), cycleFacts_setSupply]

theorem cycleFacts_settleIn (s : State) : cycleFacts (settleIn s) = cycleFacts s := by
  unfold settleIn
  rw [cycleFacts_eachSupply cycleFacts_supplyRecovery, cycleFacts_eachSupply cycleFacts_supplyMissing,
    cycleFacts_eachSupply cycleFacts_supplySag, cycleFacts_eachSupply cycleFacts_supplyWarn,
    cycleFacts_each cycleFacts_windowEnd, cycleFacts_each cycleFacts_overload, cycleFacts_each cycleFacts_filterChange]

/-! ## What has become due at outputs, pins and groups -/

@[simp] theorem cycleFacts_declareOutCross (k j : Nat) (s : State) : cycleFacts (declareOutCross k j s) = cycleFacts s := by
  unfold declareOutCross; dsimp only; split <;> simp

@[simp] theorem cycleFacts_crossCheck (k p j : Nat) (s : State) : cycleFacts (crossCheck k p j s) = cycleFacts s := by
  unfold crossCheck; dsimp only; split <;> simp

@[simp] theorem cycleFacts_outPulseEnd (k : Nat) (s : State) : cycleFacts (outPulseEnd k s) = cycleFacts s := by
  unfold outPulseEnd
  dsimp only
  repeat' split
  · rfl
  · rw [cycleFacts_foldl (fun _ _ => cycleFacts_crossCheck ..), cycleFacts_setSo]
  · rfl

@[simp] theorem cycleFacts_outClear (k : Nat) (s : State) : cycleFacts (outClear k s) = cycleFacts s := rfl
@[simp] theorem cycleFacts_outShort (k : Nat) (s : State) : cycleFacts (outShort k s) = cycleFacts s := by
  unfold outShort; dsimp only; split <;> simp
@[simp] theorem cycleFacts_outHold (code k : Nat) (s : State) : cycleFacts (outHold code k s) = cycleFacts s := by simp [outHold]
@[simp] theorem cycleFacts_outStuck (k : Nat) (s : State) : cycleFacts (outStuck k s) = cycleFacts s := by
  unfold outStuck; split <;> simp
@[simp] theorem cycleFacts_outOpenLoad (k : Nat) (s : State) : cycleFacts (outOpenLoad k s) = cycleFacts s := by simp [outOpenLoad]
@[simp] theorem cycleFacts_outPulseBegin (k : Nat) (s : State) : cycleFacts (outPulseBegin k s) = cycleFacts s := by
  unfold outPulseBegin; dsimp only; split <;> rfl
@[simp] theorem cycleFacts_cioOverload (n : Nat) (s : State) : cycleFacts (cioOverload n s) = cycleFacts s := by simp [cioOverload]
@[simp] theorem cycleFacts_cioShort (n : Nat) (s : State) : cycleFacts (cioShort n s) = cycleFacts s := by
  unfold cioShort; dsimp only; split <;> simp
@[simp] theorem cycleFacts_cioSilence (n : Nat) (s : State) : cycleFacts (cioSilence n s) = cycleFacts s := by simp [cioSilence]
@[simp] theorem cycleFacts_groupOvertemp (g : Group) (s : State) : cycleFacts (groupOvertemp g s) = cycleFacts s := by
  simp [groupOvertemp]
@[simp] theorem cycleFacts_groupOvercurrent (g : Group) (s : State) : cycleFacts (groupOvercurrent g s) = cycleFacts s := by
  simp [groupOvercurrent]
@[simp] theorem cycleFacts_wdTrip (s : State) : cycleFacts (wdTrip s) = cycleFacts s := by
  unfold wdTrip; rw [cycleFacts_report, cycleFacts_refreshAll]; rfl
@[simp] theorem cycleFacts_wdRelease (s : State) : cycleFacts (wdRelease s) = cycleFacts s := by
  unfold wdRelease; rw [cycleFacts_refreshAll]; rfl

theorem cycleFacts_settleOut (s : State) : cycleFacts (settleOut s) = cycleFacts s := by
  unfold settleOut
  rw [cycleFacts_whenever cycleFacts_wdRelease, cycleFacts_whenever cycleFacts_wdTrip,
    cycleFacts_eachGroup cycleFacts_groupOvertemp, cycleFacts_eachGroup cycleFacts_groupOvercurrent,
    cycleFacts_each cycleFacts_cioSilence, cycleFacts_each cycleFacts_cioShort, cycleFacts_each cycleFacts_cioOverload,
    cycleFacts_each cycleFacts_outOpenLoad, cycleFacts_each (cycleFacts_outHold codeOutOverload), cycleFacts_each cycleFacts_outStuck,
    cycleFacts_each cycleFacts_outShort, cycleFacts_each cycleFacts_outClear, cycleFacts_each cycleFacts_outPulseEnd]

/-! ## What has become due at channels, the release qualifier and the Umpire -/

@[simp] theorem cycleFacts_ainOpen (ch : Nat) (s : State) : cycleFacts (ainOpen ch s) = cycleFacts s := by simp [ainOpen]
@[simp] theorem cycleFacts_ainShort (ch : Nat) (s : State) : cycleFacts (ainShort ch s) = cycleFacts s := by simp [ainShort]
@[simp] theorem cycleFacts_settled (ch : Nat) (s : State) : cycleFacts (settled ch s) = cycleFacts s := rfl
@[simp] theorem cycleFacts_lorHist (s : State) : cycleFacts (lorHist s) = cycleFacts s := rfl
@[simp] theorem cycleFacts_twoOarLimit (s : State) : cycleFacts (twoOarLimit s) = cycleFacts s := by
  unfold twoOarLimit; rw [cycleFacts_report]; rfl

@[simp] theorem cycleFacts_aliveStop (s : State) : cycleFacts (aliveStop s) = cycleFacts s := by unfold aliveStop; split <;> rfl
@[simp] theorem cycleFacts_lockoutFault (s : State) : cycleFacts (lockoutFault s) = cycleFacts s := rfl

/-- An error that latches changes no fact of the cycle (R309 to R320). -/
@[simp] theorem cycleFacts_latchOne (s : State) (r : Report) : cycleFacts (latchOne s r) = cycleFacts s := by
  unfold latchOne
  dsimp only
  rw [cycleFacts_pushEvent]
  split
  · rfl
  · split
    · rw [cycleFacts_aliveStop, cycleFacts_lockoutFault]; rfl
    · rw [cycleFacts_aliveStop]; rfl
    · rfl

@[simp] theorem cycleFacts_latchAll (s : State) : cycleFacts (latchAll s) = cycleFacts s := by
  unfold latchAll
  split
  · rfl
  · rw [cycleFacts_linesFollow, cycleFacts_foldl cycleFacts_latchOne]; rfl

@[simp] theorem cycleFacts_umpCheck (pass : Bool) (s : State) : cycleFacts (umpCheck pass s) = cycleFacts s := by
  unfold umpCheck
  dsimp only
  split
  · rw [cycleFacts_linesFollow]; rfl
  · rw [cycleFacts_report, cycleFacts_linesFollow]; rfl

@[simp] theorem cycleFacts_handlingClose (s : State) : cycleFacts (handlingClose s) = cycleFacts s := by
  have h : cycleFacts (latchAll { s with ump := { s.ump with handling := none } }) = cycleFacts s := cycleFacts_latchAll _
  unfold handlingClose
  dsimp only
  repeat' split
  · exact h
  · rw [cycleFacts_umpCheck, h]
  · exact h

theorem cycleFacts_settleRest (s : State) : cycleFacts (settleRest s) = cycleFacts s := by
  unfold settleRest
  rw [cycleFacts_latchAll, cycleFacts_whenever cycleFacts_handlingClose, cycleFacts_whenever cycleFacts_twoOarLimit,
    cycleFacts_whenever cycleFacts_lorHist, cycleFacts_each cycleFacts_settled, cycleFacts_each cycleFacts_ainShort,
    cycleFacts_each cycleFacts_ainOpen]

theorem cycleFacts_settleBegin (s : State) : cycleFacts (settleBegin s) = cycleFacts s := by
  unfold settleBegin
  rw [cycleFacts_each cycleFacts_outPulseBegin, cycleFacts_each cycleFacts_pulseBegin]

/-- What has become due within a cycle changes no fact of it. -/
@[simp] theorem cycleFacts_settle (s : State) : cycleFacts (settle s) = cycleFacts s := by
  unfold settle
  rw [cycleFacts_settleBegin, cycleFacts_settleRest, cycleFacts_settleOut, cycleFacts_settleIn]

/-! ## Items that hooks have held (R470) -/

@[simp] theorem cycleFacts_linkFailed (link : Nat) (s : State) : cycleFacts (linkFailed link s) = cycleFacts s := by
  rw [linkFailed_only]; exact cycleFacts_elsewhere ..
@[simp] theorem cycleFacts_reportLink (s : State) : cycleFacts (reportLink s) = cycleFacts s := cycleFacts_report ..
@[simp] theorem cycleFacts_routeMiss (p : Nat) (safe : Bool) (s : State) : cycleFacts (routeMiss p safe s) = cycleFacts s := by
  unfold routeMiss; dsimp only; split <;> simp
@[simp] theorem cycleFacts_frameEnd (p ep src : Nat) (r : Route) (f : OpenFrame) (s : State) :
    cycleFacts (frameEnd p ep src r f s) = cycleFacts s := by rw [frameEnd_only]; exact cycleFacts_elsewhere ..
@[simp] theorem cycleFacts_frameLen (p ep src : Nat) (r : Route) (dropped : Bool) (s : State) :
    cycleFacts (frameLen p ep src r dropped s) = cycleFacts s := by
  unfold frameLen; dsimp only; repeat' split
  all_goals simp
@[simp] theorem cycleFacts_frameStart (p ep src : Nat) (r : Route) (w : Word × Word) (s : State) :
    cycleFacts (frameStart p ep src r w s) = cycleFacts s := by
  unfold frameStart; dsimp only; repeat' split
  all_goals simp
@[simp] theorem cycleFacts_wordAt (p : Nat) (r : Route) (w : Word × Word) (s : State) (ep : Nat) :
    cycleFacts (wordAt p r w s ep) = cycleFacts s := by
  unfold wordAt; dsimp only; repeat' split
  all_goals simp
@[simp] theorem cycleFacts_switchWord (p i : Nat) (r : Route) (w : Word × Word) (s : State) :
    cycleFacts (switchWord p i r w s) = cycleFacts s := by
  unfold switchWord
  dsimp only
  split
  · simp
  · exact cycleFacts_elsewhere ..

@[simp] theorem cycleFacts_chkFail (p : Nat) (s : State) : cycleFacts (chkFail p s) = cycleFacts s := by
  unfold chkFail
  dsimp only
  repeat' split
  all_goals simp only [cycleFacts_linkFailed, cycleFacts_reportLink, cycleFacts_report, cycleFacts_setFcnt]
  all_goals exact cycleFacts_countPort p 0 1 s

@[simp] theorem cycleFacts_receiveWord (p : Nat) (s : State) (w : Word × Word) : cycleFacts (receiveWord p s w) = cycleFacts s := by
  unfold receiveWord
  dsimp only
  repeat' split
  all_goals simp only [cycleFacts_chkFail, cycleFacts_routeMiss, cycleFacts_wordAt, cycleFacts_switchWord, cycleFacts_elsewhere]

@[simp] theorem cycleFacts_receiveFrame (p : Nat) (words : List (Word × Word)) (wait : Nat) (s : State) :
    cycleFacts (receiveFrame p words wait s) = cycleFacts s := by
  unfold receiveFrame
  rw [cycleFacts_foldl (cycleFacts_receiveWord p)]
  split
  · exact cycleFacts_noteWait ..
  · rfl

@[simp] theorem cycleFacts_telArrive (l : Lane) (conn : Nat) (bytes : List Byte) (s : State) :
    cycleFacts (telArrive l conn bytes s) = cycleFacts s := by unfold telArrive; dsimp only; split <;> rfl

@[simp] theorem cycleFacts_cioHeard (src : Nat) (s : State) : cycleFacts (cioHeard src s) = cycleFacts s := by
  unfold cioHeard
  refine cycleFacts_foldl (fun t n => ?_) _ _
  dsimp only
  split
  · exact (cycleFacts_setCio ..).trans (cycleFacts_whenever (cycleFacts_cioSilence n) _ t)
  · rfl

@[simp] theorem cycleFacts_cioSet (src : Nat) (mask value : Word) (s : State) (n : Nat) :
    cycleFacts (cioSet src mask value s n) = cycleFacts s := by
  unfold cioSet
  dsimp only
  repeat' split
  · simp
  · rfl
  · rfl

@[simp] theorem cycleFacts_cioCommand (src : Nat) (mask value : Word) (s : State) :
    cycleFacts (cioCommand src mask value s) = cycleFacts s := by
  have h : cycleFacts ((List.range 24).foldl (cioSet src mask value) (cioHeard src s)) = cycleFacts s := by
    rw [cycleFacts_foldl (cycleFacts_cioSet src mask value), cycleFacts_cioHeard]
  unfold cioCommand
  dsimp only
  split
  · rw [cycleFacts_refuse, h]
  · exact h

@[simp] theorem cycleFacts_reportStore (r : Nat) (rep : RingReport) (s : State) :
    cycleFacts (reportStore r rep s) = cycleFacts s := by rw [reportStore_only]; exact cycleFacts_elsewhere ..
@[simp] theorem cycleFacts_decimReady (ch : Nat) (w : Word) (s : State) : cycleFacts (decimReady ch w s) = cycleFacts s := rfl

@[simp] theorem cycleFacts_streamSlots (b n : Nat) (s : State) : cycleFacts (streamSlots b n s) = cycleFacts s := by
  unfold streamSlots; split <;> rfl
@[simp] theorem cycleFacts_capComplete (c : Capture) (s : State) : cycleFacts (capComplete c s) = cycleFacts s := by
  unfold capComplete; rw [hostCapEnd_only, capFrame_only]; exact cycleFacts_elsewhere ..

@[simp] theorem cycleFacts_capWrite (c : Capture) (stamp : Word) (ws : List Word) (s : State) :
    cycleFacts (capWrite c stamp ws s) = cycleFacts s := by
  unfold capWrite
  dsimp only
  rw [apply_ite cycleFacts, cycleFacts_capComplete, ite_self, setCap_only]
  refine (cycleFacts_elsewhere ..).trans (cycleFacts_foldl (fun t e => ?_) _ _)
  split
  · exact (cycleFacts_streamSlots ..).trans (cycleFacts_elsewhere ..)
  · rfl

@[simp] theorem cycleFacts_streamWrite (ch : Nat) (intact : Bool) (s : State) :
    cycleFacts (streamWrite ch intact s) = cycleFacts s := by
  unfold streamWrite
  dsimp only
  split
  · rfl
  · split
    · rw [cycleFacts_foldl (fun _ _ => cycleFacts_capWrite ..)]
      exact (cycleFacts_elsewhere ..).trans ((cycleFacts_streamSlots ..).trans (cycleFacts_elsewhere ..))
    · rfl

/-- An item that proceeds on its path changes no fact of the cycle. -/
theorem cycleFacts_deliver (item : Instr) (s : State) : cycleFacts (deliver item s) = cycleFacts s := by
  unfold deliver; split <;> simp

/-! ## The facts without the present tick -/

/-- The facts of the cycle, whatever the present tick. -/
def cycleMark (s : State) : CycleFacts := { cycleFacts s with now := 0 }

theorem cycleMark_of_facts {s t : State} (h : cycleFacts t = cycleFacts s) : cycleMark t = cycleMark s := by
  unfold cycleMark; rw [h]

@[simp] theorem cycleMark_advance (tick : Nat) (s : State) : cycleMark (advance tick s) = cycleMark s := rfl

theorem cycleMark_releaseItem (e : HeldItem) (s : State) : cycleMark (releaseItem e s) = cycleMark s :=
  (cycleMark_of_facts (cycleFacts_deliver _ _)).trans (cycleMark_advance e.rel s)

@[simp] theorem cycleMark_releaseUpTo (tick : Nat) (s : State) : cycleMark (releaseUpTo tick s) = cycleMark s := by
  unfold releaseUpTo
  refine foldl_keeps (part := cycleMark) (fun t e => ?_) _ _
  split
  · exact cycleMark_releaseItem e t
  · rfl

end Sys2Proof.Machine
end

section
/-!
SUPPORT. Step 6 and the seat manager's schedules (R18, R56 to R58, R68, R69): every row of R56 and every command of the window
leave the facts of the cycle alone, so that step 6 only classifies the contributions and marks itself done.
-/
namespace Sys2Proof.Machine

open Sys2Proof

/-! ## Lanes and slices -/

/-- A new entry of the seat manager with the same cycle, classification and lanes keeps the facts. -/
theorem cycleFacts_setSeat (s : State) (q : Seat) (hc : q.cycle = s.seat.cycle) (hj : q.judged = s.seat.judged)
    (hv : q.votes = s.seat.votes) (hl : q.lanes = s.seat.lanes) : cycleFacts { s with seat := q } = cycleFacts s := by
  simp only [cycleFacts, hc, hj, hv, hl]

@[simp] theorem cycleFacts_dropSlice (u : Nat) (s : State) : cycleFacts (dropSlice u s) = cycleFacts s := rfl
@[simp] theorem cycleFacts_abortSlice (u : Nat) (s : State) : cycleFacts (abortSlice u s) = cycleFacts s := by
  rw [abortSlice_only]; exact cycleFacts_elsewhere ..
@[simp] theorem cycleFacts_abortCommand (l : Lane) (s : State) : cycleFacts (abortCommand l s) = cycleFacts s := by
  unfold abortCommand; dsimp only; split <;> simp
@[simp] theorem cycleFacts_abortComplete (l : Lane) (s : State) : cycleFacts (abortComplete l s) = cycleFacts s := by
  unfold abortComplete; dsimp only; split <;> simp
@[simp] theorem cycleFacts_countFailure (l : Lane) (cause : Nat) (s : State) :
    cycleFacts (countFailure l cause s) = cycleFacts s := by
  unfold countFailure; dsimp only; repeat' split
  all_goals simp
@[simp] theorem cycleFacts_countGone (s : State) (l : Lane) : cycleFacts (countGone s l) = cycleFacts s := by
  unfold countGone; dsimp only; split <;> simp
@[simp] theorem cycleFacts_takeOut (l : Lane) (s : State) : cycleFacts (takeOut l s) = cycleFacts s := by
  unfold takeOut; dsimp only; split <;> simp
@[simp] theorem cycleFacts_seatLane (l : Lane) (s : State) : cycleFacts (seatLane l s) = cycleFacts s := by simp [seatLane]
@[simp] theorem cycleFacts_seatCommand (kind : Nat) (l : Lane) (s : State) : cycleFacts (seatCommand kind l s) = cycleFacts s :=
  cycleFacts_sendFrame ..

/-! ## The rows of R56 -/

@[simp] theorem cycleFacts_enterState (st : SeatState) (row : Nat) (l : Option Lane) (s : State) :
    cycleFacts (enterState st row l s) = cycleFacts s := rfl
@[simp] theorem cycleFacts_setDue (b t p : Option Lane) (s : State) : cycleFacts (setDue b t p s) = cycleFacts s := rfl
@[simp] theorem cycleFacts_deferStep (s : State) : cycleFacts (deferStep s) = cycleFacts s := rfl

@[simp] theorem cycleFacts_startLanes (request : Bool) (s : State) : cycleFacts (startLanes request s) = cycleFacts s := by
  refine cycleFacts_foldl (fun t l => ?_) _ _
  dsimp only
  split <;> simp

@[simp] theorem cycleFacts_lockOut (row : Nat) (l : Option Lane) (s : State) : cycleFacts (lockOut row l s) = cycleFacts s := by
  have hentry (t : State) : cycleFacts (setDue none none none (enterState .lockout row l { t with seat := { t.seat with
      scullSince := none, departed := none, lorAccepted := false, change := false, step := false } })) = cycleFacts t := rfl
  have hslices (k : Lane) (t : State) : cycleFacts (dropSlice (laneNo k) (abortSlice (laneNo k) t)) = cycleFacts t :=
    (cycleFacts_dropSlice ..).trans (cycleFacts_abortSlice ..)
  exact (hentry _).trans ((cycleFacts_startLanes ..).trans (cycleFacts_foldl (fun t k => hslices k t) _ _))

@[simp] theorem cycleFacts_seatLoss (row : Nat) (l : Option Lane) (s : State) : cycleFacts (seatLoss row l s) = cycleFacts s := by
  simp [seatLoss]

@[simp] theorem cycleFacts_clearFilters (s : State) : cycleFacts (clearFilters s) = cycleFacts s :=
  cycleFacts_foldl (fun _ _ => cycleFacts_setSi ..) _ _
@[simp] theorem cycleFacts_clearBlocks (s : State) : cycleFacts (clearBlocks s) = cycleFacts s :=
  cycleFacts_foldl (fun _ _ => cycleFacts_setLane ..) _ _

@[simp] theorem cycleFacts_startChannel (s : State) (n : Nat) : cycleFacts (startChannel s n) = cycleFacts s := by
  unfold startChannel
  dsimp only
  repeat' split
  · rfl
  · rfl
  · rfl
  · rw [chanEnable_only]; exact cycleFacts_elsewhere ..
  · rw [chanDisable_only]; exact cycleFacts_elsewhere ..

@[simp] theorem cycleFacts_startTimer (s : State) (t : Nat) : cycleFacts (startTimer s t) = cycleFacts s := by
  unfold startTimer
  dsimp only
  repeat' split
  · rfl
  · rw [tachEnable_only]; exact cycleFacts_elsewhere ..
  · rw [tachDisable_only]; exact cycleFacts_elsewhere ..

@[simp] theorem cycleFacts_startChannels (s : State) : cycleFacts (startChannels s) = cycleFacts s :=
  (cycleFacts_foldl cycleFacts_startTimer _ _).trans (cycleFacts_foldl cycleFacts_startChannel _ _)

@[simp] theorem cycleFacts_enterStart (row : Nat) (request : Bool) (s : State) :
    cycleFacts (enterStart row request s) = cycleFacts s := by
  have hentry (t : State) : cycleFacts (setDue none none none (enterState .start row none { t with seat := { t.seat with
      scullSince := none, departed := none, lorAccepted := false, change := false, step := false } })) = cycleFacts t := rfl
  refine (hentry _).trans ?_
  rw [cycleFacts_clearBlocks, cycleFacts_startLanes, cycleFacts_startChannels, cycleFacts_clearFilters]

@[simp] theorem cycleFacts_beginRun (s : State) : cycleFacts (beginRun s) = cycleFacts s :=
  Eq.trans (b := cycleFacts (unholdGroups (clearBlocks s))) rfl (by rw [cycleFacts_unholdGroups, cycleFacts_clearBlocks])

/-- No row of R56 changes a fact of the cycle. -/
@[simp] theorem cycleFacts_applyRow (elig : Bool) (row : Nat) (s : State) : cycleFacts (applyRow elig row s) = cycleFacts s := by
  unfold applyRow
  dsimp only
  repeat' split
  all_goals simp only [cycleFacts_setSeat, cycleFacts_elsewhere, cycleFacts_lockOut, cycleFacts_seatLoss, cycleFacts_report,
    cycleFacts_emit, cycleFacts_enterStart, cycleFacts_enterState, cycleFacts_setDue, cycleFacts_seatLane, cycleFacts_takeOut,
    cycleFacts_countFailure, cycleFacts_deferStep, cycleFacts_seatCommand, cycleFacts_dropSlice, cycleFacts_setMgr,
    cycleFacts_beginRun]

/-! ## The commands of the window -/

@[simp] theorem cycleFacts_retestPassed (l : Lane) (s : State) : cycleFacts (retestPassed l s) = cycleFacts s := by
  unfold retestPassed; dsimp only; repeat' split
  all_goals simp
@[simp] theorem cycleFacts_copyAgain (l : Lane) (s : State) : cycleFacts (copyAgain l s) = cycleFacts s := by
  unfold copyAgain; dsimp only; split <;> simp
@[simp] theorem cycleFacts_staleCopy (l : Lane) (s : State) : cycleFacts (staleCopy l s) = cycleFacts s := by
  unfold staleCopy; repeat' split
  all_goals simp
@[simp] theorem cycleFacts_resetSources (who : Nat) (srcs : List Nat) (s : State) :
    cycleFacts (resetSources who srcs s) = cycleFacts s := (cycleFacts_elsewhere ..).trans (cycleFacts_sendFrame ..)
@[simp] theorem cycleFacts_orderCopy (l : Lane) (s : State) : cycleFacts (orderCopy l s) = cycleFacts s := by
  unfold orderCopy; dsimp only; repeat' split
  all_goals simp

/-! ## Step 6 -/

@[simp] theorem cycleFacts_rotationInstant (s : State) : cycleFacts (rotationInstant s) = cycleFacts s :=
  cycleFacts_setSeat _ _ rfl rfl rfl rfl

/-- The classification of the contributions (R50). -/
def classified (f : CycleFacts) : Tri (Option Vote) := ⟨rxVote f.rx.l1, rxVote f.rx.l2, rxVote f.rx.l3⟩

theorem cycleFacts_tally (s : State) : cycleFacts (tally s) = { cycleFacts s with votes := classified (cycleFacts s) } := rfl

theorem cycleMark_of_tally {s t : State} (h : cycleMark t = cycleMark s) :
    cycleMark (tally t) = { cycleMark s with votes := classified (cycleMark s) } := by
  rw [← h]; rfl

/-- Step 6 classifies the contributions and is done; it changes no other fact of the cycle (R18, R50). -/
theorem cycleMark_stepSix (s : State) :
    cycleMark (stepSix s) = { cycleMark s with judged := true, votes := classified (cycleMark s) } := by
  have hdone (t : State) : cycleMark { t with seat := { t.seat with judged := true } } = { cycleMark t with judged := true } := rfl
  have hstart : cycleMark (allLanes.foldl (fun t l => abortComplete l t) (advance (deadlineTick s) s)) = cycleMark s :=
    (cycleMark_of_facts (cycleFacts_foldl (fun t l => cycleFacts_abortComplete l t) _ _)).trans (cycleMark_advance _ s)
  have hrot (t : State) : cycleMark (whenever (rotationDue t) rotationInstant t) = cycleMark t :=
    cycleMark_of_facts (cycleFacts_whenever cycleFacts_rotationInstant _ t)
  have hrow (elig : Bool) (row : Nat) (t : State) :
      cycleMark (applyRow elig row (allLanes.foldl countGone t)) = cycleMark t :=
    cycleMark_of_facts ((cycleFacts_applyRow ..).trans (cycleFacts_foldl cycleFacts_countGone _ _))
  have hagain (row : Nat) (t : State) :
      cycleMark (if row = 0 then allLanes.foldl (fun t l => copyAgain l t) t else t) = cycleMark t := by
    split
    · exact cycleMark_of_facts (cycleFacts_foldl (fun t l => cycleFacts_copyAgain l t) _ _)
    · rfl
  have hwindow (t : State) :
      cycleMark (allLanes.foldl (fun t l => orderCopy l (staleCopy l (retestPassed l t))) t) = cycleMark t :=
    cycleMark_of_facts (cycleFacts_foldl (fun t l => by simp) _ _)
  unfold stepSix
  dsimp only
  rw [hdone, hwindow, hagain, hrow, cycleMark_of_tally ((hrot _).trans hstart)]

theorem voteDeadline_done {s : State} (h : s.seat.judged = true) : voteDeadline s = s := by simp [voteDeadline, h]
theorem voteDeadline_due {s : State} (h : s.seat.judged = false) : voteDeadline s = stepSix s := by simp [voteDeadline, h]

/-- A command that may leave the safe state ends hooks, and changes no fact of the cycle by it (R474). -/
theorem cycleFacts_leaving (f : State → State) (s : State) : cycleFacts (leaving f s) = cycleFacts (f s) := by
  unfold leaving
  dsimp only
  split
  · rw [hooksEnd_only]; exact cycleFacts_elsewhere ..
  · rfl

theorem leaving_id {f : State → State} {s : State} (h : f s = s) : leaving f s = s := by simp [leaving, h]

theorem votes_classified (s : State) (l : Lane) : triGet (classified (cycleMark s)) l = rxVote (s.mgr l).rx := by cases l <;> rfl

/-! ## The schedules (R57, R58, R67 to R69) -/

theorem rotationInstant_acts {s : State} (hup : s.sys.up = true) (h0 : s.seat.rotAt ≠ 0) (h : s.seat.rotAt ≤ s.seat.cycle) :
    exec .rotationInstant s = .next (rotationInstant s) := run_due rotationDue _ hup (by simp [rotationDue, h0, h])

theorem rotationInstant_early {s : State} (hup : s.sys.up = true) (h : s.seat.cycle < s.seat.rotAt) :
    exec .rotationInstant s = .next s := by
  have hdue : rotationDue s = false := by simp [rotationDue, h]
  refine (run_up _ _ hup).trans (congrArg _ ?_)
  rw [hdue, whenever_false]

theorem twoOarLimit_acts {s : State} (hup : s.sys.up = true) (hst : s.seat.state = .twoOar) (hq : s.seat.stopReq = false)
    (h : s.img.twoOarH * hourTicks ≤ s.seat.twoOarTicks) : exec .twoOarLimit s = .next (twoOarLimit s) :=
  run_due twoOarDue _ hup (by simp [twoOarDue, hst, hq, h])

theorem twoOarLimit_once {s : State} (hup : s.sys.up = true) (h : s.seat.stopReq = true) : exec .twoOarLimit s = .next s := by
  have hdue : twoOarDue s = false := by simp [twoOarDue, h]
  refine (run_up _ _ hup).trans (congrArg _ ?_)
  rw [hdue, whenever_false]

/-- Settles O9: step 6 keeps the facts of the cycle but for its own two, and the schedules act when they are due. -/
theorem stepSixAndSchedules : Obligations.StepSixAndSchedules := by
  refine ⟨fun s hup => ⟨fun h => ?_, fun h => ?_⟩, fun s hup => ⟨rotationInstant_acts hup, rotationInstant_early hup,
    twoOarLimit_acts hup, twoOarLimit_once hup, fun l => run_up _ _ hup⟩⟩
  · exact (run_up _ _ hup).trans (congrArg _ (leaving_id (voteDeadline_done h)))
  · have hmark : cycleMark (leaving voteDeadline s) = { cycleMark s with judged := true, votes := classified (cycleMark s) } := by
      rw [cycleMark_of_facts (t := leaving voteDeadline s) (s := voteDeadline s) (cycleFacts_leaving _ s), voteDeadline_due h,
        cycleMark_stepSix]
    refine ⟨leaving voteDeadline s, run_up _ _ hup, congrArg CycleFacts.judged hmark, fun l => ?_,
      congrArg CycleFacts.cycle hmark, congrArg CycleFacts.t0 hmark⟩
    exact (congrArg (fun f => triGet f.votes l) hmark).trans (votes_classified s l)

end Sys2Proof.Machine
end

section
/-!
SUPPORT. Sampling instants and boundaries (R17, R18, R101): what a reading sets, the facts of the cycle through a sampling
instant and through each part of a boundary, and the statement about them.
-/
namespace Sys2Proof.Machine

open Sys2Proof

/-! ## The samples of a sampling instant (R101) -/

/-- What the samples of inputs, generators, outputs and pins leave alone: the facts of the cycle, the field supplies and the
groups. -/
def sampleFacts (s : State) : CycleFacts × (Supply → SupplySt) × (Group → GroupSt) := (cycleFacts s, s.supply, s.group)

theorem sampleFacts_eq {s t : State} (h : sampleFacts t = sampleFacts s) :
    cycleFacts t = cycleFacts s ∧ t.supply = s.supply ∧ t.group = s.group := by
  simpa [sampleFacts] using h

@[simp] theorem sampleFacts_setSi (s : State) (n : Nat) (v : Si) : sampleFacts (s.setSi n v) = sampleFacts s := rfl
@[simp] theorem sampleFacts_setTp (s : State) (n : Nat) (v : Tp) : sampleFacts (s.setTp n v) = sampleFacts s := rfl
@[simp] theorem sampleFacts_setSo (s : State) (n : Nat) (v : So) : sampleFacts (s.setSo n v) = sampleFacts s := rfl
@[simp] theorem sampleFacts_setCio (s : State) (n : Nat) (v : Cio) : sampleFacts (s.setCio n v) = sampleFacts s := rfl

@[simp] theorem sampleFacts_report (line code detail : Nat) (s : State) :
    sampleFacts (report line code detail s) = sampleFacts s := by
  unfold sampleFacts
  rw [cycleFacts_report, report_only]
  rfl

theorem sampleFacts_foldl {α : Type} {f : State → α → State} (h : ∀ t a, sampleFacts (f t a) = sampleFacts t) (l : List α)
    (s : State) : sampleFacts (l.foldl f s) = sampleFacts s := foldl_keeps h l s

@[simp] theorem sampleFacts_inputsCarry (k : Nat) (s : State) : sampleFacts (inputsCarry k s) = sampleFacts s :=
  sampleFacts_foldl (fun t n => by split <;> simp) _ _

@[simp] theorem sampleFacts_declareStuck (k : Nat) (s : State) : sampleFacts (declareStuck k s) = sampleFacts s := by
  unfold declareStuck; dsimp only; split <;> simp

theorem sampleFacts_sampleTp (v lim : Bool) (q k : Nat) (s : State) : sampleFacts (sampleTp v lim q k s) = sampleFacts s := by
  unfold sampleTp
  dsimp only
  split
  · simp only [sampleFacts_setTp]
  · simp only [apply_ite sampleFacts, sampleFacts_declareStuck, sampleFacts_setTp, ite_self]

/-- The judgement of an own pulse changes its input alone (R110). -/
theorem sampleFacts_sampleSi (v : Bool) (q n : Nat) (s : State) : sampleFacts (sampleSi v q n s) = sampleFacts s := by
  unfold sampleSi
  dsimp only
  rw [apply_ite sampleFacts, sampleFacts_setSi, ite_self]
  split
  · rfl
  · split
    · rfl
    · simp only [apply_ite sampleFacts, sampleFacts_setSi, ite_self]

theorem sampleFacts_sampleSo (r : SoReading) (q k : Nat) (s : State) : sampleFacts (sampleSo r q k s) = sampleFacts s :=
  sampleFacts_setSo ..

theorem sampleFacts_sampleCio (r : CioReading) (n : Nat) (s : State) : sampleFacts (sampleCio r n s) = sampleFacts s := by
  unfold sampleCio; dsimp only; split <;> exact sampleFacts_setCio ..

/-! ## Supplies and groups -/

@[simp] theorem supply_setGroup (s : State) (g : Group) (x : GroupSt) (v : Supply) : (s.setGroup g x).supply v = s.supply v := by
  cases g <;> rfl

theorem cycleFacts_sampleSupply (r : SupplyReading) (v : Supply) (s : State) :
    cycleFacts (sampleSupply r v s) = cycleFacts s := cycleFacts_setSupply ..
theorem volt_sampleSupply_same (r : SupplyReading) (v : Supply) (s : State) : ((sampleSupply r v s).supply v).volt = r.volt := by
  unfold sampleSupply; dsimp only; rw [State.supply_setSupply_same]
theorem supply_sampleSupply_other (r : SupplyReading) {v w : Supply} (s : State) (h : w ≠ v) :
    (sampleSupply r v s).supply w = s.supply w := State.supply_setSupply_other _ _ _ _ h

theorem cycleFacts_sampleGroup (r : GroupReading) (g : Group) (s : State) : cycleFacts (sampleGroup r g s) = cycleFacts s := by
  unfold sampleGroup; exact cycleFacts_setGroup ..
theorem supply_sampleGroup (r : GroupReading) (g : Group) (s : State) (v : Supply) :
    (sampleGroup r g s).supply v = s.supply v := by
  unfold sampleGroup; exact supply_setGroup ..
theorem group_sampleGroup_same (r : GroupReading) (g : Group) (s : State) :
    ((sampleGroup r g s).group g).mA = r.mA ∧ ((sampleGroup r g s).group g).temp = r.temp := by
  unfold sampleGroup; dsimp only; rw [State.group_setGroup_same]; exact ⟨rfl, rfl⟩
theorem group_sampleGroup_other (r : GroupReading) {g k : Group} (s : State) (h : k ≠ g) :
    (sampleGroup r g s).group k = s.group k := by
  unfold sampleGroup; exact State.group_setGroup_other _ _ _ _ h

/-! ## A sampling instant -/

/-- The samples of one instant, between the supplies and the groups. -/
def takeSamples (r : Readings) (q : Nat) (s : State) : State :=
  let s2 := (List.range 16).foldl (fun t k => sampleTp (r.tp.getLsbD k) (r.tpLimit.getLsbD k) q k t) s
  let s3 := (List.range 64).foldl (fun t n => sampleSi (r.si.getLsbD n) q n t) s2
  let s4 := (List.range 12).foldl (fun t k => sampleSo (look {} r.so k) q k t) s3
  (List.range 24).foldl (fun t n => sampleCio (look {} r.cio n) n t) s4

theorem sampleFacts_takeSamples (r : Readings) (q : Nat) (s : State) : sampleFacts (takeSamples r q s) = sampleFacts s := by
  unfold takeSamples
  rw [sampleFacts_foldl (fun _ _ => sampleFacts_sampleCio ..), sampleFacts_foldl (fun _ _ => sampleFacts_sampleSo ..),
    sampleFacts_foldl (fun _ _ => sampleFacts_sampleSi ..), sampleFacts_foldl (fun _ _ => sampleFacts_sampleTp ..)]

theorem takeReadings_eq (r : Readings) (q : Nat) (s : State) : takeReadings r q s =
    sampleGroup r.ciog2 .ciog2 (sampleGroup r.ciog1 .ciog1 (sampleGroup r.sog2 .sog2 (sampleGroup r.sog1 .sog1
      (takeSamples r q (sampleSupply r.v2 .v2 (sampleSupply r.v1 .v1 (sampleSupply r.vin .vin s))))))) := by
  unfold takeReadings takeSamples; rfl

theorem cycleFacts_takeReadings (r : Readings) (q : Nat) (s : State) : cycleFacts (takeReadings r q s) = cycleFacts s := by
  have hsamples (t : State) : cycleFacts (takeSamples r q t) = cycleFacts t := by
    obtain ⟨h, -, -⟩ := sampleFacts_eq (sampleFacts_takeSamples r q t)
    exact h
  rw [takeReadings_eq]
  simp only [cycleFacts_sampleGroup, hsamples, cycleFacts_sampleSupply]

/-- The voltages of the field supplies are those just read. -/
theorem takeReadings_volt (r : Readings) (q : Nat) (s : State) :
    ((takeReadings r q s).supply .vin).volt = r.vin.volt ∧ ((takeReadings r q s).supply .v1).volt = r.v1.volt ∧
    ((takeReadings r q s).supply .v2).volt = r.v2.volt := by
  have hsamples (t : State) (v : Supply) : (takeSamples r q t).supply v = t.supply v := by
    obtain ⟨-, h, -⟩ := sampleFacts_eq (sampleFacts_takeSamples r q t)
    rw [h]
  rw [takeReadings_eq]
  simp only [supply_sampleGroup, hsamples]
  refine ⟨?_, ?_, volt_sampleSupply_same ..⟩
  · rw [supply_sampleSupply_other _ _ (by decide), supply_sampleSupply_other _ _ (by decide), volt_sampleSupply_same]
  · rw [supply_sampleSupply_other _ _ (by decide), volt_sampleSupply_same]

/-- The currents and temperatures of the groups are those just read. -/
theorem takeReadings_group (r : Readings) (q : Nat) (s : State) :
    (((takeReadings r q s).group .sog1).mA = r.sog1.mA ∧ ((takeReadings r q s).group .sog1).temp = r.sog1.temp) ∧
    (((takeReadings r q s).group .sog2).mA = r.sog2.mA ∧ ((takeReadings r q s).group .sog2).temp = r.sog2.temp) ∧
    (((takeReadings r q s).group .ciog1).mA = r.ciog1.mA ∧ ((takeReadings r q s).group .ciog1).temp = r.ciog1.temp) ∧
    (((takeReadings r q s).group .ciog2).mA = r.ciog2.mA ∧ ((takeReadings r q s).group .ciog2).temp = r.ciog2.temp) := by
  rw [takeReadings_eq]
  refine ⟨?_, ?_, ?_, group_sampleGroup_same ..⟩
  · rw [group_sampleGroup_other _ _ (by decide), group_sampleGroup_other _ _ (by decide), group_sampleGroup_other _ _ (by decide)]
    exact group_sampleGroup_same ..
  · rw [group_sampleGroup_other _ _ (by decide), group_sampleGroup_other _ _ (by decide)]
    exact group_sampleGroup_same ..
  · rw [group_sampleGroup_other _ _ (by decide)]
    exact group_sampleGroup_same ..

theorem samplingInstant_fifth {r : Readings} {s : State} (h : 4 ≤ s.fld.sub) : samplingInstant r s = s :=
  if_neg (Nat.not_lt.mpr h)

/-- A sampling instant of the cycle takes the readings in a state with the same facts of the cycle, and counts itself. -/
theorem samplingInstant_takes (r : Readings) {s : State} (h : s.fld.sub < 4) : ∃ q u, cycleMark u = cycleMark s ∧
    samplingInstant r s = { takeReadings r q u with
      fld := { (takeReadings r q u).fld with sub := (takeReadings r q u).fld.sub + 1 } } := by
  have hgroups (t : State) : cycleFacts (eachGroup groupCompleteDue groupComplete t) = cycleFacts t :=
    cycleFacts_eachGroup cycleFacts_groupComplete _ t
  refine ⟨_, _, ?_, if_pos h⟩
  rw [cycleMark_of_facts (hgroups _), cycleMark_advance, cycleMark_of_facts (cycleFacts_settle _), cycleMark_releaseUpTo]

/-! ## The boundary -/

theorem cycle_of_facts {s t : State} (h : cycleFacts t = cycleFacts s) : t.seat.cycle = s.seat.cycle :=
  congrArg CycleFacts.cycle h

theorem instants_of_mark {s t : State} (h : cycleMark t = cycleMark s) :
    t.seat.cycle = s.seat.cycle ∧ t.t0 = s.t0 ∧ t.fld.sub = s.fld.sub :=
  ⟨congrArg CycleFacts.cycle h, congrArg CycleFacts.t0 h, congrArg CycleFacts.sub h⟩

theorem cycleFacts_declareShort (n : Nat) (s : State) : cycleFacts (declareShort n s) = cycleFacts s := by
  unfold declareShort
  dsimp only
  repeat' split
  · rfl
  · simp
  · simp

theorem cycleFacts_boundaryRows (s : State) : cycleFacts (boundaryRows s) = cycleFacts s := by
  unfold boundaryRows
  repeat' split
  · rfl
  · exact cycleFacts_applyRow ..
  · exact cycleFacts_applyRow ..
  · rfl

/-- Step 6, done or not, stays within its cycle. -/
theorem voteDeadline_stays (s : State) : (voteDeadline s).seat.cycle = s.seat.cycle ∧ (voteDeadline s).t0 = s.t0 := by
  cases h : s.seat.judged
  · have hmark := cycleMark_stepSix s
    rw [voteDeadline_due h]
    generalize stepSix s = t at hmark ⊢
    exact ⟨congrArg CycleFacts.cycle hmark, congrArg CycleFacts.t0 hmark⟩
  · rw [voteDeadline_done h]; exact ⟨rfl, rfl⟩

/-- The facts with which the next cycle begins. -/
theorem cycleFacts_nextCycle (s : State) : cycleFacts (nextCycle s) =
    { cycle := s.seat.cycle + 1, judged := false, votes := s.seat.votes, rx := ⟨.none, .none, .none⟩, t0 := s.t0 + cycleTicks,
      now := s.t0 + cycleTicks, sub := s.fld.sub, image := s.fld.image.cycle } := rfl

theorem cycleFacts_mappingDue (s : State) : cycleFacts (mappingDue s) = cycleFacts s := by
  unfold mappingDue
  split
  · exact cycleFacts_setSeat _ _ rfl rfl rfl rfl
  · rfl

theorem cycleFacts_boundarySo (a b : Word) (s : State) (k : Nat) : cycleFacts (boundarySo a b s k) = cycleFacts s := by
  unfold boundarySo; exact cycleFacts_setSo ..

theorem cycleFacts_boundaryCio (a b : Word) (start : Nat) (s : State) (n : Nat) :
    cycleFacts (boundaryCio a b start s n) = cycleFacts s := by
  unfold boundaryCio
  dsimp only
  split
  · rfl
  · exact cycleFacts_setCio ..
  · exact cycleFacts_setCio ..

theorem cycleFacts_applyVotes (start : Nat) (s : State) : cycleFacts (applyVotes start s) = cycleFacts s := by
  unfold applyVotes
  dsimp only
  rw [cycleFacts_foldl (fun _ _ => cycleFacts_boundaryCio ..), cycleFacts_foldl (fun _ _ => cycleFacts_boundarySo ..)]

theorem cycleFacts_groupOffRequests (s : State) : cycleFacts (groupOffRequests s) = cycleFacts s := by
  refine cycleFacts_foldl (fun t g => ?_) _ _
  dsimp only
  split
  · exact cycleFacts_groupMet ..
  · rfl

theorem cycleFacts_groupsGood (s : State) : cycleFacts (groupsGood s) = cycleFacts s := by
  refine cycleFacts_foldl (fun t g => ?_) _ _
  dsimp only
  split
  · exact cycleFacts_setGroup ..
  · rfl

theorem cycleFacts_coresReduced (on : Bool) (s : State) : cycleFacts (coresReduced on s) = cycleFacts s := by
  refine cycleFacts_foldl (fun t c => ?_) _ _
  dsimp only
  split
  · rw [coreDown_only]; exact (cycleFacts_elsewhere ..).trans (cycleFacts_setCore ..)
  · rw [coreUp_only]; exact (cycleFacts_elsewhere ..).trans (cycleFacts_setCore ..)

theorem cycleFacts_coreSlicesAbort (s : State) : cycleFacts (coreSlicesAbort s) = cycleFacts s :=
  cycleFacts_foldl (fun t c => by rw [coreSliceAbort_only]; exact cycleFacts_elsewhere ..) _ _

theorem cycleFacts_holdEntry (s : State) : cycleFacts (holdEntry s) = cycleFacts s := by
  unfold holdEntry
  rw [cycleFacts_coreSlicesAbort, cycleFacts_coresReduced, cycleFacts_holdGroups]
  rfl

theorem cycleFacts_boundaryGroups (s : State) : cycleFacts (boundaryGroups s) = cycleFacts s := by
  unfold boundaryGroups
  dsimp only
  rw [cycleFacts_refreshAll, cycleFacts_groupsGood, apply_ite cycleFacts, cycleFacts_holdEntry, ite_self,
    cycleFacts_groupOffRequests]

theorem cycleFacts_watchdogCycle (s : State) : cycleFacts (watchdogCycle s) = cycleFacts s := rfl

/-- No sampling instant of the new cycle has passed (R101, R106). -/
theorem cycleFacts_nextSlots (s : State) : cycleFacts (nextSlots s) = { cycleFacts s with sub := 0 } := by
  have htp (t : State) : cycleFacts ((List.range 16).foldl (fun t k => t.setTp k { t.tp k with
      offset := (tpCfg t k).start t.img.tpPeriod k, next := (tpCfg t k).start t.img.tpPeriod k }) t) = cycleFacts t :=
    cycleFacts_foldl (fun _ _ => cycleFacts_setTp ..) _ _
  have hso (t : State) : cycleFacts ((List.range 12).foldl (fun t k =>
      let o := (look {} t.img.so k).start t.img.tpPeriod k
      t.setSo k { t.so k with offset := o, next := o, nextB := false }) t) = cycleFacts t :=
    cycleFacts_foldl (fun _ _ => cycleFacts_setSo ..) _ _
  have hon (t : State) : cycleFacts { t with fld := { t.fld with slotOn := true, slotBase := 0, sub := 0 } } =
      { cycleFacts t with sub := 0 } := rfl
  unfold nextSlots
  split
  · rfl
  · split
    · dsimp only
      rw [hon, hso, htp]
    · rfl

theorem cycleFacts_tachBoundary (s : State) (t : Nat) : cycleFacts (tachBoundary s t).2 = cycleFacts s := by
  unfold tachBoundary
  dsimp only
  split
  · rfl
  · exact (cycleFacts_sendFrom ..).trans (cycleFacts_setTach ..)
  · split
    · rw [tachOn_only]; exact (cycleFacts_elsewhere ..).trans (cycleFacts_setTach ..)
    · exact cycleFacts_setTach ..

theorem cycleFacts_boundaryTachs (s : State) : cycleFacts (boundaryTachs s).2 = cycleFacts s := by
  unfold boundaryTachs
  refine List.foldlRecOn (motive := fun e : Tab TachFrame × State => cycleFacts e.2 = cycleFacts s) _ _ rfl (fun e he t _ => ?_)
  have ht := (cycleFacts_tachBoundary e.2 t).trans he
  split
  next h => rwa [h] at ht
  next h => rwa [h] at ht

theorem cycleFacts_readySamples (s : State) : cycleFacts (readySamples s).2 = cycleFacts s := by
  unfold readySamples
  refine List.foldlRecOn (motive := fun e : Tab Word × State => cycleFacts e.2 = cycleFacts s) _ _ rfl (fun e he ch _ => ?_)
  dsimp only
  split
  · exact (cycleFacts_setAin ..).trans he
  · exact he

/-- The frozen image carries the cycle's number (R18). -/
theorem cycleFacts_freeze (s : State) : cycleFacts (freeze s) = { cycleFacts s with image := s.seat.cycle } := by
  have himage (t : State) (im : Image) : cycleFacts { t with fld := { t.fld with image := im } } =
      { cycleFacts t with image := im.cycle } := rfl
  have hnumber (t : State) (tach : Tab TachFrame) (dec : Tab Word) : (imageOf t tach dec).cycle = t.seat.cycle := rfl
  have hsamples : cycleFacts (readySamples (boundaryTachs s).2).2 = cycleFacts s :=
    (cycleFacts_readySamples _).trans (cycleFacts_boundaryTachs s)
  have hcycle : (readySamples (boundaryTachs s).2).2.seat.cycle = s.seat.cycle := cycle_of_facts hsamples
  unfold freeze
  dsimp only
  rw [cycleFacts_foldl (fun _ _ => cycleFacts_sendFrom ..), cycleFacts_sendFrom, himage, hnumber, hcycle, hsamples]

theorem cycleFacts_freezeCopy (src : Lane) (c : Nat) (s : State) : cycleFacts (freezeCopy src c s) = cycleFacts s := by
  unfold freezeCopy
  dsimp only
  split
  · rfl
  · rw [cycleFacts_foldl (fun _ _ => cycleFacts_sendFrom ..), cycleFacts_setLane]

theorem cycleFacts_freezeCopies (s : State) : cycleFacts (freezeCopies s) = cycleFacts s := by
  refine cycleFacts_foldl (fun t l => ?_) _ _
  repeat' split
  · exact cycleFacts_freezeCopy ..
  · rfl
  · rfl

theorem cycleFacts_sendCounts (s : State) : cycleFacts (sendCounts s) = cycleFacts s := by
  unfold sendCounts
  dsimp only
  refine (cycleFacts_elsewhere ..).trans ?_
  rw [cycleFacts_foldl (fun _ _ => cycleFacts_laneFrame ..), cycleFacts_sendFrame]

theorem cycleFacts_lorArm (s : State) : cycleFacts (lorArm s) = cycleFacts s := by
  unfold lorArm; dsimp only; repeat' split
  all_goals rfl

theorem cycleFacts_lorAccept (s : State) : cycleFacts (lorAccept s) = cycleFacts s := by
  have hreleased (t : State) : cycleFacts { t with seat := { t.seat with holdInForce := false } } = cycleFacts t := rfl
  unfold lorAccept
  dsimp only
  split
  · rw [hreleased, cycleFacts_startLanes]; rfl
  · rfl

theorem cycleFacts_lorCycle (s : State) : cycleFacts (lorCycle s) = cycleFacts s := by
  have hlor (t : State) (x : Lor) : cycleFacts { t with fld := { t.fld with lor := x } } = cycleFacts t := rfl
  unfold lorCycle
  simp only [apply_ite cycleFacts, cycleFacts_lorAccept, hlor, ite_self]

theorem cycleFacts_aliveCycle (s : State) : cycleFacts (aliveCycle s) = cycleFacts s := rfl

/-- What comes before the boundary's tick stays within the cycle that ends. -/
theorem beforeBoundary_stays {s u : State} (hu : cycleMark u = cycleMark s) :
    (boundaryRows (latchAll (voteDeadline u))).seat.cycle = s.seat.cycle ∧ (boundaryRows (latchAll (voteDeadline u))).t0 = s.t0 := by
  have hrows : cycleMark (boundaryRows (latchAll (voteDeadline u))) = cycleMark (voteDeadline u) :=
    cycleMark_of_facts ((cycleFacts_boundaryRows _).trans (cycleFacts_latchAll _))
  obtain ⟨hc, ht, -⟩ := instants_of_mark hrows
  obtain ⟨hvc, hvt⟩ := voteDeadline_stays u
  obtain ⟨huc, hut, -⟩ := instants_of_mark hu
  exact ⟨hc.trans (hvc.trans huc), ht.trans (hvt.trans hut)⟩

/-- From the tick of the boundary on, the new cycle's facts change by no more than its image and its count of instants. -/
theorem cycleFacts_afterBoundary (start : Nat) (s : State) :
    cycleFacts (aliveCycle (lorCycle (lorArm (sendCounts (freezeCopies (freeze (nextSlots (watchdogCycle (boundaryGroups
      (applyVotes start (mappingDue s))))))))))) = { cycleFacts s with sub := 0, image := s.seat.cycle } := by
  have hvoted : cycleFacts (watchdogCycle (boundaryGroups (applyVotes start (mappingDue s)))) = cycleFacts s := by
    rw [cycleFacts_watchdogCycle, cycleFacts_boundaryGroups, cycleFacts_applyVotes, cycleFacts_mappingDue]
  have hslots := (cycleFacts_nextSlots (watchdogCycle (boundaryGroups (applyVotes start (mappingDue s))))).trans
    (congrArg (fun f : CycleFacts => { f with sub := 0 }) hvoted)
  generalize nextSlots (watchdogCycle (boundaryGroups (applyVotes start (mappingDue s)))) = t at hslots ⊢
  have hcycle : t.seat.cycle = s.seat.cycle := congrArg CycleFacts.cycle hslots
  rw [cycleFacts_aliveCycle, cycleFacts_lorCycle, cycleFacts_lorArm, cycleFacts_sendCounts, cycleFacts_freezeCopies,
    cycleFacts_freeze, hslots, hcycle]

/-- The facts after a boundary: the next cycle has begun, its image is frozen, no instant has passed (R17, R18). -/
theorem cycleFacts_boundary (s : State) : ∃ votes, cycleFacts (boundary s) =
    { cycle := s.seat.cycle + 1, judged := false, votes := votes, rx := ⟨.none, .none, .none⟩, t0 := s.t0 + cycleTicks,
      now := s.t0 + cycleTicks, sub := 0, image := s.seat.cycle + 1 } := by
  have hlate : cycleMark ((List.range 64).foldl (fun t n => declareShort n t) (settle (releaseUpTo (s.t0 + cycleTicks) s))) =
      cycleMark s := by
    rw [cycleMark_of_facts (cycleFacts_foldl (fun t n => cycleFacts_declareShort n t) _ _),
      cycleMark_of_facts (cycleFacts_settle _), cycleMark_releaseUpTo]
  unfold boundary
  dsimp only
  rw [cycleFacts_afterBoundary]
  generalize List.foldl _ _ _ = u at hlate ⊢
  obtain ⟨hcycle, ht0⟩ := beforeBoundary_stays hlate
  generalize boundaryRows (latchAll (voteDeadline u)) = t at hcycle ht0 ⊢
  have hnext : (nextCycle t).seat.cycle = t.seat.cycle + 1 := rfl
  rw [cycleFacts_nextCycle, hnext, ht0, hcycle]
  exact ⟨_, rfl⟩

/-- Settles O20: each part of a sampling instant and of a boundary says which facts of the cycle it changes. -/
theorem cyclesAndSamples : Obligations.CyclesAndSamples := by
  intro s hup
  refine ⟨fun r h => ?_, fun r h => (run_up _ _ hup).trans (congrArg _ (samplingInstant_fifth h)), ?_⟩
  · obtain ⟨q, u, hmark, htakes⟩ := samplingInstant_takes r h
    obtain ⟨hcycle, ht0, hsub⟩ := instants_of_mark ((cycleMark_of_facts (cycleFacts_takeReadings r q u)).trans hmark)
    obtain ⟨hvin, hv1, hv2⟩ := takeReadings_volt r q u
    obtain ⟨⟨hsog1, hsog1t⟩, ⟨hsog2, -⟩, ⟨hciog1, -⟩, hciog2, hciog2t⟩ := takeReadings_group r q u
    refine ⟨_, run_up _ _ hup, ?_⟩
    rw [htakes]
    generalize takeReadings r q u = t at *
    exact ⟨congrArg (· + 1) hsub, hcycle, ht0, hvin, hv1, hv2, hsog1, hsog2, hciog1, hciog2, hsog1t, hciog2t⟩
  · obtain ⟨votes, hfacts⟩ := cycleFacts_boundary s
    refine ⟨leaving boundary s, run_up _ _ hup, ?_⟩
    have hall := (cycleFacts_leaving boundary s).trans hfacts
    generalize leaving boundary s = t at hall ⊢
    have ht0 : t.t0 = s.t0 + cycleTicks := congrArg CycleFacts.t0 hall
    have hrx := congrArg CycleFacts.rx hall
    refine ⟨congrArg CycleFacts.cycle hall, ht0, (congrArg CycleFacts.now hall).trans ht0.symm, congrArg CycleFacts.judged hall,
      congrArg CycleFacts.sub hall, fun l => ?_, congrArg CycleFacts.image hall⟩
    cases l
    · exact congrArg Tri.l1 hrx
    · exact congrArg Tri.l2 hrx
    · exact congrArg Tri.l3 hrx

end Sys2Proof.Machine
end

section
/-!
SUPPORT. The receivers of the fabric (R24 to R36, R44): the counters of a port, what a word brings to its port, and a frame of
one word at its endpoint.
-/
namespace Sys2Proof.Machine

open Sys2Proof

/-! ## The counters of a port (R44) -/

/-- Counter `i` of a port, in the order of R44. -/
def PortCnt.word (c : PortCnt) : Nat → Word
  | 0 => c.chk
  | 1 => c.seqdrop
  | 2 => c.lost
  | 3 => c.crc
  | 4 => c.len
  | _ => c.route

/-- A port's counters read back unless they are those of a port that has counted nothing. -/
theorem State.fcnt_setFcnt_ne {s : State} {p : Nat} {c : PortCnt} (h : c ≠ {}) : (s.setFcnt p c).fcnt p = c := by
  unfold State.fcnt State.setFcnt
  by_cases hp : p < 16
  · simp only [hp, if_true]; exact look_put_ne _ _ _ _ h
  · simp only [hp, if_false]; exact look_put_ne _ _ _ _ h

/-- A count that grows does not come out as 0 without its sticky bit. -/
theorem wrapAdd_counts {n i : Nat} (w : Word) (o : BitVec 6) (h0 : 0 < n) (hn : n < 4294967296) (hi : i < 6)
    (hw : (wrapAdd w n i o).1 = 0) : (wrapAdd w n i o).2 ≠ 0 := by
  have hsum : (w.toNat + n % 4294967296) % 4294967296 = 0 := by
    simpa [wrapAdd, BitVec.toNat_add] using congrArg BitVec.toNat hw
  have hwrap : 4294967296 ≤ w.toNat + n := by omega
  intro ho
  simp only [wrapAdd, if_pos hwrap] at ho
  have hbit := congrArg (fun b : BitVec 6 => b.getLsbD i) ho
  interval_cases i <;> simp at hbit

/-- `n` more events on counter `i`: the port has then counted something, so its counters read back. -/
theorem word_countPort {n i : Nat} (p : Nat) (s : State) (h0 : 0 < n) (hn : n < 4294967296) (hi : i < 6) :
    ((countPort p i n s).fcnt p).word i = (s.fcnt p).word i + BitVec.ofNat 32 n := by
  have hcounts := fun w o => wrapAdd_counts (i := i) w o h0 hn hi
  unfold countPort
  interval_cases i
  all_goals
    rw [State.fcnt_setFcnt_ne]
    · rfl
    · intro h
      injection h
      exact hcounts _ _ ‹_› ‹_›

/-- A count leaves every part of the fabric but the two tables of counters. -/
theorem countPort_fab (p i n : Nat) (s : State) :
    (countPort p i n s).fab = { s.fab with cnt := (countPort p i n s).fab.cnt, cntNew := (countPort p i n s).fab.cntNew } := by
  simp only [countPort, State.setFcnt]
  split <;> rfl

@[simp] theorem setFcnt_inbox (s : State) (p : Nat) (c : PortCnt) : (s.setFcnt p c).fab.inbox = s.fab.inbox := by
  unfold State.setFcnt; split <;> rfl

@[simp] theorem countPort_rx (p i n : Nat) (s : State) : (countPort p i n s).fab.rx = s.fab.rx := by rw [countPort_fab]
@[simp] theorem countPort_inbox (p i n : Nat) (s : State) : (countPort p i n s).fab.inbox = s.fab.inbox := by rw [countPort_fab]

/-! ## What an endpoint keeps of a source (R32) -/

/-- What an endpoint keeps reads back unless it is what reset leaves. -/
theorem State.rx_setRx_ne {s : State} {ep src : Nat} {x : Rx} (h : x ≠ {}) : (s.setRx ep src x).rx ep src = x :=
  look_put_ne _ _ _ _ h

theorem rx_open_ne (last : Nat) (sync : Bool) (f : OpenFrame) : ({ last := last, sync := sync, frame := some f } : Rx) ≠ {} :=
  fun h => by injection h; contradiction

/-- The entry of a source whose frame is open reads back. -/
@[simp] theorem State.rx_setRx_open (s : State) (ep src last : Nat) (sync : Bool) (f : OpenFrame) :
    (s.setRx ep src { last := last, sync := sync, frame := some f }).rx ep src =
      { last := last, sync := sync, frame := some f } :=
  State.rx_setRx_ne (rx_open_ne last sync f)

/-- When the open frame ends, the entry then written stands alone. -/
@[simp] theorem State.setRx_setRx_open (s : State) (ep src last : Nat) (sync : Bool) (f : OpenFrame) (x : Rx) :
    (s.setRx ep src { last := last, sync := sync, frame := some f }).setRx ep src x = s.setRx ep src x := by
  simp only [State.setRx, put_put (rx_open_ne last sync f)]

@[simp] theorem setRx_inbox (s : State) (ep src : Nat) (x : Rx) : (s.setRx ep src x).fab.inbox = s.fab.inbox := rfl
@[simp] theorem setRx_fcnt (s : State) (ep src p : Nat) (x : Rx) : (s.setRx ep src x).fcnt p = s.fcnt p := rfl

/-! ## Reports of the fabric (line 32) -/

theorem report_fabric (code detail : Nat) (s : State) : report 32 code detail s = atUmpire ⟨32, code, detail, false, s.timeNow⟩ s :=
  report_direct rfl code detail s

@[simp] theorem report_fabric_fab (code detail : Nat) (s : State) : (report 32 code detail s).fab = s.fab := by
  rw [report_fabric]; rfl

/-- What is reported on a safety route alone leaves the fabric as it is on any. -/
@[simp] theorem reportIf_fab (safe : Bool) (code detail : Nat) (s : State) :
    (if safe = true then report 32 code detail s else s).fab = s.fab := by
  split
  · exact report_fabric_fab ..
  · rfl

/-- The counters of a port stand in the fabric. -/
theorem fcnt_of_fab {s t : State} (h : t.fab = s.fab) (p : Nat) : t.fcnt p = s.fcnt p := by unfold State.fcnt; rw [h]

@[simp] theorem reportIf_fcnt (safe : Bool) (code detail p : Nat) (s : State) :
    (if safe = true then report 32 code detail s else s).fcnt p = s.fcnt p := fcnt_of_fab (reportIf_fab ..) p

/-! ## A frame of one word at a port -/

/-- The wait of a word is noted where it is traffic (R23, R45). -/
def waitNoted (w : Word × Word) (wait : Nat) (s : State) : State :=
  if tagValid w.1 then noteWait (tagSrc w.1) (tagCls w.1) wait s else s

theorem waitNoted_valid {w : Word × Word} (h : tagValid w.1 = true) (wait : Nat) (s : State) :
    waitNoted w wait s = noteWait (tagSrc w.1) (tagCls w.1) wait s := if_pos h

/-- Noting a wait leaves every part of the fabric but the longest waits. -/
theorem noteWait_fab (src cls wait : Nat) (s : State) : (noteWait src cls wait s).fab = { s.fab with
    waitSafe := (noteWait src cls wait s).fab.waitSafe, waitTel := (noteWait src cls wait s).fab.waitTel,
    waitOther := (noteWait src cls wait s).fab.waitOther } := by
  simp only [noteWait, Fab.noteWait]
  split
  · rfl
  · split <;> rfl

@[simp] theorem noteWait_rx (src cls wait : Nat) (s : State) : (noteWait src cls wait s).fab.rx = s.fab.rx := by rw [noteWait_fab]
@[simp] theorem noteWait_inbox (src cls wait : Nat) (s : State) : (noteWait src cls wait s).fab.inbox = s.fab.inbox := by
  rw [noteWait_fab]
@[simp] theorem noteWait_routes (src cls wait : Nat) (s : State) : (noteWait src cls wait s).fab.routes = s.fab.routes := by
  rw [noteWait_fab]
@[simp] theorem noteWait_fcnt (src cls wait p : Nat) (s : State) : (noteWait src cls wait s).fcnt p = s.fcnt p := by
  unfold State.fcnt; rw [noteWait_fab]

@[simp] theorem wordSeen_rx (p : Nat) (s : State) : (wordSeen p s).fab.rx = s.fab.rx := rfl
@[simp] theorem wordSeen_inbox (p : Nat) (s : State) : (wordSeen p s).fab.inbox = s.fab.inbox := rfl
@[simp] theorem wordSeen_fcnt (p n : Nat) (s : State) : (wordSeen p s).fcnt n = s.fcnt n := rfl

@[simp] theorem waitNoted_inbox (w : Word × Word) (wait : Nat) (s : State) : (waitNoted w wait s).fab.inbox = s.fab.inbox := by
  unfold waitNoted
  split
  · exact noteWait_inbox ..
  · rfl

@[simp] theorem waitNoted_fcnt (w : Word × Word) (wait p : Nat) (s : State) : (waitNoted w wait s).fcnt p = s.fcnt p := by
  unfold waitNoted
  split
  · exact noteWait_fcnt ..
  · rfl

theorem exec_fabricFrameReceive (p : Nat) (ws : List (Word × Word)) (wait : Nat) (s : State) :
    exec (.fabricFrameReceive p ws wait) s = execFabricFrameReceive p ws wait s := rfl

/-- A frame of one word that meets no hook is that word at its port. -/
theorem oneWord_arrives {s : State} {p : Nat} {w : Word × Word} (wait : Nat) (hup : s.sys.up = true) (hp : p < 32)
    (hu : Unhooked s (tagSrc w.1) (tagCls w.1)) :
    exec (.fabricFrameReceive p [w] wait) s = .next (receiveWord p (waitNoted w wait s) w) := by
  rw [exec_fabricFrameReceive, execFabricFrameReceive, run_up _ _ hup]
  congr 1
  have hreceive : receiveFrame p [w] wait s = receiveWord p (waitNoted w wait s) w := by
    by_cases hv : tagValid w.1 = true <;> simp [receiveFrame, waitNoted, hv]
  simp only [whenever, decide_eq_true hp, if_true]
  rw [← hreceive]
  by_cases hv : tagValid w.1 = true
  · simpa [frameArrives, hv] using hookedFrame_unmet hu wait _ _
  · simp [frameArrives, hv]

/-! ## A word at a port (R24 to R27, R35) -/

/-- A word that fails its check. -/
theorem receiveWord_bad {p : Nat} {w : Word × Word} {s : State} (h : wordOk w = false) : receiveWord p s w = chkFail p s := by
  simp [receiveWord, h]

/-- A word of a reserved class or source. -/
theorem receiveWord_reserved {p : Nat} {w : Word × Word} {s : State} (hok : wordOk w = true) (hv : tagValid w.1 = true)
    (h : 10 ≤ tagCls w.1 ∨ reservedSrc (tagSrc w.1) = true) :
    receiveWord p s w = countPort p 5 1 (wordSeen p s) := by
  simp [receiveWord, hok, hv, h, routeMiss, wordSeen]

/-- The routes stand in the route table alone. -/
theorem routeAt_routes {s t : State} (h : t.fab.routes = s.fab.routes) : routeAt t = routeAt s := by
  funext i; unfold routeAt; rw [h]

theorem routeFor_routes {s t : State} (h : t.fab.routes = s.fab.routes) (src cls : Nat) : routeFor t src cls = routeFor s src cls := by
  unfold routeFor; rw [routeAt_routes h]

/-- A word whose route names the endpoint of its port. -/
theorem receiveWord_routed {p ep : Nat} {r : Route} {w : Word × Word} {s : State} (hok : wordOk w = true) (hv : tagValid w.1 = true)
    (hcls : tagCls w.1 < 10) (hsrc : reservedSrc (tagSrc w.1) = false) (hr : routeFor s (tagSrc w.1) (tagCls w.1) = some r)
    (hep : portEndpoint p = some ep) (hdest : r.dest.getLsbD ep = true) :
    receiveWord p s w = wordAt p r w (wordSeen p s) ep := by
  obtain ⟨i, hi, hri⟩ := Option.map_eq_some_iff.mp ((routeFor_routes (t := wordSeen p s) rfl _ _).trans hr)
  have hi' : routeIdx (wordSeen p s) (tagSrc w.1) (tagCls w.1) = some i := hi
  have hnot : ¬ (10 ≤ tagCls w.1 ∨ reservedSrc (tagSrc w.1) = true) := by simp [hsrc, hcls]
  unfold receiveWord
  rw [← wordSeen]
  simp [hok, hv, hnot, hi', hep, hri, hdest]

/-- No entry of the route table, ROM or RAM, matches a reserved class (R24). -/
theorem routeHit_reserved (r : Route) (src : Nat) {cls : Nat} (h : 10 ≤ cls) : routeHit r src cls = false := by
  simp [routeHit, Nat.not_lt.mpr h]

/-- No hook meets a frame of a reserved class: it has no route (R469). -/
theorem unhooked_reserved (s : State) (src : Nat) {cls : Nat} (h : 10 ≤ cls) : Unhooked s src cls := by
  have hidx : routeIdx s src cls = none := List.find?_eq_none.mpr (fun i _ => by simp [routeHit_reserved _ src h])
  simp [Unhooked, routeHook, hidx]

/-! ## A word that fails its check (R27) -/

@[simp] theorem reportLink_fab (s : State) : (reportLink s).fab = s.fab := report_fabric_fab ..
@[simp] theorem reportLink_fcnt (p : Nat) (s : State) : (reportLink s).fcnt p = s.fcnt p := fcnt_of_fab (reportLink_fab s) p

@[simp] theorem linkFailed_inbox (link : Nat) (s : State) : (linkFailed link s).fab.inbox = s.fab.inbox := by
  rw [linkFailed, reportLink_fab]

@[simp] theorem linkFailed_fcnt (link p : Nat) (s : State) : (linkFailed link s).fcnt p = s.fcnt p := by
  rw [linkFailed, reportLink_fcnt]; rfl

/-- A word that fails its check is counted, and brings no frame to an inbox. -/
theorem chkFail_counts (p : Nat) (s : State) :
    ((chkFail p s).fcnt p).chk = (s.fcnt p).chk + 1 ∧ (chkFail p s).fab.inbox = s.fab.inbox := by
  unfold chkFail
  dsimp only
  generalize hcounted : State.setFcnt _ p _ = t
  have ht : (t.fcnt p).chk = (s.fcnt p).chk + 1 ∧ t.fab.inbox = s.fab.inbox := by
    rw [← hcounted]
    refine ⟨?_, by simp⟩
    rw [State.fcnt_setFcnt_ne (fun h => by injection h; omega)]
    exact word_countPort (i := 0) p s (by decide) (by decide) (by decide)
  split
  · split <;> simpa using ht
  · simpa using ht

/-! ## A frame accepted (R33, R307, R407) -/

/-- In the fabric an accepted frame stands in the endpoint's inbox. -/
theorem acceptFrame_fab (ep src cls : Nat) (data : List Word) (s : State) :
    (acceptFrame ep src cls data s).fab = { s.fab with inbox := put (0, 0, []) s.fab.inbox ep (src, cls, data) } := by
  have halarm : ∀ (time : Nat) (t : State), (alarmEvent src data time t).fab = t.fab := fun time t => by rw [alarmEvent_only]
  unfold acceptFrame
  dsimp only
  split
  · exact halarm _ _
  · split
    · split
      · split <;> rfl
      · rfl
    · rfl

@[simp] theorem acceptFrame_rx (ep src cls : Nat) (data : List Word) (s : State) :
    (acceptFrame ep src cls data s).fab.rx = s.fab.rx := by rw [acceptFrame_fab]

@[simp] theorem acceptFrame_fcnt (ep src cls p : Nat) (data : List Word) (s : State) :
    (acceptFrame ep src cls data s).fcnt p = s.fcnt p := by unfold State.fcnt; rw [acceptFrame_fab]

/-- A frame that is no alarm at the management core or the Umpire changes nothing else. -/
theorem acceptFrame_plain {ep cls : Nat} (src : Nat) (data : List Word) (s : State) (h : cls ≠ 4 ∨ (ep ≠ 8 ∧ ep ≠ 13)) :
    acceptFrame ep src cls data s = { s with fab := (acceptFrame ep src cls data s).fab } := by
  rw [acceptFrame_fab]
  unfold acceptFrame
  dsimp only
  rw [if_neg (by omega), if_neg (by omega)]

/-- An event has the next number (R407). -/
theorem pushEvent_eventSeq (src cls code : Nat) (data : List Word) (time : Nat) (s : State) :
    (pushEvent src cls code data time s).host.eventSeq = (s.host.eventSeq + 1) % 4294967296 := by
  have hnotify := fun u => foldl_keeps (part := State.host) (f := fun t (_ : Nat) => coreUnicast 0 (udpFrame 56) t)
    (fun t _ => by rw [coreUnicast_only]) s.net.subs u
  exact congrArg HostIf.eventSeq (hnotify _)

/-- An alarm at the management core is an event. -/
theorem acceptFrame_alarm (src : Nat) (data : List Word) (s : State) :
    (acceptFrame 8 src 4 data s).host.eventSeq = (s.host.eventSeq + 1) % 4294967296 := pushEvent_eventSeq ..

/-! ## A frame of one word at its endpoint (R28, R32, R33) -/

/-- The frame that one word is, as it opens. -/
def oneWordFrame (p : Nat) (w : Word × Word) (drop : Bool) : OpenFrame :=
  { port := p, seq := tagSeq w.1, cls := tagCls w.1, payload := [w.2], drop := drop }

/-- The distance of a word's SEQ from LAST (R32). -/
def seqDistance (x : Rx) (w : Word × Word) : Nat := (tagSeq w.1 + 256 - x.last) % 256

/-- What an endpoint keeps of a source whose frame of this word it has accepted. -/
def rxAccepted (w : Word × Word) : Rx := { last := tagSeq w.1, sync := true, frame := none }

theorem rxAccepted_ne (w : Word × Word) : rxAccepted w ≠ {} := fun h => by injection h; contradiction

/-- The open frame of one word is accepted. -/
theorem frameEnd_accepted {r : Route} {w : Word × Word} (p ep src : Nat) (x : Rx) (s : State) (hcrc : needsCrc r (tagCls w.1) = false) :
    frameEnd p ep src r (oneWordFrame p w false) (s.setRx ep src { x with frame := some (oneWordFrame p w false) }) =
      acceptFrame ep src (tagCls w.1) [w.2] (countPort p 2 (seqDistance x w - 1) (s.setRx ep src (rxAccepted w))) := by
  have hcrc' : needsCrc r (oneWordFrame p w false).cls = false := hcrc
  unfold frameEnd
  simp only [State.rx_setRx_open, State.setRx_setRx_open, hcrc']
  rfl

/-- An open frame that the sequence window dropped leaves nothing but LAST and SYNC. -/
theorem frameEnd_dropped (p ep src : Nat) (r : Route) (w : Word × Word) (x : Rx) (s : State) :
    frameEnd p ep src r (oneWordFrame p w true) (s.setRx ep src { x with frame := some (oneWordFrame p w true) }) =
      s.setRx ep src { x with frame := none } := by
  unfold frameEnd
  simp only [State.rx_setRx_open, State.setRx_setRx_open]
  rfl

/-- In the sequence window a frame of one word is accepted. -/
theorem wordAt_accepted {p ep : Nat} {r : Route} {w : Word × Word} {s : State} (hlast : tagLast w.1 = true)
    (hcrc : needsCrc r (tagCls w.1) = false) (hclosed : (s.rx ep (tagSrc w.1)).frame = none)
    (h1 : 1 ≤ seqDistance (s.rx ep (tagSrc w.1)) w) (h128 : seqDistance (s.rx ep (tagSrc w.1)) w ≤ 128) :
    wordAt p r w s ep = acceptFrame ep (tagSrc w.1) (tagCls w.1) [w.2]
      (countPort p 2 (seqDistance (s.rx ep (tagSrc w.1)) w - 1) (s.setRx ep (tagSrc w.1) (rxAccepted w))) := by
  rw [← frameEnd_accepted p ep (tagSrc w.1) _ s hcrc]
  unfold seqDistance at h1 h128
  simp [wordAt, hclosed, frameStart, h1, h128, hlast, oneWordFrame]

/-- A frame outside the sequence window is counted, and on a safety route reported. -/
def seqDropped (p : Nat) (safe : Bool) (s : State) : State :=
  if safe then report 32 codeSeqWindow 0 (countPort p 1 1 s) else countPort p 1 1 s

/-- Outside the sequence window a frame of one word is dropped. -/
theorem wordAt_dropped {p ep : Nat} {r : Route} {w : Word × Word} {s : State} (hlast : tagLast w.1 = true)
    (hclosed : (s.rx ep (tagSrc w.1)).frame = none)
    (h : seqDistance (s.rx ep (tagSrc w.1)) w = 0 ∨ 128 < seqDistance (s.rx ep (tagSrc w.1)) w) :
    ∃ x, wordAt p r w s ep = (seqDropped p r.safe s).setRx ep (tagSrc w.1) x := by
  have hout : (decide (1 ≤ seqDistance (s.rx ep (tagSrc w.1)) w) && decide (seqDistance (s.rx ep (tagSrc w.1)) w ≤ 128)) = false := by
    simp only [Bool.and_eq_false_iff, decide_eq_false_iff_not]; omega
  unfold seqDistance at hout
  refine ⟨_, Eq.trans ?_ (frameEnd_dropped p ep (tagSrc w.1) r w ((seqDropped p r.safe s).rx ep (tagSrc w.1)) _)⟩
  simp only [wordAt, hclosed, frameStart, hout, hlast]
  rfl

theorem seqDropped_fab (p : Nat) (safe : Bool) (s : State) : (seqDropped p safe s).fab = (countPort p 1 1 s).fab := by
  unfold seqDropped; exact reportIf_fab ..

theorem seqDropped_ump (p : Nat) (safe : Bool) (s : State) :
    (seqDropped p safe s).ump = if safe then (report 32 codeSeqWindow 0 s).ump else s.ump := by
  unfold seqDropped
  split
  · rw [report_fabric, report_fabric]; rfl
  · rfl

/-! ## One word of traffic -/

section OneWord

variable {s : State} {p ep : Nat} {w : Word × Word} {r : Route}

/-- A word of a reserved class or source does no more than count a route miss. -/
theorem oneWord_reserved (wait : Nat) (hup : s.sys.up = true) (hp : p < 32) (hu : Unhooked s (tagSrc w.1) (tagCls w.1))
    (hok : wordOk w = true) (hv : tagValid w.1 = true) (h : 10 ≤ tagCls w.1 ∨ reservedSrc (tagSrc w.1) = true) :
    exec (.fabricFrameReceive p [w] wait) s = .next (countPort p 5 1 (wordSeen p (noteWait (tagSrc w.1) (tagCls w.1) wait s))) := by
  rw [oneWord_arrives wait hup hp hu, receiveWord_reserved hok hv h, waitNoted_valid hv]

/-- A routed word acts at the endpoint of its port. -/
theorem oneWord_routed (wait : Nat) (hup : s.sys.up = true) (hp : p < 32) (hu : Unhooked s (tagSrc w.1) (tagCls w.1))
    (hok : wordOk w = true) (hv : tagValid w.1 = true) (hcls : tagCls w.1 < 10) (hsrc : reservedSrc (tagSrc w.1) = false)
    (hr : routeFor s (tagSrc w.1) (tagCls w.1) = some r) (hep : portEndpoint p = some ep) (hdest : r.dest.getLsbD ep = true) :
    exec (.fabricFrameReceive p [w] wait) s =
      .next (wordAt p r w (wordSeen p (noteWait (tagSrc w.1) (tagCls w.1) wait s)) ep) := by
  rw [oneWord_arrives wait hup hp hu, waitNoted_valid hv,
    receiveWord_routed hok hv hcls hsrc ((routeFor_routes (noteWait_routes ..) _ _).trans hr) hep hdest]

end OneWord

/-- The state a word finds past its check differs in the fabric alone, and there not in what endpoints and ports keep. -/
theorem wordSeen_noteWait (p src cls wait : Nat) (s : State) :
    (wordSeen p (noteWait src cls wait s)).fab.rx = s.fab.rx ∧ (wordSeen p (noteWait src cls wait s)).fab.inbox = s.fab.inbox ∧
    (∀ n, (wordSeen p (noteWait src cls wait s)).fcnt n = s.fcnt n) ∧
    wordSeen p (noteWait src cls wait s) = { s with fab := (wordSeen p (noteWait src cls wait s)).fab } := by
  refine ⟨?_, ?_, fun n => ?_, ?_⟩
  · rw [wordSeen_rx, noteWait_rx]
  · rw [wordSeen_inbox, noteWait_inbox]
  · rw [wordSeen_fcnt, noteWait_fcnt]
  · rw [noteWait_only]; rfl

/-- What an accepted frame of one word leaves. -/
theorem accepted_leaves {p ep : Nat} {w : Word × Word} {d : Nat} {s u t : State} (hfab : u = { s with fab := u.fab })
    (hd : d ≤ 128)
    (ht : t = acceptFrame ep (tagSrc w.1) (tagCls w.1) [w.2] (countPort p 2 (d - 1) (u.setRx ep (tagSrc w.1) (rxAccepted w)))) :
    look (0, 0, []) t.fab.inbox ep = (tagSrc w.1, tagCls w.1, [w.2]) ∧
    t.rx ep (tagSrc w.1) = { last := tagSeq w.1, sync := true, frame := none } ∧
    (1 < d → (t.fcnt p).lost = (u.fcnt p).lost + BitVec.ofNat 32 (d - 1)) ∧
    (tagCls w.1 ≠ 4 ∨ (ep ≠ 8 ∧ ep ≠ 13) → t = { s with fab := t.fab }) ∧
    (ep = 8 → tagCls w.1 = 4 → t.host.eventSeq = (s.host.eventSeq + 1) % 4294967296) := by
  subst ht
  refine ⟨?_, ?_, fun h1 => ?_, fun h => ?_, fun hep hcls => ?_⟩
  · rw [acceptFrame_fab]
    exact look_put_ne _ _ _ _ (fun h => by injection h with _ h; injection h; contradiction)
  · unfold State.rx
    rw [acceptFrame_rx, countPort_rx]
    exact State.rx_setRx_ne (rxAccepted_ne w)
  · rw [acceptFrame_fcnt]
    exact word_countPort (i := 2) p _ (by omega) (by omega) (by decide)
  · rw [acceptFrame_plain _ _ _ h, countPort_only, hfab]; rfl
  · rw [hep, hcls, acceptFrame_alarm, hfab]; rfl

/-- What a dropped frame of one word leaves. -/
theorem dropped_leaves (p ep src : Nat) (safe : Bool) (x : Rx) (s : State) :
    ((seqDropped p safe s).setRx ep src x).fab.inbox = s.fab.inbox ∧
    (((seqDropped p safe s).setRx ep src x).fcnt p).seqdrop = (s.fcnt p).seqdrop + 1 ∧
    ((seqDropped p safe s).setRx ep src x).ump = if safe then (report 32 codeSeqWindow 0 s).ump else s.ump := by
  refine ⟨?_, ?_, seqDropped_ump p safe s⟩
  · rw [setRx_inbox, seqDropped_fab, countPort_inbox]
  · rw [setRx_fcnt, fcnt_of_fab (seqDropped_fab p safe s)]
    exact word_countPort (i := 1) p s (by decide) (by decide) (by decide)

/-! ## Links, held copies and LAST resets (R27, R34, R36) -/

theorem exec_linkFail (link : Nat) (s : State) : exec (.linkFail link) s = execLinkFail link s := rfl

theorem exec_creditTimeoutDiscard (p : Nat) (s : State) : exec (.creditTimeoutDiscard p) s = execCreditTimeoutDiscard p s := rfl

theorem exec_lastResetFrame (ep src who : Nat) (s : State) :
    exec (.lastResetFrame ep src who) s = execLastResetFrame ep src who s := rfl

/-- A failed link drops out of LINK_UP and is reported. -/
theorem linkFail_acts {s : State} {link a b : Nat} (hup : s.sys.up = true) (hlink : link < 10) (hports : linkPorts[link]? = some (a, b)) :
    exec (.linkFail link) s = .next (report 32 codeLinkFail 0 { s with fab := { s.fab with
      linkFail := s.fab.linkFail ||| BitVec.ofNat 10 (1 <<< link),
      portGood := s.fab.portGood &&& ~~~(BitVec.ofNat 32 (1 <<< a) ||| BitVec.ofNat 32 (1 <<< b)) } }) := by
  rw [exec_linkFail, execLinkFail, run_up _ _ hup]
  simp only [whenever, decide_eq_true hlink, if_true, linkFailed, hports, reportLink, Option.getD_some]

theorem creditDue_iff {s : State} {p : Nat} :
    creditDue s p = true ↔ (p = 20 ∨ p = 21) ∧ (s.fab.point p).queues ≠ [] ∧ 4096 ≤ (s.fab.point p).starved := by
  simp [creditDue, and_assoc]

/-- A copy held without credit for 4,096 cycles is discarded, and no other. -/
theorem creditTimeout_acts {s : State} (p : Nat) (hup : s.sys.up = true) :
    exec (.creditTimeoutDiscard p) s = .next (if creditDue s p = true then creditDiscard p s else s) := by
  rw [exec_creditTimeoutDiscard, execCreditTimeoutDiscard, run_up _ _ hup, whenever]

/-- Only the seat manager's resets of a lane wait for a window (R40). -/
theorem lastReset_due {s : State} {ep who : Nat} (hdue : (ep = 0 ∨ 4 ≤ ep) ∨ who ≠ 1 ∨ s.t0 + 11000 ≤ s.now) :
    lastResetDue s ep who = true := by
  simp only [lastResetDue, Bool.or_eq_true, Bool.not_eq_true', Bool.and_eq_false_iff, decide_eq_true_eq, decide_eq_false_iff_not]
  omega

/-- A LAST reset acts by who sends it. -/
theorem lastReset_acts {s : State} {ep src who : Nat} (hup : s.sys.up = true) (hdue : lastResetDue s ep who = true) :
    exec (.lastResetFrame ep src who) s =
      .next (if resetter src = some who then s.setRx ep src {} else countPort (configPort ep who) 5 1 s) := by
  rw [exec_lastResetFrame, execLastResetFrame, run_up _ _ hup, whenever, if_pos hdue]
  rfl

/-! ## The statements -/

/-- Settles O23: no entry matches a reserved class, so the word meets no hook and no route. -/
theorem reservedClassIsRouteMiss : Obligations.ReservedClassIsRouteMiss := by
  refine ⟨fun s p wait w hup hp hok hv hcls => ?_, fun s i src cls h => routeHit_reserved _ _ h⟩
  obtain ⟨hrx, hinbox, hcnt, hfab⟩ := wordSeen_noteWait p (tagSrc w.1) (tagCls w.1) wait s
  refine ⟨_, oneWord_reserved wait hup hp (unhooked_reserved _ _ hcls) hok hv (.inl hcls), ?_, (countPort_rx ..).trans hrx,
    (countPort_inbox ..).trans hinbox, ?_⟩
  · rw [← hcnt]; exact word_countPort (i := 5) p _ (by decide) (by decide) (by decide)
  · rw [countPort_only, hfab]

/-- Settles O24: each clause is what one operation of the receivers does, the third by the distance of SEQ from LAST. -/
theorem fabricReceivers : Obligations.FabricReceivers := by
  intro s hup
  refine ⟨fun p wait w hp hu hbad => ?_, fun p wait w hp hu hok hv hsrc => oneWord_reserved wait hup hp hu hok hv (.inr hsrc),
    fun p wait w ep r hp hu hok hv hlast hcls hsrc hr hep hdest hcrc hclosed d hd => ?_,
    fun link a b hlink hports => linkFail_acts hup hlink hports, fun p hp hq hstarved => ?_, fun p h => ?_,
    fun ep src who hdue => ?_⟩
  · obtain ⟨hchk, hinbox⟩ := chkFail_counts p (waitNoted w wait s)
    rw [oneWord_arrives wait hup hp hu, receiveWord_bad hbad]
    exact ⟨_, rfl, by rw [hchk, waitNoted_fcnt], by rw [hinbox, waitNoted_inbox]⟩
  · rw [oneWord_routed wait hup hp hu hok hv hcls hsrc hr hep hdest]
    obtain ⟨hrx, hinbox, hcnt, hfab⟩ := wordSeen_noteWait p (tagSrc w.1) (tagCls w.1) wait s
    generalize wordSeen p (noteWait (tagSrc w.1) (tagCls w.1) wait s) = u at *
    have hkept : u.rx ep (tagSrc w.1) = s.rx ep (tagSrc w.1) := by unfold State.rx; rw [hrx]
    rw [← hkept] at hclosed hd
    change d = seqDistance (u.rx ep (tagSrc w.1)) w at hd
    subst hd
    refine ⟨fun h1 h128 => ?_, fun hout => ?_⟩
    · rw [wordAt_accepted hlast hcrc hclosed h1 h128, ← hcnt p]
      exact ⟨_, rfl, accepted_leaves hfab h128 rfl⟩
    · obtain ⟨x, hx⟩ := wordAt_dropped (p := p) (r := r) hlast hclosed hout
      obtain ⟨hin, hcount, hump⟩ := dropped_leaves p ep (tagSrc w.1) r.safe x u
      refine ⟨_, congrArg _ hx, hin.trans hinbox, hcnt p ▸ hcount, hump.trans ?_⟩
      rw [report_fabric, report_fabric, hfab]; rfl
  · rw [creditTimeout_acts p hup, if_pos (creditDue_iff.mpr ⟨hp, hq, hstarved⟩)]; rfl
  · rw [creditTimeout_acts p hup, if_neg]
    intro hdue
    obtain ⟨hp, hq, hstarved⟩ := creditDue_iff.mp hdue
    rcases h with ⟨h20, h21⟩ | hnone | hearly
    · omega
    · exact hq hnone
    · omega
  · rw [lastReset_acts hup (lastReset_due hdue)]
    exact ⟨fun h => by rw [if_pos h], fun h => by rw [if_neg h]⟩

end Sys2Proof.Machine
end

section
/-!
SUPPORT. The lock-out (R56 rows 18, 1 to 4 and 8, R65): what step 6 judges the rows by, the rows that end in LOCKOUT, and the
statement about entering and leaving it.
-/
namespace Sys2Proof.Machine

open Sys2Proof

/-! ## The course of the seats -/

/-- What the rows of the lock-out are judged by apart from the lanes' contributions and the cycle, and what they decide: the
state, the seats and their next mapping, the sculling, the requests, the supervised clocks and the forced-off lines. -/
structure SeatCourse where
  state : SeatState
  bow : Option Lane
  stroke : Option Lane
  spare : Option Lane
  due : Option (Option Lane × Option Lane × Option Lane)
  scullBow : Bool
  scullSince : Option Nat
  holdReq : Bool
  lorAccepted : Bool
  sys : Sys
  fld : Field

def seatCourse (s : State) : SeatCourse :=
  { state := s.seat.state, bow := s.seat.bow, stroke := s.seat.stroke, spare := s.seat.spare, due := s.seat.due,
    scullBow := s.seat.scullBow, scullSince := s.seat.scullSince, holdReq := s.seat.holdReq,
    lorAccepted := s.seat.lorAccepted, sys := s.sys, fld := s.fld }

/-- The course stands in the seat manager, the field die and the SYS block alone. -/
theorem seatCourse_congr {s t : State} (hseat : t.seat = s.seat) (hsys : t.sys = s.sys) (hfld : t.fld = s.fld) :
    seatCourse t = seatCourse s := by simp only [seatCourse, hseat, hsys, hfld]

theorem seatCourse_eq {s t : State} (h : seatCourse t = seatCourse s) :
    t.seat.state = s.seat.state ∧ t.seat.bow = s.seat.bow ∧ t.seat.stroke = s.seat.stroke ∧ t.seat.spare = s.seat.spare ∧
    t.seat.due = s.seat.due ∧ t.seat.scullBow = s.seat.scullBow ∧ t.seat.scullSince = s.seat.scullSince ∧
    t.seat.holdReq = s.seat.holdReq ∧ t.seat.lorAccepted = s.seat.lorAccepted ∧ t.sys = s.sys ∧ t.fld = s.fld :=
  SeatCourse.mk.inj h

@[simp] theorem seatCourse_setMgr (s : State) (l : Lane) (m : LaneMgr) : seatCourse (s.setMgr l m) = seatCourse s := rfl
@[simp] theorem seatCourse_dropSlice (u : Nat) (s : State) : seatCourse (dropSlice u s) = seatCourse s := rfl
@[simp] theorem seatCourse_report (line code detail : Nat) (s : State) :
    seatCourse (report line code detail s) = seatCourse s := by rw [report_only]; rfl
@[simp] theorem seatCourse_abortSlice (u : Nat) (s : State) : seatCourse (abortSlice u s) = seatCourse s := by
  rw [abortSlice_only]; rfl
@[simp] theorem seatCourse_abortCommand (l : Lane) (s : State) : seatCourse (abortCommand l s) = seatCourse s := by
  unfold abortCommand; dsimp only; split <;> simp
@[simp] theorem seatCourse_abortComplete (l : Lane) (s : State) : seatCourse (abortComplete l s) = seatCourse s := by
  unfold abortComplete; dsimp only; split <;> simp
@[simp] theorem seatCourse_countFailure (l : Lane) (cause : Nat) (s : State) :
    seatCourse (countFailure l cause s) = seatCourse s := by
  unfold countFailure
  dsimp only
  repeat' split
  · rfl
  · exact (seatCourse_report ..).trans ((seatCourse_dropSlice ..).trans (seatCourse_setMgr ..))
  · exact seatCourse_setMgr ..
@[simp] theorem seatCourse_countGone (s : State) (l : Lane) : seatCourse (countGone s l) = seatCourse s := by
  unfold countGone; dsimp only; split <;> simp
@[simp] theorem seatCourse_retestPassed (l : Lane) (s : State) : seatCourse (retestPassed l s) = seatCourse s := by
  unfold retestPassed; dsimp only; repeat' split
  all_goals simp
@[simp] theorem seatCourse_copyAgain (l : Lane) (s : State) : seatCourse (copyAgain l s) = seatCourse s := by
  unfold copyAgain; dsimp only; split <;> simp
@[simp] theorem seatCourse_staleCopy (l : Lane) (s : State) : seatCourse (staleCopy l s) = seatCourse s := by
  unfold staleCopy; repeat' split
  all_goals simp
theorem seatCourse_resetSources (who : Nat) (srcs : List Nat) (s : State) :
    seatCourse (resetSources who srcs s) = seatCourse s := seatCourse_congr rfl rfl rfl
theorem seatCourse_seatCommand (kind : Nat) (l : Lane) (s : State) :
    seatCourse (seatCommand kind l s) = seatCourse s := seatCourse_congr rfl rfl rfl
@[simp] theorem seatCourse_orderCopy (l : Lane) (s : State) : seatCourse (orderCopy l s) = seatCourse s := by
  unfold orderCopy
  dsimp only
  repeat' split
  · exact (seatCourse_seatCommand ..).trans ((seatCourse_resetSources ..).trans (seatCourse_setMgr ..))
  · rfl
  · rfl

/-- A command that may leave the safe state ends hooks, and no more of the seats' course than its own (R474). -/
theorem seatCourse_leaving (f : State → State) (s : State) : seatCourse (leaving f s) = seatCourse (f s) := by
  unfold leaving
  dsimp only
  split
  · rw [hooksEnd_only]; rfl
  · rfl

/-! ## Step 6 around its row -/

/-- The state on which step 6 judges the rows of R56: aborts that have run to their end and the due rotation instant stand,
and the contributions are counted. -/
def rowState (s : State) : State :=
  let s0 := allLanes.foldl (fun t l => abortComplete l t) (advance (deadlineTick s) s)
  tally (whenever (rotationDue s0) rotationInstant s0)

theorem seatCourse_advance (tick : Nat) (s : State) : seatCourse (advance tick s) = seatCourse s := by rw [advance_only]; rfl
theorem seatCourse_tally (s : State) : seatCourse (tally s) = seatCourse s := rfl

/-- The rotation instant only notes that a step is due, and the next instant (R57). -/
theorem seatCourse_stepNoted (s : State) (next : Nat) :
    seatCourse { s with seat := { s.seat with step := true, rotAt := next } } = seatCourse s := rfl

theorem seatCourse_rotation (c : Bool) (s : State) : seatCourse (whenever c rotationInstant s) = seatCourse s := by
  cases c
  · rfl
  · exact seatCourse_stepNoted s _

theorem seatCourse_rowState (s : State) : seatCourse (rowState s) = seatCourse s := by
  unfold rowState
  dsimp only
  rw [seatCourse_tally, seatCourse_rotation, foldl_keeps (part := seatCourse) (fun t l => seatCourse_abortComplete l t),
    seatCourse_advance]

theorem cycleMark_rowState (s : State) : cycleMark (rowState s) = { cycleMark s with votes := classified (cycleMark s) } := by
  unfold rowState
  exact cycleMark_of_tally ((cycleMark_of_facts (cycleFacts_whenever cycleFacts_rotationInstant _ _)).trans
    ((cycleMark_of_facts (cycleFacts_foldl (fun t l => cycleFacts_abortComplete l t) _ _)).trans (cycleMark_advance _ s)))

/-- A classification of the votes leaves the contributions and the cycle's number alone. -/
theorem rx_of_mark {s t : State} {v : Tri (Option Vote)} (h : cycleMark t = { cycleMark s with votes := v }) (l : Lane) :
    (t.mgr l).rx = (s.mgr l).rx := by
  obtain ⟨h1, h2, h3⟩ := Tri.mk.inj (congrArg CycleFacts.rx h)
  cases l
  · exact h1
  · exact h2
  · exact h3

theorem cycle_of_mark {s t : State} {v : Tri (Option Vote)} (h : cycleMark t = { cycleMark s with votes := v }) :
    t.seat.cycle = s.seat.cycle := congrArg CycleFacts.cycle h

theorem rx_rowState (s : State) (l : Lane) : ((rowState s).mgr l).rx = (s.mgr l).rx := rx_of_mark (cycleMark_rowState s) l
theorem cycle_rowState (s : State) : (rowState s).seat.cycle = s.seat.cycle := cycle_of_mark (cycleMark_rowState s)

theorem gone_rowState {s : State} {l : Lane} (h : Gone s l) : Gone (rowState s) l := fun v => by rw [rx_rowState]; exact h v

/-- Around its row, step 6 leaves the course of the seats alone. -/
theorem stepSix_rows (s : State) : ∃ elig, seatCourse (stepSix s) =
    seatCourse (applyRow elig (if seatFrozen (rowState s) then 0 else rowOf elig (rowState s))
      (allLanes.foldl countGone (rowState s))) := by
  have hdone (t : State) : seatCourse { t with seat := { t.seat with judged := true } } = seatCourse t := rfl
  have hagain (row : Nat) (t : State) :
      seatCourse (if row = 0 then allLanes.foldl (fun t l => copyAgain l t) t else t) = seatCourse t := by
    split
    · exact foldl_keeps (part := seatCourse) (fun t l => seatCourse_copyAgain l t) _ _
    · rfl
  have hwindow (t : State) :
      seatCourse (allLanes.foldl (fun t l => orderCopy l (staleCopy l (retestPassed l t))) t) = seatCourse t :=
    foldl_keeps (part := seatCourse) (fun t l => by simp) _ _
  unfold stepSix
  dsimp only
  rw [hdone, hwindow, hagain]
  exact ⟨_, rfl⟩

/-! ## The rows that end in LOCKOUT -/

theorem lockedOut_of_course {s t : State} (h : seatCourse t = seatCourse s) (hs : LockedOut s) : LockedOut t := by
  obtain ⟨hstate, -, -, -, hdue, -⟩ := seatCourse_eq h
  obtain ⟨hlock, hnone⟩ := hs
  exact ⟨hstate.trans hlock, hdue.trans hnone⟩

theorem lockedOut_entered (row : Nat) (l : Option Lane) (s : State) :
    LockedOut (setDue none none none (enterState .lockout row l s)) := ⟨rfl, rfl⟩

theorem lockedOut_lockOut (row : Nat) (l : Option Lane) (s : State) : LockedOut (lockOut row l s) := by
  unfold lockOut; exact lockedOut_entered ..

theorem lockedOut_report {s : State} (line code detail : Nat) (h : LockedOut s) : LockedOut (report line code detail s) :=
  lockedOut_of_course (seatCourse_report ..) h

theorem lockedOut_seatLoss (row : Nat) (l : Option Lane) (s : State) : LockedOut (seatLoss row l s) :=
  lockedOut_report _ _ _ (lockedOut_lockOut ..)

/-- The rows of R56 whose next state is LOCKOUT whatever the votes are. -/
def lockOutRows : List Nat := [18, 1, 2, 3, 4, 8]

theorem applyRow_lockedOut {row : Nat} (h : row ∈ lockOutRows) (elig : Bool) (s : State) : LockedOut (applyRow elig row s) := by
  simp only [lockOutRows, List.mem_cons, List.not_mem_nil, or_false] at h
  unfold applyRow
  rcases h with rfl | rfl | rfl | rfl | rfl | rfl
  · exact lockedOut_lockOut ..
  · exact lockedOut_seatLoss ..
  · exact lockedOut_seatLoss ..
  · exact lockedOut_report _ _ _ (lockedOut_lockOut ..)
  · exact lockedOut_report _ _ _ (lockedOut_lockOut ..)
  · exact lockedOut_seatLoss ..

theorem seatFrozen_of_course {s t : State} (h : seatCourse t = seatCourse s) : seatFrozen t = seatFrozen s := by
  obtain ⟨-, -, -, -, -, -, -, -, -, hsys, -⟩ := seatCourse_eq h
  unfold seatFrozen
  rw [hsys]

/-- With the clocks in range, step 6 locks the seats out where each row that may apply does. -/
theorem stepSix_lockedOut {s : State} (hf : seatFrozen s = false) (h : ∀ elig, rowOf elig (rowState s) ∈ lockOutRows) :
    LockedOut (stepSix s) := by
  obtain ⟨elig, hcourse⟩ := stepSix_rows s
  rw [seatFrozen_of_course (seatCourse_rowState s), hf, if_neg Bool.false_ne_true] at hcourse
  exact lockedOut_of_course hcourse (applyRow_lockedOut (h elig) _ _)

/-! ## Which row applies -/

theorem goneCause_isSome {s : State} {l : Lane} : (goneCause (s.mgr l).rx).isSome = true ↔ Gone s l := by
  unfold Gone
  cases (s.mgr l).rx <;> simp [goneCause]

theorem running_iff {st : SeatState} : running st = true ↔ st ≠ .start ∧ st ≠ .lockout := by simp [running]

/-- Both seated lanes are gone: row 1, unless all lines are forced off (row 18). -/
theorem rowOf_bothGone {s : State} {b k : Lane} (elig : Bool) (hd : SeatsDrive s) (hb : s.seat.bow = some b)
    (hk : s.seat.stroke = some k) (hgb : Gone s b) (hgk : Gone s k) : rowOf elig s ∈ lockOutRows := by
  have hrun : running s.seat.state = true := running_iff.mpr hd
  have h1 := goneCause_isSome.mpr hgb
  have h2 := goneCause_isSome.mpr hgk
  unfold rowOf
  simp only [hrun, hb, hk, h1, h2, Bool.and_self, if_true]
  split <;> decide

/-- The lane that sculls is gone: row 2, unless row 18 or 1 applies. -/
theorem rowOf_scullGone {s : State} {l : Lane} (elig : Bool) (hst : s.seat.state = .sculling) (hl : scullLane s = some l)
    (hg : Gone s l) : rowOf elig s ∈ lockOutRows := by
  have h1 := goneCause_isSome.mpr hg
  unfold rowOf
  simp only [hst, hl, h1, decide_true, Bool.true_or, Bool.and_self, if_true]
  repeat' split
  all_goals decide

/-- The sculling time has reached its limit: row 4, unless row 18 or 1 to 3 applies (R65). -/
theorem rowOf_scullOver {s : State} (elig : Bool) (h : scullOver s = true) : rowOf elig s ∈ lockOutRows := by
  unfold rowOf
  simp only [h, if_true]
  repeat' split
  all_goals decide

/-- While two seats run without a third lane, one seated lane gone is row 8, unless row 18 applies. -/
theorem rowOf_oneGone {s : State} {b k : Lane} (elig : Bool) (hst : s.seat.state = .recovering ∨ s.seat.state = .twoOar)
    (hhold : s.seat.holdReq = false) (hb : s.seat.bow = some b) (hk : s.seat.stroke = some k)
    (hone : (goneCause (s.mgr b).rx).isSome = !(goneCause (s.mgr k).rx).isSome) :
    rowOf elig s = if s.linesLow = 0xF then 18 else 8 := by
  have hover : scullOver s = false := by
    unfold scullOver
    rcases hst with hst | hst <;> split <;> simp [hst]
  unfold rowOf
  simp only [hb, hk, hover, hhold, hone]
  generalize (goneCause (s.mgr k).rx).isSome = gk
  rcases hst with hst | hst
  · cases gk <;> simp [hst, running]
  · cases gk <;> simp [hst, running]

/-- While two seats run without a third lane, a seated lane gone is row 8, and both are row 1, unless row 18 applies. -/
theorem rowOf_eitherGone {s : State} {b k : Lane} (elig : Bool) (hst : s.seat.state = .recovering ∨ s.seat.state = .twoOar)
    (hhold : s.seat.holdReq = false) (hb : s.seat.bow = some b) (hk : s.seat.stroke = some k) (h : Gone s b ∨ Gone s k) :
    rowOf elig s ∈ lockOutRows := by
  by_cases hboth : Gone s b ∧ Gone s k
  · have hdrive : SeatsDrive s := by rcases hst with hst | hst <;> simp [SeatsDrive, hst]
    exact rowOf_bothGone elig hdrive hb hk hboth.1 hboth.2
  · have hone : ∀ x y : Bool, x = true ∨ y = true → ¬(x = true ∧ y = true) → x = !y := by decide
    rw [rowOf_oneGone elig hst hhold hb hk (hone _ _ (h.imp goneCause_isSome.mpr goneCause_isSome.mpr)
      (fun hg => hboth (hg.imp goneCause_isSome.mp goneCause_isSome.mp)))]
    split <;> decide

/-- In LOCKOUT no row applies before a lock-out reset has been accepted (R142, R143). -/
theorem rowOf_lockout {s : State} (elig : Bool) (hst : s.seat.state = .lockout) (hlor : s.seat.lorAccepted = false) :
    rowOf elig s = 0 := by
  have hover : scullOver s = false := by unfold scullOver; split <;> simp [hst]
  unfold rowOf
  simp [hst, hlor, hover, running]

/-! ## What the next row is judged by -/

theorem scullLane_of_course {s t : State} (h : seatCourse t = seatCourse s) : scullLane t = scullLane s := by
  obtain ⟨-, hbow, hstroke, -, -, hside, -⟩ := seatCourse_eq h
  unfold scullLane
  rw [hbow, hstroke, hside]

theorem scullOver_of_course {s t : State} (h : seatCourse t = seatCourse s) (hc : t.seat.cycle = s.seat.cycle) :
    scullOver t = scullOver s := by
  obtain ⟨hstate, -, -, -, -, -, hsince, -, -, -, hfld⟩ := seatCourse_eq h
  unfold scullOver State.img
  rw [hstate, hsince, hfld, hc]

theorem applyRow_zero (elig : Bool) (s : State) : applyRow elig 0 s = s := rfl

/-- Without an accepted lock-out reset, step 6 leaves the course of a locked-out module as it is. -/
theorem stepSix_locked {s : State} (hst : s.seat.state = .lockout) (hlor : s.seat.lorAccepted = false) :
    seatCourse (stepSix s) = seatCourse s := by
  obtain ⟨hstate, -, -, -, -, -, -, -, hacc, -⟩ := seatCourse_eq (seatCourse_rowState s)
  obtain ⟨elig, hcourse⟩ := stepSix_rows s
  have hrow : rowOf elig (rowState s) = 0 := rowOf_lockout elig (hstate.trans hst) (hacc.trans hlor)
  rw [hrow, ite_self, applyRow_zero, foldl_keeps (part := seatCourse) seatCourse_countGone, seatCourse_rowState] at hcourse
  exact hcourse

/-! ## The statement -/

theorem voteDeadline_lockedOut {s : State} (h : StepSixDue s) (hrow : ∀ elig, rowOf elig (rowState s) ∈ lockOutRows) :
    ∃ t, exec .voteDeadline s = .next t ∧ LockedOut t := by
  obtain ⟨hup, hdue, hclk⟩ := h
  refine ⟨_, run_up _ _ hup, lockedOut_of_course (seatCourse_leaving _ s) ?_⟩
  rw [voteDeadline_due hdue]
  exact stepSix_lockedOut hclk hrow

theorem scullTimeout_lockedOut {s : State} (h : StepSixDue s) (hover : scullOver s = true) :
    ∃ t, exec .scullTimeout s = .next t ∧ LockedOut t := by
  obtain ⟨hup, hdue, hclk⟩ := h
  refine ⟨_, run_up _ _ hup, lockedOut_of_course (seatCourse_leaving _ s) ?_⟩
  rw [hover, whenever_true, voteDeadline_due hdue]
  exact stepSix_lockedOut hclk fun elig =>
    rowOf_scullOver elig ((scullOver_of_course (seatCourse_rowState s) (cycle_rowState s)).trans hover)

/-- Settles O10: step 6 judges the rows by the seats, the requests and the contributions as the command finds them; each of
the conditions leads to one of the rows that end in LOCKOUT, and in LOCKOUT no row applies. -/
theorem lockoutEntryAndExit : Obligations.LockoutEntryAndExit := by
  refine ⟨fun s hdue hdrive => ?_, fun s hup hst hlor => ?_⟩
  · have hrows := seatCourse_rowState s
    obtain ⟨hstate, hbow, hstroke, -, -, -, -, hhold, -⟩ := seatCourse_eq hrows
    refine ⟨fun b k hb hk hgb hgk => ?_, fun l hst hl hg => ?_, fun b k hst hreq hb hk hg => ?_, fun c hst hc hlim => ?_⟩
    · exact voteDeadline_lockedOut hdue fun elig => rowOf_bothGone elig (by unfold SeatsDrive; rw [hstate]; exact hdrive)
        (hbow.trans hb) (hstroke.trans hk) (gone_rowState hgb) (gone_rowState hgk)
    · exact voteDeadline_lockedOut hdue fun elig => rowOf_scullGone elig (hstate.trans hst)
        ((scullLane_of_course hrows).trans hl) (gone_rowState hg)
    · exact voteDeadline_lockedOut hdue fun elig => rowOf_eitherGone elig (hst.imp hstate.trans hstate.trans)
        (hhold.trans hreq) (hbow.trans hb) (hstroke.trans hk) (hg.imp gone_rowState gone_rowState)
    · exact scullTimeout_lockedOut hdue (by simp [scullOver, hc, hst, hlim])
  · have hkept : seatCourse (leaving voteDeadline s) = seatCourse s := by
      rw [seatCourse_leaving, voteDeadline]
      split
      · rfl
      · exact stepSix_locked hst hlor
    obtain ⟨hstate, hbow, hstroke, hspare, hdue, -⟩ := seatCourse_eq hkept
    exact ⟨_, run_up _ _ hup, hstate.trans hst, hdue, hbow, hstroke, hspare⟩

end Sys2Proof.Machine
end

section
/-!
SUPPORT. A lane's own errors and the frames of its vote transmitter at the field die (R47 to R50, R301, R166), and the
statement about them.
-/
namespace Sys2Proof.Machine

open Sys2Proof

/-- A command of a running module answers the state its meaning gives. -/
theorem run_gives {s t : State} {f : State → State} (hup : s.sys.up = true) (h : f s = t) : run s f = .next t := by
  rw [run_up _ _ hup, h]

section Lanes

variable {s : State} {l : Lane}

/-! ## A lane's own errors (R47, R301) -/

/-- A lane that is faulty already keeps its cause and its state. -/
theorem flagFaulty_faulty {cause c : Nat} (h : (s.laneD l).faulty = some c) : flagFaulty l cause s = s := by
  simp [flagFaulty, h]

theorem configPass_good : configPass l true s =
    s.setLane l { s.laneD l with passes := (s.laneD l).passes + 1, passOk := true } := rfl

/-- A failing configuration pass is counted and shown, then withdraws the lane with cause 0x04. -/
theorem configPass_failed (h : (s.laneD l).faulty = none) : configPass l false s =
    withdrawn l 0x04 (s.setLane l { s.laneD l with passes := (s.laneD l).passes + 1, passOk := false }) :=
  flagFaulty_sound (by rw [State.laneD_setLane_same]; exact h)

/-! ## Frames of a vote transmitter at the field die (R50, R166) -/

theorem voteFrame_none (onTime intact : Bool) (h : (s.laneD l).out = .none) : voteFrame l onTime intact s = s := by
  simp [voteFrame, h]

theorem voteFrame_vote {v : Vote} (hj : s.seat.judged = false) (h : (s.laneD l).out = .vote v) :
    voteFrame l true true s =
      (let t := ((frameHeard 0 (0x300 + laneNo l) s).setLane l { s.laneD l with out := .none }).setMgr l
          { s.mgr l with shown := some v, rx := .vote v }
       { t with fld := { t.fld with wd := { t.fld.wd with seen := true } } }) := by
  simp [voteFrame, h, hj]

theorem voteFrame_late {v : Vote} (hj : s.seat.judged = false) (h : (s.laneD l).out = .vote v) :
    voteFrame l false true s =
      ((frameHeard 0 (0x300 + laneNo l) s).setLane l { s.laneD l with out := .none }).setMgr l
        { s.mgr l with shown := some v, rx := .late } := by
  simp [voteFrame, h, hj]

theorem voteFrame_damaged {v : Vote} (hj : s.seat.judged = false) (h : (s.laneD l).out = .vote v) :
    voteFrame l true false s =
      (s.setLane l { s.laneD l with out := .none }).setMgr l { s.mgr l with rx := .failed } := by
  simp [voteFrame, h, hj]

theorem voteFrame_withdraw {c : Nat} (hj : s.seat.judged = false) (h : (s.laneD l).out = .withdraw c) :
    voteFrame l true true s =
      ((frameHeard 0 (0x300 + laneNo l) s).setLane l { s.laneD l with out := .none }).setMgr l
        { s.mgr l with shown := some ⟨pack [(c, 0, 8), (0xFF, 24, 8)], 0, 0, 0⟩, rx := .withdraw c } := by
  simp [voteFrame, h, hj]

end Lanes

/-! ## The statement -/

/-- Settles O6: each command is one of the cases above. -/
theorem laneErrorsAndVoteFrames : Obligations.LaneErrorsAndVoteFrames := by
  refine ⟨fun s l hup => ⟨fun hf => ?_, ?_, fun c hf => ?_⟩,
    fun s l hup hj => ⟨fun v hv => ?_, fun c hc => ?_, fun onTime intact hn => ?_⟩⟩
  · exact ⟨run_gives hup (flagFaulty_sound hf), run_gives hup (flagFaulty_sound hf),
      run_gives hup (flagFaulty_sound hf), run_gives hup (configPass_failed hf)⟩
  · exact run_gives hup configPass_good
  · exact ⟨run_gives hup (flagFaulty_faulty hf), run_gives hup (flagFaulty_faulty hf),
      run_gives hup (flagFaulty_faulty hf)⟩
  · exact ⟨run_gives hup (voteFrame_vote hj hv), run_gives hup (voteFrame_late hj hv),
      run_gives hup (voteFrame_damaged hj hv)⟩
  · exact run_gives hup (voteFrame_withdraw hj hc)
  · exact run_gives hup (voteFrame_none onTime intact hn)

end Sys2Proof.Machine
end

section
/-!
SUPPORT. The state after reset (R55, R310, R344, R374, R375, R377), and the statement about it.
-/
namespace Sys2Proof.Machine

open Sys2Proof

theorem reset_groups_off (g : Group) : (State.reset.group g).good = false := by cases g <;> rfl

/-- No output is commanded on at reset, whatever its number. -/
theorem reset_not_energised (k : Nat) : energised State.reset k = false := rfl

theorem reset_lifecycleLegal : LifecycleLegal State.reset := ⟨le_refl _, by decide, fun h => absurd h (by decide)⟩

/-- Settles O45: the fields of the reset state, its groups and outputs, and the invariants of its memories and lifecycle. -/
theorem resetState : Obligations.ResetState :=
  ⟨rfl, rfl, rfl, rfl, rfl, rfl, rfl, rfl, rfl, rfl, reset_groups_off, reset_not_energised, rfl, rfl, rfl, reset_memories_wf,
    reset_lifecycleLegal⟩

end Sys2Proof.Machine
end

section
/-!
SUPPORT. The Spare's state copy and its abort (R60, R62 to R64, R335): a copy frame case by case, the re-check, the end of the
catch-up evaluation, the slice that an abort ends, and the statement about them.
-/
namespace Sys2Proof.Machine

open Sys2Proof

section Copy

variable {s : State} {l : Lane}

/-! ## The state copy (R60, R63) -/

/-- A copy frame that fails its check, the last or not, makes the lane wait for a new copy. -/
theorem copyFrame_damaged (last : Bool) (h : (s.mgr l).phase = .copying s.seat.cycle) :
    copyFrame l false last s = s.setMgr l { s.mgr l with phase := .ready } := by
  simp [copyFrame, h]

theorem copyFrame_more {src : Lane} (h : (s.mgr l).phase = .copying s.seat.cycle) (hsrc : (s.mgr l).copyFrom = some src) :
    copyFrame l true false s = copyHeard l src s := by
  unfold copyFrame
  simp only [h, hsrc, if_true, Bool.not_true, Bool.false_eq_true, if_false, false_and]
  split <;> rfl

theorem copyFrame_last {src : Lane} {bl : Tab BlockState} (h : (s.mgr l).phase = .copying s.seat.cycle)
    (hsrc : (s.mgr l).copyFrom = some src) (hbl : (s.laneD src).copySrc = some (s.seat.cycle, bl)) :
    copyFrame l true true s =
      ((copyHeard l src s).setLane l { s.laneD l with blocks := bl, evaluated := none }).setMgr l
        { s.mgr l with phase := .agreeing s.seat.cycle, agree := 0 } := by
  have hfrozen : ((copyHeard l src s).laneD src).copySrc = some (s.seat.cycle, bl) := hbl
  unfold copyFrame
  simp only [h, hsrc, hfrozen, if_true, Bool.not_true, Bool.false_eq_true, if_false, and_self]
  rfl

/-! ## The re-check and the catch-up (R60, R62) -/

theorem recheck_passed (h : (s.mgr l).recheck = some false) :
    recheck l true s = s.setMgr l { s.mgr l with recheck := some true } := by
  simp [recheck, h]

theorem recheck_failed (h : (s.mgr l).recheck = some false) (hf : (s.laneD l).faulty = none) :
    recheck l false s = withdrawn l 0x03 (s.setMgr l { s.mgr l with recheck := none }) := by
  simp only [recheck, h, Bool.false_eq_true, if_false]
  exact flagFaulty_sound hf

theorem catchingUp_behind {c : Nat} (h : (s.mgr l).phase = .agreeing c)
    (hev : ∀ n, (s.laneD l).evaluated = some n → n < c) : catchingUp s l = true := by
  have hne : (s.laneD l).evaluated ≠ some c := fun he => lt_irrefl c (hev c he)
  unfold catchingUp
  rw [h]
  exact Bool.and_eq_true_iff.mpr ⟨decide_eq_true hne, decide_eq_true hev⟩

/-- The catch-up evaluates the buffered cycle; its vote is discarded. -/
theorem catchUp_buffered {c : Nat} {im : Image} {a : ImageArrival} (h : (s.mgr l).phase = .agreeing c)
    (hbuf : (s.laneD l).buf = some (im, a)) (hc : im.cycle = c) :
    catchUp l s = (evaluate l im a s).setLane l { (evaluate l im a s).laneD l with buf := none, out := .none } := by
  unfold catchUp
  simp only [hbuf, h, hc, if_true]

/-- The end of the catch-up leaves the lane without buffered image and vote, the cycle evaluated, and touches no other lane. -/
theorem catchUp_ends {c : Nat} {im : Image} {a : ImageArrival} {img : SafetyImage} (h : (s.mgr l).phase = .agreeing c)
    (hbuf : (s.laneD l).buf = some (im, a)) (hc : im.cycle = c) (himg : (s.laneD l).image = some img) :
    ((catchUp l s).laneD l).buf = none ∧ ((catchUp l s).laneD l).out = .none ∧ ((catchUp l s).laneD l).evaluated = some c ∧
    (∀ k, k ≠ l → (catchUp l s).laneD k = s.laneD k) ∧ (catchUp l s).seat = s.seat ∧ (catchUp l s).fld = s.fld := by
  obtain ⟨d, so, cio, sig, hkeeps, -, hevaluated⟩ := evaluate_votes im a himg
  obtain ⟨hseat, hlane, hfld⟩ := seatsLanesField_eq hkeeps
  have hown : (evaluate l im a s).laneD l = d := (congrArg (triGet · l) hlane).trans (State.laneD_setLane_same ..)
  rw [catchUp_buffered h hbuf hc, State.laneD_setLane_same, hown]
  refine ⟨rfl, rfl, hevaluated.trans (congrArg some hc), fun k hk => ?_, hseat, hfld⟩
  rw [State.laneD_setLane_other _ _ _ _ hk]
  exact (congrArg (triGet · k) hlane).trans (State.laneD_setLane_other _ _ _ _ hk)

end Copy

/-! ## A slice that an abort ends (R335) -/

section Abort

variable {s : State} {l : Lane}

theorem abortSlice_running {u : Nat} (h : s.bist.running = some u) :
    abortSlice u s = { s with
      bist := { s.bist with
        units := put {} s.bist.units u { s.unit u with
          last := 3, done := false, aborts := (s.unit u).aborts + 1, count := appliedCount u (s.now - s.bist.started) },
        running := none },
      ump := { s.ump with
        reports := s.ump.reports ++ [{ line := 48, code := codeBistPartial, detail := u, time := s.timeNow }] } } := by
  unfold abortSlice
  rw [if_pos h]
  exact report_direct (by decide) ..

/-- The unit of a slice that an abort ends shows neither pass nor failure, and BIST_PARTIAL is on its way. -/
theorem abortSlice_ends {u : Nat} (h : s.bist.running = some u) :
    (abortSlice u s).bist.running = none ∧ ((abortSlice u s).unit u).last = 3 ∧ ((abortSlice u s).unit u).done = false ∧
    (abortSlice u s).ump.reports =
      s.ump.reports ++ [{ line := 48, code := codeBistPartial, detail := u, time := s.timeNow }] ∧
    abortSlice u s = { s with bist := (abortSlice u s).bist, ump := (abortSlice u s).ump } := by
  have hunit : (abortSlice u s).unit u = { s.unit u with
      last := 3, done := false, aborts := (s.unit u).aborts + 1, count := appliedCount u (s.now - s.bist.started) } := by
    rw [abortSlice_running h]
    exact look_put_ne _ _ _ _ (fun hdefault => three_ne_zero (congrArg BUnit.last hdefault))
  refine ⟨?_, by rw [hunit], by rw [hunit], ?_, ?_⟩ <;> rw [abortSlice_running h]

/-- What the seat manager keeps of a lane whose slice has been aborted (R62): a re-check is owed where memory was under test. -/
def abortedMgr (s : State) (l : Lane) : LaneMgr :=
  { s.mgr l with recheck := if inLbist s (laneNo l) then none else some false }

theorem abortCommand_running (hph : (s.mgr l).phase = .aborting) (h : s.bist.running = some (laneNo l)) :
    abortCommand l s = (abortSlice (laneNo l) s).setMgr l (abortedMgr s l) := by
  have hmgr : (abortSlice (laneNo l) s).mgr l = s.mgr l := by rw [abortSlice_running h]; rfl
  unfold abortCommand abortedMgr
  rw [if_pos ⟨hph, h⟩]
  dsimp only
  rw [hmgr]
  cases inLbist s (laneNo l) <;> rfl

theorem abortCommand_idle (h : s.bist.running ≠ some (laneNo l)) : abortCommand l s = s := by
  simp [abortCommand, h]

theorem abortComplete_aborting (hph : (s.mgr l).phase = .aborting) :
    abortComplete l s =
      (abortCommand l s).setMgr l { (abortCommand l s).mgr l with phase := .ready, sliceResult := none } := by
  simp [abortComplete, hph]

theorem abortCommand_ends (hph : (s.mgr l).phase = .aborting) (h : s.bist.running = some (laneNo l)) :
    (abortCommand l s).bist.running = none ∧ ((abortCommand l s).unit (laneNo l)).last = 3 ∧
    ((abortCommand l s).unit (laneNo l)).done = false ∧
    (abortCommand l s).ump.reports =
      s.ump.reports ++ [{ line := 48, code := codeBistPartial, detail := laneNo l, time := s.timeNow }] ∧
    (abortCommand l s).mgr l = abortedMgr s l ∧
    abortCommand l s = { s with
      bist := (abortCommand l s).bist, ump := (abortCommand l s).ump, seat := (abortCommand l s).seat } := by
  obtain ⟨hnone, hlast, hdone, hreports, hframe⟩ := abortSlice_ends h
  rw [abortCommand_running hph h]
  generalize abortSlice (laneNo l) s = u at *
  refine ⟨hnone, hlast, hdone, hreports, State.mgr_setMgr_same .., ?_⟩
  rw [hframe]
  rfl

/-- The end of the abort adds to what the command does that the lane is ready for its copy. -/
theorem abortComplete_ends (hph : (s.mgr l).phase = .aborting) (h : s.bist.running = some (laneNo l)) :
    (abortComplete l s).bist = (abortCommand l s).bist ∧
    (abortComplete l s).mgr l = { abortedMgr s l with phase := .ready, sliceResult := none } ∧
    abortComplete l s = { s with
      bist := (abortComplete l s).bist, ump := (abortComplete l s).ump, seat := (abortComplete l s).seat } := by
  obtain ⟨-, -, -, -, hmgr, hframe⟩ := abortCommand_ends hph h
  rw [abortComplete_aborting hph, hmgr]
  generalize abortCommand l s = u at *
  refine ⟨rfl, State.mgr_setMgr_same .., ?_⟩
  rw [hframe]
  rfl

end Abort

/-! ## The statement -/

/-- Settles O8: each command is one of the cases above; the catch-up's evaluation changes no lane but its own, and the slice
that an abort ends changes only the test units, the seat entries and the reports. -/
theorem spareCopyAndAbort : Obligations.SpareCopyAndAbort := by
  refine ⟨fun s l hup => ⟨fun hph => ?_, fun hre => ?_, fun c im a img hph hbuf hc himg hev => ?_⟩, fun s l hup hph => ?_⟩
  · exact ⟨run_gives hup (copyFrame_damaged _ hph), run_gives hup (copyFrame_damaged _ hph),
      fun src hsrc => run_gives hup (copyFrame_more hph hsrc),
      fun src bl hsrc hbl => run_gives hup (copyFrame_last hph hsrc hbl)⟩
  · exact ⟨run_gives hup (recheck_passed hre), fun hf => run_gives hup (recheck_failed hre hf)⟩
  · exact ⟨_, run_due (catchingUp · l) _ hup (catchingUp_behind hph hev), catchUp_ends hph hbuf hc himg⟩
  · refine ⟨fun hrun => ?_, fun hrun => ?_, fun hrun => ?_⟩
    · obtain ⟨hnone, hlast, hdone, hreports, hmgr, hframe⟩ := abortCommand_ends hph hrun
      exact ⟨_, run_up _ _ hup, hnone, hlast, hdone, hreports, congrArg LaneMgr.recheck hmgr, hframe⟩
    · obtain ⟨hnone, hlast, hdone, -⟩ := abortCommand_ends hph hrun
      obtain ⟨hbist, hmgr, hframe⟩ := abortComplete_ends hph hrun
      unfold State.unit at hlast hdone
      rw [← hbist] at hnone hlast hdone
      exact ⟨_, run_up _ _ hup, congrArg LaneMgr.phase hmgr, congrArg LaneMgr.sliceResult hmgr, hnone, hlast, hdone,
        congrArg LaneMgr.recheck hmgr, hframe⟩
    · exact run_gives hup ((abortComplete_aborting hph).trans (by rw [abortCommand_idle hrun]))

end Sys2Proof.Machine
end

section
/-!
SUPPORT. The event of a block that its lane evaluates: the faults that it reports (R84), and its next state where it enters no
fault and where it enters one.
-/
namespace Sys2Proof.Machine

open Sys2Proof

/-! ## The fault entered, among those held (R84) -/

theorem diff_append_singleton (old : List Held) (f : Held) : (old ++ [f]).diff old = [f] := by
  induction old with
  | nil => rfl
  | cons a old ih => simpa using ih

/-- A block that holds one fault more than before enters that fault alone, wherever it stands among those held. -/
theorem entered_perm_cons {f : Held} {old new : List Held} (h : new.Perm (f :: old)) : entered old new = [f.code] := by
  have hdiff : (new.diff old).Perm [f] := by
    rw [← diff_append_singleton old f]
    exact (h.trans (List.perm_append_singleton f old).symm).diff_right old
  rw [entered, ← List.diff_eq_foldl, List.perm_singleton.mp hdiff]
  rfl

/-- A fault entered in the later of two lists of held faults is entered in the whole. -/
theorem perm_cons_append_left {f : Held} {old new : List Held} (u : List Held) (h : new.Perm (f :: old)) :
    (u ++ new).Perm (f :: (u ++ old)) := (h.append_left u).trans List.perm_middle

/-! ## The next state -/

section Events

variable {s : State} {l : Lane} {blk : Nat} {b : Block} {st st' : BlockState} {g : List Val → List Val}
  {f : Ctx → Block → BlockState → Option (BlockState × (List Val → List Val))}

/-- An event that leaves the held faults as they are reports nothing. -/
theorem blockEvent_quiet (h : Evaluating s l blk b st) (hf : f (evCtx s l) b st = some (st', g))
    (hheld : blockHeld st' = blockHeld st) : run s (blockEvent l blk f) = .next (blockAfter l blk st' g s) := by
  rw [blockEvent_eval h hf, hheld, entered_self]
  rfl

/-- An event that enters one fault reports it, with the block as detail. -/
theorem blockEvent_enters {e : Held} (h : Evaluating s l blk b st) (hf : f (evCtx s l) b st = some (st', g))
    (hheld : (blockHeld st').Perm (e :: blockHeld st)) :
    run s (blockEvent l blk f) = .next (laneReport l e.code blk (blockAfter l blk st' g s)) := by
  rw [blockEvent_eval h hf, entered_perm_cons hheld]
  rfl

end Events

/-! ## Counts that have run out (R81, R82) -/

theorem reached_some {n cycle c0 : Nat} (h : n ≤ cycle - c0) : reached (some c0) n cycle = true := decide_eq_true h

theorem not_reached_some {n cycle c0 : Nat} (h : cycle - c0 < n) : reached (some c0) n cycle = false :=
  decide_eq_false (Nat.not_le.mpr h)

theorem tooLate_some {n cycle c0 : Nat} (h : n + 1 ≤ cycle - c0) : tooLate (some c0) n cycle = true := decide_eq_true h

end Sys2Proof.Machine
end

section
/-!
SUPPORT. The timeout of a channel pair (R88), and the statement about the blocks that have one.
-/
namespace Sys2Proof.Machine

open Sys2Proof

section Pair

variable {cycle nd : Nat} {p : PairSt}

theorem pairTimeout_late (h : PairLate cycle nd p) : pairTimeout cycle nd p = some (pairTimedOut cycle) := by
  obtain ⟨c0, first, hmeas, helapsed, hheld⟩ := h
  simp [pairTimeout, hmeas, hheld, tooLate_some helapsed, pairTimedOut]

theorem pairTimeout_inTime (h : ¬ PairLate cycle nd p) : pairTimeout cycle nd p = none := by
  refine if_neg fun hdue => h ?_
  obtain ⟨hlate, hheld⟩ := Bool.and_eq_true_iff.mp hdue
  cases hmeas : p.meas with
  | none => simp [hmeas, tooLate] at hlate
  | some m => exact ⟨m.1, m.2, hmeas, by simpa [hmeas, tooLate] using hlate, List.isEmpty_iff.mp hheld⟩

/-- A late pair holds nothing yet, so that it enters DISC_TIMEOUT (R88). -/
theorem pairLate_enters (h : PairLate cycle nd p) : (pairTimedOut cycle).held.Perm (⟨codeDiscTimeout, cycle⟩ :: p.held) := by
  obtain ⟨-, -, -, -, hheld⟩ := h
  rw [hheld]
  exact .refl _

/-! DISC_TIMEOUT in each block with a pair: the first pair that is late, in the order of the block's pairs. -/

variable {c : Ctx}

theorem evDisc_dual {cfg : PairCfg} {x : PairSt} (h : PairLate c.cycle cfg.nd x) :
    evDisc c (.dual cfg) (.pair x) = some (.pair (pairTimedOut c.cycle), zeroOuts) :=
  congrArg (Option.map _) (pairTimeout_late h)

theorem evDisc_estop {cfg : PairCfg} {x : PairSt} (h : PairLate c.cycle cfg.nd x) :
    evDisc c (.estop cfg false) (.pair x) = some (.pair (pairTimedOut c.cycle), zeroOuts) :=
  congrArg (Option.map _) (pairTimeout_late h)

theorem evDisc_lcurt {cfg : LcurtCfg} {x : LcurtSt} (h : PairLate c.cycle cfg.ossd.nd x.pair) :
    evDisc c (.lcurt cfg) (.lcurt x) =
      some (.lcurt { x with pair := pairTimedOut c.cycle, muting := none }, zeroOuts) :=
  congrArg (Option.map _) (pairTimeout_late h)

theorem evDisc_guardDoor {cfg : GuardCfg} {x : GuardSt} (h : PairLate c.cycle cfg.door.nd x.door) :
    evDisc c (.guard cfg) (.guard x) = some (.guard { x with door := pairTimedOut c.cycle }, zeroGuard) := by
  simp only [evDisc, pairTimeout_late h]

theorem evDisc_guardLock {cfg : GuardCfg} {x : GuardSt} (hdoor : ¬ PairLate c.cycle cfg.door.nd x.door)
    (h : PairLate c.cycle cfg.lockPair.nd x.lockPair) :
    evDisc c (.guard cfg) (.guard x) = some (.guard { x with lockPair := pairTimedOut c.cycle }, zeroGuard) := by
  simp only [evDisc, pairTimeout_inTime hdoor, pairTimeout_late h, Option.map_some]

theorem evDisc_thcFirst {b1 b2 : PairCfg} {x : ThcSt} (h : PairLate c.cycle b1.nd x.p1) :
    evDisc c (.thc b1 b2) (.thc x) = some (.thc { x with p1 := pairTimedOut c.cycle, q := false }, zeroOuts) := by
  simp only [evDisc, pairTimeout_late h]

theorem evDisc_thcSecond {b1 b2 : PairCfg} {x : ThcSt} (hfirst : ¬ PairLate c.cycle b1.nd x.p1)
    (h : PairLate c.cycle b2.nd x.p2) :
    evDisc c (.thc b1 b2) (.thc x) = some (.thc { x with p2 := pairTimedOut c.cycle, q := false }, zeroOuts) := by
  simp only [evDisc, pairTimeout_inTime hfirst, pairTimeout_late h, Option.map_some]

theorem evDisc_enable {cfg : PairCfg} {p3 : Src} {x : EnableSt} (h : PairLate c.cycle cfg.nd x.pair) :
    evDisc c (.enable cfg p3) (.enable x) = some (.enable { x with pair := pairTimedOut c.cycle }, zeroOuts) :=
  congrArg (Option.map _) (pairTimeout_late h)

end Pair

/-- Settles O2: in each block the event takes the first pair that is late, and this pair alone enters a fault. -/
theorem channelPairTimesOut : Obligations.ChannelPairTimesOut := by
  refine fun s l blk => ⟨fun p x h hl => ?dual, fun p x h hl => ?estop, fun c x h hl => ?lcurt, fun c x h hl => ?door,
    fun c x h hd hl => ?lock, fun b1 b2 x h hl => ?first, fun b1 b2 x h hd hl => ?second, fun p p3 x h hl => ?enable⟩
  case dual => exact blockEvent_enters h (evDisc_dual hl) (pairLate_enters hl)
  case estop => exact blockEvent_enters h (evDisc_estop hl) (pairLate_enters hl)
  case lcurt => exact blockEvent_enters h (evDisc_lcurt hl) ((pairLate_enters hl).append_right _)
  case door =>
    exact blockEvent_enters h (evDisc_guardDoor hl) (((pairLate_enters hl).append_right _).append_right _)
  case lock =>
    exact blockEvent_enters h (evDisc_guardLock hd hl)
      ((perm_cons_append_left _ (pairLate_enters hl)).append_right _)
  case first => exact blockEvent_enters h (evDisc_thcFirst hl) ((pairLate_enters hl).append_right _)
  case second => exact blockEvent_enters h (evDisc_thcSecond hd hl) (perm_cons_append_left _ (pairLate_enters hl))
  case enable => exact blockEvent_enters h (evDisc_enable hl) ((pairLate_enters hl).append_right _)

end Sys2Proof.Machine
end

section
/-!
SUPPORT. Muting, the muting lamp, the lock and the contactors run out of time (R91, R92, R95, R96), and the statement about them.
-/
namespace Sys2Proof.Machine

open Sys2Proof

section Held

variable {c : Ctx} {c0 : Nat}

/-- A fault that the block does not hold joins the faults of its last list. -/
theorem raise_enters {code : Nat} {u held : List Held} (hu : ∀ x ∈ u ++ held, x.code ≠ code) (cycle : Nat) :
    raise true code cycle held = held ++ [⟨code, cycle⟩] :=
  raise_unheld fun x hx => hu x (List.mem_append_right u hx)

theorem evMuteTimeout_reached {cfg : LcurtCfg} {x : LcurtSt} (hm : x.muting = some c0) (hn : cfg.nMute ≤ c.cycle - c0)
    (hu : Unheld codeMuteTimeout (.lcurt x)) :
    evMuteTimeout c (.lcurt cfg) (.lcurt x) =
      some (.lcurt { x with muting := none, held := x.held ++ [⟨codeMuteTimeout, c.cycle⟩] },
        fun vs => setPort 1 false (setPort 0 (x.pair.agreed && x.pair.meas.isNone && x.pair.held.isEmpty) vs)) := by
  simp only [evMuteTimeout, hm, reached_some hn, raise_enters hu, if_true]

/-- R92: no current by N_lamp + 1, or after current a second dark cycle. -/
theorem lampFails_dark {cfg : LcurtCfg} {cycle : Nat} {lrb : Bool} {x : LcurtSt}
    (h : x.lampSeen = false ∧ cfg.nLamp + 1 ≤ cycle - c0 ∨ x.lampSeen = true ∧ lrb = false ∧ 1 ≤ x.lampDark) :
    lampFails cfg cycle c0 lrb x = true := by
  rcases h with ⟨hseen, hn⟩ | ⟨hseen, hlrb, hdark⟩
  · simp [lampFails, hseen, hn]
  · simp [lampFails, hseen, hlrb, hdark]

theorem evMuteLamp_dark {cfg : LcurtCfg} {x : LcurtSt} (hm : x.muting = some c0)
    (hdark : x.lampSeen = false ∧ cfg.nLamp + 1 ≤ c.cycle - c0 ∨
      x.lampSeen = true ∧ rb c cfg.lrb = false ∧ 1 ≤ x.lampDark)
    (hu : Unheld codeMuteLamp (.lcurt x)) :
    evMuteLamp c (.lcurt cfg) (.lcurt x) =
      some (.lcurt { x with muting := none, held := x.held ++ [⟨codeMuteLamp, c.cycle⟩] },
        fun vs => setPort 1 false (setPort 0 (x.pair.agreed && x.pair.meas.isNone && x.pair.held.isEmpty) vs)) := by
  simp only [evMuteLamp, hm, Option.any_some, lampFails_dark hdark, raise_enters hu, if_true]

theorem evLockFb_late {cfg : GuardCfg} {x : GuardSt} (hlock : cfg.lock ≠ .none) (hs : x.cmdSince = some c0)
    (hn : cfg.nLock + 1 ≤ c.cycle - c0) (hu : Unheld codeLockFb (.guard x)) :
    evLockFb c (.guard cfg) (.guard x) =
      some (.guard { x with cmdSince := none, held := x.held ++ [⟨codeLockFb, c.cycle⟩] }, zeroGuard) := by
  simp only [evLockFb, hs, tooLate_some hn, hlock, raise_enters hu, ne_eq, not_false_eq_true, and_self, if_true]

theorem evEdm_late {cfg : EdmCfg} {x : EdmSt} (hw : x.window = some c0)
    (hn : (if x.prev then cfg.nOn else cfg.nOff) + 1 ≤ c.cycle - c0) (hu : Unheld codeEdmFail (.edm x)) :
    evEdm c (.edm cfg) (.edm x) =
      some (.edm { x with window := none, held := x.held ++ [⟨codeEdmFail, c.cycle⟩] }, zeroOuts) := by
  simp only [evEdm, hw, tooLate_some hn, raise_unheld (h := x.held) hu, if_true]

end Held

/-- Settles O3: each event is due, and the fault it enters joins those of the block. -/
theorem monitoredTimesRunOut : Obligations.MonitoredTimesRunOut := by
  refine fun s l blk => ⟨fun c x c0 h hm hn hu => ?muteTimeout, fun c x c0 h hm hdark hu => ?muteLamp,
    fun c x c0 h hlock hs hn hu => ?lockFb, fun c x c0 h hw hn hu => ?edmTimeout⟩
  case muteTimeout =>
    exact blockEvent_enters h (evMuteTimeout_reached hm hn hu)
      (perm_cons_append_left _ (List.perm_append_singleton _ _))
  case muteLamp =>
    exact blockEvent_enters h (evMuteLamp_dark hm hdark hu) (perm_cons_append_left _ (List.perm_append_singleton _ _))
  case lockFb =>
    exact blockEvent_enters h (evLockFb_late hlock hs hn hu)
      (perm_cons_append_left _ (List.perm_append_singleton _ _))
  case edmTimeout => exact blockEvent_enters h (evEdm_late hw hn hu) (List.perm_append_singleton _ _)

end Sys2Proof.Machine
end

section
/-!
SUPPORT. Standstill, missing capture frames and the cross-check of a speed block (R96), and the statement about them.
-/
namespace Sys2Proof.Machine

open Sys2Proof

section Speed

variable {c : Ctx} {cfg : SpeedCfg} {x : SpeedSt} {c0 : Nat}

theorem evStandstill_slow (hs : x.ssSince = some c0) (hn : cfg.nSS ≤ c.cycle - c0) (hheld : x.held = [])
    (hslow : bothSlow c cfg = true) :
    evStandstill c (.speed cfg) (.speed x) = some (.speed x, setPort 1 true) := by
  simp [evStandstill, hs, reached_some hn, hheld, hslow]

theorem evTachMissing_eighth
    (hmiss : 7 ≤ x.missA ∧ speedIn c cfg.tachA cfg.pprA = none ∨ 7 ≤ x.missB ∧ speedIn c cfg.tachB cfg.pprB = none)
    (hu : Unheld codeTachMissing (.speed x)) :
    evTachMissing c (.speed cfg) (.speed x) =
      some (.speed { x with held := x.held ++ [⟨codeTachMissing, c.cycle⟩], fallen := true }, zeroOuts) := by
  simp only [evTachMissing, raise_unheld (h := x.held) hu]
  exact if_pos (by simpa using hmiss)

theorem evSpeedDisc_late (hs : x.xSince = some c0) (hn : cfg.nx + 1 ≤ c.cycle - c0)
    (hu : Unheld codeSpeedDisc (.speed x)) :
    evSpeedDisc c (.speed cfg) (.speed x) =
      some (.speed { x with held := x.held ++ [⟨codeSpeedDisc, c.cycle⟩], xSince := none, fallen := true }, zeroOuts) := by
  simp only [evSpeedDisc, hs, tooLate_some hn, raise_unheld (h := x.held) hu, if_true]

end Speed

/-- Settles O4: standstill enters no fault; each of the others enters the one of its name. -/
theorem speedBlockEvents : Obligations.SpeedBlockEvents := by
  refine fun s l blk c x h => ⟨fun c0 hs hn hheld hslow => ?standstill, fun hmiss hu => ?tachMissing,
    fun c0 hs hn hu => ?speedDisc⟩
  case standstill => exact blockEvent_quiet h (evStandstill_slow hs hn hheld hslow) rfl
  case tachMissing => exact blockEvent_enters h (evTachMissing_eighth hmiss hu) (List.perm_append_singleton _ _)
  case speedDisc => exact blockEvent_enters h (evSpeedDisc_late hs hn hu) (List.perm_append_singleton _ _)

end Sys2Proof.Machine
end

section
/-!
SUPPORT. The timers at N and before it (R81, R85), open history and stuck reset (R129, R133), and the statement about them.
-/
namespace Sys2Proof.Machine

open Sys2Proof

section Timer

variable {c : Ctx} {i : Src} {n c0 : Nat} {prev : Option Bool}

theorem evTon_reached (h : n ≤ c.cycle - c0) :
    evTon c (.ton i n) (.ton (some c0)) = some (.ton (some c0), setPort 0 true) := if_pos (reached_some h)

theorem evTof_reached (h : n ≤ c.cycle - c0) :
    evTof c (.tof i n) (.tof true (some c0)) = some (.tof false none, setPort 0 false) := if_pos (reached_some h)

theorem evTp_reached (h : n ≤ c.cycle - c0) :
    evTp c (.tp i n) (.tp (some c0) prev) = some (.tp none prev, setPort 0 false) := if_pos (reached_some h)

theorem evTon_before (h : c.cycle - c0 < n) : evTon c (.ton i n) (.ton (some c0)) = none :=
  if_neg (Bool.eq_false_iff.mp (not_reached_some h))

theorem evTof_before (h : c.cycle - c0 < n) : evTof c (.tof i n) (.tof true (some c0)) = none :=
  if_neg (Bool.eq_false_iff.mp (not_reached_some h))

theorem evTp_before (h : c.cycle - c0 < n) : evTp c (.tp i n) (.tp (some c0) prev) = none :=
  if_neg (Bool.eq_false_iff.mp (not_reached_some h))

end Timer

section Reset

variable {c : Ctx} {cfg : ResetCfg} {x : ResetSt}

theorem evHist_open {c0 : Nat} (hstuck : x.stuck = none) (ho : x.openSince = some c0) (hn : 400 ≤ c.cycle - c0)
    (hopen : rinOpen c cfg = true) :
    evHist c (.reset cfg) (.reset x) = some (.reset { x with hist := true }, id) := by
  simp [evHist, ho, reached_some hn, hstuck, hopen]

theorem evStuck_late {p : Nat} {v : Bool} (hstuck : x.stuck = none) (hp : x.press = some (p, v))
    (hn : 80001 ≤ c.cycle - p) :
    evStuck c (.reset cfg) (.reset x) =
      some (.reset { x with stuck := some c.cycle, hist := false }, setPort 2 false) := by
  have hlate : pressLate c.cycle x = true := by simp [pressLate, hp, hn]
  simp [evStuck, hstuck, hlate]

/-- A reset block that was not stuck enters RESET_STUCK beside the lamp fault it may hold (R133). -/
theorem stuck_enters (hstuck : x.stuck = none) (cycle : Nat) :
    (blockHeld (.reset { x with stuck := some cycle, hist := false })).Perm
      (⟨codeResetStuck, cycle⟩ :: blockHeld (.reset x)) := by
  simp [blockHeld, hstuck]

end Reset

/-- Settles O1: at N a timer's event is due and enters no fault, below N it is not due; of the events of a reset block only
RESET_STUCK enters one. -/
theorem timerAndResetBlocks : Obligations.TimerAndResetBlocks := by
  refine ⟨fun s l blk i n c0 prev => ⟨fun hn => ⟨fun h => ?_, fun h => ?_, fun h => ?_⟩,
    fun hn => ⟨fun h => ?_, fun h => ?_, fun h => ?_⟩⟩,
    fun s l blk c x h hstuck => ⟨fun c0 ho hn hopen => ?hist, fun p v hp hn _ => ?stuck⟩⟩
  · exact blockEvent_quiet h (evTon_reached hn) rfl
  · exact blockEvent_quiet h (evTof_reached hn) rfl
  · exact blockEvent_quiet h (evTp_reached hn) rfl
  · exact blockEvent_none h (evTon_before hn)
  · exact blockEvent_none h (evTof_before hn)
  · exact blockEvent_none h (evTp_before hn)
  case hist => exact blockEvent_quiet h (evHist_open hstuck ho hn hopen) rfl
  case stuck => exact blockEvent_enters h (evStuck_late hstuck hp hn) (stuck_enters hstuck _)

end Sys2Proof.Machine
end

section
/-!
SUPPORT. The filter of a safety input (R102) and the open history of the release qualifier (R142), and the statement about them.
-/
namespace Sys2Proof.Machine

open Sys2Proof

section

variable {s : State}

/-! ## The filter (R102) -/

theorem inputFilterChange_acts {n : Nat} (hup : s.sys.up = true) (hrun : (siCfg s.img n).filter ≤ (s.si n).run)
    (hlevel : (s.si n).runLevel ≠ (s.si n).level) :
    exec (.inputFilterChange n) s = .next (s.setSi n { s.si n with level := (s.si n).runLevel }) :=
  run_due (filterDue · n) _ hup (by simp [filterDue, hrun, hlevel])

theorem inputFilterChange_early {n : Nat} (hup : s.sys.up = true) (hrun : (s.si n).run < (siCfg s.img n).filter) :
    exec (.inputFilterChange n) s = .next s := by
  have hdue : filterDue s n = false := by simp [filterDue, hrun]
  exact (run_up _ _ hup).trans (by rw [hdue, whenever_false])

/-! ## The open history (R142) -/

theorem lorOpenHistory_acts {c0 : Nat} (hup : s.sys.up = true) (harmed : s.fld.lor.armed = true)
    (hhist : s.fld.lor.st.hist = false) (hstuck : s.fld.lor.st.stuck = none) (hopen : s.fld.lor.st.openSince = some c0)
    (hlong : 400 ≤ s.fld.image.cycle - c0) : exec .lorOpenHistory s = .next (lorHist s) :=
  run_due lorHistDue _ hup (by simp [lorHistDue, harmed, hhist, hstuck, hopen, reached_some hlong])

theorem lorOpenHistory_unarmed (hup : s.sys.up = true) (harmed : s.fld.lor.armed = false) :
    exec .lorOpenHistory s = .next s := by
  have hdue : lorHistDue s = false := by simp [lorHistDue, harmed]
  exact (run_up _ _ hup).trans (by rw [hdue, whenever_false])

end

/-- Settles O11: each of the two events is due, or it is not and nothing changes. -/
theorem inputFilterAndReleaseHistory : Obligations.InputFilterAndReleaseHistory :=
  fun _ hup => ⟨fun _ => inputFilterChange_acts hup, fun _ => inputFilterChange_early hup,
    fun _ => lorOpenHistory_acts hup, lorOpenHistory_unarmed hup⟩

end Sys2Proof.Machine
end

section
/-!
SUPPORT. The three field supplies (R121, R162 to R164): what a cause of shut-down and a request met do to a group, what either
does over all groups of a supply, and the statement about the supplies' monitors.
-/
namespace Sys2Proof.Machine

open Sys2Proof

/-! ## Folds that reach a fact -/

/-- What one step of a fold brings about and every step keeps, while an invariant holds, is so at the end of the fold. -/
theorem foldl_reaches {α : Type} {f : State → α → State} {I P : State → Prop} {a : α} (hinv : ∀ t b, I t → I (f t b))
    (hat : ∀ t, I t → P (f t a)) (hkeep : ∀ t b, I t → P t → P (f t b)) {l : List α} (ha : a ∈ l) {s : State} (hs : I s) :
    P (l.foldl f s) := by
  induction l generalizing s with
  | nil => cases ha
  | cons b l ih =>
    rcases List.mem_cons.mp ha with rfl | hl
    · exact (List.foldlRecOn (motive := fun t => I t ∧ P t) l f ⟨hinv s a hs, hat s hs⟩
        fun t ⟨hi, hp⟩ b _ => ⟨hinv t b hi, hkeep t b hi hp⟩).2
    · exact ih hl (hinv s b hs)

/-! ## Groups and supplies around the setters -/

theorem setGroup_group (s : State) (g : Group) : s.setGroup g (s.group g) = s := by cases g <;> rfl

theorem setGroup_setGroup (s : State) (g : Group) (v w : GroupSt) : (s.setGroup g v).setGroup g w = s.setGroup g w := by
  cases g <;> rfl

theorem report_group (line code detail : Nat) (s : State) (g : Group) : (report line code detail s).group g = s.group g := by
  rw [report_only]; rfl

theorem report_supply (line code detail : Nat) (s : State) (v : Supply) : (report line code detail s).supply v = s.supply v := by
  rw [report_only]; rfl

theorem fieldReport_of {s t : State} (h : t = { s with fld := t.fld }) (line code detail : Nat) :
    FieldReport line code s (report line code detail t) := ⟨_, detail, congrArg _ h⟩

/-! ## Outputs and pins written -/

/-- Between `s` and `t` no more than the outputs and pins has changed. -/
def OutputsOnly (s t : State) : Prop := ∃ so cio, t = { s with fld := { s.fld with so := so, cio := cio } }

theorem OutputsOnly.refl (s : State) : OutputsOnly s s := ⟨_, _, rfl⟩

theorem OutputsOnly.trans {s t u : State} : OutputsOnly s t → OutputsOnly t u → OutputsOnly s u := by
  rintro ⟨_, _, rfl⟩ ⟨_, _, rfl⟩
  exact ⟨_, _, rfl⟩

theorem OutputsOnly.foldl {α : Type} {f : State → α → State} (h : ∀ t a, OutputsOnly t (f t a)) (l : List α) (s : State) :
    OutputsOnly s (l.foldl f s) :=
  List.foldlRecOn (motive := OutputsOnly s) l f (.refl s) fun t ht a _ => ht.trans (h t a)

theorem OutputsOnly.group {s t : State} (h : OutputsOnly s t) (g : Group) : t.group g = s.group g := by
  obtain ⟨_, _, rfl⟩ := h; rfl

theorem OutputsOnly.supply {s t : State} (h : OutputsOnly s t) (v : Supply) : t.supply v = s.supply v := by
  obtain ⟨_, _, rfl⟩ := h; rfl

theorem refreshSo_outputsOnly (s : State) (k : Nat) : OutputsOnly s (refreshSo s k) := by
  unfold refreshSo
  dsimp only
  split
  · exact .refl s
  · exact ⟨_, _, rfl⟩

theorem refreshCio_outputsOnly (s : State) (n : Nat) : OutputsOnly s (refreshCio s n) := by
  unfold refreshCio
  dsimp only
  split
  · exact .refl s
  · exact ⟨_, _, rfl⟩

theorem refreshAll_outputsOnly (s : State) : OutputsOnly s (refreshAll s) :=
  (OutputsOnly.foldl refreshSo_outputsOnly _ _).trans (.foldl refreshCio_outputsOnly _ _)

/-! ## A cause of shut-down (R164) -/

/-- A group whose shut-down a cause, entered by `f`, has begun or found in progress. -/
def shutDown (now : Nat) (f : GroupSt → GroupSt) (x : GroupSt) : GroupSt :=
  { f x with good := false, enabling := false, pending := false, shutdown := some (x.shutdown.getD now) }

theorem groupCause_outputsOnly (g : Group) (f : GroupSt → GroupSt) (s : State) :
    OutputsOnly (s.setGroup g (shutDown s.now f (s.group g))) (groupCause g f s) := by
  unfold groupCause
  dsimp only
  refine .trans ?_ (refreshAll_outputsOnly _)
  split
  · exact .foldl (fun _ _ => ⟨_, _, rfl⟩) _ _
  · exact .refl _

theorem groupCause_group_same (g : Group) (f : GroupSt → GroupSt) (s : State) :
    (groupCause g f s).group g = shutDown s.now f (s.group g) := by
  rw [(groupCause_outputsOnly g f s).group, State.group_setGroup_same]

theorem groupCause_group_other {g k : Group} (f : GroupSt → GroupSt) (s : State) (h : k ≠ g) :
    (groupCause g f s).group k = s.group k := by
  rw [(groupCause_outputsOnly g f s).group, State.group_setGroup_other _ _ _ _ h]

theorem groupCause_supply (g : Group) (f : GroupSt → GroupSt) (s : State) (v : Supply) :
    (groupCause g f s).supply v = s.supply v := by
  rw [(groupCause_outputsOnly g f s).supply, supply_setGroup]

/-- What drives an output or an output pin needs its group good (R148, R151, R167, R171). -/
theorem groupOff_of_not_good {t : State} {g : Group} (h : (t.group g).good = false) : GroupOff t g := by
  refine ⟨h, fun k hk => ?_, fun n hn => ?_⟩
  · simp [energised, hk, h]
  · unfold pinDriven
    dsimp only
    rw [hn, h]
    split <;> simp

/-! ## A request met (R164, R165) -/

theorem groupTry_setGroup (g : Group) (s : State) :
    ∃ e p, groupTry g s = s.setGroup g { s.group g with enabling := e, pending := p } := by
  unfold groupTry groupEnable
  dsimp only
  split
  · split
    · exact ⟨_, _, rfl⟩
    · exact ⟨_, _, rfl⟩
  · exact ⟨_, _, (setGroup_group s g).symm⟩

theorem groupMet_setGroup (g : Group) (f : GroupSt → GroupSt) (s : State) :
    ∃ e p, groupMet g f s = s.setGroup g { f (s.group g) with enabling := e, pending := p } := by
  obtain ⟨e, p, h⟩ := groupTry_setGroup g (s.setGroup g (f (s.group g)))
  refine ⟨e, p, h.trans ?_⟩
  rw [setGroup_setGroup, State.group_setGroup_same]

theorem groupMet_group_same (g : Group) (f : GroupSt → GroupSt) (s : State) :
    ∃ e p, (groupMet g f s).group g = { f (s.group g) with enabling := e, pending := p } := by
  obtain ⟨e, p, h⟩ := groupMet_setGroup g f s
  exact ⟨e, p, by rw [h, State.group_setGroup_same]⟩

theorem groupMet_group_other {g k : Group} (f : GroupSt → GroupSt) (s : State) (h : k ≠ g) :
    (groupMet g f s).group k = s.group k := by
  obtain ⟨e, p, hs⟩ := groupMet_setGroup g f s
  rw [hs, State.group_setGroup_other _ _ _ _ h]

theorem groupMet_supply (g : Group) (f : GroupSt → GroupSt) (s : State) (v : Supply) :
    (groupMet g f s).supply v = s.supply v := by
  obtain ⟨e, p, h⟩ := groupMet_setGroup g f s
  rw [h, supply_setGroup]

/-! ## All groups of a supply -/

/-- What a step at a group gives that group, a fold gives every group it visits, where a step leaves the other groups alone. -/
theorem foldl_group {f : State → Group → State} {P : GroupSt → Prop} (hsame : ∀ t g, P ((f t g).group g))
    (hother : ∀ t g k, k ≠ g → (f t g).group k = t.group k) {l : List Group} {g : Group} (hg : g ∈ l) (s : State) :
    P ((l.foldl f s).group g) := by
  refine foldl_reaches (I := fun _ => True) (P := fun t => P (t.group g)) (fun _ _ _ => trivial) (fun t _ => hsame t g)
    (fun t a _ ht => ?_) hg trivial
  rcases eq_or_ne g a with rfl | hne
  · exact hsame t g
  · rwa [hother t a g hne]

theorem causes_group {l : List Group} {g : Group} (hg : g ∈ l) (f : GroupSt → GroupSt) (s : State) :
    ∃ now x, (l.foldl (fun t g => groupCause g f t) s).group g = shutDown now f x :=
  foldl_group (P := fun y => ∃ now x, y = shutDown now f x) (fun t g => ⟨_, _, groupCause_group_same g f t⟩)
    (fun t _ _ h => groupCause_group_other f t h) hg s

theorem met_group {l : List Group} {g : Group} (hg : g ∈ l) (f : GroupSt → GroupSt) (s : State) :
    ∃ e p x, (l.foldl (fun t g => groupMet g f t) s).group g = { f x with enabling := e, pending := p } :=
  foldl_group (P := fun y => ∃ e p x, y = { f x with enabling := e, pending := p })
    (fun t g => (groupMet_group_same g f t).imp fun _ h => h.imp fun _ h => ⟨_, h⟩)
    (fun t _ _ h => groupMet_group_other f t h) hg s

/-! ## Sag, loss and recovery (R163) -/

theorem supplyLine_eq (v : Supply) : supplyLine v = if v = .vin then 37 else 38 := by cases v <;> rfl

/-- A supply's monitor written, a cause entered at the supply's groups, and a report. -/
def supplyFault (v : Supply) (x : SupplySt) (f : GroupSt → GroupSt) (code : Nat) (s : State) : State :=
  report (supplyLine v) code 0 ((supplyGroups v).foldl (fun t g => groupCause g f t) (s.setSupply v x))

section Fault

variable (v : Supply) (x : SupplySt) (f : GroupSt → GroupSt) (code : Nat) (s : State)

theorem supplyFault_supply : (supplyFault v x f code s).supply v = x := by
  rw [supplyFault, report_supply, foldl_keeps (part := fun t => t.supply v) (fun t g => groupCause_supply g f t v),
    State.supply_setSupply_same]

theorem supplyFault_fieldReport : FieldReport (if v = .vin then 37 else 38) code s (supplyFault v x f code s) := by
  rw [← supplyLine_eq]
  refine fieldReport_of ?_ _ _ _
  rw [foldl_fld fun _ _ => groupCause_only _ _ _, setSupply_only]

theorem supplyFault_group {g : Group} (hg : g ∈ supplyGroups v) :
    ∃ now y, (supplyFault v x f code s).group g = shutDown now f y := by
  rw [supplyFault, report_group]
  exact causes_group hg f _

theorem supplyFault_groupOff {g : Group} (hg : g ∈ supplyGroups v) :
    ((supplyFault v x f code s).group g).shutdown.isSome = true ∧ GroupOff (supplyFault v x f code s) g := by
  obtain ⟨now, y, h⟩ := supplyFault_group v x f code s hg
  exact ⟨by rw [h]; rfl, groupOff_of_not_good (by rw [h]; rfl)⟩

end Fault

theorem supplySag_eq (v : Supply) (s : State) : supplySag v s =
    supplyFault v { s.supply v with low := true } (fun y => { y with sag := true }) codeVfldLow s := rfl

theorem supplyMissing_eq (v : Supply) (s : State) : supplyMissing v s =
    supplyFault v { s.supply v with missing := true } (fun y => { y with missing := true }) codeVfldMissing s := rfl

theorem supplySag_group (s : State) {v : Supply} {g : Group} (hg : g ∈ supplyGroups v) :
    ((supplySag v s).group g).sag = true := by
  obtain ⟨now, y, h⟩ := supplyFault_group v _ _ _ s hg
  rw [supplySag_eq, h]; rfl

theorem supplyMissing_group (s : State) {v : Supply} {g : Group} (hg : g ∈ supplyGroups v) :
    ((supplyMissing v s).group g).missing = true := by
  obtain ⟨now, y, h⟩ := supplyFault_group v _ _ _ s hg
  rw [supplyMissing_eq, h]; rfl

/-- The monitor of a supply that has come up (R163). -/
theorem supplyRecovery_supply (v : Supply) (s : State) : (supplyRecovery v s).supply v =
    { s.supply v with low := false, missing := false, recov := false, once := true } := by
  unfold supplyRecovery
  dsimp only
  split
  · rfl
  · rw [foldl_keeps (part := fun t => t.supply v) (fun t g => groupMet_supply g _ t v), State.supply_setSupply_same]

theorem supplyRecovery_judgeFrom (s : State) : (supplyRecovery .vin s).fld.judgeFrom = s.slot := rfl

theorem supplyRecovery_group (s : State) {v : Supply} {g : Group} (hg : g ∈ supplyGroups v) :
    ((supplyRecovery v s).group g).sag = false ∧ ((supplyRecovery v s).group g).missing = false := by
  unfold supplyRecovery
  dsimp only
  split
  · cases hg
  · obtain ⟨e, p, x, h⟩ := met_group hg (fun y => { y with sag := false, missing := false })
      (s.setSupply v { s.supply v with low := false, missing := false, recov := false, once := true })
    rw [h]
    exact ⟨rfl, rfl⟩

theorem supplyRecovery_only (v : Supply) (s : State) : supplyRecovery v s = { s with fld := (supplyRecovery v s).fld } := by
  unfold supplyRecovery
  dsimp only
  split
  · rfl
  · rw [foldl_fld fun _ _ => groupMet_only _ _ _, setSupply_only]

/-! ## The statement -/

section Due

variable {s : State} {v : Supply}

theorem vfldLowWarning_acts (hup : s.sys.up = true) (hlow : 1 ≤ (s.supply v).n192) (hwarn : (s.supply v).warn = false) :
    exec (.vfldLowWarning v) s = .next (supplyWarn v s) := run_due (warnDue · v) _ hup (by simp [warnDue, hlow, hwarn])

theorem vfldSag_acts (hup : s.sys.up = true) (hrun : 66 ≤ (s.supply v).n160) (hlow : (s.supply v).low = false) :
    exec (.vfldSag v) s = .next (supplySag v s) := run_due (sagDue · v) _ hup (by simp [sagDue, hrun, hlow])

theorem vfldMissing_acts (hup : s.sys.up = true) (hrun : 66 ≤ (s.supply v).n100) (hmissing : (s.supply v).missing = false) :
    exec (.vfldMissing v) s = .next (supplyMissing v s) := run_due (missingDue · v) _ hup (by simp [missingDue, hrun, hmissing])

theorem vfldRecovery_acts (hup : s.sys.up = true) (hrun : 3201 ≤ (s.supply v).up)
    (hopen : (s.supply v).low = true ∨ (s.supply v).missing = true ∨ (s.supply v).once = false) :
    exec (.vfldRecovery v) s = .next (supplyRecovery v s) :=
  run_due (recoveryDue · v) _ hup (by simp [recoveryDue, hrun, hopen, or_assoc])

end Due

/-- Settles O13: sag and loss are each a fault of the supply that shuts its groups down; a recovery meets the groups' requests
one by one. -/
theorem fieldSupplies : Obligations.FieldSupplies := by
  intro s v hup
  refine ⟨fun hlow hwarn => ⟨_, vfldLowWarning_acts hup hlow hwarn, ?warned, ?warning⟩,
    fun hrun hlow => ⟨_, vfldSag_acts hup hrun hlow, ?sagging, ?sag, fun g hg => ⟨supplySag_group s hg, ?sagOff⟩⟩,
    fun hrun hm => ⟨_, vfldMissing_acts hup hrun hm, ?lost, ?loss, fun g hg => ⟨supplyMissing_group s hg, ?lossOff⟩⟩,
    fun hrun hopen => ⟨_, vfldRecovery_acts hup hrun hopen, ?low, ?missing, ?once, ?judged,
      fun g hg => supplyRecovery_group s hg, supplyRecovery_only v s⟩⟩
  case warned => rw [supplyWarn, report_supply, State.supply_setSupply_same]
  case warning => rw [← supplyLine_eq]; exact fieldReport_of (setSupply_only _ _ _) _ _ _
  case sagging => rw [supplySag_eq, supplyFault_supply]
  case sag => exact supplyFault_fieldReport _ _ _ _ s
  case sagOff => exact supplyFault_groupOff _ _ _ _ s hg
  case lost => rw [supplyMissing_eq, supplyFault_supply]
  case loss => exact supplyFault_fieldReport _ _ _ _ s
  case lossOff => exact supplyFault_groupOff _ _ _ _ s hg
  case low => rw [supplyRecovery_supply]
  case missing => rw [supplyRecovery_supply]
  case once => rw [supplyRecovery_supply]
  case judged => rintro rfl; exact supplyRecovery_judgeFrom s

end Sys2Proof.Machine
end

section
/-!
SUPPORT. TP_OVERLOAD at the inputs of the generator that declares it (R111, R113), and the refutation of the statement about test
pulses, which leaves these inputs as they were.
-/
namespace Sys2Proof.Machine

open Sys2Proof

theorem report_si (line code detail : Nat) (s : State) (n : Nat) : (report line code detail s).si n = s.si n := by
  rw [report_only]; rfl

theorem tpOverload_acts {s : State} {k : Nat} (hup : s.sys.up = true) (h : overloadDue s k = true) :
    exec (.tpOverload k) s = .next (overload k s) := run_due (overloadDue · k) _ hup h

/-- Input `n` where a diagnosis of generator `k` is declared. -/
def inputCarries (k : Nat) (s : State) (n : Nat) : State :=
  if siGen s n = some k then s.setSi n { s.si n with okWins := 0, crossOk := 0, failedAt := none } else s

theorem inputsCarry_eq (k : Nat) (s : State) : inputsCarry k s = (List.range 64).foldl (inputCarries k) s := rfl

theorem inputCarries_siGen (k : Nat) (s : State) (m n : Nat) : siGen (inputCarries k s m) n = siGen s n := by
  unfold inputCarries; split <;> rfl

theorem inputCarries_wf (k : Nat) {s : State} (m : Nat) (h : wf {} s.fld.si = true) :
    wf {} (inputCarries k s m).fld.si = true := by
  unfold inputCarries
  split
  · exact wf_put _ _ _ _ h
  · exact h

theorem inputCarries_okWins {k n : Nat} {s : State} (hg : siGen s n = some k) (hw : wf {} s.fld.si = true) :
    ((inputCarries k s n).si n).okWins = 0 := by
  rw [inputCarries, if_pos hg, State.si_setSi_same _ _ _ hw]

theorem inputCarries_other {k m n : Nat} {s : State} (h : n ≠ m) : (inputCarries k s m).si n = s.si n := by
  unfold inputCarries
  split
  · exact State.si_setSi_other _ _ _ _ h
  · rfl

/-- The windows of an input that the generator pulses count anew, for a diagnosis has been declared between them (R113). -/
theorem inputsCarry_okWins {k n : Nat} {s : State} (hn : n < 64) (hg : siGen s n = some k) (hw : wf {} s.fld.si = true) :
    ((inputsCarry k s).si n).okWins = 0 := by
  rw [inputsCarry_eq]
  refine foldl_reaches (I := fun t => siGen t n = some k ∧ wf {} t.fld.si = true) (P := fun t => (t.si n).okWins = 0)
    (fun t m ⟨hg, hw⟩ => ⟨(inputCarries_siGen k t m n).trans hg, inputCarries_wf k m hw⟩)
    (fun t ⟨hg, hw⟩ => inputCarries_okWins hg hw) (fun t m ⟨hg, hw⟩ h => ?_) (List.mem_range.mpr hn) ⟨hg, hw⟩
  rcases eq_or_ne n m with rfl | hne
  · exact inputCarries_okWins hg hw
  · rwa [inputCarries_other hne]

theorem overload_okWins {k n : Nat} {s : State} (hn : n < 64) (hg : siGen s n = some k) (hw : wf {} s.fld.si = true) :
    ((overload k s).si n).okWins = 0 := by
  rw [overload, report_si]
  exact inputsCarry_okWins hn hg hw

/-- Generator 0 pulses input 4, whose IN_SHORT_VFLD has seen one of the two passing windows that clear it; the last two samples
of the generator's readback were 0. -/
def shortThenOverload : State :=
  { State.reset with
    sys := { up := true }
    fld := { State.reset.fld with
      safety := some { si := [(4, { gen := some 0 })], tp := [(0, { mode := .pulse })] }
      si := [(4, { short := true, okWins := 1 })], tp := [(0, { zeroRun := 2 })] } }

theorem shortThenOverload_due : overloadDue shortThenOverload 0 = true := by decide

/-- Refutes O12: a declared TP_OVERLOAD does more than write the generator and report. An input that the generator pulses
carries the diagnosis (R111), so a passing window that the input had counted towards the clearing of its own diagnosis counts
no more (R113). The statement keeps every input as it was: input 4 of `shortThenOverload` would still count 1. -/
theorem not_testPulses : ¬ Obligations.TestPulses := by
  intro h
  obtain ⟨-, -, hoverload⟩ := h shortThenOverload 0 rfl
  have hclaim := hoverload (by decide) (by decide) (by decide) (.inl (by decide))
  rw [tpOverload_acts rfl shortThenOverload_due] at hclaim
  have hkept : ((overload 0 shortThenOverload).si 4).okWins = 1 := by
    rw [Host.Outcome.next.inj hclaim, report_si]; decide
  rw [overload_okWins (by decide) (by decide) (by decide)] at hkept
  exact absurd hkept (by decide)

end Sys2Proof.Machine
end

section
/-!
SUPPORT. Groups that a fault of their own shuts down, and a shut-down's completion (R160, R161, R164, R165), the output watchdog
(R166), and the statement about them.
-/
namespace Sys2Proof.Machine

open Sys2Proof

/-- A command whose event is not due changes nothing. -/
theorem run_notDue {s : State} (due : State → Bool) (f : State → State) (h : due s = false) :
    run s (fun s => whenever (due s) f s) = .next s := by
  simp [run, h, whenever_false]

/-! ## A fault of the group itself (R160, R161) -/

/-- A cause entered at a group by `f`, and a report. -/
def groupFault (g : Group) (f : GroupSt → GroupSt) (code : Nat) (s : State) : State := report 38 code 0 (groupCause g f s)

section GroupEvents

variable {s : State} {g : Group}

theorem groupFault_group (f : GroupSt → GroupSt) (code : Nat) :
    (groupFault g f code s).group g = shutDown s.now f (s.group g) := by
  rw [groupFault, report_group, groupCause_group_same]

theorem groupFault_shutsDown (f : GroupSt → GroupSt) (code : Nat) :
    GroupOff (groupFault g f code s) g ∧
    ((groupFault g f code s).group g).shutdown = some ((s.group g).shutdown.getD s.now) ∧
    (∀ h, h ≠ g → (groupFault g f code s).group h = s.group h) ∧ FieldReport 38 code s (groupFault g f code s) := by
  have hgroup := groupFault_group (s := s) (g := g) f code
  refine ⟨groupOff_of_not_good (by rw [hgroup]; rfl), by rw [hgroup]; rfl, fun h hne => ?others,
    fieldReport_of (groupCause_only _ _ _) _ _ _⟩
  case others => rw [groupFault, report_group, groupCause_group_other f s hne]

theorem grpOvercurrent_acts (hup : s.sys.up = true) (hrun : 320 ≤ (s.group g).ocRun) (hover : (s.group g).overcur = false) :
    exec (.grpOvercurrent g) s =
      .next (groupFault g (fun y => { y with overcur := true, ocRun := 0 }) codeGrpOvercurrent s) :=
  run_due (overcurDue · g) _ hup (by simp [overcurDue, hrun, hover])

theorem grpOvertemp_acts (hup : s.sys.up = true) (hhot : (s.group g).hot = true) (hover : (s.group g).overtemp = false) :
    exec (.grpOvertemp g) s = .next (groupFault g (fun y => { y with overtemp := true }) codeGrpOvertemp s) :=
  run_due (overtempDue · g) _ hup (by simp [overtempDue, hhot, hover])

/-! ## Completion of a shut-down (R164, R165) -/

/-- A request that was held until completion enables the group. -/
theorem groupComplete_eq (g : Group) (s : State) : groupComplete g s = s.setGroup g { s.group g with
    shutdown := none, enabling := (s.group g).enabling || (s.group g).pending, pending := false } := by
  unfold groupComplete groupEnable
  dsimp only
  split
  case isTrue hp => rw [setGroup_setGroup, State.group_setGroup_same, hp, Bool.or_true]
  case isFalse hp => simp [Bool.eq_false_of_not_eq_true hp]

theorem groupCompleteDue_iff {start : Nat} (h : (s.group g).shutdown = some start) :
    groupCompleteDue s g = decide (start + 10000 ≤ s.now) := by simp [groupCompleteDue, h]

theorem groupShutdownComplete_acts {start : Nat} (hup : s.sys.up = true) (h : (s.group g).shutdown = some start)
    (hlate : start + 10000 ≤ s.now) : exec (.groupShutdownComplete g) s = .next (groupComplete g s) :=
  run_due (groupCompleteDue · g) _ hup (by simp [groupCompleteDue_iff h, hlate])

theorem groupShutdownComplete_early {start : Nat} (h : (s.group g).shutdown = some start) (hearly : s.now < start + 10000) :
    exec (.groupShutdownComplete g) s = .next s :=
  run_notDue (groupCompleteDue · g) _ (by simp [groupCompleteDue_iff h, hearly])

end GroupEvents

/-! ## The output watchdog (R166) -/

theorem OutputsOnly.wd {s t : State} (h : OutputsOnly s t) : t.fld.wd = s.fld.wd := by
  obtain ⟨_, _, rfl⟩ := h; rfl

theorem OutputsOnly.cioCfg {s t : State} (h : OutputsOnly s t) (n : Nat) : cioCfg t n = cioCfg s n := by
  obtain ⟨_, _, rfl⟩ := h; rfl

theorem report_wd (line code detail : Nat) (s : State) : (report line code detail s).fld.wd = s.fld.wd := by
  rw [report_only]

theorem report_cioCfg (line code detail : Nat) (s : State) (n : Nat) : cioCfg (report line code detail s) n = cioCfg s n := by
  rw [report_only]; rfl

theorem energised_tripped {t : State} (h : t.fld.wd.tripped = true) (k : Nat) : energised t k = false := by
  simp [energised, h]

theorem pinDriven_tripped {t : State} (h : t.fld.wd.tripped = true) {n : Nat} (hm : (cioCfg t n).mode = .outputSafe) :
    pinDriven t n = false := by
  unfold cioCfg at hm
  simp [pinDriven, hm, h]

section WatchdogEvents

variable {s : State}

theorem wdTrip_wd (s : State) : (wdTrip s).fld.wd = { s.fld.wd with tripped := true, trips := s.fld.wd.trips + 1 } := by
  rw [wdTrip, report_wd, (refreshAll_outputsOnly _).wd]

theorem wdTrip_cioCfg (s : State) (n : Nat) : cioCfg (wdTrip s) n = cioCfg s n := by
  rw [wdTrip, report_cioCfg, (refreshAll_outputsOnly _).cioCfg]; rfl

theorem wdRelease_wd (s : State) : (wdRelease s).fld.wd = { s.fld.wd with tripped := false } := by
  rw [wdRelease, (refreshAll_outputsOnly _).wd]

theorem wdTrip_fieldReport (s : State) : FieldReport 1 codeOutWd s (wdTrip s) :=
  fieldReport_of (by rw [refreshAll_only]) _ _ _

theorem outputWatchdogTrip_acts (hup : s.sys.up = true) (hmissed : 2 ≤ s.fld.wd.missed) (htripped : s.fld.wd.tripped = false) :
    exec .outputWatchdogTrip s = .next (wdTrip s) := run_due wdTripDue _ hup (by simp [wdTripDue, hmissed, htripped])

theorem outputWatchdogTrip_early (hmissed : s.fld.wd.missed < 2) : exec .outputWatchdogTrip s = .next s :=
  run_notDue wdTripDue _ (by simp [wdTripDue, hmissed])

theorem outputWatchdogRelease_acts (hup : s.sys.up = true) (htripped : s.fld.wd.tripped = true) (hrun : 8 ≤ s.fld.wd.okRun) :
    exec .outputWatchdogRelease s = .next (wdRelease s) := run_due wdReleaseDue _ hup (by simp [wdReleaseDue, htripped, hrun])

theorem outputWatchdogRelease_early (hrun : s.fld.wd.okRun < 8) : exec .outputWatchdogRelease s = .next s :=
  run_notDue wdReleaseDue _ (by simp [wdReleaseDue, hrun])

end WatchdogEvents

/-- Settles O14: a group's own fault is a cause of shut-down with a report; an output or OUTPUT_SAFE pin is driven only while the
watchdog has not tripped. -/
theorem outputGroupsSwitchedOff : Obligations.OutputGroupsSwitchedOff := by
  refine ⟨fun s g hup => ⟨fun hrun hover => ⟨_, grpOvercurrent_acts hup hrun hover, ?overcur, groupFault_shutsDown _ _⟩,
      fun hhot hover => ⟨_, grpOvertemp_acts hup hhot hover, ?overtemp, groupFault_shutsDown _ _⟩,
      fun start h hlate => ?complete, fun start => groupShutdownComplete_early⟩,
    fun s hup => ⟨fun hmissed htripped => ?trip, outputWatchdogTrip_early, fun htripped hrun => ?release,
      outputWatchdogRelease_early⟩⟩
  case overcur => rw [groupFault_group]; rfl
  case overtemp => rw [groupFault_group]; rfl
  case complete => rw [groupShutdownComplete_acts hup h hlate, groupComplete_eq]
  case trip =>
    have hwd : (wdTrip s).fld.wd.tripped = true := by rw [wdTrip_wd]
    exact ⟨_, outputWatchdogTrip_acts hup hmissed htripped, wdTrip_wd s, energised_tripped hwd,
      fun n hm => pinDriven_tripped hwd (by rw [wdTrip_cioCfg, hm]), wdTrip_fieldReport s⟩
  case release => exact ⟨_, outputWatchdogRelease_acts hup htripped hrun, wdRelease_wd s, wdRelease_only s⟩

end Sys2Proof.Machine
end

section
/-!
SUPPORT. The safe outputs one by one: off-pulses and the foreign check of their windows (R152 to R154), the diagnoses and the
holds (R155, R156), and the statement about them.
-/
namespace Sys2Proof.Machine

open Sys2Proof

/-! ## Entries of the outputs -/

theorem State.so_setSo_ne {s : State} {n : Nat} {v : So} (h : v ≠ {}) : (s.setSo n v).so n = v := look_put_ne _ _ _ _ h

theorem report_so (line code detail : Nat) (s : State) (n : Nat) : (report line code detail s).so n = s.so n := by
  rw [report_only]; rfl

theorem refreshSo_other (s : State) {k j : Nat} (h : j ≠ k) : (refreshSo s k).so j = s.so j := by
  unfold refreshSo
  dsimp only
  split
  · rfl
  · exact State.so_setSo_other _ _ _ _ h

/-- An output written with a held entry and driven anew holds that entry but for what follows from its being driven. -/
theorem refreshSo_setSo {Q : So → Prop} {s : State} {k : Nat} {v : So} (hv : v.hold = true)
    (hQ : ∀ on c w n, Q { v with on := on, changed := c, window := w, openRun := n }) :
    Q ((refreshSo (s.setSo k v) k).so k) := by
  have hlisted (on : Bool) (c : Nat) (w : Bool) (n : Nat) : { v with on := on, changed := c, window := w, openRun := n } ≠ ({} : So) :=
    fun e => Bool.noConfusion (hv.symm.trans (congrArg So.hold e : v.hold = false))
  have hso : (s.setSo k v).so k = v := State.so_setSo_ne (hlisted v.on v.changed v.window v.openRun)
  unfold refreshSo
  dsimp only
  split
  · rw [hso]; exact hQ v.on v.changed v.window v.openRun
  · rw [hso, State.so_setSo_ne (hlisted _ _ _ _)]; exact hQ _ _ _ _

/-- An output that is held off is not energised (R155). -/
theorem energised_held {t : State} {k : Nat} (h : (t.so k).hold = true) : energised t k = false := by
  simp [energised, h]

/-! ## Changes with reports -/

theorem fieldAndReports_trans {s t u : State} (h : FieldAndReports s t) (k : FieldAndReports t u) : FieldAndReports s u := by
  unfold FieldAndReports at *; rw [k, h]

theorem fieldAndReports_setSo (s : State) (k : Nat) (v : So) : FieldAndReports s (s.setSo k v) := rfl

theorem fieldAndReports_report (line code detail : Nat) (s : State) : FieldAndReports s (report line code detail s) := by
  unfold FieldAndReports; rw [report_only]

/-! ## OUT_CROSS (R154, R156) -/

/-- An output at which OUT_CROSS is declared, with the partner it names. -/
def crossed (partner : Nat) (x : So) : So :=
  { x with code := codeOutCross, partner := partner, count := x.count + 1, cleanRun := 0, highSeen := true }

theorem crossed_listed (partner : Nat) (x : So) : crossed partner x ≠ {} := fun e => Bool.noConfusion (congrArg So.highSeen e)

/-- The output is written as crossed, a latched OUT_CROSS keeping its partner; one that is new is reported. -/
theorem declareOutCross_eq (k partner : Nat) (s : State) :
    declareOutCross k partner s = s.setSo k (crossed (s.so k).partner (s.so k)) ∨
    declareOutCross k partner s = report 38 codeOutCross k (s.setSo k (crossed partner (s.so k))) := by
  unfold declareOutCross crossed
  dsimp only
  split
  case isTrue h => exact .inl (by rw [← h])
  case isFalse => exact .inr rfl

theorem declareOutCross_same (k partner : Nat) (s : State) : ∃ q, (declareOutCross k partner s).so k = crossed q (s.so k) := by
  rcases declareOutCross_eq k partner s with h | h
  · exact ⟨_, by rw [h, State.so_setSo_ne (crossed_listed _ _)]⟩
  · exact ⟨_, by rw [h, report_so, State.so_setSo_ne (crossed_listed _ _)]⟩

theorem declareOutCross_other {k j : Nat} (partner : Nat) (s : State) (hne : j ≠ k) :
    (declareOutCross k partner s).so j = s.so j := by
  rcases declareOutCross_eq k partner s with h | h
  · rw [h, State.so_setSo_other _ _ _ _ hne]
  · rw [h, report_so, State.so_setSo_other _ _ _ _ hne]

theorem declareOutCross_code (k partner : Nat) (s : State) : ((declareOutCross k partner s).so k).code = codeOutCross := by
  obtain ⟨q, h⟩ := declareOutCross_same k partner s
  rw [h]; rfl

theorem declareOutCross_keepsCode {j : Nat} (k partner : Nat) {s : State} (h : (s.so j).code = codeOutCross) :
    ((declareOutCross k partner s).so j).code = codeOutCross := by
  rcases eq_or_ne j k with rfl | hne
  · exact declareOutCross_code _ _ _
  · rwa [declareOutCross_other _ _ hne]

/-- What a declared crossing leaves as it is of an output, every output keeps. -/
theorem declareOutCross_keeps {β : Type} {part : So → β} (hpart : ∀ q x, part (crossed q x) = part x) (k partner : Nat) (s : State)
    (j : Nat) : part ((declareOutCross k partner s).so j) = part (s.so j) := by
  rcases eq_or_ne j k with rfl | hne
  · obtain ⟨q, h⟩ := declareOutCross_same j partner s
    rw [h, hpart]
  · rw [declareOutCross_other _ _ hne]

theorem declareOutCross_slot (k partner : Nat) (s : State) : (declareOutCross k partner s).slot = s.slot := by
  rcases declareOutCross_eq k partner s with h | h
  · rw [h]; rfl
  · rw [h, report_only]; rfl

theorem declareOutCross_fieldAndReports (k partner : Nat) (s : State) : FieldAndReports s (declareOutCross k partner s) := by
  rcases declareOutCross_eq k partner s with h | h
  · rw [h]; exact fieldAndReports_setSo _ _ _
  · rw [h]; exact fieldAndReports_trans (fieldAndReports_setSo _ _ _) (fieldAndReports_report _ _ _ _)

/-! ## The foreign check (R154) -/

/-- Output `j` is off, and around the window of SOk that began at slot `p` it read high at the pre and post samples but low at the
check sample. -/
def Crosses (k p : Nat) (s : State) (j : Nat) : Prop :=
  j ≠ k ∧ (s.so j).on = false ∧ histAt (s.so j).hist (s.slot - 1) (p - 1) = true ∧
  histAt (s.so j).hist (s.slot - 1) (p + 5) = true ∧ histAt (s.so j).hist (s.slot - 1) (p + 3) = false

section Check

variable {k p : Nat} {s : State}

theorem crossCheck_crosses {j : Nat} (h : Crosses k p s j) :
    crossCheck k p j s = declareOutCross k j (declareOutCross j k s) := by
  obtain ⟨hne, hoff, hpre, hpost, hlow⟩ := h
  simp [crossCheck, lastSlot, hne, hoff, hpre, hpost, hlow]

theorem crossCheck_passes {j : Nat} (h : ¬ Crosses k p s j) : crossCheck k p j s = s := by
  refine if_neg fun hc => h ?_
  simpa [Crosses, lastSlot] using hc

/-- What every declared crossing keeps, a foreign check keeps. -/
theorem crossCheck_keeps {P : State → Prop} (hP : ∀ i q t, P t → P (declareOutCross i q t)) (j : Nat) (h : P s) :
    P (crossCheck k p j s) := by
  by_cases hc : Crosses k p s j
  · rw [crossCheck_crosses hc]; exact hP _ _ _ (hP _ _ _ h)
  · rwa [crossCheck_passes hc]

/-- A declared crossing leaves what later checks read. -/
theorem crosses_declareOutCross (i q : Nat) (t : State) (j : Nat) :
    Crosses k p (declareOutCross i q t) j ↔ Crosses k p t j := by
  unfold Crosses
  rw [declareOutCross_slot, declareOutCross_keeps (part := So.on) (fun _ _ => rfl),
    declareOutCross_keeps (part := So.hist) (fun _ _ => rfl)]

theorem crosses_crossCheck (i j : Nat) : Crosses k p (crossCheck k p i s) j ↔ Crosses k p s j :=
  crossCheck_keeps (P := fun t => Crosses k p t j ↔ Crosses k p s j)
    (fun _ _ _ h => (crosses_declareOutCross _ _ _ _).trans h) i Iff.rfl

theorem crossCheck_keepsCode {j : Nat} (i : Nat) (h : (s.so j).code = codeOutCross) :
    ((crossCheck k p i s).so j).code = codeOutCross :=
  crossCheck_keeps (P := fun t => (t.so j).code = codeOutCross) (fun _ _ _ => declareOutCross_keepsCode _ _) i h

theorem crossCheck_other {i j : Nat} (hk : j ≠ k) (hi : j ≠ i) : (crossCheck k p i s).so j = s.so j := by
  by_cases hc : Crosses k p s i
  · rw [crossCheck_crosses hc, declareOutCross_other _ _ hk, declareOutCross_other _ _ hi]
  · rw [crossCheck_passes hc]

theorem crossCheck_code {j : Nat} (h : Crosses k p s j) : ((crossCheck k p j s).so j).code = codeOutCross := by
  rw [crossCheck_crosses h]
  exact declareOutCross_keepsCode _ _ (declareOutCross_code _ _ _)

/-! ## All twelve outputs -/

/-- The foreign checks of a window, output by output. -/
def crossChecks (k p : Nat) (s : State) : State := (List.range 12).foldl (fun t j => crossCheck k p j t) s

theorem crossChecks_keeps {P : State → Prop} (hP : ∀ i q t, P t → P (declareOutCross i q t)) (h : P s) :
    P (crossChecks k p s) :=
  List.foldlRecOn (motive := P) _ _ h fun _ ht j _ => crossCheck_keeps hP j ht

theorem crossChecks_fieldAndReports : FieldAndReports s (crossChecks k p s) :=
  crossChecks_keeps (P := FieldAndReports s) (fun _ _ _ h => fieldAndReports_trans h (declareOutCross_fieldAndReports _ _ _)) rfl

theorem crossChecks_window (j : Nat) : ((crossChecks k p s).so j).window = (s.so j).window :=
  crossChecks_keeps (P := fun t => (t.so j).window = (s.so j).window)
    (fun _ _ _ h => (declareOutCross_keeps (part := So.window) (fun _ _ => rfl) _ _ _ _).trans h) rfl

/-- A crossing that stands before the checks is found at its own check, and the later checks keep its code. -/
theorem crossChecks_code {j : Nat} (hj : j < 12) (h : Crosses k p s j) : ((crossChecks k p s).so j).code = codeOutCross :=
  foldl_reaches (I := fun t => Crosses k p t j) (P := fun t => (t.so j).code = codeOutCross)
    (fun _ i ht => (crosses_crossCheck i j).mpr ht) (fun _ => crossCheck_code) (fun _ i _ => crossCheck_keepsCode i)
    (List.mem_range.mpr hj) h

/-- An output without a crossing passes its own check, and the other checks leave it alone. -/
theorem crossChecks_other {j : Nat} (hne : j ≠ k) (h : ¬ Crosses k p s j) : (crossChecks k p s).so j = s.so j := by
  refine (List.foldlRecOn (motive := fun t => (¬ Crosses k p t j) ∧ t.so j = s.so j) _ _ ⟨h, rfl⟩
    fun t ⟨hpass, hso⟩ i _ => ⟨?_, ?_⟩).2
  · rwa [crosses_crossCheck]
  · rcases eq_or_ne j i with rfl | hi
    · rwa [crossCheck_passes hpass]
    · rwa [crossCheck_other hne hi]

end Check

/-! ## Off-pulses (R152) -/

section Pulses

variable {s : State} {k p : Nat}

theorem outputPulseBegin_acts (hup : s.sys.up = true) (hslots : s.fld.slotOn = true) (hpulse : (look {} s.img.so k).pulse = true)
    (hnext : (s.so k).next ≤ s.slot) (hsub : s.fld.sub < 4) :
    exec (.outputPulseBegin k) s = .next (outPulseBegin k s) :=
  run_due (outPulseDue · k) _ hup (by simp [outPulseDue, soPulse, hslots, hpulse, hnext, hsub])

theorem outputPulseEnd_acts (hup : s.sys.up = true) (hwindow : (s.so k).window = true) (hpulse : (s.so k).pulse = some p)
    (hslot : 1 ≤ s.slot) (hpost : p + 5 ≤ s.slot - 1) : exec (.outputPulseEnd k) s = .next (outPulseEnd k s) :=
  run_due (outPulseEndDue · k) _ hup (by simp [outPulseEndDue, lastSlot, hwindow, hpulse, hslot, hpost])

/-- The output whose window has ended. -/
def windowClosed (k : Nat) (s : State) : State := s.setSo k { s.so k with window := false }

theorem windowClosed_window (hpulse : (s.so k).pulse = some p) : ((windowClosed k s).so k).window = false := by
  have hlisted : { s.so k with window := false } ≠ ({} : So) := fun e =>
    Option.some_ne_none p (hpulse.symm.trans (congrArg So.pulse e : (s.so k).pulse = none))
  rw [windowClosed, State.so_setSo_ne hlisted]

theorem windowClosed_other {j : Nat} (h : j ≠ k) : (windowClosed k s).so j = s.so j := State.so_setSo_other _ _ _ _ h

theorem crosses_windowClosed {j : Nat} (h : j ≠ k) : Crosses k p (windowClosed k s) j ↔ Crosses k p s j := by
  unfold Crosses
  rw [windowClosed_other h]
  rfl

theorem outPulseEnd_unjudged (hpulse : (s.so k).pulse = some p) (hpre : histAt (s.so k).hist (s.slot - 1) (p - 1) = false) :
    outPulseEnd k s = windowClosed k s := by
  simp [outPulseEnd, windowClosed, lastSlot, hpulse, hpre]

theorem outPulseEnd_judged (hpulse : (s.so k).pulse = some p) (hfirst : 1 ≤ p)
    (hpre : histAt (s.so k).hist (s.slot - 1) (p - 1) = true) :
    outPulseEnd k s = crossChecks k p (windowClosed k s) := by
  simp [outPulseEnd, windowClosed, crossChecks, lastSlot, hpulse, hpre, hfirst]

end Pulses

/-! ## Diagnoses (R155, R156) -/

section Diagnoses

variable {s : State} {k : Nat}

theorem outShortVfld_acts (hup : s.sys.up = true) (hdue : (s.so k).shortDue = true) :
    exec (.outShortVfld k) s = .next (outShort k s) := run_due (outShortDue · k) _ hup hdue

theorem outStuckOff_acts (hup : s.sys.up = true) (hdue : (s.so k).stuckDue = true) (hhold : (s.so k).hold = false) :
    exec (.outStuckOff k) s = .next (outHold codeOutStuckOff k s) :=
  (run_due (outStuckDue · k) _ hup hdue).trans (by simp [outStuck, hhold])

theorem outOverload_acts (hup : s.sys.up = true) (hrun : 128 ≤ (s.so k).limRun) (hhold : (s.so k).hold = false) :
    exec (.outOverload k) s = .next (outHold codeOutOverload k s) :=
  run_due (outOverloadDue · k) _ hup (by simp [outOverloadDue, hrun, hhold])

theorem outOpenLoad_acts (hup : s.sys.up = true) (hrun : 32 ≤ (s.so k).openRun) (hopen : (s.so k).openLoad = false) :
    exec (.outOpenLoad k) s = .next (outOpenLoad k s) :=
  run_due (openLoadDue · k) _ hup (by simp [openLoadDue, hrun, hopen])

theorem outDiagClear_acts (hup : s.sys.up = true) (hcode : (s.so k).code = codeOutShort ∨ (s.so k).code = codeOutCross)
    (hclean : 8 ≤ (s.so k).cleanRun) : exec (.outDiagClear k) s = .next (outClear k s) :=
  run_due (outClearDue · k) _ hup (by simp [outClearDue, hcode, hclean])

/-- A hold is entered beside the code that the output carries (R156). -/
theorem outHold_output (code k : Nat) (s : State) :
    ((outHold code k s).so k).hold = true ∧ ((outHold code k s).so k).holdCode = code ∧
    ((outHold code k s).so k).code = (s.so k).code ∧ ((outHold code k s).so k).count = (s.so k).count + 1 := by
  unfold outHold
  dsimp only
  rw [report_so]
  exact refreshSo_setSo (Q := fun x => x.hold = true ∧ x.holdCode = code ∧ x.code = (s.so k).code ∧ x.count = (s.so k).count + 1)
    rfl fun _ _ _ _ => ⟨rfl, rfl, rfl, rfl⟩

theorem outHold_other (code : Nat) {j : Nat} (h : j ≠ k) : (outHold code k s).so j = s.so j := by
  unfold outHold
  rw [report_so, refreshSo_other _ h, State.so_setSo_other _ _ _ _ h]

/-- Both switches of the output are held off under the code, and no other output changes. -/
theorem outHold_holds (code k : Nat) (s : State) :
    ((outHold code k s).so k).hold = true ∧ ((outHold code k s).so k).holdCode = code ∧
    ((outHold code k s).so k).code = (s.so k).code ∧ ((outHold code k s).so k).count = (s.so k).count + 1 ∧
    energised (outHold code k s) k = false ∧ (∀ j, j ≠ k → (outHold code k s).so j = s.so j) ∧
    FieldReport 38 code s (outHold code k s) := by
  obtain ⟨hhold, hholdCode, hcode, hcount⟩ := outHold_output code k s
  exact ⟨hhold, hholdCode, hcode, hcount, energised_held hhold, fun _ => outHold_other code,
    fieldReport_of (by rw [refreshSo_only]; rfl) _ _ _⟩

end Diagnoses

/-- Settles O15: a judged window is one foreign check per output, which writes only the pulsed output and the one it checks; a
hold is entered the same way for both of its causes. -/
theorem outputPulsesAndDiagnoses : Obligations.OutputPulsesAndDiagnoses := by
  refine ⟨fun s k hup => ⟨fun hslots hpulse hnext hsub w y hw hy => ?begin, fun p hwindow hpulse hslot hpost =>
      ⟨fun hpre => ?unjudged, fun hfirst hpre => ?judged⟩⟩,
    fun s k hup => ⟨fun hdue hshort hcross => ?short, fun hdue hlatched => ?latched,
      fun hdue hhold => ⟨_, outStuckOff_acts hup hdue hhold, outHold_holds _ k s⟩,
      fun hrun hhold => ⟨_, outOverload_acts hup hrun hhold, outHold_holds _ k s⟩,
      outOpenLoad_acts hup, outDiagClear_acts hup⟩⟩
  case begin =>
    subst hw hy
    rw [outputPulseBegin_acts hup hslots hpulse hnext hsub]
    exact ⟨fun hon => by rw [outPulseBegin, if_pos hon], fun hoff => by rw [outPulseBegin, if_neg (Bool.eq_false_iff.mp hoff)]⟩
  case unjudged => rw [outputPulseEnd_acts hup hwindow hpulse hslot hpost, outPulseEnd_unjudged hpulse hpre, windowClosed]
  case judged =>
    refine ⟨_, outputPulseEnd_acts hup hwindow hpulse hslot hpost, ?_⟩
    rw [outPulseEnd_judged hpulse hfirst hpre]
    refine ⟨(crossChecks_window k).trans (windowClosed_window hpulse),
      fieldAndReports_trans (fieldAndReports_setSo _ _ _) crossChecks_fieldAndReports, fun j hj hne hoff hbefore hafter hlow => ?_,
      fun j hne hkept => ?_⟩
    · exact crossChecks_code hj ((crosses_windowClosed hne).mpr ⟨hne, hoff, hbefore, hafter, hlow⟩)
    · have hpass : ¬ Crosses k p s j := by
        rintro ⟨-, hoff, -, -, hlow⟩
        simp [hoff, hlow] at hkept
      rw [crossChecks_other hne (mt (crosses_windowClosed hne).mp hpass), windowClosed_other hne]
  case short => rw [outShortVfld_acts hup hdue, outShort, if_neg (not_or.mpr ⟨hshort, hcross⟩)]
  case latched => rw [outShortVfld_acts hup hdue, outShort, if_pos hlatched]

end Sys2Proof.Machine
end

section
/-!
SUPPORT. What an admitted operational change has logged, which no channel and no timer shows (R360, R372).
-/
namespace Sys2Proof.Machine

open Sys2Proof

section

variable {s : State} {p : Port} {addr : Nat} {old new : List Word}

/-- An admitted operational change takes its effect on the state in which its log entry stands. -/
theorem gate_opLogged (h : Admitted s p rightOps) (f : State → State) :
    gate p rightOps true 2 addr old new f s = f (opLogged p addr old new s) := gate_admitted h _ _ _ _ _

@[simp] theorem opLogged_ain (n : Nat) : (opLogged p addr old new s).ain n = s.ain n := rfl
@[simp] theorem opLogged_tachT (n : Nat) : (opLogged p addr old new s).tachT n = s.tachT n := rfl
@[simp] theorem opLogged_now : (opLogged p addr old new s).now = s.now := rfl

end

end Sys2Proof.Machine
end

section
/-!
SUPPORT. The capture timers (R190 to R196): what one filter sample does, what a counted edge does to counts, captures and compare
values, the writes of compare values and of EN, and the statement about them.
-/
namespace Sys2Proof.Machine

open Sys2Proof

/-! ## The digital filter (R190) -/

/-- A timer with other contents of its comparator and filter. -/
def withFilter (c l : Bool) (a : Nat) (x : Tach) : Tach := { x with comp := c, level := l, agree := a }

section Filter

variable {x : Tach} {v : Int} {lvl : Bool}

theorem filterTach_agrees (hlvl : lvl = comparator x.cfg x.comp v) (h : lvl = x.level) :
    filterTach v x = (withFilter lvl x.level 0 x, false) := by
  subst hlvl; exact if_pos h

theorem filterTach_differs (hlvl : lvl = comparator x.cfg x.comp v) (h : lvl ≠ x.level) (hfew : x.agree + 1 < x.cfg.filt) :
    filterTach v x = (withFilter lvl x.level (x.agree + 1) x, false) := by
  subst hlvl; exact (if_neg h).trans (if_neg hfew.not_ge)

theorem filterTach_accepts (hlvl : lvl = comparator x.cfg x.comp v) (h : lvl ≠ x.level) (hfull : x.cfg.filt ≤ x.agree + 1) :
    filterTach v x = (withFilter lvl lvl 0 x, edgeSelected x.cfg lvl) := by
  subst hlvl; exact (if_neg h).trans (if_pos hfull)

/-- A sample writes the comparator's level and the filter's contents, nothing else of the timer. -/
theorem filterTach_filterOnly (v : Int) (x : Tach) : ∃ c l a, (filterTach v x).1 = withFilter c l a x := by
  by_cases h : comparator x.cfg x.comp v = x.level
  · exact ⟨_, _, _, congrArg Prod.fst (filterTach_agrees rfl h)⟩
  · by_cases hfull : x.cfg.filt ≤ x.agree + 1
    · exact ⟨_, _, _, congrArg Prod.fst (filterTach_accepts rfl h hfull)⟩
    · exact ⟨_, _, _, congrArg Prod.fst (filterTach_differs rfl h (not_le.mp hfull))⟩

end Filter

/-! ## Accepted edges (R191, R192) -/

section Accepted

variable {x : Tach} {b tick : Nat}

theorem acceptEdge_stopped (h : x.state ≠ .run) : acceptEdge b tick x = x := if_neg h

theorem acceptEdge_counted (h : x.state = .run) (ht : tick < b) : acceptEdge b tick x = countEdge (edgeStamp x.cfg tick) x :=
  (if_pos h).trans (if_pos ht)

theorem acceptEdge_waits (h : x.state = .run) (ht : b ≤ tick) : acceptEdge b tick x = { x with later := x.later ++ [tick] } :=
  (if_pos h).trans (if_neg ht.not_gt)

/-- One sample passes the filter; the edge that it may accept is the timer's before the next sample comes. -/
theorem tachSamples_cons (b : Nat) (e : Nat × Int) (vs : List (Nat × Int)) (x : Tach) : tachSamples b (e :: vs) x =
    tachSamples b vs (if (filterTach e.2 x).2 then acceptEdge b e.1 (filterTach e.2 x).1 else (filterTach e.2 x).1) := rfl

/-- The samples of a timer that does not run move its filter alone. -/
theorem tachSamples_stopped (b : Nat) (vs : List (Nat × Int)) (h : x.state ≠ .run) :
    ∃ c l a, tachSamples b vs x = withFilter c l a x := by
  induction vs generalizing x with
  | nil => exact ⟨x.comp, x.level, x.agree, rfl⟩
  | cons e vs ih =>
    obtain ⟨c, l, a, hfilter⟩ := filterTach_filterOnly e.2 x
    have hstate : (withFilter c l a x).state ≠ .run := h
    obtain ⟨c', l', a', hrest⟩ := ih hstate
    refine ⟨c', l', a', ?_⟩
    rw [tachSamples_cons, hfilter, acceptEdge_stopped hstate, ite_self, hrest]
    rfl

end Accepted

/-! ## A counted edge (R191, R193, R194) -/

section Counted

variable {x : Tach} {stamp : Nat}

/-- A compare value that the count has reached goes on by its step, where that is not 0. -/
theorem cmpMatch_hit {per count : Nat} {cmp step : Word} (h : cmp.toNat = count) :
    (step = 0 → (cmpMatch per count cmp step).2 = cmp) ∧
    (step ≠ 0 → (cmpMatch per count cmp step).2 = BitVec.ofNat 32 ((count + step.toNat) % per)) := by
  subst h
  rw [cmpMatch, if_pos rfl]
  exact ⟨fun hz => if_pos hz, fun hz => if_neg hz⟩

theorem cmpMatch_miss {per count : Nat} {cmp step : Word} (h : cmp.toNat ≠ count) : (cmpMatch per count cmp step).2 = cmp := by
  simp [cmpMatch, h]

theorem countEdge_captures (h : x.total % max 1 x.cfg.n = 0) :
    (countEdge stamp x).cap = stamp ∧ (countEdge stamp x).prevCap = x.cap ∧ (countEdge stamp x).caps = x.caps + 1 := by
  simp [countEdge, h]

theorem countEdge_keepsCapture (h : x.total % max 1 x.cfg.n ≠ 0) :
    (countEdge stamp x).cap = x.cap ∧ (countEdge stamp x).prevCap = x.prevCap ∧ (countEdge stamp x).caps = x.caps := by
  simp [countEdge, h]

/-- A match of either compare value stores the stamp. -/
theorem countEdge_matchStamp : (countEdge stamp x).matchStamp =
    if x.cmp0.toNat = (x.edgeCnt + 1) % max 1 x.cfg.per ∨ x.cmp1.toNat = (x.edgeCnt + 1) % max 1 x.cfg.per then stamp
    else x.matchStamp := by
  by_cases h0 : x.cmp0.toNat = (x.edgeCnt + 1) % max 1 x.cfg.per <;>
    by_cases h1 : x.cmp1.toNat = (x.edgeCnt + 1) % max 1 x.cfg.per <;> simp [countEdge, cmpMatch, h0, h1]

end Counted

/-! ## The command -/

section Edge

variable {s : State} {t tick : Nat} {v : Int}

theorem tachCountedEdge_acts (hup : s.sys.up = true) (volts : List Int) :
    exec (.tachCountedEdge t ⟨tick, volts⟩) s = .next ((advance tick s).setTach t
      (tachSamples (s.t0 + cycleTicks) (sampleTicks (s.tachT t).cfg tick volts) (s.tachT t))) := run_up _ _ hup

/-- The effect of one sample, by what the filter answers. -/
theorem tachCountedEdge_single (hup : s.sys.up = true) {x y : Tach} {edge : Bool} (hx : x = s.tachT t)
    (hf : filterTach v x = (y, edge)) :
    exec (.tachCountedEdge t ⟨tick, [v]⟩) s = .next ((advance tick s).setTach t
      (if edge then acceptEdge (s.t0 + cycleTicks) tick y else y)) := by
  have hone : sampleTicks x.cfg tick [v] = [(tick, v)] := by simp [sampleTicks]
  rw [tachCountedEdge_acts hup, ← hx, hone, tachSamples_cons, hf, tachSamples]

section AcceptedEdge

variable {x : Tach} {lvl : Bool} (hup : s.sys.up = true) (hx : x = s.tachT t) (hlvl : lvl = comparator x.cfg x.comp v)
  (h : lvl ≠ x.level) (hfull : x.cfg.filt ≤ x.agree + 1)

include hup hx hlvl h hfull

theorem tachCountedEdge_counts (hrun : x.state = .run) (hsel : edgeSelected x.cfg lvl = true) (ht : tick < s.t0 + cycleTicks) :
    exec (.tachCountedEdge t ⟨tick, [v]⟩) s =
      .next ((advance tick s).setTach t (countEdge (edgeStamp x.cfg tick) (withFilter lvl lvl 0 x))) := by
  rw [tachCountedEdge_single hup hx (filterTach_accepts hlvl h hfull), if_pos hsel,
    acceptEdge_counted (x := withFilter lvl lvl 0 x) hrun ht]
  rfl

theorem tachCountedEdge_waits (hrun : x.state = .run) (hsel : edgeSelected x.cfg lvl = true) (ht : s.t0 + cycleTicks ≤ tick) :
    exec (.tachCountedEdge t ⟨tick, [v]⟩) s =
      .next ((advance tick s).setTach t { withFilter lvl lvl 0 x with later := x.later ++ [tick] }) := by
  rw [tachCountedEdge_single hup hx (filterTach_accepts hlvl h hfull), if_pos hsel,
    acceptEdge_waits (x := withFilter lvl lvl 0 x) hrun ht]
  rfl

/-- An edge that EDGE does not select, and one of a timer that does not run, changes the filter alone. -/
theorem tachCountedEdge_ignored (hno : x.state ≠ .run ∨ edgeSelected x.cfg lvl = false) :
    exec (.tachCountedEdge t ⟨tick, [v]⟩) s = .next ((advance tick s).setTach t (withFilter lvl lvl 0 x)) := by
  rw [tachCountedEdge_single hup hx (filterTach_accepts hlvl h hfull)]
  rcases hno with hstop | hunsel
  · rw [acceptEdge_stopped (x := withFilter lvl lvl 0 x) hstop, ite_self]
  · rw [if_neg (Bool.eq_false_iff.mp hunsel)]

end AcceptedEdge

end Edge

/-! ## Compare values (R193, R194) -/

section Compare

variable {s : State} {t : Nat} {v : Word}

theorem cmpWrite_taken (k : Nat) (h : v.toNat < (s.tachT t).cfg.per) : cmpWrite t k v s =
    s.setTach t (if k = 0 then { s.tachT t with cmp0 := v } else { s.tachT t with cmp1 := v }) :=
  if_pos (lt_max_of_lt_right h)

theorem stepWrite_taken (k : Nat) (h : v.toNat < (s.tachT t).cfg.per) : stepWrite t k v s =
    s.setTach t (if k = 0 then { s.tachT t with step0 := v } else { s.tachT t with step1 := v }) :=
  if_pos (lt_max_of_lt_right h)

theorem cmpWrite_refused (k : Nat) (h1 : 1 ≤ v.toNat) (h : (s.tachT t).cfg.per ≤ v.toNat) :
    cmpWrite t k v s = refuse (addrTach t (0x128 + 4 * k)) s := if_neg (max_le h1 h).not_gt

theorem stepWrite_refused (k : Nat) (h1 : 1 ≤ v.toNat) (h : (s.tachT t).cfg.per ≤ v.toNat) :
    stepWrite t k v s = refuse (addrTach t (0x130 + 4 * k)) s := if_neg (max_le h1 h).not_gt

theorem tachCmpWrite_acts (hup : s.sys.up = true) (p : CmpWriter) (k : Nat) :
    exec (.tachCmpWrite p t k v) s = .next (cmpWrite t k v s) := run_up _ _ hup

theorem tachStepWrite_acts (hup : s.sys.up = true) (p : CmpWriter) (k : Nat) :
    exec (.tachStepWrite p t k v) s = .next (stepWrite t k v s) := run_up _ _ hup

end Compare

/-! ## Writes of EN (R196) -/

section Enable

variable {s : State} {p : Port} {t : Nat}

theorem tachEnable_of_off (h : (s.tachT t).state = .off) : tachEnable t s = tachOn t s := by simp only [tachEnable, h]

theorem tachEnable_of_shutdown (h : (s.tachT t).state = .shutdown) :
    tachEnable t s = s.setTach t { s.tachT t with pending := true } := by simp only [tachEnable, h]

theorem tachDisable_of_run (h : (s.tachT t).state = .run) :
    tachDisable t s = s.setTach t { s.tachT t with state := .shutdown, later := [] } := by simp only [tachDisable, h]

theorem tachGate_safety (h : (s.tachT t).safety = true) (new : Word) (f : State → State) :
    tachGate p t new f s = secRefuse (0x00090108 + 0x40 * t) codeAccessRefused s := if_pos (Or.inl h)

theorem tachGate_admitted (ht : t < 8) (hs : (s.tachT t).safety = false) (h : Admitted s p rightOps) (new : Word)
    (f : State → State) : tachGate p t new f s =
      f (opLogged p (0x00090108 + 0x40 * t) [if (s.tachT t).state = .run then 1 else 0] [new] s) :=
  (if_neg (not_or.mpr ⟨Bool.eq_false_iff.mp hs, ht.not_ge⟩)).trans (gate_opLogged h f)

theorem tachEnable_acts (hup : s.sys.up = true) : exec (.tachEnable p t) s = .next (tachGate p t 1 (tachEnable t) s) :=
  run_up _ _ hup

theorem tachDisable_acts (hup : s.sys.up = true) : exec (.tachDisable p t) s = .next (tachGate p t 0 (tachDisable t) s) :=
  run_up _ _ hup

end Enable

/-! ## The statement -/

/-- Settles O26: a sample's effect follows the filter's three cases; an accepted edge counts, waits for the next cycle, or finds
the timer stopped; a write of EN passes the gate and then has its effect on the timer as it was. -/
theorem captureTimers : Obligations.CaptureTimers := by
  refine fun s t hup => ⟨fun tick v lvl x hx hlvl => ?filter, fun tick v per stamp c x hx hrun hper hc hstamp hdiff hfull hsel ht =>
      ?counted, fun tick volts hstop => ?stopped, fun p v hv => ?taken, fun p k v h1 hv => ?refused,
    fun p ht hs hadm => ?admitted, fun p hs => ?safety⟩
  case filter =>
    exact ⟨fun h => tachCountedEdge_single hup hx (filterTach_agrees hlvl h),
      fun h hfew => tachCountedEdge_single hup hx (filterTach_differs hlvl h hfew),
      tachCountedEdge_ignored hup hx hlvl, tachCountedEdge_waits hup hx hlvl⟩
  case counted =>
    subst hper hc hstamp
    exact ⟨_, tachCountedEdge_counts hup hx rfl hdiff hfull hrun hsel ht, rfl, rfl, rfl, rfl, rfl, rfl, rfl, rfl,
      countEdge_captures, countEdge_keepsCapture, fun h => ⟨countEdge_matchStamp.trans (if_pos (Or.inl h)), cmpMatch_hit h⟩,
      cmpMatch_miss, fun h => ⟨countEdge_matchStamp.trans (if_pos (Or.inr h)), cmpMatch_hit h⟩, cmpMatch_miss,
      fun h0 h1 => countEdge_matchStamp.trans (if_neg (not_or.mpr ⟨h0, h1⟩))⟩
  case stopped =>
    obtain ⟨c, l, a, hy⟩ := tachSamples_stopped (s.t0 + cycleTicks) (sampleTicks (s.tachT t).cfg tick volts) hstop
    exact ⟨withFilter c l a (s.tachT t), hy ▸ tachCountedEdge_acts hup volts, rfl, rfl, rfl, rfl, rfl⟩
  case taken =>
    simp only [tachCmpWrite_acts hup, tachStepWrite_acts hup, cmpWrite_taken _ hv, stepWrite_taken _ hv, if_pos, one_ne_zero,
      if_false, and_self]
  case refused =>
    rw [tachCmpWrite_acts hup, tachStepWrite_acts hup, cmpWrite_refused k h1 hv, stepWrite_refused k h1 hv]
    simp only [addrTach, ← Nat.add_assoc, Nat.reduceAdd, and_self]
  case admitted =>
    refine ⟨fun l hl => ⟨fun hoff => ?_, fun hshut => ?_⟩, fun l hl hrun => ?_⟩
    · rw [tachEnable_acts hup, tachGate_admitted ht hs hadm, ← hl, tachEnable_of_off (hl ▸ hoff), hl]; rfl
    · rw [tachEnable_acts hup, tachGate_admitted ht hs hadm, ← hl, tachEnable_of_shutdown (hl ▸ hshut), hl]; rfl
    · rw [tachDisable_acts hup, tachGate_admitted ht hs hadm, ← hl, tachDisable_of_run (hl ▸ hrun), hl]; rfl
  case safety =>
    rw [tachEnable_acts hup, tachDisable_acts hup, tachGate_safety hs, tachGate_safety hs]
    exact ⟨rfl, rfl⟩

end Sys2Proof.Machine
end

section
/-!
SUPPORT. Sample words of the analog front end (R176, R187): the bits of a register view made of single flags, and what a sample
word holds of its channel's flags and of its value.
-/
namespace Sys2Proof.Machine

open Sys2Proof

/-! ## Flags -/

/-- A field of one bit is seen at its place. -/
theorem pack_flag_getLsbD {c : Prop} [Decidable c] {i : Nat} (hi : i < 32) (lo : Nat) (fs : List (Nat × Nat × Nat)) :
    (pack ((if c then 1 else 0, lo, 1) :: fs)).getLsbD i = (decide c && decide (i = lo) || (pack fs).getLsbD i) := by
  rw [pack, BitVec.getLsbD_or, BitVec.getLsbD_ofNat, decide_eq_true hi]
  by_cases hc : c
  · simp [hc, Nat.one_shiftLeft, Nat.testBit_two_pow, eq_comm]
  · simp [hc]

section Flags

variable {x : Ain}

theorem chanFlags_getLsbD {i : Nat} (hi : i < 32) : (chanFlags x).getLsbD i =
    (x.flagOpen && decide (i = 29) || (x.flagShort && decide (i = 28) || (decide (x.state = .settling) && decide (i = 27) ||
      ((x.calRun || x.calFail) && decide (i = 26) || x.supply && decide (i = 25))))) := by
  simp only [chanFlags, pack_flag_getLsbD hi]
  simp [pack]

/-- The flags leave VALID and the value's place free. -/
theorem chanFlags_elsewhere {i : Nat} (h : i = 31 ∨ i < 24) : (chanFlags x).getLsbD i = false := by
  rw [chanFlags_getLsbD (by omega)]
  simp; omega

/-- Without OPEN and SHORT nothing is left of the flags that a bias reading gives. -/
theorem chanFlags_noBias (hopen : x.flagOpen = false) (hshort : x.flagShort = false) : chanFlags x &&& 0x30000000 = 0 := by
  simp only [chanFlags, hopen, hshort, Bool.false_eq_true, if_false]
  split_ifs <;> decide

end Flags

/-! ## Words -/

section Words

variable {ovr : Bool} {flags : Word} {v : Int}

/-- Without VALID a word is its flags and OVR. -/
theorem sampleWord_invalid : sampleWord false ovr flags v = (if ovr then 0x40000000 else 0) ||| flags := by
  simp [sampleWord]

theorem sampleWord_plain : sampleWord true false 0 v = 0x80000000 ||| (BitVec.ofInt 24 v).setWidth 32 := by
  simp [sampleWord]

theorem sampleWord_invalid_getLsbD {i : Nat} (hi : i ≠ 30) (hflags : flags.getLsbD i = false) :
    (sampleWord false ovr flags v).getLsbD i = false := by
  have hovr : (0x40000000 : Word) = BitVec.twoPow 32 30 := by decide
  rw [sampleWord_invalid, BitVec.getLsbD_or, hflags, hovr]
  cases ovr <;> simp [BitVec.getLsbD_twoPow, hi.symm]

end Words

/-! ## Full-rate samples -/

section Samples

variable {x : Ain} {v : Int}

theorem clip24_within (hlow : -8388608 ≤ v) (hhigh : v ≤ 8388607) : clip24 v = (v, false) :=
  (if_neg hhigh.not_gt).trans (if_neg hlow.not_gt)

theorem fullSample_eq (x : Ain) (v : Int) : fullSample x v =
    sampleWord (chanValid x) (clip24 (gained x v)).2 (chanFlags x) (clip24 (gained x v)).1 := rfl

/-- A valid channel carries no flag. -/
theorem fullSample_valid (h : chanValid x = true) :
    fullSample x v = sampleWord true (clip24 (gained x v)).2 0 (clip24 (gained x v)).1 := by
  have hflags : chanFlags x = 0 := of_decide_eq_true (Bool.and_eq_true_iff.mp h).2
  rw [fullSample_eq, h, hflags]

theorem fullSample_within (h : chanValid x = true) (hlow : -8388608 ≤ gained x v) (hhigh : gained x v ≤ 8388607) :
    fullSample x v = 0x80000000 ||| (BitVec.ofInt 24 (gained x v)).setWidth 32 := by
  rw [fullSample_valid h, clip24_within hlow hhigh, sampleWord_plain]

theorem fullSample_above (h : chanValid x = true) (hhigh : 8388607 < gained x v) : fullSample x v = 0xC07FFFFF := by
  rw [fullSample_valid h, clip24, if_pos hhigh]; decide

theorem fullSample_below (h : chanValid x = true) (hlow : gained x v < -8388608) : fullSample x v = 0xC0800000 := by
  rw [fullSample_valid h, clip24, if_neg (by omega), if_pos hlow]; decide

theorem fullSample_invalid (h : chanValid x = false) {i : Nat} (hi : i = 31 ∨ i < 24) : (fullSample x v).getLsbD i = false := by
  rw [fullSample_eq, h]
  exact sampleWord_invalid_getLsbD (by omega) (chanFlags_elsewhere hi)

end Samples

end Sys2Proof.Machine
end

section
/-!
SUPPORT. The channels of the analog front end (R178 to R189): the frame of a channel, its decimated samples and what a bias reading
makes of its flags, its calibration, its switching, and the statement about them.
-/
namespace Sys2Proof.Machine

open Sys2Proof

/-! ## Events that are not due -/

theorem run_undue {s : State} (due : State → Bool) (f : State → State) (hup : s.sys.up = true) (h : due s = false) :
    run s (fun s => whenever (due s) f s) = .next s := by
  rw [run_up _ _ hup, h, whenever_false]

/-! ## A source's frame (R34) -/

theorem queueFrame_sent (r : Route) (i src since : Nat) (ws : List TWord) (f : Fab) :
    (f.queueFrame r i src since ws).sent = f.sent :=
  List.foldlRecOn (motive := fun g : Fab => g.sent = f.sent) _ _ rfl fun _ hg _ _ =>
    List.foldlRecOn (motive := fun g : Fab => g.sent = f.sent) _ _ hg fun _ h _ _ => h

theorem sendAs_sent (src seq cls seat since : Nat) (data : List Word) (s : State) :
    (sendAs src seq cls seat since data s).fab.sent =
      put [] s.fab.sent src (frameWords src seq cls seat (crcFor s src cls) data) := by
  unfold sendAs
  dsimp only
  split
  · rw [queueFrame_sent]
  · rfl

theorem tagged_ne_nil {src seq cls seat : Nat} {ws : List Word} (h : ws ≠ []) : tagged src seq cls seat ws ≠ [] := by
  match ws with
  | [] => exact absurd rfl h
  | [_] => exact List.cons_ne_nil _ _
  | _ :: _ :: _ => exact List.cons_ne_nil _ _

theorem frameWords_ne_nil {src seq cls seat : Nat} {crc : Bool} {data : List Word} (h : data ≠ []) :
    frameWords src seq cls seat crc data ≠ [] := by
  cases crc
  · exact tagged_ne_nil h
  · exact tagged_ne_nil (List.append_ne_nil_of_left_ne_nil h _)

/-- The last frame of a source is the one it has just sent, with its next SEQ. -/
theorem sendFrame_sent {src cls : Nat} {ws : List Word} (h : ws ≠ []) (s : State) : look [] (sendFrame src cls ws s).fab.sent src =
    frameWords src (look 0 s.fab.srcSeq src) cls 0 (crcFor s src cls) ws :=
  (congrArg (look [] · src) (sendAs_sent _ _ _ _ _ _ _)).trans (look_put_ne _ _ _ _ (frameWords_ne_nil h))

/-! ## Entries of channels -/

section

variable {s : State} {ch : Nat}

theorem ain_setAin_ne {v : Ain} (h : v ≠ {}) : (s.setAin ch v).ain ch = v := look_put_ne _ _ _ _ h

theorem ain_setAin_on {v : Ain} (h : v.state ≠ .off) : (s.setAin ch v).ain ch = v :=
  ain_setAin_ne fun e => h (congrArg Ain.state e)

/-- A channel whose supply flag agrees with VFLD_IN is not touched by a look at it (R180). -/
theorem supplyTrack_agrees (h : Sampling s ch) : supplyTrack ch s = s := by
  obtain ⟨hon, hsupply⟩ := h
  exact if_pos (by simp [hsupply, hon])

end

/-! ## Full-rate frames (R185) -/

section Frame

variable {s : State} {ch stamp : Nat} {samples : List Int}

theorem featTake_tail (s : State) (ch stamp : Nat) (ws : List Word) (x : Ain) : (featTake s ch stamp ws x).tail = x.tail := by
  unfold featTake
  split
  · rfl
  · dsimp only; split <;> rfl

theorem frameSamples_on {x : Ain} (h : x.tail = none) : frameSamples x stamp samples = (filtered x samples).map (fullSample x) := by
  rw [frameSamples, h]

theorem frameDue_true {x : Ain} (h : channelLive x = true ∨ x.state = .shutdown ∧ x.tail.isSome = true) : frameDue x = true := by
  simpa [frameDue] using h

/-- A complete frame is sent, and leaves its words and no owed rest with the channel. -/
theorem fullFrame_sends {ws : List Word} (hs : Sampling s ch) (hdue : frameDue (s.ain ch) = true) (hlen : samples.length = 16)
    (hws : ws = BitVec.ofNat 32 stamp :: frameSamples (s.ain ch) stamp samples) :
    ∃ x ovr, x.frame = some ws ∧ x.tail = none ∧ fullFrame ch stamp samples s =
      sendFrame (0x080 + ch) 0 ws { s with afe := { (s.setAin ch x).afe with ovr := ovr } } := by
  subst hws
  unfold fullFrame
  dsimp only
  rw [supplyTrack_agrees hs, if_neg (by simp [hdue, hlen])]
  exact ⟨_, _, rfl, featTake_tail _ _ _ _ _, rfl⟩

theorem afeFullRateFrame_acts (hup : s.sys.up = true) :
    exec (.afeFullRateFrame ch stamp samples) s = .next (fullFrame ch stamp samples s) := run_up _ _ hup

end Frame

/-! ## A bias reading (R178) -/

section Bias

variable {ch : Nat} {bias : Int} {x : Ain}

/-- A channel after a bias reading, and after the end of a latched diagnosis that it may bring. -/
def biasTaken (ch : Nat) (bias : Int) (x : Ain) : Ain := unlatch (biasJudge ch bias x)

/-- The end of a latched diagnosis is no change of state and of no flag that a sample carries. -/
theorem unlatch_flags (x : Ain) : (unlatch x).flagOpen = x.flagOpen ∧ (unlatch x).flagShort = x.flagShort ∧
    (unlatch x).state = x.state := by
  unfold unlatch; split <;> exact ⟨rfl, rfl, rfl⟩

variable (hmode : x.cfg.mode = .iepe) (hsupply : x.supply = false)

include hmode hsupply

theorem biasTaken_above (h : biasAbove ch bias = true) : (biasTaken ch bias x).flagOpen = true ∧
    (biasTaken ch bias x).flagShort = false ∧ (biasTaken ch bias x).state = x.state := by
  obtain ⟨hopen, hshort, hstate⟩ := unlatch_flags (biasJudge ch bias x)
  rw [biasTaken, hopen, hshort, hstate]
  simp [biasJudge, hmode, hsupply, h]

theorem biasTaken_below (h : biasAbove ch bias = false) (hb : biasBelow ch bias = true) : (biasTaken ch bias x).flagOpen = false ∧
    (biasTaken ch bias x).flagShort = true ∧ (biasTaken ch bias x).state = x.state := by
  obtain ⟨hopen, hshort, hstate⟩ := unlatch_flags (biasJudge ch bias x)
  rw [biasTaken, hopen, hshort, hstate]
  simp [biasJudge, hmode, hsupply, h, hb]

theorem biasTaken_within (h : biasAbove ch bias = false) (hb : biasBelow ch bias = false) (ho : x.flagOpen = false)
    (hs : x.flagShort = false) : (biasTaken ch bias x).flagOpen = false ∧
    (biasTaken ch bias x).flagShort = false ∧ (biasTaken ch bias x).state = x.state := by
  obtain ⟨hopen, hshort, hstate⟩ := unlatch_flags (biasJudge ch bias x)
  rw [biasTaken, hopen, hshort, hstate]
  simp [biasJudge, hmode, hsupply, h, hb, ho, hs]

end Bias

/-! ## Decimated samples (R186) -/

section Decimated

variable {s : State} {ch tick : Nat} {bias : Int}

/-- The flags of a decimated sample: those of its sixteen, and those of the bias reading taken with it. -/
def decimFlags (ch : Nat) (bias : Int) (x : Ain) : Word :=
  (x.accFlags &&& 0x7F000000) ||| (chanFlags (biasTaken ch bias x) &&& 0x30000000)

def decimWord (ch : Nat) (bias : Int) (x : Ain) : Word :=
  sampleWord (x.accValid && !(biasTaken ch bias x).flagOpen && !(biasTaken ch bias x).flagShort) false (decimFlags ch bias x)
    (clip24 x.accValue).1

/-- The channel after its decimated sample: the next sixteen begin. -/
def decimTaken (ch : Nat) (bias : Int) (x : Ain) : Ain :=
  { biasTaken ch bias x with accFlags := 0, accValid := true, accNew := false }

theorem decimate_sampled (hs : Sampling s ch) (hlive : channelLive (s.ain ch) = true) (hnew : (s.ain ch).accNew = true) :
    decimate ch bias s = hooked (onDecim ch) (.afeDecimatedSample ch s.now (decimWord ch bias (s.ain ch)).toNat)
      (decimReady ch (decimWord ch bias (s.ain ch))) (s.setAin ch (decimTaken ch bias (s.ain ch))) := by
  unfold decimate
  dsimp only
  rw [supplyTrack_agrees hs, if_neg (by simp [hlive, hnew])]
  rfl

theorem hookMet_setAin (v : Ain) (on : Word → Bool) : hookMet (s.setAin ch v) on = hookMet s on := rfl

/-- On a channel that stays on, a sample that no hook holds is ready for the next image, and nothing outside the front end
changes. -/
theorem afeDecimatedSample_acts (hup : s.sys.up = true) (ht : tick < s.t0 + cycleTicks) (hs : Sampling s ch)
    (hlive : channelLive (s.ain ch) = true) (hnew : (s.ain ch).accNew = true) (hhook : hookMet s (onDecim ch) = none)
    (hon : (biasTaken ch bias (s.ain ch)).state ≠ .off) :
    ∃ t, exec (.afeDecimatedSample ch tick bias) s = .next t ∧
      t.ain ch = { decimTaken ch bias (s.ain ch) with ready := some (decimWord ch bias (s.ain ch)) } ∧
      t = { s with afe := t.afe } := by
  refine ⟨_, run_due (beforeBoundary · tick) _ hup (decide_eq_true ht), ?_⟩
  have hon' : (decimTaken ch bias (s.ain ch)).state ≠ .off := hon
  rw [decimate_sampled hs hlive hnew, hooked_unmet ((hookMet_setAin _ _).trans hhook), decimReady, ain_setAin_on hon']
  exact ⟨ain_setAin_ne fun e => Option.some_ne_none _ (congrArg Ain.ready e), rfl⟩

theorem afeDecimatedSample_late (hup : s.sys.up = true) (ht : s.t0 + cycleTicks ≤ tick) :
    exec (.afeDecimatedSample ch tick bias) s = .next s :=
  run_undue (beforeBoundary · tick) _ hup (decide_eq_false ht.not_gt)

variable {x : Ain}

theorem decimFlags_valid : (decimFlags ch bias x).getLsbD 31 = false := by
  simp [decimFlags]

/-- OPEN and SHORT are those of the bias reading. -/
theorem decimFlags_bias {i : Nat} (hi : (0x30000000 : Word).getLsbD i = true)
    (h : (chanFlags (biasTaken ch bias x)).getLsbD i = true) : (decimFlags ch bias x).getLsbD i = true := by
  rw [decimFlags, BitVec.getLsbD_or, BitVec.getLsbD_and, BitVec.getLsbD_and, h, hi, Bool.and_self, Bool.or_true]

theorem decimFlags_open (h : (biasTaken ch bias x).flagOpen = true) : (decimFlags ch bias x).getLsbD 29 = true :=
  decimFlags_bias (by decide) (by rw [chanFlags_getLsbD (by decide), h]; rfl)

theorem decimFlags_short (h : (biasTaken ch bias x).flagShort = true) : (decimFlags ch bias x).getLsbD 28 = true :=
  decimFlags_bias (by decide) (by rw [chanFlags_getLsbD (by decide), h]; simp)

/-- A reading outside the window takes VALID away: the word is its flags. -/
theorem decimWord_outside (h : (biasTaken ch bias x).flagOpen = true ∨ (biasTaken ch bias x).flagShort = true) :
    decimWord ch bias x = decimFlags ch bias x := by
  have hvalid : (x.accValid && !(biasTaken ch bias x).flagOpen && !(biasTaken ch bias x).flagShort) = false := by
    rcases h with h | h <;> simp [h]
  rw [decimWord, hvalid, sampleWord_invalid]
  simp

theorem decimWord_within (ho : (biasTaken ch bias x).flagOpen = false) (hs : (biasTaken ch bias x).flagShort = false)
    (hvalid : x.accValid = true) (hflags : x.accFlags = 0) (hlow : -8388608 ≤ x.accValue) (hhigh : x.accValue ≤ 8388607) :
    decimWord ch bias x = 0x80000000 ||| (BitVec.ofInt 24 x.accValue).setWidth 32 := by
  rw [decimWord, decimFlags, chanFlags_noBias ho hs, clip24_within hlow hhigh, ho, hs, hvalid, hflags, ← sampleWord_plain]
  rfl

end Decimated

/-! ## Open and short circuits, settling (R178, R181) -/

section Supervision

variable {s : State} {ch : Nat}

theorem ainOpen_acts (hup : s.sys.up = true) (hflag : (s.ain ch).flagOpen = true) (habove : (s.ain ch).outAbove = true)
    (hrun : 16 ≤ (s.ain ch).outRun) (hnot : (s.ain ch).openL = false) : exec (.ainOpen ch) s = .next (ainOpen ch s) :=
  run_due (ainOpenDue · ch) _ hup (by simp [ainOpenDue, hflag, habove, hrun, hnot])

theorem ainShort_acts (hup : s.sys.up = true) (hflag : (s.ain ch).flagShort = true) (hbelow : (s.ain ch).outAbove = false)
    (hrun : 16 ≤ (s.ain ch).outRun) (hnot : (s.ain ch).shortL = false) : exec (.ainShort ch) s = .next (ainShort ch s) :=
  run_due (ainShortDue · ch) _ hup (by simp [ainShortDue, hflag, hbelow, hrun, hnot])

theorem ainSettlingComplete_acts (hup : s.sys.up = true) (hstate : (s.ain ch).state = .settling)
    (hrun : 3125 ≤ (s.ain ch).inRun) (hcal : (s.ain ch).calRun = false) :
    exec (.ainSettlingComplete ch) s = .next (settled ch s) :=
  run_due (settledDue · ch) _ hup (by simp [settledDue, hstate, hrun, hcal])

end Supervision

/-! ## The end of a calibration (R183) -/

section Calibration

variable {s : State} {ch tick : Nat}

theorem afeCalComplete_acts (hup : s.sys.up = true) (ht : tick < s.t0 + cycleTicks) :
    exec (.afeCalComplete ch tick) s = .next (calComplete ch s) := run_due (beforeBoundary · tick) _ hup (decide_eq_true ht)

theorem afeCalComplete_late (hup : s.sys.up = true) (ht : s.t0 + cycleTicks ≤ tick) : exec (.afeCalComplete ch tick) s = .next s :=
  run_undue (beforeBoundary · tick) _ hup (decide_eq_false ht.not_gt)

theorem calDue_true (hrun : (s.ain ch).calRun = true) (hcount : 3500 ≤ (s.ain ch).calCount) : calDue (s.ain ch) = true := by
  simp [calDue, hrun, hcount]

theorem calDue_false (h : (s.ain ch).calRun = false ∨ (s.ain ch).calCount < 3500) : calDue (s.ain ch) = false := by
  rcases h with h | h <;> simp [calDue, h]

theorem gainOk_iff (sum : Int) : gainOk sum = true ↔ 97 * sum ≤ 1048576000000 ∧ 1048576000000 ≤ 103 * sum := by
  simp only [gainOk, Bool.and_eq_true, decide_eq_true_eq]; omega

theorem calComplete_applies (hdue : calDue (s.ain ch) = true) (hok : gainOk (s.ain ch).calSum = true) :
    calComplete ch s = s.setAin ch { s.ain ch with calRun := false, calFail := false, gain := newGain (s.ain ch).calSum } :=
  (if_pos hdue).trans (if_pos hok)

/-- A factor out of its range is not applied, and the failure is reported where it is new. -/
theorem calComplete_fails (hdue : calDue (s.ain ch) = true) (hbad : gainOk (s.ain ch).calSum ≠ true) : calComplete ch s =
    if (s.ain ch).calFail then s.setAin ch { s.ain ch with calRun := false, calFail := true }
    else report 39 codeAinCalFail ch (s.setAin ch { s.ain ch with calRun := false, calFail := true }) :=
  (if_pos hdue).trans (if_neg hbad)

theorem calComplete_early (hdue : calDue (s.ain ch) = false) : calComplete ch s = s := if_neg (Bool.eq_false_iff.mp hdue)

end Calibration

/-! ## Writes of a channel (R184, R188, R189) -/

section Writes

variable {s : State} {p : Port} {ch : Nat}

theorem chanGate_admitted {old : List Word} (hw : chanWritable s ch = true) (h : Admitted s p rightOps)
    (hold : old = [if (s.ain ch).en then (1 : Word) else 0]) (new : Word) (f : State → State) :
    chanGate p ch true new f s = f (opLogged p (addrAfeCtrl ch) old [new] s) :=
  hold ▸ (if_pos hw).trans (gate_opLogged h f)

/-- A guard channel and an absent one refuse every write (R188). -/
theorem chanGate_unwritable (h : ainPresent s ch = false ∨ (s.ain ch).guard = true) (ok : Bool) (new : Word) (f : State → State) :
    chanGate p ch ok new f s = secRefuse (addrAfeCtrl ch) codeAccessRefused s :=
  if_neg (by rcases h with h | h <;> simp [chanWritable, h])

theorem afeCalRequest_acts (hup : s.sys.up = true) :
    exec (.afeCalRequest p ch) s = .next (chanGate p ch (channelLive (s.ain ch)) 3 (calStart ch) s) := run_up _ _ hup

theorem afeChannelEnable_acts (hup : s.sys.up = true) :
    exec (.afeChannelEnable p ch) s = .next (chanGate p ch true 1 (chanEnable ch) s) := run_up _ _ hup

theorem afeChannelDisable_acts (hup : s.sys.up = true) :
    exec (.afeChannelDisable p ch) s = .next (chanGate p ch true 0 (chanDisable ch) s) := run_up _ _ hup

theorem chanEnable_of_off (h : (s.ain ch).state = .off) : chanEnable ch s = channelOn ch s := by simp only [chanEnable, h]

theorem chanEnable_of_shutdown (h : (s.ain ch).state = .shutdown) :
    chanEnable ch s = s.setAin ch { s.ain ch with en := true, pending := true } := by simp only [chanEnable, h]

theorem chanDisable_of_live (h : channelLive (s.ain ch) = true) : chanDisable ch s = s.setAin ch { s.ain ch with
    en := false, state := .shutdown, calRun := false, pending := false, inRun := 0, accValid := false, accNew := false,
    tail := some (s.now, chanFlags (s.ain ch), chanValid (s.ain ch)) } := by
  obtain ⟨hoff, hshut⟩ : (s.ain ch).state ≠ .off ∧ (s.ain ch).state ≠ .shutdown := by simpa [channelLive] using h
  unfold chanDisable
  dsimp only
  split
  · next e => exact absurd e hoff
  · next e => exact absurd e hshut
  · rfl

end Writes

/-! ## The end of a shut-down (R189) -/

section Shutdown

variable {s : State} {ch : Nat}

/-- The channel is off, and its captures have ended (R260). -/
def chanEnded (ch : Nat) (s : State) : State := (abortCaps (fun c => decide (c.chan = some ch)) s).setAin ch
  { s.ain ch with state := .off, pending := false, supply := false, flagOpen := false, flagShort := false }

theorem afeShutdownComplete_acts (hup : s.sys.up = true) (hstate : (s.ain ch).state = .shutdown) (htail : (s.ain ch).tail = none)
    (hready : (s.ain ch).ready = none) : exec (.afeShutdownComplete ch) s =
      .next (if (s.ain ch).pending then channelOn ch (chanEnded ch s) else chanEnded ch s) :=
  (run_up _ _ hup).trans (congrArg Host.Outcome.next (if_pos ⟨hstate, htail, hready⟩))

theorem channelOn_settles (s : State) (ch : Nat) : ((channelOn ch s).ain ch).state = .settling ∧
    ((channelOn ch s).ain ch).calRun = true ∧ ((channelOn ch s).ain ch).en = true := by
  rw [channelOn, ain_setAin_on (fun e => AinState.noConfusion e)]
  exact ⟨rfl, rfl, rfl⟩

end Shutdown

/-! ## The statement -/

/-- Settles O25: a sample word is read bit by bit; a frame and a decimated sample are the channel's own and the frame's source's; a
write passes the gate and then has its effect on the channel as it was. -/
theorem analogChannels : Obligations.AnalogChannels := by
  refine ⟨⟨fun x v hvalid => ⟨fullSample_within hvalid, fullSample_above hvalid, fullSample_below hvalid⟩,
      fun x v hvalid => ⟨fullSample_invalid hvalid (Or.inl rfl), fun i hi => fullSample_invalid hvalid (Or.inr hi)⟩,
      fun s ch hup => ⟨fun stamp samples ws hs hon hlen hws => ?frame, fun tick bias ht hs hrun hnew hmode hsag hhook => ?decimated,
        ainOpen_acts hup, ainShort_acts hup, ainSettlingComplete_acts hup⟩⟩,
    fun s p ch hup => ⟨fun hw hadm old hold => ⟨fun hlive => ⟨_, rfl, ?request⟩,
        fun l hl => ⟨fun hoff => ?enable, fun hshut => ?hold⟩, fun l hl hlive => ?disable⟩,
      fun hno c hc => ?refused, fun tick ht hcal hcount => ⟨fun hlow hhigh => ?applied, fun hout => ?failed⟩,
      fun tick bias => afeDecimatedSample_late hup, fun tick hnot => ?early, fun hstate htail hready hpend => ?off,
      fun hstate htail hready hpend => ?again⟩⟩
  case frame =>
    obtain ⟨x, ovr, hframe, htail, hsent⟩ := fullFrame_sends hs (frameDue_true hon) hlen hws
    have hx : (s.setAin ch x).ain ch = x := ain_setAin_ne fun e => by rw [e] at hframe; cases hframe
    refine ⟨_, afeFullRateFrame_acts hup, ?_⟩
    rw [hsent]
    exact ⟨sendFrame_sent (hws ▸ List.cons_ne_nil _ _) _, (congrArg Ain.frame hx).trans hframe, (congrArg Ain.tail hx).trans htail,
      fun hnone => by rw [hws, frameSamples_on hnone], fun n hn => State.ain_setAin_other s ch n x hn, rfl⟩
  case decimated =>
    have hsupply : (s.ain ch).supply = false := by rw [hs.2, hsag, Bool.and_false]
    have hlive : channelLive (s.ain ch) = true := by simp [channelLive, hrun]
    have hacts (hkept : (biasTaken ch bias (s.ain ch)).state = (s.ain ch).state) :=
      afeDecimatedSample_acts hup ht hs hlive hnew hhook (bias := bias) (by simp [hkept, hrun])
    refine ⟨fun habove => ?_, fun hin hbelow => ?_, fun hin hin' hopen hshort hvalid hflags hlow hhigh => ?_⟩
    · obtain ⟨hopen, hshort, hkept⟩ := biasTaken_above hmode hsupply habove
      obtain ⟨t, hnext, hain, honly⟩ := hacts hkept
      refine ⟨t, _, hnext, congrArg Ain.ready hain, ?_⟩
      rw [decimWord_outside (Or.inl hopen), hain]
      exact ⟨decimFlags_valid, decimFlags_open hopen, hopen, hshort, honly⟩
    · obtain ⟨hopen, hshort, hkept⟩ := biasTaken_below hmode hsupply hin hbelow
      obtain ⟨t, hnext, hain, honly⟩ := hacts hkept
      refine ⟨t, _, hnext, congrArg Ain.ready hain, ?_⟩
      rw [decimWord_outside (Or.inr hshort), hain]
      exact ⟨decimFlags_valid, decimFlags_short hshort, hshort, hopen, honly⟩
    · obtain ⟨hopen', hshort', hkept⟩ := biasTaken_within hmode hsupply hin hin' hopen hshort
      obtain ⟨t, hnext, hain, honly⟩ := hacts hkept
      refine ⟨t, hnext, ?_, honly⟩
      rw [hain, ← decimWord_within hopen' hshort' hvalid hflags hlow hhigh]
  case request => rw [afeCalRequest_acts hup, hlive, chanGate_admitted hw hadm hold]; rfl
  case enable =>
    rw [afeChannelEnable_acts hup, chanGate_admitted hw hadm hold, ← hl, chanEnable_of_off (hl ▸ hoff), hl]; rfl
  case hold =>
    rw [afeChannelEnable_acts hup, chanGate_admitted hw hadm hold, ← hl, chanEnable_of_shutdown (hl ▸ hshut), hl]; rfl
  case disable =>
    rw [afeChannelDisable_acts hup, chanGate_admitted hw hadm hold, ← hl, chanDisable_of_live (hl ▸ hlive), hl]; rfl
  case refused =>
    simp only [List.mem_cons, List.not_mem_nil, or_false] at hc
    rcases hc with rfl | rfl | rfl
    · rw [afeCalRequest_acts hup, chanGate_unwritable hno]
    · rw [afeChannelEnable_acts hup, chanGate_unwritable hno]
    · rw [afeChannelDisable_acts hup, chanGate_unwritable hno]
  case applied =>
    rw [afeCalComplete_acts hup ht, calComplete_applies (calDue_true hcal hcount) ((gainOk_iff _).mpr ⟨hlow, hhigh⟩)]
  case failed =>
    rw [afeCalComplete_acts hup ht, calComplete_fails (calDue_true hcal hcount) (mt (gainOk_iff _).mp (by omega))]
  case early =>
    rcases hnot with hlate | hdue
    · exact afeCalComplete_late hup hlate
    · rcases lt_or_ge tick (s.t0 + cycleTicks) with ht | hlate
      · rw [afeCalComplete_acts hup ht, calComplete_early (calDue_false hdue)]
      · exact afeCalComplete_late hup hlate
  case off => rw [afeShutdownComplete_acts hup hstate htail hready, if_neg (Bool.eq_false_iff.mp hpend)]; rfl
  case again => exact ⟨_, afeShutdownComplete_acts hup hstate htail hready, by rw [if_pos hpend]; exact channelOn_settles _ ch⟩

end Sys2Proof.Machine
end

section
/-!
SUPPORT. The rings and their node addresses in the state: what a read gives after a write, what is found in a table after a write,
and the shared operations that leave every ring alone.
-/
namespace Sys2Proof.Machine

open Sys2Proof

/-! ## Tables -/

section Tables

theorem look_mem {α : Type} {d : α} {m : Tab α} {k : Nat} : look d m k = d ∨ (k, look d m k) ∈ m := by
  induction m with
  | nil => exact Or.inl rfl
  | cons e m ih =>
    obtain ⟨k', v'⟩ := e
    by_cases hk : k = k'
    · simp [look, hk]
    · rw [look, if_neg hk]
      exact ih.imp_right (List.mem_cons_of_mem _)

variable {α : Type} [DecidableEq α] {d v : α} {k : Nat}

theorem mem_put {e : Nat × α} : ∀ {m : Tab α}, e ∈ put d m k v → e ∈ m ∨ e = (k, v)
  | [], h => by
    rw [put] at h
    split at h
    · exact absurd h List.not_mem_nil
    · exact Or.inr (List.mem_singleton.mp h)
  | (k', v') :: m, h => by
    have ih : e ∈ put d m k v → e ∈ m ∨ e = (k, v) := mem_put
    rw [put] at h
    split_ifs at h <;> simp only [List.mem_cons] at h ⊢ <;> tauto

theorem put_mem_self (h : v ≠ d) : ∀ m : Tab α, (k, v) ∈ put d m k v
  | [] => by simp [put, h]
  | (k', v') :: m => by
    have ih : (k, v) ∈ put d m k v := put_mem_self h m
    rw [put]
    split_ifs <;> simp [ih]

variable {m : Tab α} {p : Nat × α → Bool}

/-- A new entry is the one found where the table had none of its kind. -/
theorem find_put_new (hv : v ≠ d) (hp : p (k, v) = true) (hm : ∀ e ∈ m, p e = false) : (put d m k v).find? p = some (k, v) := by
  obtain ⟨e, he⟩ := Option.isSome_iff_exists.mp (List.find?_isSome.mpr ⟨_, put_mem_self hv m, hp⟩)
  rcases mem_put (List.mem_of_find?_eq_some he) with hmem | rfl
  · exact absurd (List.find?_some he) (Bool.eq_false_iff.mp (hm e hmem))
  · exact he

theorem find_put_none (hp : p (k, v) = false) (hm : ∀ e ∈ m, p e = false) : (put d m k v).find? p = none := by
  refine List.find?_eq_none.mpr fun e he => Bool.eq_false_iff.mp ?_
  rcases mem_put he with hmem | rfl
  · exact hm e hmem
  · exact hp

end Tables

/-! ## Entries of rings, node addresses and nodes -/

section Entries

variable {s : State} {r a : Nat} {x : Ring} {n : RNode}

theorem State.rg_setRg_ne (h : x ≠ {}) : (s.setRg r x).rg r = x := look_put_ne _ _ _ _ h

theorem State.rg_setRg_on (h : x.state ≠ .off) : (s.setRg r x).rg r = x :=
  State.rg_setRg_ne fun e => h (congrArg Ring.state e)

theorem State.setRg_setRg {y : Ring} (h : x.state ≠ .off) : (s.setRg r x).setRg r y = s.setRg r y := by
  simp only [State.setRg, put_put (fun e => h (congrArg Ring.state e) : x ≠ {})]

theorem State.nd_setNd_ne {uid : U64} {v : Node} (h : v ≠ {}) : (s.setNd uid v).nd uid = v := look_put_ne _ _ _ _ h

theorem State.rg_of_ring {t : State} (h : t.ring = s.ring) : t.rg r = s.rg r := by rw [State.rg, State.rg, h]

theorem State.rnode_of_ring {t : State} (h : t.ring = s.ring) : t.rnode r a = s.rnode r a := by
  rw [State.rnode, State.rnode, State.rg_of_ring h]

theorem State.rg_setRnode (h : (s.rg r).state ≠ .off) :
    (s.setRnode r a n).rg r = { s.rg r with nodes := put {} (s.rg r).nodes a n } := State.rg_setRg_on h

theorem State.rnode_setRnode (h : (s.rg r).state ≠ .off) (hn : n ≠ {}) : (s.setRnode r a n).rnode r a = n := by
  rw [State.rnode, State.rg_setRnode h]
  exact look_put_ne _ _ _ _ hn

theorem State.setRnode_setRg (h : x.state ≠ .off) :
    (s.setRg r x).setRnode r a n = s.setRg r { x with nodes := put {} x.nodes a n } := by
  rw [State.setRnode, State.rg_setRg_on h, State.setRg_setRg h]

/-- An entry that is in use is not the default one. -/
theorem rnode_ne_of_state (h : n.state ≠ .free) : n ≠ {} := fun e => h (congrArg RNode.state e)

theorem ringRuns_true (h : RingRuns s r) : ringRuns (s.rg r) = true := by
  obtain ⟨hoff, hshut⟩ := h
  simp [ringRuns, hoff, hshut]

end Entries

/-! ## Operations that leave the rings alone -/

@[simp] theorem ringAlarm_ring (r code detail : Nat) (s : State) : (ringAlarm r code detail s).ring = s.ring := by
  rw [ringAlarm_only]

@[simp] theorem resetSources_ring (who : Nat) (srcs : List Nat) (s : State) : (resetSources who srcs s).ring = s.ring := rfl

theorem alarmStale_ring (src : Nat) (s : State) : (alarmStale src s).ring = s.ring :=
  foldl_keeps (part := State.ring) (fun t n => by rw [alarmNoData_only]; rfl) _ s

end Sys2Proof.Machine
end

section
/-!
SUPPORT. The conditions of a ring and of its node addresses (R204, R215, R219): when each is declared or ended and what is raised,
and the statement about them.
-/
namespace Sys2Proof.Machine

open Sys2Proof

/-! ## What is raised (R307, R407) -/

section Raised

variable {s t : State}

theorem queueFrame_routes (r : Route) (i src since : Nat) (ws : List TWord) (f : Fab) :
    (f.queueFrame r i src since ws).routes = f.routes :=
  List.foldlRecOn (motive := fun g : Fab => g.routes = f.routes) _ _ rfl fun _ hg _ _ =>
    List.foldlRecOn (motive := fun g : Fab => g.routes = f.routes) _ _ hg fun _ h _ _ => h

theorem sendAs_routes (src seq cls seat since : Nat) (data : List Word) (s : State) :
    (sendAs src seq cls seat since data s).fab.routes = s.fab.routes := by
  unfold sendAs
  dsimp only
  split
  · rw [queueFrame_routes]
  · rfl

theorem hookMet_of_hook (h : t.hook = s.hook) (on : Word → Bool) : hookMet t on = hookMet s on := by
  have hon : hookOn t on = hookOn s on := by funext n; rw [hookOn, hookOn, State.hk, State.hk, h]
  rw [hookMet, hookMet, hon, lastHeld, lastHeld, h]

/-- The hook on a route stands in the route table and the hooks alone. -/
theorem unhooked_of_routes {src cls : Nat} (hroutes : t.fab.routes = s.fab.routes) (hhook : t.hook = s.hook)
    (h : Unhooked s src cls) : Unhooked t src cls := by
  have hidx : routeIdx t src cls = routeIdx s src cls := by rw [routeIdx, routeAt_routes hroutes]; rfl
  rw [Unhooked, routeHook, hidx]
  simp only [hookMet_of_hook hhook]
  exact h

/-- A report that no hook meets is at the Umpire's line. -/
theorem emitFrom_arrives {src : Nat} (h : Unhooked s src 4) (e : Report) :
    (emitFrom (some src) e s).ump.reports = s.ump.reports ++ [e] := by
  have hsent : routeHook (sendFrame src 4 (alarmWords e) s) src 4 = none :=
    unhooked_of_routes (sendAs_routes src _ 4 0 _ _ s) rfl h
  unfold emitFrom
  dsimp only
  rw [hsent]
  dsimp only
  split
  · unfold alarmEvent; rw [pushEvent_only]; rfl
  · rfl

end Raised

/-! ## The events -/

section Events

variable {s : State} {r a : Nat}

theorem ringBreak_acts (hup : s.sys.up = true) (hruns : RingRuns s r) (hbroken : (s.rg r).broken = false)
    (hmiss : 2 ≤ (s.rg r).missRun) : exec (.ringBreak r) s = .next (ringBreak r s) :=
  run_due (fun s => breakDue s (s.rg r)) _ hup (by simp [breakDue, ringRuns_true hruns, hbroken, hmiss])

theorem ringClosed_acts (hup : s.sys.up = true) (hruns : RingRuns s r) (hbroken : (s.rg r).broken = true)
    (hboth : 16 ≤ (s.rg r).bothRun) : exec (.ringClosed r) s = .next (ringClosed r s) :=
  run_due (fun s => closedDue (s.rg r)) _ hup (by simp [closedDue, ringRuns_true hruns, hbroken, hboth])

theorem ringDown_acts (hup : s.sys.up = true) (hruns : RingRuns s r) (hdown : (s.rg r).state ≠ .down)
    (hsilent : 8 ≤ (s.rg r).silentRun) : exec (.ringDown r) s = .next (ringDown r s) :=
  run_due (fun s => downDue (s.rg r)) _ hup (by simp [downDue, ringRuns_true hruns, hdown, hsilent])

theorem nodeLost_acts (hup : s.sys.up = true) (hruns : RingRuns s r) (hstate : (s.rnode r a).state = .present)
    (hmissed : 3 ≤ (s.rnode r a).missed) : exec (.nodeLost r a) s = .next (nodeLost r a s) :=
  run_due (fun s => ringRuns (s.rg r) && lostDue (s.rnode r a)) _ hup
    (by simp [lostDue, ringRuns_true hruns, hstate, hmissed])

theorem nodeStale_acts {t0 : Nat} (hup : s.sys.up = true) (hstale : (s.rnode r a).stale = false)
    (hstamp : (s.rnode r a).stamp = some t0) (hage : t0 + (2 * (s.rnode r a).interval + 3) * 100000 < s.now) :
    exec (.nodeStale r a) s = .next (nodeStale r a s) :=
  run_due (fun s => staleDue s (s.rnode r a)) _ hup (by simp [staleDue, hstale, hstamp, hage])

/-- The address is LOST, and NODE_LOST is raised (R219). -/
def nodeGone (r a : Nat) (s : State) : State := ringAlarm r codeNodeLost a (s.setRnode r a { s.rnode r a with
  state := .lost, due := none, resendDue := false, tries := 0 })

theorem nodeGone_burst (hruns : RingRuns s r) : ((nodeGone r a s).rg r).burst = (s.rg r).burst := by
  rw [nodeGone, State.rg_of_ring (ringAlarm_ring ..), State.rg_setRnode hruns.1]

/-- A node that owns no running burst is lost alone. -/
theorem nodeLost_without_burst (hruns : RingRuns s r) (h : ∀ b, (s.rg r).burst = some b → b.addr ≠ a) :
    nodeLost r a s = nodeGone r a s := by
  change (match ((nodeGone r a s).rg r).burst with
    | some b => if b.addr = a then burstEnd r .lost (nodeGone r a s) else nodeGone r a s
    | none => nodeGone r a s) = _
  rw [nodeGone_burst hruns]
  split
  · next b hb => exact if_neg (h b hb)
  · rfl

theorem nodeStale_rnode (hruns : RingRuns s r) : (nodeStale r a s).rnode r a = { s.rnode r a with stale := true } := by
  rw [nodeStale, State.rnode_of_ring (alarmStale_ring ..)]
  exact State.rnode_setRnode hruns.1 fun e => Bool.noConfusion (congrArg RNode.stale e)

end Events

/-! ## The statement -/

/-- Settles O28: each event is due, and its effect is the condition and the alarm; NODE_LOST ends no burst of another node, and an
alarm that no hook meets is at the ring's line. -/
theorem ringConditions : Obligations.RingConditions := by
  rintro s r x hup rfl hruns
  refine ⟨ringBreak_acts hup hruns, ringClosed_acts hup hruns, ringDown_acts hup hruns, ?lost, ?stale,
    fun code detail t hu => ⟨_, emitFrom_arrives hu _, rfl, rfl, rfl⟩⟩
  case lost =>
    rintro a n rfl hstate hmissed hburst
    rw [nodeLost_acts hup hruns hstate hmissed, nodeLost_without_burst hruns hburst, nodeGone]
  case stale =>
    rintro a n t0 rfl hstale hstamp hage
    exact ⟨_, nodeStale_acts hup hstale hstamp hage, nodeStale_rnode hruns⟩

end Sys2Proof.Machine
end

section
/-!
SUPPORT. Bursts at a ring (R217, R219): what the captures of the Boathouse leave alone, and what the end of a burst and the turn of
the next one keep of the ring.
-/
namespace Sys2Proof.Machine

open Sys2Proof

/-! ## Captures (R259, R260) -/

theorem capAbort_elsewhere (c : Capture) (s : State) : (capAbort c s).ring = s.ring ∧ (capAbort c s).nvm = s.nvm := by
  have hdrop (l : List (Nat × Nat)) (t : State) :
      (l.foldl (fun t e => dropPage e.1 t) t).ring = t.ring ∧ (l.foldl (fun t e => dropPage e.1 t) t).nvm = t.nvm :=
    ⟨foldl_keeps (part := State.ring) (f := fun t e => dropPage e.1 t) (fun _ _ => rfl) l t,
      foldl_keeps (part := State.nvm) (f := fun t e => dropPage e.1 t) (fun _ _ => rfl) l t⟩
  unfold capAbort
  dsimp only
  rw [hostCapEnd_only, capFrame_only]
  exact hdrop _ _

theorem capWrite_ring (c : Capture) (stamp : Word) (ws : List Word) (s : State) : (capWrite c stamp ws s).ring = s.ring := by
  have hwords (l : List (Nat × Word)) (t : State) : (l.foldl (fun t e =>
      match (c.pages[(c.written + e.1) / 1024]?) with
      | some r => streamSlots (pageBank r.1) 1 (memPut (4096 * r.1 + 4 * ((c.written + e.1) % 1024)) e.2 t)
      | none => t) t).ring = t.ring := by
    refine foldl_keeps (part := State.ring) (fun t e => ?_) l t
    split
    · unfold streamSlots; split <;> rfl
    · rfl
  unfold capWrite
  dsimp only
  split
  · unfold capComplete
    rw [hostCapEnd_only, capFrame_only, setCap_only, setCap_only]
    exact hwords _ _
  · rw [setCap_only]
    exact hwords _ _

/-! ## A ring that is on -/

/-- Ring `r` is on, and `P` holds of it. -/
def RingHas (P : Ring → Prop) (r : Nat) (s : State) : Prop := (s.rg r).state ≠ .off ∧ P (s.rg r)

section

variable {P : Ring → Prop} {r : Nat} {s t : State}

theorem RingHas.of_ring (h : RingHas P r s) (ht : t.ring = s.ring) : RingHas P r t := by
  rw [RingHas, State.rg_of_ring ht]; exact h

theorem RingHas.setRg {v : Ring} (hstate : v.state ≠ .off) (hv : P v) : RingHas P r (s.setRg r v) := by
  rw [RingHas, State.rg_setRg_on hstate]; exact ⟨hstate, hv⟩

theorem RingHas.ringAlarm {q code detail : Nat} (h : RingHas P r s) : RingHas P r (ringAlarm q code detail s) :=
  h.of_ring (ringAlarm_ring ..)

theorem RingHas.alarmStale {src : Nat} (h : RingHas P r s) : RingHas P r (alarmStale src s) := h.of_ring (alarmStale_ring ..)

theorem RingHas.whenever {f : State → State} (h : RingHas P r s) (hf : RingHas P r (f s)) :
    ∀ c, RingHas P r (whenever c f s)
  | true => hf
  | false => h

theorem RingHas.foldl {α : Type} {f : State → α → State} (hf : ∀ t a, RingHas P r t → RingHas P r (f t a)) (l : List α)
    (h : RingHas P r s) : RingHas P r (l.foldl f s) :=
  List.foldlRecOn (motive := RingHas P r) l f h fun t ht a _ => hf t a ht

/-! ## The end of a burst -/

variable {b : Burst} {st : BurstStatus}

theorem burstCut_rg (h : (s.rg r).state ≠ .off) : (burstCut r st b s).rg r = burstEndStatus b st (s.rg r) := by
  unfold burstCut
  dsimp only
  split
  · next c _ =>
    have hrg : (capAbort c s).rg r = s.rg r := State.rg_of_ring (capAbort_elsewhere c s).1
    rw [hrg]
    exact State.rg_setRg_on h
  · exact State.rg_setRg_on h

theorem burstCut_nvm : (burstCut r st b s).nvm = s.nvm := by
  unfold burstCut
  dsimp only
  split
  · exact (capAbort_elsewhere _ _).2
  · rfl

theorem RingHas.burstCut (h : RingHas P r s) (hP : ∀ x, P x → P (burstEndStatus b st x)) : RingHas P r (burstCut r st b s) := by
  rw [RingHas, burstCut_rg h.1]; exact ⟨h.1, hP _ h.2⟩

theorem burstAbortAll_nvm : (burstAbortAll r s).nvm = s.nvm :=
  foldl_keeps (part := State.nvm) (fun _ _ => burstCut_nvm) _ _

/-- Nothing runs or waits after every burst has ended. -/
theorem burstAbortAll_empty (h : (s.rg r).state ≠ .off) :
    RingHas (fun x => x.burst = none ∧ x.queue = []) r (burstAbortAll r s) :=
  RingHas.foldl (fun _ _ ht => ht.burstCut fun _ hx => hx) _ (RingHas.setRg h ⟨rfl, rfl⟩)

/-! ## The superframe count through the end of a burst -/

variable {n : Nat}

theorem burstNext_counts : ∀ (k : Nat) {s : State}, RingHas (·.next = n) r s → RingHas (·.next = n) r (burstNext r k s)
  | 0, _, h => h
  | k + 1, s, h => by
    unfold burstNext
    dsimp only
    split
    · next b rest _ _ =>
      have h1 : RingHas (·.next = n) r (s.setRg r { s.rg r with queue := rest }) := RingHas.setRg h.1 h.2
      split
      · exact RingHas.setRg h1.1 h1.2
      · exact burstNext_counts k (h1.burstCut fun _ hx => hx)
    · exact h

theorem burstEnd_counts (h : RingHas (·.next = n) r s) : RingHas (·.next = n) r (burstEnd r st s) := by
  unfold burstEnd
  split
  · exact h
  · next b _ =>
    have h1 : RingHas (·.next = n) r (s.setRg r { s.rg r with burst := none }) := RingHas.setRg h.1 h.2
    refine burstNext_counts 9 ?_
    split
    · exact RingHas.setRg h1.1 h1.2
    · exact h1.burstCut fun _ hx => hx

end

end Sys2Proof.Machine
end

section
/-!
SUPPORT. A superframe (R205, R206, R210): the ring through what the last superframe leaves, the conditions that are due and the new
intervals; the slots, the command window and the frames that the module sends, the beacon first.
-/
namespace Sys2Proof.Machine

open Sys2Proof

section

variable {r n : Nat} {s : State}

/-! ## What comes before the beacon keeps the superframe count -/

theorem closeSuperframe_counts (h : RingHas (·.next = n) r s) : RingHas (·.next = n) r (closeSuperframe r s) := by
  unfold closeSuperframe
  dsimp only
  split
  · exact h
  · exact RingHas.setRg h.1 h.2

theorem ringBreak_counts (h : RingHas (·.next = n) r s) : RingHas (·.next = n) r (ringBreak r s) := by
  refine RingHas.ringAlarm (RingHas.setRg ?_ h.2)
  dsimp only
  split <;> exact fun e => RingState.noConfusion e

theorem ringClosed_counts (h : RingHas (·.next = n) r s) : RingHas (·.next = n) r (ringClosed r s) := by
  refine RingHas.ringAlarm (RingHas.setRg ?_ h.2)
  dsimp only
  split <;> exact fun e => RingState.noConfusion e

theorem ringDown_counts (h : RingHas (·.next = n) r s) : RingHas (·.next = n) r (ringDown r s) :=
  RingHas.ringAlarm (RingHas.setRg (fun e => RingState.noConfusion e) h.2)

theorem nodeLost_counts {a : Nat} (h : RingHas (·.next = n) r s) : RingHas (·.next = n) r (nodeLost r a s) := by
  have hgone : RingHas (·.next = n) r (nodeGone r a s) := RingHas.ringAlarm (RingHas.setRg h.1 h.2)
  change RingHas (·.next = n) r (match ((nodeGone r a s).rg r).burst with
    | some b => if b.addr = a then burstEnd r .lost (nodeGone r a s) else nodeGone r a s
    | none => nodeGone r a s)
  repeat' split
  · exact burstEnd_counts hgone
  · exact hgone
  · exact hgone

theorem nodeStale_counts {a : Nat} (h : RingHas (·.next = n) r s) : RingHas (·.next = n) r (nodeStale r a s) :=
  RingHas.alarmStale (RingHas.setRg h.1 h.2)

theorem ringSettle_counts (h : RingHas (·.next = n) r s) : RingHas (·.next = n) r (ringSettle r s) := by
  have h1 := h.whenever (ringBreak_counts h) (breakDue s (s.rg r))
  have h2 := h1.whenever (ringClosed_counts h1) (closedDue ((whenever (breakDue s (s.rg r)) (ringBreak r) s).rg r))
  refine RingHas.foldl (fun t a ht => ?_) _ (h2.whenever (ringDown_counts h2) _)
  have hlost := ht.whenever (nodeLost_counts ht (a := a)) (lostDue (t.rnode r a))
  exact hlost.whenever (nodeStale_counts hlost) _

theorem assignNode_counts {a i ph : Nat} {uid : U64} {booked : Bool} (h : RingHas (·.next = n) r s) :
    RingHas (·.next = n) r (assignNode r a uid i ph booked s) := by
  have h1 : RingHas (·.next = n) r (resetSources (ringSrc r) [nodeSrc r a] s) := h.of_ring rfl
  have h2 {m : RNode} : RingHas (·.next = n) r ((resetSources (ringSrc r) [nodeSrc r a] s).setRnode r a m) :=
    RingHas.setRg h1.1 h1.2
  exact RingHas.setRg h2.1 h2.2

theorem newIntervals_counts (h : RingHas (·.next = n) r s) : RingHas (·.next = n) r (newIntervals r s) := by
  refine RingHas.foldl (fun t e ht => ?_) _ h
  dsimp only
  repeat' split
  · exact assignNode_counts (ht.of_ring rfl)
  · exact ht
  · exact ht

/-! ## The frames of a superframe -/

theorem tagged_payloads (src seq cls seat : Nat) : ∀ ws : List Word, (tagged src seq cls seat ws).map TWord.payload = ws
  | [] => rfl
  | [_] => rfl
  | w :: v :: ws => congrArg (w :: ·) (tagged_payloads src seq cls seat (v :: ws))

theorem ringMsg_payloads (ty r node dest src seq cls : Nat) (f : RFlags) (sf : Nat) (data : List Word) :
    (ringMsg ty r node dest src seq cls f sf data).words.map Prod.snd = data := by
  rw [ringMsg, List.map_map]
  exact tagged_payloads src seq cls 0 data

/-- `y` is the ring `x` that has sent more frames. -/
def SentMore (x y : Ring) : Prop := ∃ l q, y = { x with out := x.out ++ l, seq := q }

variable {x y z : Ring}

theorem SentMore.refl (x : Ring) : SentMore x x := ⟨[], x.seq, by rw [List.append_nil]⟩

theorem SentMore.trans : SentMore x y → SentMore y z → SentMore x z := by
  rintro ⟨l, q, rfl⟩ ⟨l', q', rfl⟩
  exact ⟨l ++ l', q', by rw [List.append_assoc]⟩

theorem moduleSends_sentMore (r ty cls node : Nat) (f : RFlags) (data : List Word) (x : Ring) :
    SentMore x (moduleSends r ty cls node f data x) := ⟨_, _, rfl⟩

theorem sendCommands_sentMore (r : Nat) (x : Ring) : SentMore x (sendCommands r x) :=
  List.foldlRecOn (motive := SentMore x) _ _ (SentMore.refl x) fun _ hy _ _ => hy.trans (moduleSends_sentMore ..)

/-- The beacon is the first frame, and the module changes nothing of the ring but its frames and its SEQ. -/
theorem moduleFrames_beacon (r n : Nat) (x : Ring) : ∃ m l q, moduleFrames r n x = { x with out := m :: l, seq := q } ∧
    m.words.map Prod.snd = beaconWords n x.slots x.burst := by
  obtain ⟨l, q, h⟩ : SentMore (moduleSends r 1 3 0x1FF { restart := decide (n < 4) } (beaconWords n x.slots x.burst)
      { x with out := [] }) (moduleFrames r n x) := by
    unfold moduleFrames
    dsimp only
    split
    · exact (sendCommands_sentMore ..).trans (moduleSends_sentMore ..)
    · exact sendCommands_sentMore ..
  exact ⟨_, l, q, h, ringMsg_payloads ..⟩

/-! ## The superframe -/

theorem allocateSlots_rg (h : y.state ≠ .off) : ∃ nodes replies resends lates, (allocateSlots r (s.setRg r y)).rg r = { y with
    slots := (slotItems y).take 16, nodes := nodes, replies := replies, cntResend := resends, cntLate := lates } := by
  unfold allocateSlots
  rw [State.rg_setRg_on h]
  exact ⟨_, _, _, _, State.rg_setRg_on h⟩

/-- A ring that has opened a superframe gives its slots and sends its frames. -/
def superframeSent (r n : Nat) (y : Ring) (s : State) : State :=
  (allocateSlots r (s.setRg r y)).setRg r (moduleFrames r n ((allocateSlots r (s.setRg r y)).rg r))

/-- Superframe `n` has begun: at most 16 slots, at most 3 commands, and first the beacon that names them. -/
def SuperframeBegun (n : Nat) (x : Ring) : Prop := ∃ m, x.sf = n ∧ x.next = n + 1 ∧ x.slots.length ≤ 16 ∧ x.window.length ≤ 3 ∧
  x.out.head? = some m ∧ m.words.map Prod.snd = beaconWords n x.slots x.burst

theorem superframeSent_begun (h : y.state ≠ .off) (hsf : y.sf = n) (hnext : y.next = n + 1) (hwindow : y.window.length ≤ 3) :
    SuperframeBegun n ((superframeSent r n y s).rg r) := by
  obtain ⟨nodes, replies, resends, lates, hslots⟩ := allocateSlots_rg (s := s) (r := r) h
  obtain ⟨m, l, q, hframes, hwords⟩ := moduleFrames_beacon r n ((allocateSlots r (s.setRg r y)).rg r)
  rw [hslots] at hframes hwords
  rw [superframeSent, hslots, hframes, State.rg_setRg_on (by exact h)]
  exact ⟨m, hsf, hnext, List.length_take_le 16 _, hwindow, rfl, hwords⟩

/-- The state in which a superframe opens: the last one is closed, and what was due has come. -/
def beforeSuperframe (r : Nat) (s : State) : State := newIntervals r (ringSettle r (closeSuperframe r s))

/-- The ring as its next superframe opens at a tick. -/
def superframeOpened (now : Nat) (x : Ring) : Ring := superframeOpens { x with
  sf := x.next, next := x.next + 1, sfAt := now, state := if x.state = .start ∧ 4 ≤ x.next then .loop else x.state,
  nodes := x.nodes.map (fun e => if reportDue x.next e.2 ∧ e.2.due.isNone then (e.1, { e.2 with due := some x.next }) else e),
  window := x.cmds.take 3, cmds := x.cmds.drop 3 }

theorem superframeRun_eq (r : Nat) (s : State) : superframeRun r s = superframeSent r ((beforeSuperframe r s).rg r).next
    (superframeOpened (beforeSuperframe r s).now ((beforeSuperframe r s).rg r)) (beforeSuperframe r s) := rfl

theorem superframeOpened_on {now : Nat} (h : x.state ≠ .off) : (superframeOpened now x).state ≠ .off := by
  dsimp only [superframeOpened, superframeOpens]
  split
  · exact fun e => RingState.noConfusion e
  · exact h

theorem superframeOpened_begun (h : RingHas (·.next = n) r s) :
    SuperframeBegun n ((superframeSent r n (superframeOpened s.now (s.rg r)) s).rg r) :=
  superframeSent_begun (superframeOpened_on h.1) h.2 (congrArg (· + 1) h.2) (List.length_take_le 3 _)

theorem beforeSuperframe_counts (h : RingHas (·.next = n) r s) : RingHas (·.next = n) r (beforeSuperframe r s) :=
  newIntervals_counts (ringSettle_counts (closeSuperframe_counts h))

theorem superframeRun_begun (h : RingHas (·.next = n) r s) : SuperframeBegun n ((superframeRun r s).rg r) := by
  have hbefore := beforeSuperframe_counts h
  have hnext : ((beforeSuperframe r s).rg r).next = n := hbefore.2
  rw [superframeRun_eq, hnext]
  exact superframeOpened_begun hbefore

theorem superframe_of_runs (h : RingRuns s r) : superframe r s = superframeRun r s := by
  obtain ⟨hoff, hshut⟩ := h
  unfold superframe
  split
  · next e => exact absurd e hoff
  · next e => exact absurd e hshut
  · rfl

theorem ringSuperframeStart_acts {tick : Nat} (hup : s.sys.up = true) (h : RingRuns s r) :
    exec (.ringSuperframeStart r tick) s = .next (superframeRun r (advance tick s)) :=
  (run_up s (fun s => superframe r (advance tick s)) hup).trans (congrArg _ (superframe_of_runs (s := advance tick s) h))

end

end Sys2Proof.Machine
end

section
/-!
SUPPORT. What frames do at a ring's ports (R207 to R210, R213 to R216): a node's frame in its sequence window, reports, replies,
failing slots, announcements and failing frames, and the statement about them.
-/
namespace Sys2Proof.Machine

open Sys2Proof

section

variable {s u : State} {r a seq : Nat} {x : Ring} {n : RNode}

/-! ## A node's frame in its window (R209, R215) -/

/-- The state of a ring at which a valid frame arrives (R204). -/
def heardState (x : Ring) : RingState := if x.state = .down then (if x.broken then .split else .loop) else x.state

theorem heardState_on (hoff : x.state ≠ .off) : heardState x ≠ .off := by
  unfold heardState
  split_ifs
  · exact fun e => RingState.noConfusion e
  · exact fun e => RingState.noConfusion e
  · exact hoff

theorem ringHeard_rg (hoff : (s.rg r).state ≠ .off) :
    (ringHeard r s).rg r = { s.rg r with validSeen := true, state := heardState (s.rg r) } :=
  State.rg_setRg_on (heardState_on hoff)

/-- How far SEQ is ahead of a node's LAST. -/
def seqAhead (seq : Nat) (n : RNode) : Nat := (seq + 256 - n.last) % 256

/-- A frame with this SEQ passes the sequence window of its node (R32, R209). -/
def InSeqWindow (seq : Nat) (n : RNode) : Prop := 1 ≤ seqAhead seq n ∧ seqAhead seq n ≤ 128

theorem not_inSeqWindow (h : seqAhead seq n = 0 ∨ 128 < seqAhead seq n) : ¬InSeqWindow seq n := by
  unfold InSeqWindow; omega

/-- The entry of a node whose frame has been accepted. -/
def heardNode (seq : Nat) (n : RNode) : RNode :=
  { n with missed := 0, tries := 0, resendDue := false, last := seq % 256, lost := 0 }

/-- From `s` to `u` a frame of the node at `a` has been accepted: LAST follows it, the frames missing between count as lost, its
slot is met. -/
structure NodeAccepted (r a seq : Nat) (s u : State) : Prop where
  only : ∃ rings, u = { s with ring := rings }
  ring : ∃ st wa wb m, st ≠ .off ∧ u.rg r = { s.rg r with
    validSeen := true, state := st, wrapA := wa, wrapB := wb, met := m,
    cntLost := satAdd (s.rg r).cntLost (seqAhead seq (s.rnode r a) - 1 - (s.rnode r a).lost),
    nodes := put {} (s.rg r).nodes a (heardNode seq (s.rnode r a)) }

theorem nodeHeard_rg (hoff : (s.rg r).state ≠ .off) (hn : (s.rnode r a).state ≠ .free) : ∃ m,
    (nodeHeard r a s).rg r = { s.rg r with
      met := m, nodes := put {} (s.rg r).nodes a ({ s.rnode r a with missed := 0, tries := 0, resendDue := false }) } := by
  unfold nodeHeard
  dsimp only
  rw [if_neg hn]
  split
  · next i _ =>
    have hmet : (s.setRg r { s.rg r with met := (s.rg r).met ++ [i] }).rg r = { s.rg r with met := (s.rg r).met ++ [i] } :=
      State.rg_setRg_on hoff
    exact ⟨(s.rg r).met ++ [i], by rw [State.rg_setRnode (by rw [hmet]; exact hoff), hmet]⟩
  · exact ⟨_, State.rg_setRnode hoff⟩

/-- LAST follows the frame, and its slot is met. -/
theorem nodeHeard_last (hoff : (s.rg r).state ≠ .off) (hn : (s.rnode r a).state ≠ .free) : ∃ m,
    (nodeHeard r a (s.setRnode r a { s.rnode r a with last := seq % 256, lost := 0 })).rg r =
      { s.rg r with met := m, nodes := put {} (s.rg r).nodes a (heardNode seq (s.rnode r a)) } := by
  have hne : ({ s.rnode r a with last := seq % 256, lost := 0 } : RNode) ≠ {} := rnode_ne_of_state hn
  have hrg := State.rg_setRnode (n := { s.rnode r a with last := seq % 256, lost := 0 }) (a := a) hoff
  obtain ⟨m, h⟩ := nodeHeard_rg (s := s.setRnode r a { s.rnode r a with last := seq % 256, lost := 0 }) (r := r) (a := a)
    (by rw [hrg]; exact hoff) (by rw [State.rnode_setRnode hoff hne]; exact hn)
  exact ⟨m, by rw [h, State.rnode_setRnode hoff hne, hrg, put_put hne]; rfl⟩

/-- An accepted frame counts the frames missing before it, and one with WRAP names the wrap node of its side (R203, R216). -/
def framePassed (r a missing : Nat) (wrap sideA : Bool) (s : State) : State := s.setRg r { s.rg r with
  cntLost := satAdd (s.rg r).cntLost missing,
  wrapA := if wrap && sideA then some a else (s.rg r).wrapA, wrapB := if wrap && !sideA then some a else (s.rg r).wrapB }

/-- The state in which a frame has passed the window, before its node is heard. -/
def beforeHeard (r a seq : Nat) (wrap sideA : Bool) (s : State) : State :=
  framePassed r a (seqAhead seq (s.rnode r a) - 1 - (s.rnode r a).lost) wrap sideA (ringHeard r s)

theorem nodeAccept_eq {wrap sideA : Bool} {go : State → State} (hruns : RingRuns s r) (hn : (s.rnode r a).state ≠ .free)
    (hseq : InSeqWindow seq (s.rnode r a)) :
    nodeAccept r a seq wrap sideA go s = go (nodeHeard r a ((beforeHeard r a seq wrap sideA s).setRnode r a
      { (beforeHeard r a seq wrap sideA s).rnode r a with last := seq % 256, lost := 0 })) := by
  unfold nodeAccept
  dsimp only
  rw [if_neg (by simp [ringRuns_true hruns, hn]), if_pos ⟨hseq.1, hseq.2⟩]
  rfl

theorem beforeHeard_rg (wrap sideA : Bool) (hoff : (s.rg r).state ≠ .off) : ∃ st wa wb, st ≠ .off ∧
    (beforeHeard r a seq wrap sideA s).rg r = { s.rg r with
      validSeen := true, state := st, wrapA := wa, wrapB := wb,
      cntLost := satAdd (s.rg r).cntLost (seqAhead seq (s.rnode r a) - 1 - (s.rnode r a).lost) } := by
  refine ⟨heardState (s.rg r), if wrap && sideA then some a else (s.rg r).wrapA,
    if wrap && !sideA then some a else (s.rg r).wrapB, heardState_on hoff, ?_⟩
  rw [beforeHeard, framePassed, ringHeard_rg hoff]
  exact State.rg_setRg_on (heardState_on hoff)

/-- A frame of a bound address in the sequence window takes its effect on the state in which it is accepted. -/
theorem nodeAccept_takes {wrap sideA : Bool} {go : State → State} (hruns : RingRuns s r) (hn : (s.rnode r a).state ≠ .free)
    (hseq : InSeqWindow seq (s.rnode r a)) :
    ∃ u, nodeAccept r a seq wrap sideA go s = go u ∧ NodeAccepted r a seq s u := by
  obtain ⟨st, wa, wb, hst, hrg⟩ := beforeHeard_rg (a := a) (seq := seq) wrap sideA hruns.1
  have hnode : (beforeHeard r a seq wrap sideA s).rnode r a = s.rnode r a := by rw [State.rnode, hrg]; rfl
  obtain ⟨m, hm⟩ := nodeHeard_last (s := beforeHeard r a seq wrap sideA s) (r := r) (a := a) (seq := seq)
    (by rw [hrg]; exact hst) (by rw [hnode]; exact hn)
  refine ⟨_, nodeAccept_eq hruns hn hseq, ⟨_, by rw [nodeHeard_only]; rfl⟩, st, wa, wb, m, hst, ?_⟩
  rw [hm, hnode, hrg]

/-- Outside the window it counts as a sequence drop. -/
theorem nodeAccept_drops {wrap sideA : Bool} {go : State → State} (hruns : RingRuns s r) (hn : (s.rnode r a).state ≠ .free)
    (hseq : ¬InSeqWindow seq (s.rnode r a)) :
    nodeAccept r a seq wrap sideA go s =
      (ringHeard r s).setRg r { (ringHeard r s).rg r with cntSeqdrop := satInc (s.rg r).cntSeqdrop } := by
  unfold nodeAccept
  dsimp only
  rw [if_neg (by simp [ringRuns_true hruns, hn]), if_neg (by exact hseq)]
  change (ringHeard r s).setRg r { (ringHeard r s).rg r with cntSeqdrop := satInc ((ringHeard r s).rg r).cntSeqdrop } = _
  rw [ringHeard_rg hruns.1]

theorem NodeAccepted.on (h : NodeAccepted r a seq s u) : (u.rg r).state ≠ .off := by
  obtain ⟨st, wa, wb, m, hst, hrg⟩ := h.ring
  rw [hrg]; exact hst

theorem NodeAccepted.node (h : NodeAccepted r a seq s u) (hn : (s.rnode r a).state ≠ .free) :
    u.rnode r a = heardNode seq (s.rnode r a) := by
  obtain ⟨st, wa, wb, m, hst, hrg⟩ := h.ring
  rw [State.rnode, hrg]
  exact look_put_ne _ _ _ _ (rnode_ne_of_state hn)

theorem NodeAccepted.cntLost (h : NodeAccepted r a seq s u) : (u.rg r).cntLost =
    satAdd (s.rg r).cntLost (seqAhead seq (s.rnode r a) - 1 - (s.rnode r a).lost) := by
  obtain ⟨st, wa, wb, m, hst, hrg⟩ := h.ring
  rw [hrg]

theorem NodeAccepted.kept (h : NodeAccepted r a seq s u) : (u.rg r).replies = (s.rg r).replies ∧
    (u.rg r).burst = (s.rg r).burst ∧ (u.rg r).burstMet = (s.rg r).burstMet := by
  obtain ⟨st, wa, wb, m, hst, hrg⟩ := h.ring
  rw [hrg]
  exact ⟨rfl, rfl, rfl⟩

/-! ## Reports (R210, R215) -/

/-- The entry of an address whose report is stored. -/
def reportedNode (now : Nat) (rep : RingReport) (n : RNode) : RNode :=
  { n with lv := rep.values, stamp := some now, seq := BitVec.ofNat 8 rep.seq, sensor := rep.sensor, stale := false }

theorem reportStore_bound {rep : RingReport} (hn : (s.rnode r rep.addr).state ≠ .free) :
    reportStore r rep s = sendAs (nodeSrc r rep.addr) (rep.seq % 256) 1 0 (3 * s.now) rep.values
      (s.setRnode r rep.addr (reportedNode s.now rep (s.rnode r rep.addr))) := if_neg hn

/-- A report in the window that no hook holds is stored, and its values go out from the node's identity. -/
theorem ringReport_accepts {rep : RingReport} (hruns : RingRuns s r) (hn : (s.rnode r rep.addr).state ≠ .free)
    (hseq : InSeqWindow rep.seq (s.rnode r rep.addr))
    (hhook : hookMet s (onNode r rep.addr) = none) :
    ∃ u, NodeAccepted r rep.addr rep.seq s u ∧ ringReport r rep s =
      sendAs (nodeSrc r rep.addr) (rep.seq % 256) 1 0 (3 * s.now) rep.values
        (u.setRnode r rep.addr (reportedNode s.now rep (heardNode rep.seq (s.rnode r rep.addr)))) := by
  obtain ⟨u, hgo, hacc⟩ := nodeAccept_takes (wrap := rep.wrap) (sideA := rep.sideA)
    (go := hooked (onNode r rep.addr) (.ringReportReceive r rep) (reportStore r rep)) hruns hn hseq
  have hnode := hacc.node hn
  obtain ⟨rings, rfl⟩ := hacc.only
  refine ⟨_, hacc, hgo.trans ?_⟩
  rw [hooked_unmet (s := { s with ring := rings }) hhook, reportStore_bound (by rw [hnode]; exact hn), hnode]

theorem ringReportReceive_stores {rep : RingReport} (hup : s.sys.up = true) (hruns : RingRuns s r)
    (hn : (s.rnode r rep.addr).state ≠ .free) (hseq : InSeqWindow rep.seq (s.rnode r rep.addr))
    (hhook : hookMet s (onNode r rep.addr) = none) :
    ∃ t, exec (.ringReportReceive r rep) s = .next t ∧
      t.rnode r rep.addr = reportedNode s.now rep (heardNode rep.seq (s.rnode r rep.addr)) ∧
      (t.rg r).cntLost = satAdd (s.rg r).cntLost
        (seqAhead rep.seq (s.rnode r rep.addr) - 1 - (s.rnode r rep.addr).lost) ∧
      t.fab = (sendAs (nodeSrc r rep.addr) (rep.seq % 256) 1 0 (3 * s.now) rep.values s).fab ∧
      t = { s with ring := t.ring, fab := t.fab } := by
  obtain ⟨u, hacc, hreport⟩ := ringReport_accepts hruns hn hseq hhook
  have hcount := hacc.cntLost
  have hon := hacc.on
  obtain ⟨rings, rfl⟩ := hacc.only
  exact ⟨_, run_gives hup hreport, State.rnode_setRnode hon (rnode_ne_of_state hn),
    (congrArg Ring.cntLost (State.rg_setRnode hon)).trans hcount, rfl, rfl⟩

theorem ringReportReceive_drops {rep : RingReport} (hup : s.sys.up = true) (hruns : RingRuns s r)
    (hn : (s.rnode r rep.addr).state ≠ .free) (hseq : ¬InSeqWindow rep.seq (s.rnode r rep.addr)) :
    exec (.ringReportReceive r rep) s = .next
      ((ringHeard r s).setRg r { (ringHeard r s).rg r with cntSeqdrop := satInc (s.rg r).cntSeqdrop }) :=
  run_gives hup (nodeAccept_drops hruns hn hseq)

/-! ## Replies (R210) -/

theorem replyTaken_rg {ws : List Word} (hoff : (s.rg r).state ≠ .off) : (replyTaken r a ws s).rg r = { s.rg r with
    nodes := put {} (s.rg r).nodes a ({ s.rnode r a with ident := ws }), replies := (s.rg r).replies.erase a } := by
  have hrg := State.rg_setRnode (n := { s.rnode r a with ident := ws }) (a := a) hoff
  change (State.setRg _ r { (s.setRnode r a { s.rnode r a with ident := ws }).rg r with replies := _ }).rg r = _
  rw [hrg]
  exact State.rg_setRg_on hoff

theorem ringReplyReceive_takes {ws : List Word} {sideA : Bool} (hup : s.sys.up = true) (hruns : RingRuns s r)
    (hn : (s.rnode r a).state ≠ .free) (hseq : InSeqWindow seq (s.rnode r a)) :
    ∃ t, exec (.ringReplyReceive r a ⟨seq, sideA⟩ ws) s = .next t ∧
      t.rnode r a = { heardNode seq (s.rnode r a) with ident := ws } ∧ (t.rg r).replies = (s.rg r).replies.erase a ∧
      t.node = (s.setNd (s.rnode r a).uid { s.nd (s.rnode r a).uid with identDue := false }).node ∧
      t = { s with ring := t.ring, node := t.node } := by
  obtain ⟨u, hgo, hacc⟩ := nodeAccept_takes (wrap := false) (sideA := sideA) (go := replyTaken r a ws) hruns hn hseq
  have hnode := hacc.node hn
  have htaken := replyTaken_rg (a := a) (ws := ws) hacc.on
  have hreplies := hacc.kept.1
  obtain ⟨rings, rfl⟩ := hacc.only
  refine ⟨_, run_gives hup hgo, ?_, ?_, ?_, rfl⟩
  · rw [State.rnode, htaken, hnode]
    exact look_put_ne _ _ _ _ (rnode_ne_of_state hn)
  · rw [htaken, hreplies]
  · rw [replyTaken, hnode]; rfl

/-! ## Failing slots (R216) -/

/-- The slot is judged, and its owner's entry is `n` now. -/
def slotJudged (r a i : Nat) (n : RNode) (s : State) : State :=
  (s.setRg r { s.rg r with met := (s.rg r).met ++ [i] }).setRnode r a n

theorem slotJudged_rg {i : Nat} (hoff : (s.rg r).state ≠ .off) : (slotJudged r a i n s).rg r =
    { s.rg r with met := (s.rg r).met ++ [i], nodes := put {} (s.rg r).nodes a n } := by
  have hmet : (s.setRg r { s.rg r with met := (s.rg r).met ++ [i] }).rg r = { s.rg r with met := (s.rg r).met ++ [i] } :=
    State.rg_setRg_on hoff
  rw [slotJudged, State.rg_setRnode (by rw [hmet]; exact hoff), hmet]

/-- The failing frame's owner gets a resend slot, at most twice. -/
theorem slotFail_resends {i : Nat} (hruns : RingRuns s r) (hopen : openSlot (s.rg r) a = some i)
    (hstate : (s.rnode r a).state = .present) (htries : (s.rnode r a).tries < 2) :
    slotFail r a s = slotJudged r a i { s.rnode r a with resendDue := true } s := by
  unfold slotFail
  dsimp only
  rw [hopen]
  exact (if_pos (by simp [ringRuns_true hruns, hstate])).trans (if_pos htries)

/-- The owner's entry when both resends have failed too. -/
def missedNode (n : RNode) : RNode := { n with tries := 0, missed := n.missed + 1, lost := n.lost + 1 }

/-- The frame is lost, and the slot counts towards NODE_LOST. -/
def slotLost (r a i : Nat) (s : State) : State :=
  let u := slotJudged r a i (missedNode (s.rnode r a)) s
  u.setRg r { u.rg r with cntLost := satInc (u.rg r).cntLost }

theorem slotLost_rg {i : Nat} (hoff : (s.rg r).state ≠ .off) : (slotLost r a i s).rg r = { s.rg r with
    met := (s.rg r).met ++ [i], nodes := put {} (s.rg r).nodes a (missedNode (s.rnode r a)),
    cntLost := satInc (s.rg r).cntLost } := by
  rw [slotLost, slotJudged_rg hoff]
  exact State.rg_setRg_on hoff

theorem slotLost_rnode {i : Nat} (hoff : (s.rg r).state ≠ .off) (hn : (s.rnode r a).state ≠ .free) :
    (slotLost r a i s).rnode r a = missedNode (s.rnode r a) := by
  rw [State.rnode, slotLost_rg hoff]
  exact look_put_ne _ _ _ _ (rnode_ne_of_state hn)

/-- The first two slots so missed are no NODE_LOST yet. -/
theorem slotFail_loses {i : Nat} (hruns : RingRuns s r) (hopen : openSlot (s.rg r) a = some i)
    (hstate : (s.rnode r a).state = .present) (htries : 2 ≤ (s.rnode r a).tries) (hmissed : (s.rnode r a).missed < 2) :
    slotFail r a s = slotLost r a i s := by
  have hkept : lostDue ((slotLost r a i s).rnode r a) = false := by
    rw [slotLost_rnode hruns.1 (by rw [hstate]; exact fun e => NodeState.noConfusion e)]
    have hfew : ¬3 ≤ (s.rnode r a).missed + 1 := by omega
    simp [lostDue, missedNode, hfew]
  have hwhen : slotFail r a s = whenever (lostDue ((slotLost r a i s).rnode r a)) (nodeLost r a) (slotLost r a i s) := by
    unfold slotFail
    dsimp only
    rw [hopen]
    exact (if_pos (by simp [ringRuns_true hruns, hstate])).trans (if_neg htries.not_gt)
  rw [hwhen, hkept, whenever_false]

/-! ## Announcements (R213, R214) -/

/-- The ring at which the superframe's one ANNOUNCE has been accepted. -/
def announced (r : Nat) (s : State) : State := (ringHeard r s).setRg r { (ringHeard r s).rg r with answered := true }

theorem announced_rg (hoff : (s.rg r).state ≠ .off) :
    (announced r s).rg r = { s.rg r with validSeen := true, state := heardState (s.rg r), answered := true } := by
  rw [announced, ringHeard_rg hoff]
  exact State.rg_setRg_on (heardState_on hoff)

/-- The address that an ANNOUNCE's answer has bound keeps the node's type. -/
def kindKept (r : Nat) (uid : U64) (kind : Word) (s : State) : State :=
  match boundTo (s.rg r) uid with
  | some (a, n) => s.setRnode r a { n with kind }
  | none => s

theorem kindKept_bound {uid : U64} {kind : Word} (h : boundTo (s.rg r) uid = some (a, n)) :
    kindKept r uid kind s = s.setRnode r a { n with kind } := by rw [kindKept, h]

theorem kindKept_unbound {uid : U64} {kind : Word} (h : boundTo (s.rg r) uid = none) : kindKept r uid kind s = s := by
  rw [kindKept, h]

theorem announce_due {uid : U64} {kind : Word} (hruns : RingRuns s r) (hanswered : (s.rg r).answered = false)
    (hsf : 4 ≤ (s.rg r).sf) : announce r uid kind s = kindKept r uid kind (announceRow r uid (announced r s)) :=
  if_pos (by simp [announceDue, ringRuns_true hruns, hanswered, hsf])

theorem announce_undue {uid : U64} {kind : Word} (h : (s.rg r).answered = true ∨ (s.rg r).sf < 4) : announce r uid kind s = s :=
  if_neg (by rcases h with h | h <;> simp [announceDue, h])

theorem boundTo_none {uid : U64} (h : ∀ e ∈ x.nodes, e.2.uid ≠ uid) : boundTo x uid = none :=
  List.find?_eq_none.mpr fun e he => by simp [h e he]

theorem announceRow_parks {uid : U64} (hnode : ∀ e ∈ (s.rg r).nodes, e.2.uid ≠ uid) (hbook : ∀ b ∈ (s.rg r).cfg.book, b.1 ≠ uid)
    (hauto : (s.rg r).cfg.auto = false) : announceRow r uid s = parkNode r uid 4 s := by
  have hfind : (s.rg r).cfg.book.find? (fun b => decide (b.1 = uid)) = none :=
    List.find?_eq_none.mpr fun b hb => by simp [hbook b hb]
  simp only [announceRow, boundTo_none hnode, hfind, hauto, Bool.not_false, if_true]

theorem announceRow_books {uid b : U64} {i : Nat} (hnode : ∀ e ∈ (s.rg r).nodes, e.2.uid ≠ uid)
    (hbook : (s.rg r).cfg.book.find? (fun b => decide (b.1 = uid)) = some (b, a, i)) :
    ∃ ph k, ph < max 1 i ∧ announceRow r uid s = assignNode r a uid i ph true { s with fresh := k } := by
  refine ⟨(Config.freeWord s.fresh).toNat % max 1 i, s.fresh + 1,
    Nat.mod_lt _ (Nat.lt_of_lt_of_le Nat.one_pos (Nat.le_max_left 1 i)), ?_⟩
  simp only [announceRow, boundTo_none hnode, hbook]
  rfl

/-- The entry of an address that an ASSIGN binds. -/
def assignedNode (uid : U64) (i ph : Nat) (booked : Bool) (n : RNode) : RNode := { n with
  state := .present, reason := 0, uid, interval := i, phase := ph, booked, missed := 0, tries := 0, resendDue := false,
  due := none, late := false, last := 255, lost := 0 }

/-- An address takes an entry, and a command goes to the next window. -/
theorem setRnode_command {c : List (Nat × Nat × List Word)} (hoff : (s.rg r).state ≠ .off) :
    (s.setRnode r a n).setRg r { (s.setRnode r a n).rg r with cmds := ((s.setRnode r a n).rg r).cmds ++ c } =
      s.setRg r { s.rg r with nodes := put {} (s.rg r).nodes a n, cmds := (s.rg r).cmds ++ c } := by
  rw [State.rg_setRnode hoff]
  exact State.setRg_setRg hoff

theorem assignNode_eq {uid : U64} {i ph : Nat} {booked : Bool} (hoff : (s.rg r).state ≠ .off) : assignNode r a uid i ph booked s =
    (resetSources (ringSrc r) [nodeSrc r a] s).setRg r { s.rg r with
      nodes := put {} (s.rg r).nodes a (assignedNode uid i ph booked (s.rnode r a)),
      cmds := (s.rg r).cmds ++ [(1, a, uidWords uid ++ [pack [(ph, 0, 16), (i, 16, 16)]])] } := by
  have hrg : (resetSources (ringSrc r) [nodeSrc r a] s).rg r = s.rg r := State.rg_of_ring (resetSources_ring ..)
  have hnode : (resetSources (ringSrc r) [nodeSrc r a] s).rnode r a = s.rnode r a := State.rnode_of_ring (resetSources_ring ..)
  rw [← hrg, ← hnode]
  exact setRnode_command (by rw [hrg]; exact hoff)

/-- After an ASSIGN the UID is bound at its address. -/
theorem assignNode_binds {uid : U64} {i ph : Nat} {booked : Bool} (hoff : (s.rg r).state ≠ .off)
    (hnode : ∀ e ∈ (s.rg r).nodes, e.2.uid ≠ uid) : ∃ y fab, assignNode r a uid i ph booked s = { s with fab := fab }.setRg r y ∧
      y.state = (s.rg r).state ∧
      y.cmds = (s.rg r).cmds ++ [(1, a, uidWords uid ++ [pack [(ph, 0, 16), (i, 16, 16)]])] ∧
      boundTo y uid = some (a, assignedNode uid i ph booked (s.rnode r a)) :=
  ⟨_, _, assignNode_eq hoff, rfl, rfl, find_put_new (fun e => NodeState.noConfusion (congrArg RNode.state e))
    (by simp [assignedNode]) fun e he => by simp [hnode e he]⟩

/-- PARK changes the ring in its commands and, at most, in a free address that takes the reason. -/
theorem parkNode_unbound {uid : U64} {reason : Nat} (hr : r < 4) (hoff : (s.rg r).state ≠ .off)
    (hnode : ∀ e ∈ (s.rg r).nodes, e.2.uid ≠ uid) : ∃ y e, parkNode r uid reason s = atUmpire e (s.setRg r y) ∧
      y.state = (s.rg r).state ∧ y.cmds = (s.rg r).cmds ++ [(5, 0x1FF, uidWords uid)] ∧ boundTo y uid = none ∧
      e.line = 41 + r ∧ e.code = codeNodeParked := by
  have hold : (s.rg r).nodes.find? (fun e => decide (e.2.uid = uid) && decide (e.2.state ≠ .free)) = none :=
    List.find?_eq_none.mpr fun e he => by simp [hnode e he]
  have hline : lineSrc (41 + r) = none := (by decide : ∀ r < 4, lineSrc (41 + r) = none) r hr
  unfold parkNode
  dsimp only
  rw [hold]
  dsimp only
  rw [report_direct hline]
  split
  · next a _ =>
    rw [State.setRnode_setRg (by exact hoff)]
    exact ⟨_, _, rfl, rfl, rfl, find_put_none (by simp) fun e he => by simp [hnode e he], rfl, rfl⟩
  · exact ⟨_, _, rfl, rfl, rfl, boundTo_none hnode, rfl, rfl⟩


section

variable {uid : U64} {kind : Word} (hup : s.sys.up = true) (hruns : RingRuns s r) (hanswered : (s.rg r).answered = false)
  (hsf : 4 ≤ (s.rg r).sf) (hnode : ∀ e ∈ (s.rg r).nodes, e.2.uid ≠ uid)

include hup hruns hanswered hsf hnode

/-- A UID that is not booked on a ring without AUTO is parked (R214). -/
theorem ringAnnounceReceive_parks (hr : r < 4) (hbook : ∀ b ∈ (s.rg r).cfg.book, b.1 ≠ uid) (hauto : (s.rg r).cfg.auto = false) :
    ∃ t e, exec (.ringAnnounceReceive r ⟨uid, kind⟩) s = .next t ∧
      (t.rg r).cmds = (s.rg r).cmds ++ [(5, 0x1FF, uidWords uid)] ∧ t.ump.reports = s.ump.reports ++ [e] ∧ e.line = 41 + r ∧
      e.code = codeNodeParked ∧ t = { s with ring := t.ring, ump := t.ump } := by
  have hrg := announced_rg hruns.1
  have hon : ((announced r s).rg r).state ≠ .off := by rw [hrg]; exact heardState_on hruns.1
  obtain ⟨y, e, hpark, hstate, hcmds, hbound, hline, hcode⟩ :=
    parkNode_unbound (uid := uid) (reason := 4) hr hon (by rw [hrg]; exact hnode)
  have hy : (atUmpire e ((announced r s).setRg r y)).rg r = y := State.rg_setRg_on (by rw [hstate]; exact hon)
  have hrow : announceRow r uid (announced r s) = atUmpire e ((announced r s).setRg r y) :=
    (announceRow_parks (by rw [hrg]; exact hnode) (by rw [hrg]; exact hbook) (by rw [hrg]; exact hauto)).trans hpark
  have hgives : announce r uid kind s = atUmpire e ((announced r s).setRg r y) := by
    rw [announce_due hruns hanswered hsf, hrow, kindKept_unbound (by rw [hy]; exact hbound)]
  refine ⟨_, e, run_gives hup hgives, ?_, rfl, hline, hcode, rfl⟩
  rw [hy, hcmds, hrg]

/-- A booked UID is bound to its address (R214). -/
theorem ringAnnounceReceive_books {b : U64} {i : Nat}
    (hbook : (s.rg r).cfg.book.find? (fun b => decide (b.1 = uid)) = some (b, a, i)) :
    ∃ t ph, exec (.ringAnnounceReceive r ⟨uid, kind⟩) s = .next t ∧ ph < max 1 i ∧
      t.rnode r a = { assignedNode uid i ph true (s.rnode r a) with kind } ∧
      (t.rg r).cmds = (s.rg r).cmds ++ [(1, a, uidWords uid ++ [pack [(ph, 0, 16), (i, 16, 16)]])] ∧
      t = { s with ring := t.ring, fab := t.fab, fresh := t.fresh } := by
  have hrg := announced_rg hruns.1
  have hon : ((announced r s).rg r).state ≠ .off := by rw [hrg]; exact heardState_on hruns.1
  have hentry : (announced r s).rnode r a = s.rnode r a := by rw [State.rnode, hrg]; rfl
  have hnew : ∀ e ∈ ((announced r s).rg r).nodes, e.2.uid ≠ uid := by rw [hrg]; exact hnode
  have hcmds : ((announced r s).rg r).cmds = (s.rg r).cmds := by rw [hrg]
  obtain ⟨ph, k, hph, hrow⟩ := announceRow_books hnew (by rw [hrg]; exact hbook)
  obtain ⟨y, fab, hassign, hstate, hy, hbound⟩ := assignNode_binds (s := { announced r s with fresh := k }) (a := a) (i := i)
    (ph := ph) (booked := true) hon hnew
  have hyon : y.state ≠ .off := by rw [hstate]; exact hon
  have hgives : announce r uid kind s = State.setRnode (State.setRg { announced r s with fresh := k, fab := fab } r y) r a
      { assignedNode uid i ph true ((announced r s).rnode r a) with kind } := by
    rw [announce_due hruns hanswered hsf, hrow, hassign, kindKept_bound (by rw [State.rg_setRg_on hyon]; exact hbound)]
    rfl
  rw [State.setRnode_setRg hyon, hentry] at hgives
  refine ⟨_, ph, run_gives hup hgives, hph, ?_, ?_, rfl⟩
  · rw [State.rnode, State.rg_setRg_on (by exact hyon)]
    exact look_put_ne _ _ _ _ fun e => NodeState.noConfusion (congrArg RNode.state e)
  · rw [State.rg_setRg_on (by exact hyon)]
    exact hy.trans (congrArg (· ++ _) hcmds)

end

/-! ## Frames that fail their check (R209, R216) -/

/-- The ring has counted a frame that failed its check. -/
def crcCounted (r : Nat) (s : State) : State := s.setRg r { s.rg r with cntCrc := satInc (s.rg r).cntCrc }

theorem ringFrameReceive_fails {f : RingFrame} (hup : s.sys.up = true) (hruns : RingRuns s r) (hport : f.at' = .portA)
    (hcrc : (hcrc8 f.header).toNat ≠ bits f.header 7 0) :
    exec (.ringFrameReceive r f) s = .next (regionFail r f (crcCounted r s)) := by
  have hbad : ringFrameOk r f = false := by simp [ringFrameOk, hcrc]
  refine run_gives hup ?_
  unfold ringFrame portFrame
  rw [hport]
  dsimp only
  rw [ringRuns_true hruns, hbad]
  rfl

theorem regionFail_elsewhere {f : RingFrame} (h : 16 < f.region) : regionFail r f s = s :=
  (if_neg (by omega)).trans (if_neg (by omega))

theorem regionFail_slot {f : RingFrame} {k : SlotKind} (h : f.region < 16) (hslot : (s.rg r).slots[f.region]? = some (a, k)) :
    regionFail r f s = slotFail r a s := by
  rw [regionFail, if_pos h, hslot]

end

/-! ## The statement -/

/-- Settles O29: a superframe keeps the ring's count through all that precedes its beacon; a frame in the window takes effect on
the state in which it is accepted; a failing slot and an ANNOUNCE take the row that the entry of the address or the UID calls
for. -/
theorem ringTraffic : Obligations.RingTraffic := by
  rintro s r x hup rfl hruns
  refine ⟨fun tick => ?superframe, ?report, fun a seq ws sideA hn hlow hhigh => ?reply,
    fun a i hopen hstate => ⟨fun htries => ?resend, fun htries hmissed => ?lost⟩,
    fun uid kind hr hanswered hsf hnode => ⟨fun hbook hauto => ?park, fun b a i hbook => ?book⟩,
    fun h uid kind => run_gives hup (announce_undue h),
    fun f hport hcrc => ⟨fun hregion => ?elsewhere, fun a k hregion hslot => ?slot⟩⟩
  case superframe =>
    obtain ⟨m, hm⟩ := superframeRun_begun (s := advance tick s) ⟨hruns.1, rfl⟩
    exact ⟨_, m, ringSuperframeStart_acts hup hruns, hm⟩
  case report =>
    rintro rep n d rfl hn rfl
    exact ⟨fun hlow hhigh hhook => ringReportReceive_stores hup hruns hn ⟨hlow, hhigh⟩ hhook,
      fun h => ringReportReceive_drops hup hruns hn (not_inSeqWindow h)⟩
  case reply =>
    obtain ⟨t, hnext, hentry, hreplies, hnode, honly⟩ :=
      ringReplyReceive_takes (ws := ws) (sideA := sideA) hup hruns hn ⟨hlow, hhigh⟩
    exact ⟨t, hnext, congrArg RNode.ident hentry, congrArg RNode.last hentry, hreplies, hnode, honly⟩
  case resend =>
    have hrg := slotJudged_rg (a := a) (i := i) (n := { s.rnode r a with resendDue := true }) hruns.1
    refine ⟨_, run_gives hup (slotFail_resends hruns hopen hstate htries), ?_, congrArg Ring.met hrg, rfl⟩
    rw [State.rnode, hrg]
    exact look_put_ne _ _ _ _ fun e => Bool.noConfusion (congrArg RNode.resendDue e)
  case lost =>
    have hn : (s.rnode r a).state ≠ .free := by rw [hstate]; exact fun e => NodeState.noConfusion e
    exact ⟨_, run_gives hup (slotFail_loses hruns hopen hstate htries hmissed), slotLost_rnode hruns.1 hn,
      congrArg Ring.cntLost (slotLost_rg hruns.1), rfl⟩
  case park => exact ringAnnounceReceive_parks hup hruns hanswered hsf hnode hr hbook hauto
  case book =>
    obtain ⟨t, ph, hnext, hph, hentry, hcmds, honly⟩ :=
      ringAnnounceReceive_books (kind := kind) hup hruns hanswered hsf hnode hbook
    refine ⟨t, ph, hnext, ?_⟩
    rw [hentry]
    exact ⟨rfl, rfl, rfl, rfl, hph, rfl, rfl, hcmds, honly⟩
  case elsewhere => rw [ringFrameReceive_fails hup hruns hport hcrc, regionFail_elsewhere hregion]; rfl
  case slot =>
    rw [ringFrameReceive_fails hup hruns hport hcrc, regionFail_slot hregion]
    · rfl
    · rw [crcCounted, State.rg_setRg_on (by exact hruns.1)]; exact hslot

end Sys2Proof.Machine
end

section
/-!
SUPPORT. Bursts requested and received, and a ring's start and shut-down (R217, R218, R220): why a request is refused, the burst
that an accepted one queues or starts, the samples of a BURST frame, what RING_CTRL.EN does, and the statement about them.
-/
namespace Sys2Proof.Machine

open Sys2Proof

section

variable {s : State} {r : Nat} {x : Ring} {b : BurstReq}

/-! ## Refused requests (R217, R220) -/

theorem ringBurstRequest_acts (hup : s.sys.up = true) (hpresent : ringPresent s r = true) :
    exec (.ringBurstRequest r b) s = .next (burstRequest r b s).2 :=
  run_due (ringPresent · r) (fun t => (burstRequest r b t).2) hup hpresent

theorem burstRequest_reduced (h : reducedNow s = true) : burstRequest r b s = (false, burstRefuse r .reduced b s) := if_pos h

theorem burstRequest_full (hpower : reducedNow s = false) (hruns : RingRuns s r) (hburst : (s.rg r).burst.isSome = true)
    (hqueue : 8 ≤ (s.rg r).queue.length) : burstRequest r b s = (false, burstRefuse r .qFull b s) := by
  simp [burstRequest, hpower, ringRuns_true hruns, hburst, hqueue]

theorem burstRefuse_host {st : BurstStatus} (h : b.src = 0x400) : burstRefuse r st b s = s.setRg r { s.rg r with status := st } :=
  if_pos h

theorem burstRefuse_task {st : BurstStatus} (h : b.src ≠ 0x400) : burstRefuse r st b s = s := if_neg h

/-- The request that the fields of RING_BURST_CMD make (R220). -/
def hostBurst (v : Word) : BurstReq := { src := 0x400, addr := bits v 8 0, rate := bits v 11 9, countM1 := bits v 31 16 }

theorem ringBurstCmdWrite_acts {p : Port} {v : Word} {ok : Bool} {t : State} (hup : s.sys.up = true)
    (hpresent : ringPresent s r = true) (h : burstRequest r (hostBurst v) s = (ok, t)) :
    exec (.ringBurstCmdWrite p r v) s = .next (if ok then t else refuse (addrRing r 0x40) t) := by
  refine run_gives hup ((if_pos hpresent).trans ?_)
  change (match burstRequest r (hostBurst v) s with | (ok, s1) => if ok then s1 else refuse (addrRing r 0x40) s1) = _
  rw [h]

/-! ## Accepted requests (R217, R257) -/

theorem allocate_grants {h n cap replies : Nat} (hbudget : (heldPages s h).length + n ≤ budgetOf s h)
    (hfree : n ≤ (freePages s).length) : ∃ refs u, allocate h n cap replies s = (.pages refs, u) ∧ u.ring = s.ring := by
  unfold allocate
  dsimp only
  rw [if_neg hbudget.not_gt, if_neg hfree.not_gt]
  exact ⟨_, _, rfl, foldl_keeps (part := State.ring) (f := fun t p => takePage h cap p t) (fun _ _ => rfl) _ _⟩

/-- The burst that a request asks for, with its capture. -/
def requestedBurst (b : BurstReq) (cap : Nat) : Burst :=
  { src := b.src, addr := b.addr % 512, rate := b.rate % 8, count := b.countM1 % 65536 + 1, cap }

/-- The ring with a requested burst at the end of its queue. -/
def burstQueued (b : BurstReq) (cap : Nat) (x : Ring) : Ring :=
  { x with queue := x.queue ++ [requestedBurst b cap], status := if b.src = 0x400 then .running else x.status }

/-- With the queue's room, a free capture and pages within the budget, the burst is queued and takes its turn where none runs. -/
theorem burstRequest_granted (hpower : reducedNow s = false) (hruns : RingRuns s r)
    (hroom : (s.rg r).burst.isSome = true → (s.rg r).queue.length < 8) (hfill : fillingCount s < 64)
    (hbudget : (heldPages s b.src).length + pagesFor (b.countM1 % 65536 + 1) ≤ budgetOf s b.src)
    (hfree : pagesFor (b.countM1 % 65536 + 1) ≤ (freePages s).length) :
    ∃ (u : State) (cap : Nat), burstRequest r b s = (true, burstNext r 9 (u.setRg r (burstQueued b cap (s.rg r)))) := by
  obtain ⟨refs, u, halloc, hring⟩ := allocate_grants (cap := s.boat.serial + 1) (replies := pagesFor (b.countM1 % 65536 + 1))
    hbudget hfree
  have hfull : ((s.rg r).burst.isSome && decide (8 ≤ (s.rg r).queue.length)) = false := by
    cases hb : (s.rg r).burst.isSome
    · rfl
    · simpa using hroom hb
  unfold burstRequest
  dsimp only
  rw [if_neg (by simp [hpower]), if_neg (by simp [ringRuns_true hruns]), if_neg (by simp [hfull]), if_neg hfill.not_ge, halloc]
  rw [← State.rg_of_ring (r := r) hring]
  exact ⟨_, _, rfl⟩

/-- The burst that was first in the queue runs, and its command goes to the next window. -/
def burstStarted (r : Nat) (b : Burst) (s : State) : State :=
  s.setRg r { s.rg r with burst := some b, gaps := 0, cmds := (s.rg r).cmds ++ [burstCmd b] }

def queueLeft (r : Nat) (rest : List Burst) (s : State) : State := s.setRg r { s.rg r with queue := rest }

theorem queueLeft_rg {rest : List Burst} (hoff : (s.rg r).state ≠ .off) :
    (queueLeft r rest s).rg r = { s.rg r with queue := rest } := State.rg_setRg_on hoff

theorem burstNext_present {k : Nat} {b : Burst} {rest : List Burst} (hburst : (s.rg r).burst = none)
    (hqueue : (s.rg r).queue = b :: rest) (hnode : (s.rnode r b.addr).state = .present) :
    burstNext r (k + 1) s = burstStarted r b (queueLeft r rest s) := by
  change (match (s.rg r).burst, (s.rg r).queue with
    | none, b :: rest =>
      if (s.rnode r b.addr).state = NodeState.present then burstStarted r b (queueLeft r rest s)
      else burstNext r k (burstCut r .lost b (queueLeft r rest s))
    | _, _ => s) = _
  rw [hburst, hqueue]
  exact if_pos hnode

theorem burstNext_starts {k : Nat} {b : Burst} {rest : List Burst} (hoff : (s.rg r).state ≠ .off) (hburst : (s.rg r).burst = none)
    (hqueue : (s.rg r).queue = b :: rest) (hnode : (s.rnode r b.addr).state = .present) : (burstNext r (k + 1) s).rg r =
      { s.rg r with queue := rest, burst := some b, gaps := 0, cmds := (s.rg r).cmds ++ [burstCmd b] } := by
  rw [burstNext_present hburst hqueue hnode, burstStarted, queueLeft_rg hoff]
  exact State.rg_setRg_on hoff

theorem burstNext_busy {k : Nat} {b : Burst} (h : (s.rg r).burst = some b) : burstNext r k s = s := by
  cases k with
  | zero => rfl
  | succ k => unfold burstNext; dsimp only; rw [h]

/-! ## BURST frames (R217) -/

/-- The burst after samples that leave some to come. -/
def burstAdvanced (n : Nat) (b : Burst) : Burst := { b with offset := b.offset + n, retries := 0 }

theorem burstSamples_more {b : Burst} {c : Capture} {ws : List Word} (hoff : (s.rg r).state ≠ .off)
    (hburst : (s.rg r).burst = some b) (hcap : capOf s b = some c) (hmore : b.offset + ws.length < b.count) :
    (burstSamples r false ws s).rg r =
      burstEndStatus (burstAdvanced ws.length b) .running { s.rg r with burst := some (burstAdvanced ws.length b) } := by
  have hall : ws.take (b.count - b.offset) = ws := List.take_of_length_le (by omega)
  have hrg (stamp : Word) : (capWrite c stamp ws s).rg r = s.rg r := State.rg_of_ring (capWrite_ring ..)
  unfold burstSamples
  rw [hburst]
  dsimp only
  rw [hcap]
  dsimp only
  rw [hall, if_neg hmore.not_ge, hrg]
  exact State.rg_setRg_on hoff

/-- The burst region of the superframe is judged. -/
def regionJudged (r : Nat) (s : State) : State := s.setRg r { s.rg r with burstMet := true }

theorem regionJudged_rg (hoff : (s.rg r).state ≠ .off) : (regionJudged r s).rg r = { s.rg r with burstMet := true } :=
  State.rg_setRg_on hoff

theorem burstFrame_takes {b : Burst} {ws : List Word} (hburst : (s.rg r).burst = some b) (hmet : (s.rg r).burstMet = false) :
    burstFrame r b.addr b.offset ws s = burstSamples r false ws (regionJudged r s) := by
  unfold burstFrame
  rw [hburst]
  exact (if_pos ⟨rfl, rfl⟩).trans (if_neg (by simp [hmet]))

/-- The owner's frame at the offset named advances the burst by its samples. -/
theorem burstFrame_more {b : Burst} {c : Capture} {ws : List Word} (hoff : (s.rg r).state ≠ .off)
    (hburst : (s.rg r).burst = some b) (hmet : (s.rg r).burstMet = false) (hcap : capOf s b = some c)
    (hmore : b.offset + ws.length < b.count) :
    ((burstFrame r b.addr b.offset ws s).rg r).burst = some (burstAdvanced ws.length b) ∧
      ((burstFrame r b.addr b.offset ws s).rg r).burstMet = true := by
  have hrg := regionJudged_rg hoff
  rw [burstFrame_takes hburst hmet,
    burstSamples_more (s := regionJudged r s) (by rw [hrg]; exact hoff) (by rw [hrg]; exact hburst) hcap hmore, hrg]
  exact ⟨rfl, rfl⟩

/-! ## RING_CTRL (R218) -/

@[simp] theorem opLogged_rg {p : Port} {addr : Nat} {old new : List Word} : (opLogged p addr old new s).rg r = s.rg r := rfl

@[simp] theorem opLogged_cm {p : Port} {addr : Nat} {old new : List Word} : (opLogged p addr old new s).nvm.cm = s.nvm.cm := by
  obtain ⟨_, _, _, _, _, _, _, h⟩ := logAppend_nvm (slotOf s p) 2 addr old new 0 (touchSession p s)
  rw [opLogged, h]
  rfl

theorem ringGate_admitted {p : Port} (hpresent : ringPresent s r = true) (h : Admitted s p rightOps) (new : Word)
    (f : State → State) :
    ringGate p r new f s = f (opLogged p (addrRing r 4) [if (s.rg r).en then 1 else 0] [new] s) :=
  (if_pos hpresent).trans (gate_opLogged h f)

theorem ringEnable_acts {p : Port} (hup : s.sys.up = true) :
    exec (.ringEnable p r) s = .next (ringGate p r 1 (ringOn r) s) := run_up _ _ hup

theorem ringDisable_acts {p : Port} (hup : s.sys.up = true) :
    exec (.ringDisable p r) s = .next (ringGate p r 0 (ringOff r) s) := run_up _ _ hup

theorem ringOn_of_off (h : (s.rg r).state = .off) : ringOn r s = ringStart r s := by simp only [ringOn, h]

theorem ringOn_of_shutdown (h : (s.rg r).state = .shutdown) :
    ringOn r s = s.setRg r { s.rg r with en := true, pending := true } := by simp only [ringOn, h]

/-- No address of a table of unbound entries is bound. -/
theorem unbound_free (l : List (Nat × RNode)) : ∀ e ∈ l.foldl (fun m e => put {} m e.1 (unbound e.2)) [], e.2.state = .free := by
  refine List.foldlRecOn (motive := fun m : Tab RNode => ∀ e ∈ m, e.2.state = .free) l _ (fun e he => absurd he List.not_mem_nil)
    fun m hm e _ e' he' => ?_
  rcases mem_put he' with hmem | rfl
  · exact hm e' hmem
  · rfl

theorem look_free {m : Tab RNode} (h : ∀ e ∈ m, e.2.state = .free) (a : Nat) : (look {} m a).state = .free := by
  rcases look_mem (d := ({} : RNode)) (m := m) (k := a) with hd | hmem
  · rw [hd]
  · exact h _ hmem

/-- A started ring: its counts begin at 0, no address is bound, and the settings of the CM section apply. -/
theorem ringStart_rg (r : Nat) (s : State) : ∃ y, (ringStart r s).rg r = y ∧ y.state = .start ∧ y.en = true ∧ y.next = 0 ∧
    y.seq = 0 ∧ (∀ a, (look {} y.nodes a).state = .free) ∧ y.cfg = look {} s.nvm.cm.rings r := by
  refine ⟨_, State.rg_setRg_on fun e => RingState.noConfusion e, rfl, rfl, rfl, rfl, look_free (unbound_free _), ?_⟩
  exact congrArg (fun n : Nvm => look {} n.cm.rings r) burstAbortAll_nvm

theorem ringOff_of_runs (h : RingRuns s r) : ringOff r s = (burstAbortAll r s).setRg r { (burstAbortAll r s).rg r with
    en := false, state := .shutdown, cmds := [(6, 0x1FF, [])], slots := [], replies := [] } := by
  obtain ⟨hoff, hshut⟩ := h
  unfold ringOff
  dsimp only
  split
  · next e => exact absurd e hoff
  · next e => exact absurd e hshut
  · rfl

/-- A ring that is switched off sends RELEASE alone. -/
theorem ringOff_rg (h : RingRuns s r) : ∃ y, (ringOff r s).rg r = y ∧ y.state = .shutdown ∧ y.en = false ∧ y.burst = none ∧
    y.queue = [] ∧ y.cmds = [(6, 0x1FF, [])] ∧ y.slots = [] := by
  obtain ⟨-, hburst, hqueue⟩ := burstAbortAll_empty h.1
  rw [ringOff_of_runs h]
  exact ⟨_, State.rg_setRg_on fun e => RingState.noConfusion e, rfl, rfl, hburst, hqueue, rfl, rfl⟩

/-! ## The end of a shut-down (R218) -/

section

variable (hshut : (s.rg r).state = .shutdown) (hcmds : (s.rg r).cmds = []) (hend : (s.rg r).sfAt + 100000 ≤ s.now)

include hshut hcmds hend

theorem shutdownDue_true : shutdownDue s (s.rg r) = true := by simp [shutdownDue, hshut, hcmds, hend]

/-- Both drivers are off, and every address is free. -/
theorem ringShutdownDone_off (hpending : (s.rg r).pending = false) : ringShutdownDone r s = s.setRg r { s.rg r with
    state := .off, cmds := [], window := [], out := [], wrapA := none, wrapB := none,
    nodes := (s.rg r).nodes.map (fun e => (e.1, { e.2 with state := .free, due := none, resendDue := false })) } :=
  (if_pos (shutdownDue_true hshut hcmds hend)).trans (if_neg (Bool.eq_false_iff.mp hpending))

theorem ringShutdownDone_starts (hpending : (s.rg r).pending = true) : ringShutdownDone r s = ringStart r s :=
  (if_pos (shutdownDue_true hshut hcmds hend)).trans (if_pos hpending)

end

theorem ringShutdownDone_early (h : (s.rg r).cmds ≠ [] ∨ s.now < (s.rg r).sfAt + 100000) : ringShutdownDone r s = s := by
  refine if_neg (Bool.eq_false_iff.mp ?_)
  rcases h with h | h
  · simp [shutdownDue, h]
  · simp [shutdownDue, h.not_ge]

end

/-! ## The statement -/

/-- Settles O30: a request is refused, or queues its burst, which runs where none does; a BURST frame is the owner's frame in its
window; EN passes the gate and then starts the ring or ends its bursts; a shut-down ends when it is due. -/
theorem ringBurstsAndSwitching : Obligations.RingBurstsAndSwitching := by
  rintro s r x hup rfl hpresent
  have haddr : addrRing r 0x40 = 0x000A0040 + 0x4000 * r := by unfold addrRing; omega
  refine ⟨fun b hsrc hpower => ?reducedHost, fun b hsrc hpower => ?reducedTask, fun b hsrc hpower hruns hburst hqueue => ?full,
    fun p v hpower => ?reducedWrite, ?granted, fun b c seq ws sideA hruns hburst hcap hmet hn hlow hhigh hmore => ?frame,
    fun p hadm => ⟨fun hoff => ?enable, fun hshut => ?hold, fun hruns => ?disable⟩,
    fun hshut hcmds hend => ⟨fun hpending => ?off, fun hpending => ?again⟩, fun h => ?early⟩
  case reducedHost => rw [ringBurstRequest_acts hup hpresent, burstRequest_reduced hpower, burstRefuse_host hsrc]
  case reducedTask => rw [ringBurstRequest_acts hup hpresent, burstRequest_reduced hpower, burstRefuse_task hsrc]
  case full => rw [ringBurstRequest_acts hup hpresent, burstRequest_full hpower hruns hburst hqueue, burstRefuse_host hsrc]
  case reducedWrite =>
    rw [ringBurstCmdWrite_acts hup hpresent (burstRequest_reduced hpower), ← haddr]
    rfl
  case granted =>
    rintro b n hpower hruns hroom hfill rfl hbudget hfree
    obtain ⟨u, cap, hreq⟩ := burstRequest_granted hpower hruns hroom hfill hbudget hfree
    have hrg : (u.setRg r (burstQueued b cap (s.rg r))).rg r = burstQueued b cap (s.rg r) := State.rg_setRg_on hruns.1
    refine ⟨_, (ringBurstRequest_acts hup hpresent).trans (congrArg (Host.Outcome.next ·.2) hreq), ?_,
      fun hburst hqueue hnode => ?_, fun b0 hburst => ?_⟩
    · rintro p v rfl
      exact ringBurstCmdWrite_acts hup hpresent hreq
    · rw [burstNext_starts (b := requestedBurst b cap) (by rw [hrg]; exact hruns.1) (by rw [hrg]; exact hburst)
        (rest := []) (by rw [hrg, burstQueued, hqueue]; rfl) (by rw [State.rnode, hrg]; exact hnode), hrg]
      exact ⟨_, rfl, rfl, rfl, rfl, rfl, rfl, fun hsrc => if_pos hsrc, rfl⟩
    · rw [burstNext_busy (b := b0) (by rw [hrg]; exact hburst), hrg]
      exact ⟨_, hburst, rfl, rfl, rfl, rfl, rfl, rfl, fun hsrc => if_pos hsrc⟩
  case frame =>
    obtain ⟨u, hgo, hacc⟩ := nodeAccept_takes (wrap := false) (sideA := sideA) (go := burstFrame r b.addr b.offset ws) hruns hn
      ⟨hlow, hhigh⟩
    obtain ⟨-, hub, hum⟩ := hacc.kept
    have hon := hacc.on
    obtain ⟨rings, rfl⟩ := hacc.only
    obtain ⟨hafter, hjudged⟩ := burstFrame_more (ws := ws) hon (hub.trans hburst) (hum.trans hmet) hcap hmore
    exact ⟨_, _, run_gives hup hgo, hafter, rfl, rfl, rfl, hjudged⟩
  case enable =>
    obtain ⟨y, hy, hstate, hen, hnext, hseq, hfree, hcfg⟩ :=
      ringStart_rg r (opLogged p (addrRing r 4) [if (s.rg r).en then 1 else 0] [1] s)
    rw [opLogged_cm] at hcfg
    rw [ringEnable_acts hup, ringGate_admitted hpresent hadm, ringOn_of_off (by rw [opLogged_rg]; exact hoff)]
    refine ⟨_, rfl, ?_⟩
    simp only [State.rnode, hy]
    exact ⟨hstate, hen, hnext, hseq, hfree, hcfg⟩
  case hold =>
    rw [ringEnable_acts hup, ringGate_admitted hpresent hadm, ringOn_of_shutdown (by rw [opLogged_rg]; exact hshut), opLogged_rg]
  case disable =>
    obtain ⟨y, hy, hstate, hen, hburst, hqueue, hcmds, hslots⟩ :=
      ringOff_rg (s := opLogged p (addrRing r 4) [if (s.rg r).en then 1 else 0] [0] s) hruns
    rw [ringDisable_acts hup, ringGate_admitted hpresent hadm]
    refine ⟨_, rfl, ?_⟩
    rw [hy]
    exact ⟨hstate, hen, hburst, hqueue, hcmds, hslots⟩
  case off => exact run_gives hup (ringShutdownDone_off hshut hcmds hend hpending)
  case again =>
    obtain ⟨y, hy, hstate, hen, -⟩ := ringStart_rg r s
    refine ⟨_, run_gives hup (ringShutdownDone_starts hshut hcmds hend hpending), ?_⟩
    rw [hy]
    exact ⟨hstate, hen⟩
  case early => exact run_gives hup (ringShutdownDone_early h)

end Sys2Proof.Machine
end

section
/-!
SUPPORT. A node (R201 to R203, R205, R211 to R213): the beacons it accepts, the DISCOVER it turns, the commands it obeys, its report
windows, and its signals and supply; and the statement about it.
-/
namespace Sys2Proof.Machine

open Sys2Proof

section

variable {s : State} {uid : U64} {n : Node}

/-! ## Beacons (R202, R212) -/

/-- A beacon of the stream on side A that the window lets through is accepted. -/
theorem nodeBeacon_taken {b : Beacon} (hpower : (s.nd uid).powered = true) (hside : b.fromA = true)
    (hsignal : (s.nd uid).lostA = false) (hfresh : b.restart = true ∨ beaconFresh (s.nd uid) b = true) :
    nodeBeacon uid b s = s.setNd uid (nodeRegions uid b (beaconTaken b s.now (s.nd uid))) := by
  refine if_pos ?_
  rcases hfresh with h | h <;> simp [hpower, takesBeacon, hside, hsignal, h]

theorem beaconTaken_restart {b : Beacon} {now : Nat} (h : b.restart = true) : beaconTaken b now n =
    { n with followA := b.fromA, sf := b.sf, beaconAt := now, ctlLast := b.seq % 256, announced := false, ring := b.ring,
             sent := [], owed := [], addr := none, burst := none, parked := false } := if_pos h

theorem beaconTaken_plain {b : Beacon} {now : Nat} (h : b.restart = false) : beaconTaken b now n =
    { n with followA := b.fromA, sf := b.sf, beaconAt := now, ctlLast := b.seq % 256, announced := false, ring := b.ring,
             sent := [], owed := [] } := if_neg (Bool.eq_false_iff.mp h)

/-- A node without an address owns no region. -/
theorem nodeRegions_unaddressed {b : Beacon} (h : n.addr = none) : nodeRegions uid b n = n := by rw [nodeRegions, h]

/-- The A copy of a beacon heard from B already is in the window of a node that turns back (R202, R209). -/
theorem beaconFresh_true {b : Beacon} (hside : b.fromA = true)
    (h : 1 ≤ (b.seq + 256 - n.ctlLast) % 256 ∧ (b.seq + 256 - n.ctlLast) % 256 ≤ 128 ∨
      (b.seq + 256 - n.ctlLast) % 256 = 0 ∧ n.followA = false) : beaconFresh n b = true := by
  rcases h with ⟨hlow, hhigh⟩ | ⟨hsame, hfollow⟩
  · simp [beaconFresh, hlow, hhigh]
  · simp [beaconFresh, hsame, hside, hfollow]

/-! ## Discovery (R213) -/

/-- The ANNOUNCE that a node makes of a DISCOVER. -/
def announceMsg (r : Nat) (uid : U64) (n : Node) : RingMsg :=
  ringMsg 7 r 0x1FF 0x200 (nodeSrc r 0x1FF) n.seq 7 { wrap := wraps n } n.sf (announceWords uid)

/-- The node that has turned a DISCOVER. -/
def announcingNode (r : Nat) (uid : U64) (fromA : Bool) (tick : Nat) (n : Node) : Node :=
  { nodePut fromA tick (announceMsg r uid n) n with
    announced := true, ring := r, sent := (nodePut fromA tick (announceMsg r uid n) n).sent ++ [announceMsg r uid n] }

theorem announcingNode_announces (r : Nat) (uid : U64) (fromA : Bool) (tick : Nat) (n : Node) :
    (announcingNode r uid fromA tick n).sent.getLast?.map (fun m => m.words.map Prod.snd) = some (announceWords uid) := by
  rw [announcingNode, List.getLast?_concat]
  exact congrArg some (ringMsg_payloads ..)

/-- The ring whose DISCOVER has been turned on a stream. -/
def discoverTurned (streamA : Bool) (x : Ring) : Ring :=
  { x with turnedA := x.turnedA || streamA, turnedB := x.turnedB || !streamA }

theorem nodeDiscover_turns {r : Nat} {fromA streamA : Bool} (hr : r < 4) (h : turns (s.rg r) (s.nd uid) fromA streamA = true) :
    nodeDiscover r uid fromA streamA s =
      (s.setNd uid (announcingNode r uid fromA (s.now + repeatTicks) (s.nd uid))).setRg r (discoverTurned streamA (s.rg r)) :=
  if_pos (by simp [hr, h])

theorem discoverTurned_turned (streamA : Bool) (x : Ring) : turned (discoverTurned streamA x) streamA = true := by
  cases streamA <;> simp [turned, discoverTurned]

theorem rg_discoverTurned {r : Nat} {streamA : Bool} {x : Ring} :
    (s.setRg r (discoverTurned streamA x)).rg r = discoverTurned streamA x := by
  refine State.rg_setRg_ne fun e => ?_
  have h := discoverTurned_turned streamA x
  rw [e] at h
  cases streamA <;> exact Bool.noConfusion h

/-! ## Commands (R211) -/

section Commands

variable {c : NodeCmd} {fromA : Bool}

theorem heeds_true (hpower : n.powered = true) (hfollow : n.followA = fromA) : heeds n fromA = true := by
  simp [heeds, hpower, hfollow]

theorem heeds_false (h : n.powered = false ∨ n.followA ≠ fromA) : heeds n fromA = false := by
  rcases h with h | h <;> simp [heeds, h]

theorem obeys_true (hpower : n.powered = true) (hfollow : n.followA = c.fromA)
    (hmeant : n.addr = some c.target ∨ c.target = 0x1FF) :
    obeys n c = true := by
  rcases hmeant with h | h <;> simp [obeys, heeds, hpower, hfollow, h]

theorem nodeAssign_heeded {a i ph : Nat} (h : heeds (s.nd uid) fromA = true) : nodeAssign uid fromA uid a i ph s =
    s.setNd uid (if (s.nd uid).addr = some a then { s.nd uid with interval := i, phase := ph, parked := false }
      else { s.nd uid with interval := i, phase := ph, parked := false, addr := some a, seq := 0 }) :=
  if_pos ⟨rfl, h⟩

theorem nodeAssign_unheeded {target : U64} {a i ph : Nat} (h : uid ≠ target ∨ heeds (s.nd uid) fromA = false) :
    nodeAssign uid fromA target a i ph s = s :=
  if_neg fun ⟨huid, hheeds⟩ => h.elim (· huid) fun hno => Bool.eq_false_iff.mp hno hheeds

theorem nodePark_heeded (h : heeds (s.nd uid) fromA = true) (haddr : (s.nd uid).addr = none) :
    nodePark uid fromA uid s = s.setNd uid { s.nd uid with parked := true } := if_pos ⟨rfl, haddr, h⟩

theorem nodePark_unheeded {target : U64} (h : uid ≠ target ∨ heeds (s.nd uid) fromA = false) : nodePark uid fromA target s = s :=
  if_neg fun ⟨huid, _, hheeds⟩ => h.elim (· huid) fun hno => Bool.eq_false_iff.mp hno hheeds

theorem nodeBurst_obeyed {rate count : Nat} (haddr : (s.nd uid).addr.isSome = true) (h : obeys (s.nd uid) c = true) :
    nodeBurst uid c rate count s = s.setNd uid { s.nd uid with burst := some (rate, count) } := if_pos ⟨haddr, h⟩

theorem nodeBurstAbort_obeyed (h : obeys (s.nd uid) c = true) :
    nodeBurstAbort uid c s = s.setNd uid { s.nd uid with burst := none } := if_pos h

theorem nodeRelease_obeyed (h : obeys (s.nd uid) c = true) :
    nodeRelease uid c s = s.setNd uid { s.nd uid with addr := none } := if_pos h

/-- IDENT of a node that is present on a ring books its reply slot (R206). -/
theorem nodeIdent_obeyed {r a : Nat} (haddr : (s.nd uid).addr.isSome = true) (h : obeys (s.nd uid) c = true)
    (hplace : nodePlace s uid = some (r, a)) : nodeIdent uid c s =
      (s.setNd uid { s.nd uid with identDue := true }).setRg r { s.rg r with replies := (s.rg r).replies ++ [a] } := by
  have hkept : nodePlace (s.setNd uid { s.nd uid with identDue := true }) uid = some (r, a) := hplace
  refine (if_pos ⟨haddr, h⟩).trans ?_
  dsimp only
  rw [hkept]
  rfl

end Commands

/-! ## Report windows (R211) -/

section Reports

variable {values : List Word} {sensor : Bool} {k : Nat}

theorem reportWindow_closes (haddr : n.addr.isSome = true) (hi : 0 < n.interval) (hphase : n.phase < n.interval)
    (hsf : n.sf = n.phase + k * n.interval) : reportWindow n = true := by
  have hmod : (n.sf + n.interval - n.phase % n.interval) % n.interval = 0 := by
    have hsub : n.sf + n.interval - n.phase = (k + 1) * n.interval := by rw [hsf, Nat.succ_mul]; omega
    rw [Nat.mod_eq_of_lt hphase, hsub, Nat.mul_mod_left]
  simp [reportWindow, haddr, hi, hmod]

theorem reportWindow_open {j : Nat} (hj : 0 < j) (hlt : j < n.interval) (hphase : n.phase < n.interval)
    (hsf : n.sf = n.phase + k * n.interval + j) : reportWindow n = false := by
  have hmod : (n.sf + n.interval - n.phase % n.interval) % n.interval = j := by
    have hsub : n.sf + n.interval - n.phase = j + (k + 1) * n.interval := by rw [hsf, Nat.succ_mul]; omega
    rw [Nat.mod_eq_of_lt hphase, hsub, Nat.add_mul_mod_self_right, Nat.mod_eq_of_lt hlt]
  simp [reportWindow, hmod, hj.ne']

/-- The node whose window has closed on a report. -/
def reportBuilt (values : List Word) (sensor : Bool) (n : Node) : Node :=
  { n with report := values, sensor, newReport := true, reportSf := n.sf, owed := n.owed.tail }

theorem nodeReport_closes (hpower : (s.nd uid).powered = true) (h : reportWindow (s.nd uid) = true) :
    nodeReport uid values sensor s = s.setNd uid (match (s.nd uid).owed with
      | slot :: _ => sendNewest slot (reportBuilt values sensor (s.nd uid))
      | [] => reportBuilt values sensor (s.nd uid)) := if_pos (by simp [hpower, h])

/-- A report that has no slot of this superframe to go out in waits. -/
theorem nodeReport_waits (hpower : (s.nd uid).powered = true) (h : reportWindow (s.nd uid) = true) (howed : (s.nd uid).owed = []) :
    nodeReport uid values sensor s = s.setNd uid (reportBuilt values sensor (s.nd uid)) := by
  rw [nodeReport_closes hpower h]
  simp only [howed]

theorem nodeReport_sends {slot : Nat} {rest : List Nat} (hpower : (s.nd uid).powered = true) (h : reportWindow (s.nd uid) = true)
    (howed : (s.nd uid).owed = slot :: rest) :
    nodeReport uid values sensor s = s.setNd uid (sendNewest slot (reportBuilt values sensor (s.nd uid))) := by
  rw [nodeReport_closes hpower h]
  simp only [howed]

theorem nodeReport_open (h : reportWindow (s.nd uid) = false) : nodeReport uid values sensor s = s := if_neg (by simp [h])

/-- Sending changes the outputs of a node alone. -/
theorem nodePut_only (fromA : Bool) (tick : Nat) (m : RingMsg) (n : Node) :
    ∃ d u, nodePut fromA tick m n = { n with outD := d, outU := u } := by
  unfold nodePut
  split
  · exact ⟨_, _, rfl⟩
  · exact ⟨_, _, rfl⟩

/-- The newest report goes out with the next SEQ. -/
theorem sendNewest_sends (slot : Nat) (n : Node) : (sendNewest slot n).lastSent = some (n.seq, n.report, n.sensor) ∧
    (sendNewest slot n).newReport = false ∧ (sendNewest slot n).seq = (n.seq + 1) % 256 ∧ (sendNewest slot n).owed = n.owed := by
  refine ⟨rfl, rfl, rfl, ?_⟩
  unfold sendNewest nodeSendNext nodeSend
  dsimp only
  obtain ⟨d, u, h⟩ := nodePut_only n.followA (n.beaconAt + slotAt slot) (ringMsg 3 n.ring (n.addr.getD 0x1FF) 0x200
    (nodeSrc n.ring (n.addr.getD 0x1FF)) n.seq 1
    { sensor := n.sensor, late := decide (n.reportSf ≠ n.sf), wrap := wraps n } n.sf n.report) n
  rw [h]

end Reports

/-! ## Loss of beacons and of supply (R201, R212) -/

theorem nodeBeaconLoss_due (h : (s.nd uid).beaconAt + 50 * 100000 ≤ s.now) :
    nodeBeaconLoss uid s = s.setNd uid { s.nd uid with addr := none } := if_pos h

theorem nodeBeaconLoss_early (h : s.now < (s.nd uid).beaconAt + 50 * 100000) : nodeBeaconLoss uid s = s := if_neg h.not_ge

theorem setSignal_supplyLost {r : Nat} (h : (s.nd uid).powered = true) : setSignal true r (.supply uid) s =
    s.setNd uid { lostA := (s.nd uid).lostA, lostB := (s.nd uid).lostB, powered := false } := if_neg (by simp [h])

end

/-! ## The statement -/

/-- Settles O27: a beacon that is accepted gives the node its timing and, while it has an address, its regions; a command is obeyed
where the node heeds the stream and is meant; a report window closes where the interval divides the superframe's number less the
phase. -/
theorem nodeBehaviour : Obligations.NodeBehaviour := by
  rintro s uid hup n rfl
  refine ⟨fun hpower => ⟨fun b hside hsignal hrestart => ?restart, fun b hside hsignal hrestart hwindow => ?beacon,
      fun r fromA streamA hr hfollow haddr hpark hturned => ?discover, fun fromA hfollow => ?assign,
      fun c hfollow hmeant => ?commands, ?closes, fun values sensor k j hj hlt hphase hsf => ?opens⟩,
    fun fromA target a i ph h => ?unheeded, fun h => run_gives hup (nodeBeaconLoss_due h),
    fun h => run_gives hup (nodeBeaconLoss_early h), fun r => ?signals⟩
  case restart =>
    refine run_gives hup ?_
    rw [nodeBeacon_taken hpower hside hsignal (Or.inl hrestart), beaconTaken_restart hrestart, nodeRegions_unaddressed rfl, hside]
  case beacon =>
    refine ⟨_, rfl, run_gives hup ?_, fun haddr => nodeRegions_unaddressed haddr⟩
    rw [nodeBeacon_taken hpower hside hsignal (Or.inr (beaconFresh_true hside hwindow)), beaconTaken_plain hrestart, hside]
  case discover =>
    have hturns : turns (s.rg r) (s.nd uid) fromA streamA = true := by
      simp [turns, turned, hpower, hfollow, haddr, hpark, hturned]
    have hne : announcingNode r uid fromA (s.now + repeatTicks) (s.nd uid) ≠ {} := fun e =>
      Bool.noConfusion (congrArg Node.announced e)
    refine ⟨_, run_gives hup (nodeDiscover_turns hr hturns), ?_, ?_, ?_, rfl⟩
    · exact congrArg Node.announced (State.nd_setNd_ne hne)
    · rw [rg_discoverTurned]
      exact discoverTurned_turned streamA _
    · exact (congrArg (fun m : Node => m.sent.getLast?.map (fun m => m.words.map Prod.snd)) (State.nd_setNd_ne hne)).trans
        (announcingNode_announces ..)
  case assign =>
    have hheeds := heeds_true hpower hfollow
    refine ⟨fun a i ph haddr => run_gives hup ?_, fun a i ph haddr => run_gives hup ?_,
      fun haddr => run_gives hup (nodePark_heeded hheeds haddr)⟩
    · rw [nodeAssign_heeded hheeds, if_neg haddr]
    · rw [nodeAssign_heeded hheeds, if_pos haddr]
  case commands =>
    have hobeys := obeys_true hpower hfollow hmeant
    exact ⟨fun rate count haddr => run_gives hup (nodeBurst_obeyed haddr hobeys), run_gives hup (nodeBurstAbort_obeyed hobeys),
      fun r x haddr hplace => ⟨_, rfl, run_gives hup (nodeIdent_obeyed haddr hobeys hplace)⟩,
      run_gives hup (nodeRelease_obeyed hobeys)⟩
  case closes =>
    rintro a values sensor k m haddr hi hphase hsf rfl
    have hcloses : reportWindow (s.nd uid) = true := reportWindow_closes (by rw [haddr]; rfl) hi hphase hsf
    refine ⟨fun howed => run_gives hup (nodeReport_waits hpower hcloses howed), fun slot rest howed =>
      ⟨_, run_gives hup (nodeReport_sends hpower hcloses howed), ?_⟩⟩
    obtain ⟨hsent, hnew, hseq, hrest⟩ := sendNewest_sends slot (reportBuilt values sensor (s.nd uid))
    exact ⟨hsent, hnew, hseq, hrest.trans (congrArg List.tail howed)⟩
  case opens => exact run_gives hup (nodeReport_open (reportWindow_open hj hlt hphase hsf))
  case unheeded =>
    have hno : uid ≠ target ∨ heeds (s.nd uid) fromA = false := h.imp_right heeds_false
    exact ⟨run_gives hup (nodeAssign_unheeded hno), run_gives hup (nodePark_unheeded hno)⟩
  case signals =>
    exact ⟨run_up _ _ hup, run_up _ _ hup, run_up _ _ hup, run_up _ _ hup,
      fun hpower => run_gives hup (setSignal_supplyLost hpower)⟩

end Sys2Proof.Machine
end

section
/-!
SUPPORT. The cluster's tables (R221, R229, R241): what an entry reads back as, what a core's performance monitor changes when it
counts, and the values its counters have at the present tick.
-/
namespace Sys2Proof.Machine

open Sys2Proof

/-! ## Entries -/

section Entries

variable {s : State} {n : Nat}

theorem State.task_setTask_ne {v : Task} (h : v ≠ {}) : (s.setTask n v).task n = v := look_put_ne _ _ _ _ h
theorem State.core_setCore_ne {v : Core} (h : v ≠ {}) : (s.setCore n v).core n = v := look_put_ne _ _ _ _ h
theorem State.pmu_setPmu_ne {v : Pmu} (h : v ≠ {}) : (s.setPmu n v).pmu n = v := look_put_ne _ _ _ _ h

/-- A task that is not DISABLED is listed. -/
theorem State.task_setTask_enabled {v : Task} (h : v.state ≠ .disabled) : (s.setTask n v).task n = v :=
  State.task_setTask_ne (ne_of_apply_ne Task.state h)

/-- A core that is not OFF is listed. -/
theorem State.core_setCore_on {v : Core} (h : v.state ≠ .off) : (s.setCore n v).core n = v :=
  State.core_setCore_ne (ne_of_apply_ne Core.state h)

theorem State.setCore_setCore {v w : Core} (h : v ≠ {}) : (s.setCore n v).setCore n w = s.setCore n w := by
  simp only [State.setCore, put_put h]

@[simp] theorem State.core_setTask (s : State) (t c : Nat) (v : Task) : (s.setTask t v).core c = s.core c := rfl
@[simp] theorem State.task_setCore (s : State) (c t : Nat) (v : Core) : (s.setCore c v).task t = s.task t := rfl
@[simp] theorem State.task_setPmu (s : State) (c t : Nat) (v : Pmu) : (s.setPmu c v).task t = s.task t := rfl
@[simp] theorem State.core_setPmu (s : State) (c d : Nat) (v : Pmu) : (s.setPmu c v).core d = s.core d := rfl

end Entries

/-! ## A core's counters have counted -/

/-- The performance monitor of core `c` has counted, and the wraps have sent their samples (R244, R246). -/
structure Counted (c : Nat) (s t : State) : Prop where
  only : t = { s with fresh := t.fresh, fab := t.fab, host := t.host, net := t.net, cox := { s.cox with pmu := t.cox.pmu } }
  routes : t.fab.routes = s.fab.routes
  other : ∀ d, d ≠ c → t.pmu d = s.pmu d

section Counts

variable {s t u : State} {c : Nat}

theorem Counted.refl (c : Nat) (s : State) : Counted c s s := ⟨rfl, rfl, fun _ _ => rfl⟩

theorem Counted.trans (h : Counted c s t) (k : Counted c t u) : Counted c s u where
  only := by rw [k.only, h.only]
  routes := k.routes.trans h.routes
  other d hd := (k.other d hd).trans (h.other d hd)

theorem Counted.foldl {α : Type} {f : State → α → State} (h : ∀ t a, Counted c t (f t a)) (l : List α) (s : State) :
    Counted c s (l.foldl f s) :=
  List.foldlRecOn (motive := Counted c s) l f (Counted.refl c s) fun t ht a _ => ht.trans (h t a)

theorem Counted.task (h : Counted c s t) (n : Nat) : t.task n = s.task n := by rw [h.only]; rfl
theorem Counted.core (h : Counted c s t) (n : Nat) : t.core n = s.core n := by rw [h.only]; rfl
theorem Counted.now (h : Counted c s t) : t.now = s.now := by rw [h.only]
theorem Counted.cox (h : Counted c s t) : t.cox = { s.cox with pmu := t.cox.pmu } := by rw [h.only]
theorem Counted.hook (h : Counted c s t) : t.hook = s.hook := by rw [h.only]
theorem Counted.boat (h : Counted c s t) : t.boat = s.boat := by rw [h.only]

theorem setPmu_counted (c : Nat) (p : Pmu) (s : State) : Counted c s (s.setPmu c p) :=
  ⟨rfl, rfl, fun _ hd => State.pmu_setPmu_other _ _ _ _ hd⟩

/-- The sample of a wrap (R246): the counter, the task, the marker of an overwritten sample, and an address free within its skid. -/
def wrapSample (addr : Word) (p : Pmu) (k t : Nat) : Word :=
  pack [(addr.toNat, 0, 15), (if p.sample.getLsbD 31 then 1 else 0, 15, 1), (t, 16, 9), (k, 25, 3), (1, 31, 1)]

/-- A wrap has set its counter's overflow bit (R244). -/
def wrapMarked (c k : Nat) (s : State) : State := s.setPmu c { s.pmu c with ovf := (s.pmu c).ovf ||| BitVec.ofNat 32 (1 <<< k) }

/-- The sample stands in its register, and its frame and event set out (R246). -/
def wrapSampled (c : Nat) (w : Word) (s : State) : State :=
  let s1 := sendFrame 0x400 7 [w] (s.setPmu c { s.pmu c with sample := w })
  pushEvent 0x400 7 0 [w] s1.timeNow { s1 with host := { s1.host with irqStat := s1.host.irqStat ||| 0x80 } }

theorem counterWrap_quiet {k n : Nat} (h : ¬(k < 8 ∧ evIrq (look 0 (s.pmu c).evsel k) = true)) :
    counterWrap c k n s = wrapMarked c k s := if_neg h

theorem counterWrap_sampled {k n : Nat} (hk : k < 8) (h : evIrq (look 0 (s.pmu c).evsel k) = true) :
    counterWrap c k n s = wrapSampled c (wrapSample (fresh (wrapMarked c k s)).1 (s.pmu c) k n) (fresh (wrapMarked c k s)).2 :=
  if_pos ⟨hk, h⟩

theorem sendFrame_routes (src cls : Nat) (ws : List Word) (s : State) : (sendFrame src cls ws s).fab.routes = s.fab.routes :=
  sendAs_routes ..

theorem wrapSampled_counted (c : Nat) (w : Word) (s : State) : Counted c s (wrapSampled c w s) := by
  have hs := sendFrame_only 0x400 7 [w] (s.setPmu c { s.pmu c with sample := w })
  have hr := sendFrame_routes 0x400 7 [w] (s.setPmu c { s.pmu c with sample := w })
  unfold wrapSampled
  dsimp only
  generalize sendFrame 0x400 7 [w] _ = v at hs hr ⊢
  rw [pushEvent_only]
  refine ⟨?_, hr, fun d hd => ?_⟩
  · rw [hs]; rfl
  · have hv : v.pmu d = (s.setPmu c { s.pmu c with sample := w }).pmu d := by rw [hs]; rfl
    exact hv.trans (State.pmu_setPmu_other _ _ _ _ hd)

theorem wrapSampled_pmu (c : Nat) (w : Word) (s : State) (d : Nat) :
    (wrapSampled c w s).pmu d = (s.setPmu c { s.pmu c with sample := w }).pmu d := by
  unfold wrapSampled
  rw [pushEvent_only, sendFrame_only]; rfl

/-- The performance monitor's interrupt (R246, R409). -/
theorem wrapSampled_irq (c : Nat) (w : Word) (s : State) : (wrapSampled c w s).host.irqStat.getLsbD 7 = true := by
  unfold wrapSampled pushEvent
  dsimp only
  rw [foldl_fresh_net (fun t _ => coreUnicast_only 0 _ t)]
  simp

theorem fresh_counted (c : Nat) (s : State) : Counted c s (fresh s).2 := ⟨rfl, rfl, fun _ _ => rfl⟩

theorem wrapMarked_counted (c k : Nat) (s : State) : Counted c s (wrapMarked c k s) := setPmu_counted ..

theorem counterWrap_counted (c k n : Nat) (s : State) : Counted c s (counterWrap c k n s) := by
  by_cases h : k < 8 ∧ evIrq (look 0 (s.pmu c).evsel k) = true
  · rw [counterWrap_sampled h.1 h.2]
    exact (wrapMarked_counted c k s).trans ((fresh_counted c _).trans (wrapSampled_counted ..))
  · rw [counterWrap_quiet h]
    exact wrapMarked_counted c k s

theorem countCycles_counted (c n : Nat) (r : CoreRun) (q : Cycles) (s : State) (k : Nat) : Counted c s (countCycles c n r q s k) := by
  unfold countCycles
  dsimp only
  repeat' split
  · exact (setPmu_counted ..).trans (counterWrap_counted ..)
  · exact setPmu_counted ..
  · exact Counted.refl c s

theorem countEvent_counted (c code : Nat) (s : State) (k : Nat) : Counted c s (countEvent c code s k) := by
  unfold countEvent
  dsimp only
  repeat' split
  · exact (setPmu_counted ..).trans (counterWrap_counted ..)
  · exact setPmu_counted ..
  · exact Counted.refl c s

theorem pmuEvent_counted (c code : Nat) (s : State) : Counted c s (pmuEvent c code s) := Counted.foldl (countEvent_counted c code) _ s

/-- The monitor at the present tick, before the pipeline's counts since the last one (R241). -/
def pmuAt (s : State) (c : Nat) : Pmu :=
  { s.pmu c with
    cyc := cycNow s c, since := if counting s c then some s.now else none, run := coreRun (s.core c),
    ovf := if 18446744073709551616 ≤ (s.pmu c).cyc + cyclesSince s c then (s.pmu c).ovf ||| 0x100 else (s.pmu c).ovf }

/-- The pipeline's counts since the counters were last brought up to date (R242). -/
def pmuCounts (c : Nat) (s : State) (t : State) : State :=
  (List.range 8).foldl (countCycles c (cyclesSince s c) (s.pmu c).run (cyclesOf (s.pmu c).run (cyclesSince s c) s.fresh))
    { t with fresh := s.fresh + 9 }

theorem pmuSync_idle (h : cyclesSince s c = 0 ∨ (s.pmu c).run = .idle) : pmuSync c s = s.setPmu c (pmuAt s c) := if_pos h

theorem pmuSync_busy (h : ¬(cyclesSince s c = 0 ∨ (s.pmu c).run = .idle)) :
    pmuSync c s = pmuCounts c s (s.setPmu c (pmuAt s c)) := if_neg h

theorem pmuCounts_counted (c : Nat) (s t : State) : Counted c t (pmuCounts c s t) :=
  Counted.trans (t := { t with fresh := s.fresh + 9 }) ⟨rfl, rfl, fun _ _ => rfl⟩ (Counted.foldl (countCycles_counted c _ _ _) _ _)

theorem pmuSync_counted (c : Nat) (s : State) : Counted c s (pmuSync c s) := by
  by_cases h : cyclesSince s c = 0 ∨ (s.pmu c).run = .idle
  · rw [pmuSync_idle h]; exact setPmu_counted ..
  · rw [pmuSync_busy h]; exact (setPmu_counted ..).trans (pmuCounts_counted ..)

@[simp] theorem pmuSync_core (c : Nat) (s : State) (d : Nat) : (pmuSync c s).core d = s.core d := (pmuSync_counted c s).core d
@[simp] theorem pmuSync_task (c : Nat) (s : State) (n : Nat) : (pmuSync c s).task n = s.task n := (pmuSync_counted c s).task n
@[simp] theorem pmuEvent_core (c code : Nat) (s : State) (d : Nat) : (pmuEvent c code s).core d = s.core d :=
  (pmuEvent_counted c code s).core d
@[simp] theorem pmuEvent_task (c code : Nat) (s : State) (n : Nat) : (pmuEvent c code s).task n = s.task n :=
  (pmuEvent_counted c code s).task n

end Counts

end Sys2Proof.Machine
end

section
/-!
SUPPORT. The cores (R232, R233, R238): what a change of a core leaves alone, the state it goes to when a cause shuts it down or is
gone, and the core that a run has left.
-/
namespace Sys2Proof.Machine

open Sys2Proof

/-! ## What a change of a core leaves alone -/

/-- Cores have changed, and their counters with them. -/
structure CoresChanged (s t : State) : Prop where
  only : t = { s with
    fresh := t.fresh, fab := t.fab, host := t.host, net := t.net, cox := { s.cox with cores := t.cox.cores, pmu := t.cox.pmu } }
  routes : t.fab.routes = s.fab.routes

section Changes

variable {s t u : State} {c : Nat}

theorem Counted.cores (h : Counted c s t) : CoresChanged s t := ⟨by rw [h.only], h.routes⟩

theorem CoresChanged.trans (h : CoresChanged s t) (k : CoresChanged t u) : CoresChanged s u where
  only := by rw [k.only, h.only]
  routes := k.routes.trans h.routes

theorem CoresChanged.task (h : CoresChanged s t) (n : Nat) : t.task n = s.task n := by rw [h.only]; rfl
theorem CoresChanged.cox (h : CoresChanged s t) : t.cox = { s.cox with cores := t.cox.cores, pmu := t.cox.pmu } := by rw [h.only]
theorem CoresChanged.hook (h : CoresChanged s t) : t.hook = s.hook := by rw [h.only]
theorem CoresChanged.ump (h : CoresChanged s t) : t.ump = s.ump := by rw [h.only]

theorem CoresChanged.unhooked {src cls : Nat} (h : CoresChanged s t) (hu : Unhooked s src cls) : Unhooked t src cls :=
  unhooked_of_routes h.routes h.hook hu

theorem setCore_changed (c : Nat) (k : Core) (s : State) : CoresChanged s (s.setCore c k) := ⟨rfl, rfl⟩

theorem coreTo_changed (c : Nat) (st : CoreState) (s : State) : CoresChanged s (coreTo c st s) :=
  (setCore_changed ..).trans (pmuSync_counted c _).cores

theorem coreOff_changed (c : Nat) (s : State) : CoresChanged s (coreOff c s) := (setCore_changed ..).trans (coreTo_changed ..)

theorem coreFree_changed (c : Nat) (s : State) : CoresChanged s (coreFree c s) := by
  unfold coreFree
  dsimp only
  split
  · exact (setCore_changed ..).trans (coreOff_changed ..)
  · exact (setCore_changed ..).trans (coreTo_changed ..)

theorem coreDown_changed (c : Nat) (s : State) : CoresChanged s (coreDown c s) := by
  unfold coreDown
  split
  · exact coreOff_changed c s
  · exact coreTo_changed ..
  · exact coreTo_changed ..
  · exact coreTo_changed ..
  · exact coreTo_changed ..
  · exact ⟨rfl, rfl⟩

@[simp] theorem coreFree_task (c : Nat) (s : State) (n : Nat) : (coreFree c s).task n = s.task n := (coreFree_changed c s).task n
@[simp] theorem coreDown_task (c : Nat) (s : State) (n : Nat) : (coreDown c s).task n = s.task n := (coreDown_changed c s).task n

/-! ## Where a core goes -/

theorem coreTo_core {st : CoreState} (h : st ≠ .off) : (coreTo c st s).core c = { s.core c with state := st } :=
  (pmuSync_core ..).trans (State.core_setCore_on h)

/-- The core after its shut-down: it returns where nothing keeps it off (R238). -/
def coreAfterOff (k : Core) : Core :=
  { k with pending := false, task := none, state := if coreWanted k then .idle else offState k }

theorem coreOff_eq (h : (s.core c).state ≠ .off) : coreOff c s = pmuSync c (s.setCore c (coreAfterOff (s.core c))) := by
  have hne : ({ s.core c with pending := false, task := none } : Core) ≠ {} := ne_of_apply_ne Core.state h
  unfold coreOff coreTo
  dsimp only
  rw [State.core_setCore_ne hne, State.setCore_setCore hne]
  rfl

theorem coreDown_idle (h : (s.core c).state = .idle) : coreDown c s = pmuSync c (s.setCore c (coreAfterOff (s.core c))) := by
  rw [coreDown, h]
  exact coreOff_eq (by rw [h]; decide)

theorem coreDown_run (h : (s.core c).state = .run) : coreDown c s = coreTo c .shutdown s := by rw [coreDown, h]

theorem coreUp_returns (h : (s.core c).state = .off ∨ (s.core c).state = .halt) (hwanted : coreWanted (s.core c) = true) :
    coreUp c s = coreTo c .idle s := by
  rcases h with h | h <;> simp [coreUp, h, hwanted]

/-- The core that a run has left (R233). -/
def coreLeft (k : Core) : Core := { k with task := none, copies := [], waiting := false, stalled := none, state := .idle }

theorem coreFree_core (h : (s.core c).state = .run) : (coreFree c s).core c = coreLeft (s.core c) := by
  have hk : ({ s.core c with task := none, copies := [], waiting := false, stalled := none } : Core).state ≠ .off := by
    rw [h]; decide
  have hrun : (s.core c).state ≠ .shutdown := by rw [h]; decide
  unfold coreFree
  dsimp only
  rw [if_neg hrun, coreTo_core (by decide), State.core_setCore_on hk]
  rfl

/-- A core that ran a task has gone idle at the end of the run (R233, R238). -/
theorem coreFree_leaves (h : t.core c = s.core c) : CoreLeft s (coreFree c t) c := fun hrun => by
  rw [coreFree_core (by rw [h, hrun])]
  exact ⟨rfl, rfl⟩

end Changes

end Sys2Proof.Machine
end

section
/-!
SUPPORT. The performance monitor (R241 to R248): what counting changes of a monitor, the value of a counter over the cycles of a
stalled SEND, the steps over every core, and the statements about the monitor and about a core's slice.
-/
namespace Sys2Proof.Machine

open Sys2Proof

/-! ## Fields of a register view -/

theorem pack_getLsbD (v lo w i : Nat) (fs : List (Nat × Nat × Nat)) (hi : i < 32) : (pack ((v, lo, w) :: fs)).getLsbD i =
    (decide (lo ≤ i) && decide (i - lo < w) && v.testBit (i - lo) || (pack fs).getLsbD i) := by
  rw [pack, BitVec.getLsbD_or, BitVec.getLsbD_ofNat, Nat.testBit_shiftLeft, Nat.testBit_mod_two_pow]
  simp [hi, Bool.and_assoc]

theorem testBit_bits {w : Nat} (x : BitVec w) (hi lo j : Nat) :
    (bits x hi lo).testBit j = (decide (j < hi + 1 - lo) && x.getLsbD (lo + j)) := by
  rw [bits, Nat.testBit_mod_two_pow, Nat.testBit_shiftRight, BitVec.testBit_toNat]

theorem wrapSample_getLsbD (addr : Word) (p : Pmu) (k t i : Nat) (hi : i < 32) : (wrapSample addr p k t).getLsbD i =
    (decide (i < 15) && addr.toNat.testBit i || (decide (i = 15) && p.sample.getLsbD 31 ||
      (decide (16 ≤ i) && decide (i - 16 < 9) && t.testBit (i - 16) ||
        (decide (25 ≤ i) && decide (i - 25 < 3) && k.testBit (i - 25) || decide (i = 31))))) := by
  have hvalid : (decide (31 ≤ i) && decide (i - 31 < 1) && (1 : Nat).testBit (i - 31)) = decide (i = 31) := by
    by_cases h : i = 31
    · subst h; rfl
    · simp [h, show ¬31 ≤ i by omega]
  rw [wrapSample, pack_getLsbD _ _ _ _ _ hi, pack_flag_getLsbD hi, pack_getLsbD _ _ _ _ _ hi, pack_getLsbD _ _ _ _ _ hi,
    pack_getLsbD _ _ _ _ _ hi, hvalid]
  simp [pack, Bool.and_comm]

/-- The fields of a sample (R246). -/
theorem wrapSample_fields (addr : Word) (p : Pmu) (k t : Nat) : (wrapSample addr p k t).getLsbD 31 = true ∧
    bits (wrapSample addr p k t) 27 25 = k % 8 ∧ bits (wrapSample addr p k t) 24 16 = t % 512 ∧
    (wrapSample addr p k t).getLsbD 15 = p.sample.getLsbD 31 := by
  refine ⟨by rw [wrapSample_getLsbD _ _ _ _ _ (by omega)]; simp, Nat.eq_of_testBit_eq fun j => ?counter, Nat.eq_of_testBit_eq fun j => ?task,
    by rw [wrapSample_getLsbD _ _ _ _ _ (by omega)]; simp⟩
  case counter =>
    rw [testBit_bits, show (8 : Nat) = 2 ^ 3 from rfl, Nat.testBit_mod_two_pow]
    by_cases hj : j < 3
    · simp [wrapSample_getLsbD _ _ _ _ (25 + j) (by omega), hj, show ¬25 + j < 15 by omega, show ¬25 + j = 15 by omega,
        show ¬25 + j - 16 < 9 by omega, show ¬25 + j = 31 by omega]
    · simp [hj]
  case task =>
    rw [testBit_bits, show (512 : Nat) = 2 ^ 9 from rfl, Nat.testBit_mod_two_pow]
    by_cases hj : j < 9
    · simp [wrapSample_getLsbD _ _ _ _ (16 + j) (by omega), hj, show ¬16 + j < 15 by omega, show ¬16 + j = 15 by omega,
        show ¬25 ≤ 16 + j by omega, show ¬16 + j = 31 by omega]
    · simp [hj]

/-! ## What counting changes of a monitor -/

/-- The monitor is listed whatever its counters show: its cycle counter runs or is not 0. -/
def Clocked (p : Pmu) : Prop := p.since ≠ none ∨ p.cyc ≠ 0

theorem Clocked.listed {p : Pmu} (h : Clocked p) : p ≠ {} :=
  h.elim (fun h => ne_of_apply_ne Pmu.since h) (fun h => ne_of_apply_ne Pmu.cyc h)

/-- Counting has changed the counters, the sample, and the overflow bits, of which none is lost (R244, R246). -/
structure PmuCounted (p q : Pmu) : Prop where
  only : q = { p with cnt := q.cnt, ovf := q.ovf, sample := q.sample }
  ovf : ∀ k, p.ovf.getLsbD k = true → q.ovf.getLsbD k = true

theorem PmuCounted.refl (p : Pmu) : PmuCounted p p := ⟨rfl, fun _ h => h⟩

theorem PmuCounted.trans {p q r : Pmu} (h : PmuCounted p q) (k : PmuCounted q r) : PmuCounted p r :=
  ⟨by rw [k.only, h.only], fun n hn => k.ovf n (h.ovf n hn)⟩

theorem PmuCounted.clock {p q : Pmu} (h : PmuCounted p q) : q.cyc = p.cyc ∧ q.since = p.since := by
  rw [h.only]; exact ⟨rfl, rfl⟩

theorem PmuCounted.clocked {p q : Pmu} (h : PmuCounted p q) (hp : Clocked p) : Clocked q := by
  obtain ⟨hcyc, hsince⟩ := h.clock
  rwa [Clocked, hcyc, hsince]

section Kept

variable {s t : State} {c k n : Nat}

/-- A wrap sets its overflow bit and, with IRQ, leaves a sample and raises the interrupt (R244, R246). -/
theorem counterWrap_pmu (hp : Clocked (s.pmu c)) : ∃ w,
    (counterWrap c k n s).pmu c = { s.pmu c with ovf := (s.pmu c).ovf ||| BitVec.ofNat 32 (1 <<< k), sample := w } ∧
    (k < 8 → evIrq (look 0 (s.pmu c).evsel k) = true →
      (∃ a, w = wrapSample a (s.pmu c) k n) ∧ (counterWrap c k n s).host.irqStat.getLsbD 7 = true) := by
  have hmark : (wrapMarked c k s).pmu c = { s.pmu c with ovf := (s.pmu c).ovf ||| BitVec.ofNat 32 (1 <<< k) } :=
    State.pmu_setPmu_ne (Clocked.listed hp)
  by_cases h : k < 8 ∧ evIrq (look 0 (s.pmu c).evsel k) = true
  · have hfresh : (fresh (wrapMarked c k s)).2.pmu c = { s.pmu c with ovf := (s.pmu c).ovf ||| BitVec.ofNat 32 (1 <<< k) } := hmark
    refine ⟨wrapSample (fresh (wrapMarked c k s)).1 (s.pmu c) k n, ?_, fun _ _ => ⟨⟨_, rfl⟩, ?_⟩⟩
    · rw [counterWrap_sampled h.1 h.2, wrapSampled_pmu, hfresh]
      exact State.pmu_setPmu_ne (Clocked.listed hp)
    · rw [counterWrap_sampled h.1 h.2]
      exact wrapSampled_irq ..
  · exact ⟨(s.pmu c).sample, by rw [counterWrap_quiet h, hmark], fun hk hirq => absurd ⟨hk, hirq⟩ h⟩

theorem counterWrap_kept (hp : Clocked (s.pmu c)) : PmuCounted (s.pmu c) ((counterWrap c k n s).pmu c) := by
  obtain ⟨w, hw, -⟩ := counterWrap_pmu (k := k) (n := n) hp
  rw [hw]
  exact ⟨rfl, fun j hj => by simp [hj]⟩

/-- A counter has its new value, and wraps where it has reached its end (R244). -/
def counterSet (c k t v : Nat) (s : State) : State :=
  let s1 := s.setPmu c { s.pmu c with cnt := put 0 (s.pmu c).cnt k (v % 281474976710656) }
  if 281474976710656 ≤ v then counterWrap c k t s1 else s1

theorem setCnt_pmu {m : Tab Nat} (hp : Clocked (s.pmu c)) :
    (s.setPmu c { s.pmu c with cnt := m }).pmu c = { s.pmu c with cnt := m } := State.pmu_setPmu_ne (Clocked.listed hp)

theorem counterSet_kept {v : Nat} (hp : Clocked (s.pmu c)) : PmuCounted (s.pmu c) ((counterSet c k n v s).pmu c) := by
  have hset := setCnt_pmu (m := put 0 (s.pmu c).cnt k (v % 281474976710656)) hp
  have hcnt : PmuCounted (s.pmu c) { s.pmu c with cnt := put 0 (s.pmu c).cnt k (v % 281474976710656) } := ⟨rfl, fun _ h => h⟩
  unfold counterSet
  dsimp only
  split
  · have hwrap := counterWrap_kept (k := k) (n := n)
      (show Clocked ((s.setPmu c { s.pmu c with cnt := put 0 (s.pmu c).cnt k (v % 281474976710656) }).pmu c) by rw [hset]; exact hp)
    rw [hset] at hwrap
    exact hcnt.trans hwrap
  · rw [hset]
    exact hcnt

theorem countCycles_kept {r : CoreRun} {q : Cycles} (hp : Clocked (s.pmu c)) :
    PmuCounted (s.pmu c) ((countCycles c n r q s k).pmu c) := by
  unfold countCycles
  dsimp only
  split
  · exact counterSet_kept hp
  · exact PmuCounted.refl _

theorem pmuCounts_kept (hp : Clocked (t.pmu c)) : PmuCounted (t.pmu c) ((pmuCounts c s t).pmu c) := by
  unfold pmuCounts
  refine (List.foldlRecOn (motive := fun u : State => Clocked (u.pmu c) ∧ PmuCounted (t.pmu c) (u.pmu c)) (List.range 8)
    (countCycles c (cyclesSince s c) (s.pmu c).run (cyclesOf (s.pmu c).run (cyclesSince s c) s.fresh))
    (b := { t with fresh := s.fresh + 9 }) ⟨hp, PmuCounted.refl _⟩ fun u hu k _ => ?_).2
  obtain ⟨hu, hkept⟩ := hu
  exact ⟨(countCycles_kept hu).clocked hu, hkept.trans (countCycles_kept hu)⟩

/-- Brought up to date, a monitor stands at the present tick, and its counters have counted. -/
theorem pmuSync_kept (hp : Clocked (pmuAt s c)) : PmuCounted (pmuAt s c) ((pmuSync c s).pmu c) := by
  have hset : (s.setPmu c (pmuAt s c)).pmu c = pmuAt s c := State.pmu_setPmu_ne hp.listed
  by_cases h : cyclesSince s c = 0 ∨ (s.pmu c).run = .idle
  · rw [pmuSync_idle h, hset]
    exact PmuCounted.refl _
  · have hcounts := pmuCounts_kept (s := s) (show Clocked ((s.setPmu c (pmuAt s c)).pmu c) by rw [hset]; exact hp)
    rwa [hset, ← pmuSync_busy h] at hcounts

theorem pmuAt_clocked (h : 0 < cycNow s c ∨ counting s c = true) : Clocked (pmuAt s c) := by
  rcases h with h | h
  · exact Or.inr h.ne'
  · exact Or.inl (by simp [pmuAt, h])

/-- The cycle counter of a core brought up to date (R241). -/
theorem pmuSync_clock (h : 0 < cycNow s c ∨ counting s c = true) : ((pmuSync c s).pmu c).cyc = cycNow s c ∧
    ((pmuSync c s).pmu c).since = if counting s c then some s.now else none := (pmuSync_kept (pmuAt_clocked h)).clock

/-! ## A core stalled in SEND (R242) -/

theorem countCycles_disabled {r : CoreRun} {q : Cycles} (h : evEn (look 0 (s.pmu c).evsel k) = false) :
    countCycles c n r q s k = s := by
  have hoff : pipelineEvent (look 0 (s.pmu c).evsel k) = false := by rw [pipelineEvent, h]; rfl
  unfold countCycles
  dsimp only
  rw [hoff]
  rfl

theorem countCycles_sends {f t' : Nat} (hen : evEn (look 0 (s.pmu c).evsel k) = true) (hev : evEvent (look 0 (s.pmu c).evsel k) = 0x0B)
    (hfilt : evFilt (look 0 (s.pmu c).evsel k) = false ∨ evTask (look 0 (s.pmu c).evsel k) = t') :
    countCycles c n (.sends t') (cyclesOf (.sends t') n f) s k = counterSet c k t' (look 0 (s.pmu c).cnt k + n) s := by
  have hfor : (!evFilt (look 0 (s.pmu c).evsel k) || decide (t' = evTask (look 0 (s.pmu c).evsel k))) = true := by
    rcases hfilt with h | h
    · rw [h]; rfl
    · rw [h, decide_eq_true rfl, Bool.or_true]
  have hon : pipelineEvent (look 0 (s.pmu c).evsel k) = true := by rw [pipelineEvent, hen, hev]; rfl
  unfold countCycles
  dsimp only
  rw [if_pos (by simp only [hon, CoreRun.task, Option.some.injEq, hfor]; simp), hev]
  rfl

end Kept

/-! ## One step of a fold that does something -/

theorem foldl_idle {α β : Type} {f : α → β → α} (l : List β) (s : α) (h : ∀ b ∈ l, f s b = s) : l.foldl f s = s := by
  induction l with
  | nil => rfl
  | cons b l ih => rw [List.foldl_cons, h b (by simp), ih fun x hx => h x (by simp [hx])]

theorem foldl_single {α β : Type} {f : α → β → α} {l : List β} {k : β} (hl : l.Nodup) (hk : k ∈ l) (s : α)
    (hbefore : ∀ b ∈ l, b ≠ k → f s b = s) (hafter : ∀ b ∈ l, b ≠ k → f (f s k) b = f s k) : l.foldl f s = f s k := by
  obtain ⟨l1, l2, rfl⟩ := List.append_of_mem hk
  obtain ⟨-, hk2, hdisj⟩ := List.nodup_append.mp hl
  rw [List.foldl_append, foldl_idle l1 s fun b hb => hbefore b (by simp [hb]) (hdisj b hb k (by simp)), List.foldl_cons]
  exact foldl_idle l2 _ fun b hb => hafter b (by simp [hb]) (ne_of_mem_of_not_mem hb (List.nodup_cons.mp hk2).1)

end Sys2Proof.Machine
end

section
/-!
SUPPORT. The performance monitor's own commands (R241, R244 to R246), and a core's slice (R248): what a command over every core does
to one core's monitor, and the two statements.
-/
namespace Sys2Proof.Machine

open Sys2Proof

/-! ## One core in a command over every core -/

/-- What the counters of core `c` are read from. -/
def monitorOf (c : Nat) (s : State) : Pmu × Nat × Core × Bool := (s.pmu c, s.now, s.core c, s.cox.freeze)

section Monitor

variable {s t : State} {c : Nat}

theorem monitorOf_eq (h : monitorOf c t = monitorOf c s) :
    t.pmu c = s.pmu c ∧ t.now = s.now ∧ t.core c = s.core c ∧ t.cox.freeze = s.cox.freeze := by
  simpa [monitorOf] using h

theorem monitorOf_parts {p : Pmu} {n : Nat} {k : Core} {b : Bool} (h : monitorOf c s = (p, n, k, b)) :
    s.pmu c = p ∧ s.now = n ∧ s.core c = k ∧ s.cox.freeze = b := by
  simpa [monitorOf] using h

theorem cycNow_of_monitor (h : monitorOf c t = monitorOf c s) : cycNow t c = cycNow s c := by
  obtain ⟨hpmu, hnow, -, -⟩ := monitorOf_eq h
  unfold cycNow
  rw [hpmu, hnow]

theorem counting_of_monitor (h : monitorOf c t = monitorOf c s) : counting t c = counting s c := by
  obtain ⟨-, -, hcore, hfreeze⟩ := monitorOf_eq h
  unfold counting
  rw [hcore, hfreeze]

theorem Counted.monitor {d : Nat} (h : Counted d s t) (hd : c ≠ d) : monitorOf c t = monitorOf c s := by
  rw [monitorOf, monitorOf, h.other c hd, h.now, h.core, h.cox]

/-- In a step over every core, a core's monitor sees its own step alone. -/
theorem monitorOf_eachCore {f : State → Nat → State} (hf : ∀ t d, Counted d t (f t d)) (hc : c < 8) (s : State) :
    ∃ u, monitorOf c u = monitorOf c s ∧ monitorOf c ((List.range 8).foldl f s) = monitorOf c (f u c) := by
  obtain ⟨l1, l2, hl⟩ := List.append_of_mem (List.mem_range.mpr hc)
  have hnodup := List.nodup_range (n := 8)
  rw [hl] at hnodup ⊢
  obtain ⟨-, hk2, hdisj⟩ := List.nodup_append.mp hnodup
  have hkeeps : ∀ (l : List Nat) (t : State), c ∉ l → monitorOf c (l.foldl f t) = monitorOf c t := fun l t hl =>
    List.foldlRecOn (motive := fun u => monitorOf c u = monitorOf c t) l f rfl fun u hu d hd =>
      ((hf u d).monitor (ne_of_mem_of_not_mem hd hl).symm).trans hu
  refine ⟨l1.foldl f s, hkeeps l1 s fun hmem => hdisj c hmem c (by simp) rfl, ?_⟩
  rw [List.foldl_append, List.foldl_cons]
  exact hkeeps l2 _ (List.nodup_cons.mp hk2).1

/-! ## Counters brought up to date (R241) -/

/-- A counter that is stopped, or counts from now, shows what it holds. -/
theorem cycNow_held (hsince : (s.pmu c).since = none ∨ (s.pmu c).since = some s.now) (hcyc : (s.pmu c).cyc < 2 ^ 64) :
    cycNow s c = (s.pmu c).cyc := by
  unfold cycNow
  rcases hsince with hs | hs
  · simp only [hs]
  · simp only [hs, Nat.sub_self, Nat.mul_zero, Nat.add_zero]
    exact Nat.mod_eq_of_lt hcyc

theorem since_held {b : Bool} {o : Option Nat} {n : Nat} (h : o = if b then some n else none) : o = none ∨ o = some n := by
  cases b
  · exact Or.inl h
  · exact Or.inr h

theorem cycNow_pmuSync (h : 0 < cycNow s c ∨ counting s c = true) (hlt : cycNow s c < 2 ^ 64) :
    cycNow (pmuSync c s) c = cycNow s c := by
  obtain ⟨hcyc, hsince⟩ := pmuSync_clock h
  rw [cycNow_held (by rw [(pmuSync_counted c s).now]; exact since_held hsince) (by rw [hcyc]; exact hlt), hcyc]

/-- Every core's counters are brought up to date. -/
def syncAll (s : State) : State := (List.range 8).foldl (fun t c => pmuSync c t) s

theorem syncAll_monitor (hc : c < 8) (h : 0 < cycNow s c ∨ counting s c = true) : ∃ p, monitorOf c (syncAll s) =
    (p, s.now, s.core c, s.cox.freeze) ∧ p.cyc = cycNow s c ∧ p.since = if counting s c then some s.now else none := by
  obtain ⟨u, hu, hsync⟩ : ∃ u, monitorOf c u = monitorOf c s ∧ monitorOf c (syncAll s) = monitorOf c (pmuSync c u) :=
    monitorOf_eachCore (fun t d => pmuSync_counted d t) hc s
  obtain ⟨-, hnow, hcore, hfreeze⟩ := monitorOf_eq hu
  have hclock := pmuSync_clock (s := u) (c := c) (by rw [cycNow_of_monitor hu, counting_of_monitor hu]; exact h)
  rw [cycNow_of_monitor hu, counting_of_monitor hu, hnow] at hclock
  refine ⟨(pmuSync c u).pmu c, ?_, hclock⟩
  rw [hsync, monitorOf, (pmuSync_counted c u).now, (pmuSync_counted c u).core, (pmuSync_counted c u).cox, hnow, hcore, hfreeze]

end Monitor

/-! ## The commands -/

section Commands

variable {s : State} {c k : Nat} {p : Port}

theorem pmuCounterWrap_syncs (hup : s.sys.up = true) (hc : c < 8) (h : counting s c = true) :
    exec (.pmuCounterWrap c k) s = .next (pmuSync c s) :=
  run_gives hup (by rw [decide_eq_true hc, whenever_true, pmuWrap, if_pos h])

theorem pmuCounterWrap_frozen (hup : s.sys.up = true) (h : s.cox.freeze = true) : exec (.pmuCounterWrap c k) s = .next s := by
  have hcount : counting s c = false := by simp [counting, h]
  refine run_gives hup ?_
  unfold whenever pmuWrap
  rw [hcount]
  exact ite_self _

theorem counting_pmuAt (h : counting s c = true) :
    (pmuAt s c).since = some s.now ∧ Clocked (pmuAt s c) := ⟨if_pos h, pmuAt_clocked (Or.inr h)⟩

/-- A wrap of the cycle counter sets CYC of its overflow register (R241, R244). -/
theorem pmuAt_wraps (h : 2 ^ 64 ≤ (s.pmu c).cyc + cyclesSince s c) : (pmuAt s c).ovf.getLsbD 8 = true := by
  have hovf : (pmuAt s c).ovf = (s.pmu c).ovf ||| 0x100 := if_pos h
  rw [hovf, BitVec.getLsbD_or]
  simp

/-- Over the cycles of a stalled SEND, the one enabled counter that counts them takes them all (R242). -/
theorem pmuSync_sends {t t0 : Nat} (hk : k < 8) (hcount : counting s c = true) (hsince : (s.pmu c).since = some t0)
    (hlt : t0 < s.now) (hrun : (s.pmu c).run = .sends t) (hen : evEn (look 0 (s.pmu c).evsel k) = true)
    (hev : evEvent (look 0 (s.pmu c).evsel k) = 0x0B)
    (hfilt : evFilt (look 0 (s.pmu c).evsel k) = false ∨ evTask (look 0 (s.pmu c).evsel k) = t)
    (hothers : ∀ j, j < 8 → j ≠ k → evEn (look 0 (s.pmu c).evsel j) = false) :
    pmuSync c s = counterSet c k t (look 0 (s.pmu c).cnt k + 6 * (s.now - t0))
      { s.setPmu c (pmuAt s c) with fresh := s.fresh + 9 } := by
  have hcycles : cyclesSince s c = 6 * (s.now - t0) := by rw [cyclesSince, hsince]; rfl
  have hbase : ({ s.setPmu c (pmuAt s c) with fresh := s.fresh + 9 } : State).pmu c = pmuAt s c :=
    State.pmu_setPmu_ne (counting_pmuAt hcount).2.listed
  have hclocked : Clocked (({ s.setPmu c (pmuAt s c) with fresh := s.fresh + 9 } : State).pmu c) := by
    rw [hbase]; exact (counting_pmuAt hcount).2
  rw [pmuSync_busy (by rw [hcycles, hrun]; simp; omega), pmuCounts, hrun, hcycles]
  generalize hb : ({ s.setPmu c (pmuAt s c) with fresh := s.fresh + 9 } : State) = b at hbase hclocked
  have hevsel : (b.pmu c).evsel = (s.pmu c).evsel := by rw [hbase]; rfl
  have hcnt : (b.pmu c).cnt = (s.pmu c).cnt := by rw [hbase]; rfl
  rw [← hevsel] at hen hev hfilt hothers
  have hstep := countCycles_sends (n := 6 * (s.now - t0)) (f := s.fresh) hen hev hfilt
  rw [← hcnt, ← hstep]
  refine foldl_single List.nodup_range (List.mem_range.mpr hk) b (fun j hj hne => ?_) fun j hj hne => ?_
  · exact countCycles_disabled (hothers j (List.mem_range.mp hj) hne)
  · have hkept : ((countCycles c (6 * (s.now - t0)) (.sends t) (cyclesOf (.sends t) (6 * (s.now - t0)) s.fresh) b k).pmu c).evsel =
        (b.pmu c).evsel := by rw [(countCycles_kept hclocked).only]
    exact countCycles_disabled (by rw [hkept]; exact hothers j (List.mem_range.mp hj) hne)

/-- A counter that is set has its value modulo 2^48; at its end it sets its overflow bit and, with IRQ, leaves a sample (R244,
R246). -/
theorem counterSet_pmu {t v : Nat} (hp : Clocked (s.pmu c)) : ∃ ovf w, (counterSet c k t v s).pmu c =
    { s.pmu c with cnt := put 0 (s.pmu c).cnt k (v % 2 ^ 48), ovf := ovf, sample := w } ∧
    (2 ^ 48 ≤ v → ovf = (s.pmu c).ovf ||| BitVec.ofNat 32 (1 <<< k)) ∧
    (2 ^ 48 ≤ v → k < 8 → evIrq (look 0 (s.pmu c).evsel k) = true →
      (∃ a, w = wrapSample a (s.pmu c) k t) ∧ (counterSet c k t v s).host.irqStat.getLsbD 7 = true) := by
  have hset := setCnt_pmu (m := put 0 (s.pmu c).cnt k (v % 2 ^ 48)) hp
  by_cases hv : 2 ^ 48 ≤ v
  · obtain ⟨w, hw, hirq⟩ := counterWrap_pmu (k := k) (n := t)
      (show Clocked ((s.setPmu c { s.pmu c with cnt := put 0 (s.pmu c).cnt k (v % 2 ^ 48) }).pmu c) by rw [hset]; exact hp)
    rw [hset] at hw hirq
    have heq : counterSet c k t v s =
        counterWrap c k t (s.setPmu c { s.pmu c with cnt := put 0 (s.pmu c).cnt k (v % 2 ^ 48) }) := if_pos hv
    exact ⟨_, w, by rw [heq, hw], fun _ => rfl, fun _ hk h => by rw [heq]; exact hirq hk h⟩
  · have heq : counterSet c k t v s = s.setPmu c { s.pmu c with cnt := put 0 (s.pmu c).cnt k (v % 2 ^ 48) } := if_neg hv
    exact ⟨_, _, by rw [heq, hset], fun h => absurd h hv, fun h => absurd h hv⟩

/-- A snapshot of one core (R245). -/
theorem snapCore_pmu (h : 0 < cycNow s c ∨ counting s c = true) (hlt : cycNow s c < 2 ^ 64) :
    ((snapCore s c).pmu c).snapCyc = cycNow s c ∧ ((snapCore s c).pmu c).snap = ((snapCore s c).pmu c).cnt := by
  have hclocked := (pmuSync_kept (pmuAt_clocked h)).clocked (pmuAt_clocked h)
  have hsnap : (snapCore s c).pmu c =
      { (pmuSync c s).pmu c with snapCyc := cycNow (pmuSync c s) c, snap := ((pmuSync c s).pmu c).cnt } :=
    State.pmu_setPmu_ne (Clocked.listed hclocked)
  rw [hsnap]
  exact ⟨cycNow_pmuSync h hlt, rfl⟩

theorem snapCore_counted (s : State) (c : Nat) : Counted c s (snapCore s c) := (pmuSync_counted c s).trans (setPmu_counted ..)

theorem pmuSnap_pmu (hc : c < 8) (h : 0 < cycNow s c ∨ counting s c = true) (hlt : cycNow s c < 2 ^ 64) :
    ((pmuSnap s).pmu c).snapCyc = cycNow s c ∧ ((pmuSnap s).pmu c).snap = ((pmuSnap s).pmu c).cnt := by
  obtain ⟨u, hu, hsnap⟩ := monitorOf_eachCore snapCore_counted hc s
  obtain ⟨hpmu, -, -, -⟩ := monitorOf_eq hsnap
  have htable : (pmuSnap s).cox.pmu = ((List.range 8).foldl snapCore s).cox.pmu := by unfold pmuSnap; dsimp only
  have hcyc := cycNow_of_monitor hu
  rw [State.pmu, htable, ← State.pmu, hpmu, ← hcyc]
  exact snapCore_pmu (by rw [hcyc, counting_of_monitor hu]; exact h) (by rw [hcyc]; exact hlt)

/-- The counters' freeze is set or released (R245). -/
def frozen (on : Bool) (s : State) : State := { s with cox := { s.cox with freeze := on } }

theorem frozen_monitor {on b : Bool} {q : Pmu} {n : Nat} {k : Core} (h : monitorOf c s = (q, n, k, b)) :
    monitorOf c (frozen on s) = (q, n, k, on) := by
  obtain ⟨hpmu, hnow, hcore, -⟩ := monitorOf_parts h
  rw [← hpmu, ← hnow, ← hcore]
  rfl

theorem pmuFreeze_eq (on : Bool) (s : State) : pmuFreeze on s = syncAll (frozen on (syncAll s)) := by
  unfold pmuFreeze syncAll frozen; dsimp only

/-- A freeze or its release acts on counters brought up to date, which then stop or go on (R245). -/
theorem pmuFreeze_pmu {n : Nat} (on : Bool) (hc : c < 8) (hn : n = cycNow s c) (hpos : 0 < n) (hlt : n < 2 ^ 64) :
    (pmuFreeze on s).cox.freeze = on ∧ ((pmuFreeze on s).pmu c).cyc = n ∧
    ((pmuFreeze on s).pmu c).since = if counting (frozen on s) c then some s.now else none := by
  obtain ⟨p, hp, hcyc, hsince⟩ := syncAll_monitor hc (Or.inl (hn ▸ hpos))
  have hfrozen := frozen_monitor (on := on) hp
  obtain ⟨hpmu, hnow, hcore, hfreeze⟩ := monitorOf_parts hfrozen
  have hheld : cycNow (frozen on (syncAll s)) c = n := by
    rw [cycNow_held (by rw [hpmu, hnow]; exact since_held hsince) (by rw [hpmu, hcyc, ← hn]; exact hlt), hpmu, hcyc, hn]
  have hcount : counting (frozen on (syncAll s)) c = counting (frozen on s) c := by
    unfold counting
    rw [hcore, hfreeze]
    rfl
  obtain ⟨q, hq, hqcyc, hqsince⟩ := syncAll_monitor hc (Or.inl (hheld.symm ▸ hpos))
  obtain ⟨hqpmu, -, -, hqfreeze⟩ := monitorOf_parts hq
  rw [pmuFreeze_eq, hqpmu, hqfreeze, hqcyc, hqsince, hheld, hcount, hnow, hfreeze]
  exact ⟨rfl, rfl, rfl⟩

theorem counting_released (h : (s.core c).state = .run) : counting (frozen false s) c = true := by
  unfold counting
  rw [show (frozen false s).core c = s.core c from rfl, h]
  rfl

theorem counting_frozen : counting (frozen true s) c = false := rfl

/-- Settles O36: each command brings one core's counters to the present tick; the one counter of a stalled SEND takes its cycles,
a snapshot copies them, and a freeze stops them there. -/
theorem performanceMonitor : Obligations.PerformanceMonitor := by
  intro s hup
  refine ⟨fun c k hc hcount hlt => ?wraps, ?sends, fun c k hfreeze => pmuCounterWrap_frozen hup hfreeze,
    fun p c hc h hlt => ?snap, fun p c n hc hn hpos hlt => ⟨?freeze, ?release⟩⟩
  case wraps =>
    have hkept := pmuSync_kept (counting_pmuAt hcount).2
    obtain ⟨hcyc, hsince⟩ := hkept.clock
    exact ⟨_, pmuCounterWrap_syncs hup hc hcount, hcyc, hsince.trans (counting_pmuAt hcount).1,
      fun h => hkept.ovf 8 (pmuAt_wraps h)⟩
  case sends =>
    rintro c k q e t0 t v hc hk rfl hcount hsince hlt hrun rfl hen hev hfilt hothers rfl
    refine ⟨_, pmuCounterWrap_syncs hup hc hcount, ?_⟩
    rw [pmuSync_sends hk hcount hsince hlt hrun hen hev hfilt hothers]
    have hbase : ({ s.setPmu c (pmuAt s c) with fresh := s.fresh + 9 } : State).pmu c = pmuAt s c :=
      State.pmu_setPmu_ne (counting_pmuAt hcount).2.listed
    obtain ⟨ovf, w, hpmu, hovf, hirq⟩ := counterSet_pmu (k := k) (t := t) (v := look 0 (s.pmu c).cnt k + 6 * (s.now - t0))
      (show Clocked (({ s.setPmu c (pmuAt s c) with fresh := s.fresh + 9 } : State).pmu c) by
        rw [hbase]; exact (counting_pmuAt hcount).2)
    rw [hbase] at hpmu hovf hirq
    rw [hpmu]
    refine ⟨rfl, fun hv => ?_, fun hv hi => ?_⟩
    · rw [hovf hv, BitVec.getLsbD_or, oneBit_getLsbD (by omega), Bool.or_true]
    · obtain ⟨⟨a, rfl⟩, hset⟩ := hirq hv hk hi
      obtain ⟨hvalid, hcounter, htask, hmarker⟩ := wrapSample_fields a (pmuAt s c) k t
      exact ⟨hvalid, hcounter.trans (Nat.mod_eq_of_lt hk), htask, hmarker, hset⟩
  case snap =>
    obtain ⟨hcyc, hsnap⟩ := pmuSnap_pmu hc h hlt
    exact ⟨_, run_up _ _ hup, rfl, hcyc, hsnap⟩
  case freeze =>
    obtain ⟨hfreeze, hcyc, hsince⟩ := pmuFreeze_pmu true hc hn hpos hlt
    exact ⟨_, run_up _ _ hup, hfreeze, hsince.trans (by rw [counting_frozen]; rfl), hcyc⟩
  case release =>
    obtain ⟨hfreeze, hcyc, hsince⟩ := pmuFreeze_pmu false hc hn hpos hlt
    exact ⟨_, run_up _ _ hup, hfreeze, hcyc, fun hrun => hsince.trans (if_pos (counting_released hrun))⟩

end Commands

end Sys2Proof.Machine
end

section
/-!
SUPPORT. The start of a core's self-test slice (R248, R325): its counters are cleared, and the statement about it.
-/
namespace Sys2Proof.Machine

open Sys2Proof

section

variable {s : State} {c : Nat}

theorem pmuBistClear_pmu : (pmuBistClear c s).pmu c = { s.pmu c with
    cyc := 0, cnt := [], since := if counting s c then some s.now else none, ovf := (s.pmu c).ovf ||| 0x200 } := by
  have hovf : ((s.pmu c).ovf ||| 0x200).getLsbD 9 = true := by rw [BitVec.getLsbD_or]; simp
  exact State.pmu_setPmu_ne (ne_of_apply_ne Pmu.ovf (ne_zero_of_getLsbD hovf))

/-- A core whose slice starts does not count (R241). -/
theorem counting_slice : counting (coreTo c .bist s) c = false := by
  unfold counting
  rw [coreTo_core (by decide)]
  simp

/-- The slice's own bookkeeping, before the core is shut down for it (R325). -/
def sliceMarked (u : Nat) (s : State) : State :=
  let s1 := s.setUnit u { s.unit u with
    done := false, pending := false, runs := (s.unit u).runs + 1, sig := 0xFFFFFFFFFFFFFFFF, count := 0,
    mode := if isCoreUnit u then 2 else if s.bist.boot.isEmpty then (s.unit u).mode else 0 }
  { s1 with bist := { s1.bist with running := some u, started := s1.now } }

theorem sliceStart_core (hc : c < 8) : sliceStart (coreUnit c) s = coreSliceStart c (sliceMarked (coreUnit c) s) := by
  have hlane : isLaneUnit (coreUnit c) = false := by
    rw [isLaneUnit, coreUnit, decide_eq_false (show ¬8 + c ≤ 3 by omega), Bool.and_false]
  have hcore : isCoreUnit (coreUnit c) = true := by
    rw [isCoreUnit, coreUnit, decide_eq_true (show 8 ≤ 8 + c by omega), decide_eq_true (show 8 + c ≤ 15 by omega)]; rfl
  have hno : coreUnit c - 8 = c := by unfold coreUnit; omega
  unfold sliceStart
  dsimp only
  rw [if_neg (by rw [hlane]; simp), if_pos hcore, hno]
  rfl

theorem bistSliceStart_starts {u : Nat} (hup : s.sys.up = true) (h : SliceMayStart s u) :
    exec (.bistSliceStart u true) s = .next (sliceStart u s) := run_gives hup (if_pos h)

/-- The start of a core's slice leaves the controller as it is. -/
theorem coreSliceStart_bist : (coreSliceStart c s).bist = s.bist := by
  have h := (coreTo_changed c .bist (s.setCore c { s.core c with bistOff := true })).only
  unfold coreSliceStart pmuBistClear
  dsimp only
  generalize coreTo c .bist _ = t at h ⊢
  rw [h]
  rfl

end

/-- Settles O42: the core stands in its slice when its counters are cleared, so that they stay at 0. -/
theorem coreSliceClearsCounters : Obligations.CoreSliceClearsCounters := by
  intro s c hup hc hstart
  refine ⟨_, bistSliceStart_starts hup hstart, ?_⟩
  rw [sliceStart_core hc, coreSliceStart_bist]
  have hpmu := pmuBistClear_pmu (c := c)
    (s := coreTo c .bist ((sliceMarked (coreUnit c) s).setCore c { (sliceMarked (coreUnit c) s).core c with bistOff := true }))
  rw [counting_slice] at hpmu
  refine ⟨rfl, fun k => ?counters, ?cycles, ?bistclr⟩
  case counters => rw [coreSliceStart, hpmu]; rfl
  case cycles => rw [coreSliceStart, cycNow_held (Or.inl (by rw [hpmu]; rfl)) (by rw [hpmu]; exact Nat.two_pow_pos 64), hpmu]
  case bistclr => rw [coreSliceStart, hpmu, BitVec.getLsbD_or]; simp

end Sys2Proof.Machine
end

section
/-!
SUPPORT. Releases, triggers and the dispatch (R230 to R232, R239): which tick a release has reached, what a matching frame does in
each state of the task, the ranking's first task, and the statement about them.
-/
namespace Sys2Proof.Machine

open Sys2Proof

section Releases

variable {s : State} {t : Nat}

/-! ## Releases (R230) -/

theorem releaseTick_reached {x : Task} {i j : Nat} (hj : j < taskPeriod x) (hnow : s.now = taskPhase x + i * taskPeriod x + j) :
    releaseTick s x = some (taskPhase x + i * taskPeriod x) := by
  have hmod : (s.now - taskPhase x) % taskPeriod x = j := by
    rw [show s.now - taskPhase x = j + i * taskPeriod x by omega, Nat.add_mul_mod_self_right, Nat.mod_eq_of_lt hj]
  rw [releaseTick, if_neg (by omega), hmod]
  congr 1
  omega

theorem releaseTick_now {x : Task} {i : Nat} (hpos : 0 < taskPeriod x) (hnow : s.now = taskPhase x + i * taskPeriod x) :
    releaseTick s x = some s.now := by
  rw [releaseTick_reached (j := 0) hpos hnow, ← hnow]

theorem periodicRelease_served {k : Nat} (hk : releaseTick s (s.task t) = some k) (h : (s.task t).lastRel = some k) :
    periodicRelease t s = s := by
  simp [periodicRelease, hk, h]

section Due

variable {k : Nat} (hk : releaseTick s (s.task t) = some k) (hvalid : taskValid (s.task t) = true)
  (htrig : taskTrig (s.task t) = false) (hlast : (s.task t).lastRel ≠ some k)
include hk hvalid htrig hlast

theorem periodicRelease_readies (hstate : (s.task t).state = .waiting) (hpower : reducedNow s = false) :
    periodicRelease t s = hookTask t (s.setTask t { s.task t with
      lastRel := some k, state := .ready, deadline := k + taskDeadline (s.task t), ran := false }) := by
  simp [periodicRelease, hk, hvalid, htrig, hlast, hstate, hpower]

theorem periodicRelease_skips (h : (s.task t).state = .disabled ∨ (s.task t).state = .disabling ∨ (s.task t).state = .suspended ∨
    reducedNow s = true) :
    periodicRelease t s = s.setTask t { s.task t with lastRel := some k, skipped := (s.task t).skipped + 1 } := by
  rcases h with h | h | h | h <;> simp [periodicRelease, hk, hvalid, htrig, hlast, h]

end Due

/-- A task whose entry no hook holds is in the ranking at once (R469). -/
theorem hookTask_unmet {x : Task} (h : hookMet s (onTask t) = none) : hookTask t (s.setTask t x) = s.setTask t x :=
  hooked_unmet (s := s.setTask t x) ((hookMet_of_hook (s := s) rfl _).trans h) _ _

/-! ## Triggers (R231, R239) -/

theorem taskTrigger_unmatched {f : TrigFrame} (h : taskMatches (s.task t) f = false) : taskTrigger t f s = s := by
  simp [taskTrigger, h]

section Matched

variable {f : TrigFrame} (hmatch : taskMatches (s.task t) f = true)
include hmatch

theorem taskTrigger_reduced (h : reducedNow s = true) :
    taskTrigger t f s = s.setTask t { s.task t with coalesced := (s.task t).coalesced + 1 } := by
  simp [taskTrigger, hmatch, h]

variable (hpower : reducedNow s = false)
include hpower

theorem taskTrigger_readies (h : (s.task t).state = .waiting) : taskTrigger t f s = hookTask t (s.setTask t { s.task t with
    state := .ready, deadline := s.now + taskDeadline (s.task t), trig := some (f, s.now), ran := false }) := by
  simp [taskTrigger, hmatch, hpower, h]

theorem taskTrigger_pends (h : (s.task t).state = .ready ∨ (s.task t).state = .running ∨ (s.task t).state = .preempted) :
    taskTrigger t f s = s.setTask t { s.task t with
      pend := some (f, s.now),
      coalesced := if (s.task t).pend.isSome then (s.task t).coalesced + 1 else (s.task t).coalesced } := by
  rcases h with h | h | h <;> simp [taskTrigger, hmatch, hpower, h]

theorem taskTrigger_skips (h : (s.task t).state = .disabled ∨ (s.task t).state = .disabling ∨ (s.task t).state = .suspended) :
    taskTrigger t f s = s.setTask t { s.task t with skipped := (s.task t).skipped + 1 } := by
  rcases h with h | h | h <;> simp [taskTrigger, hmatch, hpower, h]

end Matched

end Releases

/-! ## The ranking (R232) -/

section Ranking

variable {s : State}

theorem outranks_iff (s : State) (a b : Nat) : outranks s a b = true ↔ taskPrio (s.task b) < taskPrio (s.task a) ∨
    taskPrio (s.task a) = taskPrio (s.task b) ∧ ((s.task a).deadline < (s.task b).deadline ∨
      (s.task a).deadline = (s.task b).deadline ∧ a < b) := by
  simp [outranks]

/-- Tasks are ranked by one key, so a task that is not outranked stays so along the ranking. -/
theorem outranks_false_trans {a b c : Nat} (hab : outranks s a b = false) (hbc : outranks s b c = false) :
    outranks s a c = false := by
  rw [← Bool.not_eq_true, outranks_iff] at hab hbc ⊢
  omega

theorem outranks_asymm {a b : Nat} (h : outranks s a b = true) : outranks s b a = false := by
  rw [← Bool.not_eq_true, outranks_iff]
  rw [outranks_iff] at h
  omega

theorem outranks_self (a : Nat) : outranks s a a = false := by
  rw [← Bool.not_eq_true, outranks_iff]
  omega

/-- The better of the first task so far and the next one. -/
def rankStep (s : State) (m : Option Nat) (t : Nat) : Option Nat :=
  match m with
  | none => some t
  | some x => if outranks s t x then some t else m

theorem bestOf_eq (s : State) (ts : List Nat) : bestOf s ts = ts.foldl (rankStep s) none := rfl

theorem rankStep_some (s : State) (m t : Nat) : ∃ b, rankStep s (some m) t = some b ∧ (b = m ∨ b = t) ∧
    outranks s m b = false ∧ outranks s t b = false := by
  by_cases h : outranks s t m = true
  · exact ⟨t, if_pos h, Or.inr rfl, outranks_asymm h, outranks_self t⟩
  · exact ⟨m, if_neg h, Or.inl rfl, outranks_self m, Bool.eq_false_iff.mpr h⟩

theorem foldl_rankStep (s : State) (ts : List Nat) (m : Nat) : ∃ b, ts.foldl (rankStep s) (some m) = some b ∧
    (b = m ∨ b ∈ ts) ∧ outranks s m b = false ∧ ∀ v ∈ ts, outranks s v b = false := by
  induction ts generalizing m with
  | nil => exact ⟨m, rfl, Or.inl rfl, outranks_self m, by simp⟩
  | cons t ts ih =>
    obtain ⟨x, hx, hfrom, hmx, htx⟩ := rankStep_some s m t
    obtain ⟨b, hb, hmem, hxb, hall⟩ := ih x
    refine ⟨b, by rw [List.foldl_cons, hx, hb], ?_, outranks_false_trans hmx hxb, ?_⟩
    · rcases hmem with rfl | hmem
      · exact hfrom.imp_right fun h => by simp [h]
      · exact Or.inr (List.mem_cons_of_mem _ hmem)
    · intro v hv
      rcases List.mem_cons.mp hv with rfl | hv
      · exact outranks_false_trans htx hxb
      · exact hall v hv

/-- The first task of a ranking that is not empty is in it, and no task of it outranks it. -/
theorem bestOf_ranks {ts : List Nat} (h : ts ≠ []) : ∃ b, bestOf s ts = some b ∧ b ∈ ts ∧ ∀ v ∈ ts, outranks s v b = false := by
  obtain ⟨t, ts, rfl⟩ := List.exists_cons_of_ne_nil h
  obtain ⟨b, hb, hmem, htb, hall⟩ := foldl_rankStep s ts t
  refine ⟨b, hb, List.mem_cons.mpr hmem, fun v hv => ?_⟩
  rcases List.mem_cons.mp hv with rfl | hv
  · exact htb
  · exact hall v hv

theorem idleFor_lowest {t c : Nat} (h : idleFor s t = some c) : taskOn (s.task t) c = true ∧ (s.core c).state = .idle ∧ c < 8 ∧
    ∀ d, d < c → taskOn (s.task t) d = true → (s.core d).state ≠ .idle := by
  obtain ⟨hc, hlt, hlow⟩ := List.find?_range_eq_some.mp h
  simp only [Bool.and_eq_true, coreIdle, decide_eq_true_eq] at hc
  refine ⟨hc.1, hc.2, List.mem_range.mp hlt, fun d hd hon => ?_⟩
  simpa [coreIdle, hon] using hlow d hd

end Ranking

/-! ## A run begins (R232) -/

/-- Task `t` is RUNNING on core `c`, which holds `k`; the dispatch has counted. -/
def runBegun (t c : Nat) (k : Core) (f : Nat) (s : State) : State :=
  let s1 := (s.setTask t { s.task t with
    state := .running, core := c, ran := true, ovrFlag := false, flagShown := (s.task t).ovrFlag }).setCore c k
  { s1 with fresh := f, cox := { s1.cox with cntDispatch := satInc s1.cox.cntDispatch } }

section Dispatch

variable {s : State} {t c : Nat}

theorem startTask_eq (t c : Nat) (s : State) : ∃ k f, k.task = some t ∧
    startTask t c s = pmuEvent c 0x10 (coreTo c .run (runBegun t c k f s)) := by
  unfold startTask
  dsimp only
  refine ⟨_, _, ?_, rfl⟩
  repeat' split
  all_goals rfl

theorem startTask_runs (t c : Nat) (s : State) :
    ((startTask t c s).task t).state = .running ∧ ((startTask t c s).task t).core = c ∧
    ((startTask t c s).core c).state = .run ∧ ((startTask t c s).core c).task = some t ∧
    (startTask t c s).cox.cntDispatch = satInc s.cox.cntDispatch ∧ ∀ v, v ≠ t → (startTask t c s).task v = s.task v := by
  obtain ⟨k, f, hk, heq⟩ := startTask_eq t c s
  have htask : ∀ v, (startTask t c s).task v = (runBegun t c k f s).task v := fun v => by
    rw [heq, pmuEvent_task, (coreTo_changed ..).task]
  have hown : (runBegun t c k f s).task t = { s.task t with
      state := .running, core := c, ran := true, ovrFlag := false, flagShown := (s.task t).ovrFlag } :=
    State.task_setTask_enabled (by simp)
  have hcore : (startTask t c s).core c = { (runBegun t c k f s).core c with state := .run } := by
    rw [heq, pmuEvent_core, coreTo_core (by decide)]
  have hbegun : (runBegun t c k f s).core c = k := State.core_setCore_ne (ne_of_apply_ne Core.task (by rw [hk]; simp))
  rw [htask t, hown, hcore, hbegun]
  refine ⟨rfl, rfl, rfl, hk, ?_, fun v hv => ?_⟩
  · rw [heq, (pmuEvent_counted ..).cox, (coreTo_changed ..).cox]; rfl
  · rw [htask v]
    exact State.task_setTask_other _ _ _ _ hv

theorem dispatch_none (h : startableTasks s = []) : dispatch s = s := by
  unfold startableTasks at h
  rw [dispatch, h]
  rfl

theorem dispatch_starts (h : startableTasks s ≠ []) : ∃ t c, dispatch s = startTask t c s ∧ t ∈ startableTasks s ∧
    (∀ v ∈ startableTasks s, outranks s v t = false) ∧ idleFor s t = some c := by
  obtain ⟨t, ht, hmem, hall⟩ := bestOf_ranks h
  obtain ⟨c, hc⟩ := Option.isSome_iff_exists.mp (List.mem_filter.mp hmem).2
  refine ⟨t, c, ?_, hmem, hall, hc⟩
  unfold startableTasks at ht
  rw [dispatch, ht]
  dsimp only
  rw [hc]

end Dispatch

/-- Settles O31: a release and a trigger act by the state of the task, and the dispatch starts the first task of the ranking on the
lowest idle core of its mask. -/
theorem releasesAndDispatch : Obligations.ReleasesAndDispatch := by
  refine ⟨?tasks, ?dispatch⟩
  case tasks =>
    rintro s t x hup rfl
    refine ⟨fun i hvalid htrig hpos hnow hlast => ⟨fun hstate hpower hhook => ?_, fun h => ?_⟩, fun i j hj hnow hlast => ?_,
      fun f h => run_gives hup (taskTrigger_unmatched h), fun f hmatch => ⟨fun h => run_gives hup (taskTrigger_reduced hmatch h),
        fun hpower hstate hhook => ?_, fun hpower h => run_gives hup (taskTrigger_pends hmatch hpower h),
        fun hpower h => run_gives hup (taskTrigger_skips hmatch hpower h)⟩⟩
    · refine run_gives hup ?_
      rw [periodicRelease_readies (releaseTick_now hpos hnow) hvalid htrig hlast hstate hpower, hookTask_unmet hhook]
    · exact run_gives hup (periodicRelease_skips (releaseTick_now hpos hnow) hvalid htrig hlast h)
    · exact run_gives hup (periodicRelease_served (releaseTick_reached hj hnow) hlast)
    · exact run_gives hup (by rw [taskTrigger_readies hmatch hpower hstate, hookTask_unmet hhook])
  case dispatch =>
    refine fun s hup => ⟨fun h => run_gives hup (dispatch_none h), fun h => ?_⟩
    obtain ⟨t, c, hstart, hmem, hall, hidle⟩ := dispatch_starts h
    obtain ⟨hon, hcidle, hlt, hlow⟩ := idleFor_lowest hidle
    exact ⟨t, c, _, run_gives hup hstart, hmem, hall, hon, hcidle, hlt, hlow, startTask_runs t c s⟩

end Sys2Proof.Machine
end

section
/-!
SUPPORT. Ends of a run that the task did not choose (R223, R235, R236, R268): a report of Cox that no hook meets, the overrun, the
memory fault, the ECC errors, and the statement about them.
-/
namespace Sys2Proof.Machine

open Sys2Proof

/-! ## Reports of Cox (R307, R469) -/

/-- What a report says. -/
def reportLines (s : State) : List (Nat × Nat × Nat) := s.ump.reports.map (fun r => (r.line, r.code, r.detail))

section Reports

variable {s t : State} {code detail : Nat}

theorem countPort_routes (p i n : Nat) (s : State) : (countPort p i n s).fab.routes = s.fab.routes := by rw [countPort_fab]

theorem heardFrom_routes (ep src seq : Nat) (s : State) : (heardFrom ep src seq s).fab.routes = s.fab.routes := countPort_routes ..

/-- A report that no hook meets changes neither the routes nor the hooks. -/
theorem emitFrom_unheld {src : Nat} (h : Unhooked s src 4) (e : Report) :
    (emitFrom (some src) e s).fab.routes = s.fab.routes ∧ (emitFrom (some src) e s).hook = s.hook := by
  have hroutes := sendFrame_routes src 4 (alarmWords e) s
  have hhook : (sendFrame src 4 (alarmWords e) s).hook = s.hook := rfl
  have hsent : routeHook (sendFrame src 4 (alarmWords e) s) src 4 = none := unhooked_of_routes hroutes hhook h
  unfold emitFrom
  dsimp only
  generalize sendFrame src 4 (alarmWords e) s = u at hroutes hhook hsent ⊢
  rw [hsent]
  dsimp only
  split
  · unfold alarmEvent
    rw [pushEvent_only]
    exact ⟨(heardFrom_routes 8 ..).trans ((heardFrom_routes 13 src _ u).trans hroutes), hhook⟩
  · exact ⟨(heardFrom_routes 13 src _ u).trans hroutes, hhook⟩

theorem report_cox_arrives (h : Unhooked s 0x400 4) :
    reportLines (report 45 code detail s) = reportLines s ++ [(45, code, detail)] := by
  rw [reportLines, show (report 45 code detail s).ump.reports = _ from emitFrom_arrives h _, List.map_append]
  rfl

theorem report_cox_unhooked (h : Unhooked s 0x400 4) : Unhooked (report 45 code detail s) 0x400 4 := by
  obtain ⟨hroutes, hhook⟩ := emitFrom_unheld h { line := 45, code, detail, time := s.timeNow }
  exact unhooked_of_routes hroutes hhook h

@[simp] theorem report_task (line n : Nat) : (report line code detail s).task n = s.task n := by rw [report_only]; rfl
@[simp] theorem report_core (line n : Nat) : (report line code detail s).core n = s.core n := by rw [report_only]; rfl
theorem report_cox (line : Nat) : (report line code detail s).cox = s.cox := by rw [report_only]

theorem CoresChanged.lines (h : CoresChanged s t) : reportLines t = reportLines s := by rw [reportLines, h.ump, reportLines]

end Reports

/-! ## The overrun (R235, R236) -/

def overrunReason (x : Task) : Nat := if x.state = .running ∨ x.state = .disabling then 0 else if x.ran then 1 else 2

/-- The overrun reaches a limit that is not 0. -/
def overrunSuspends (x : Task) : Bool := decide (taskLimit x ≠ 0) && decide (taskLimit x ≤ sat 15 x.ovrRun)

/-- The task after its overrun. -/
def overrunTask (x : Task) : Task :=
  let x1 := { x with
    ovrFlag := true, overruns := x.overruns + 1, ovrRun := sat 15 x.ovrRun, ovrReason := overrunReason x, trig := none }
  if overrunSuspends x then { x1 with state := .suspended, pending := false } else afterRun .waiting x1

def overrunMarked (t : Nat) (s : State) : State :=
  let s1 := s.setTask t (overrunTask (s.task t))
  { s1 with cox := { s1.cox with
      cntOverrun := satInc s1.cox.cntOverrun, lastOvr := some (t, overrunReason (s.task t), (s.task t).deadline) } }

def overrunReported (t : Nat) (s : State) : State :=
  let s1 := report 45 codeCoxOverrun t (overrunMarked t s)
  if overrunSuspends (s.task t) then report 45 codeCoxSuspend t s1 else s1

section Overrun

variable {s : State} {t : Nat}

/-- After its reports, an overrun counts its event and leaves the core. -/
theorem overrun_changed (t : Nat) (s : State) : CoresChanged (overrunReported t s) (overrun t s) := by
  unfold overrun
  dsimp only
  split
  · exact (pmuEvent_counted (s.task t).core 0x11 (overrunReported t s)).cores.trans (coreFree_changed ..)
  · exact (pmuEvent_counted (s.task t).core 0x11 (overrunReported t s)).cores

theorem overrunReported_cox (t : Nat) (s : State) : (overrunReported t s).cox = (overrunMarked t s).cox := by
  unfold overrunReported
  dsimp only
  split
  · rw [report_cox, report_cox]
  · rw [report_cox]

theorem overrunTask_flagged (x : Task) :
    (overrunTask x).ovrFlag = true ∧ (overrunTask x).ovrReason = overrunReason x := by
  unfold overrunTask afterRun
  dsimp only
  repeat' split
  all_goals exact ⟨rfl, rfl⟩

theorem overrunSuspends_iff (x : Task) : overrunSuspends x = true ↔ taskLimit x ≠ 0 ∧ taskLimit x ≤ sat 15 x.ovrRun := by
  simp [overrunSuspends]

/-- The overrun of an activation (R235), which suspends the task at its limit (R236). -/
theorem overrunTask_ended {x : Task} (h : x.state = .ready ∨ x.state = .running ∨ x.state = .preempted) : overrunTask x = { x with
    ovrFlag := true, overruns := x.overruns + 1, ovrRun := sat 15 x.ovrRun, trig := none,
    ovrReason := if x.state = .running then 0 else if x.ran then 1 else 2,
    state := if taskLimit x ≠ 0 ∧ taskLimit x ≤ sat 15 x.ovrRun then .suspended else .waiting,
    pending := if taskLimit x ≠ 0 ∧ taskLimit x ≤ sat 15 x.ovrRun then false else x.pending } := by
  have hnot : x.state ≠ .disabling := by rcases h with h | h | h <;> simp [h]
  have hreason : overrunReason x = if x.state = .running then 0 else if x.ran then 1 else 2 := by simp [overrunReason, hnot]
  unfold overrunTask afterRun
  simp only [overrunSuspends_iff, hreason, hnot, if_false]
  split <;> rfl

/-- The overrun of a DISABLING task, whose run has ended (R236, R237). -/
theorem overrunTask_disabling {x : Task} (h : x.state = .disabling) : (overrunTask x).pending = false ∧ (overrunTask x).state =
    if taskLimit x ≠ 0 ∧ taskLimit x ≤ sat 15 x.ovrRun then .suspended else if x.pending then .waiting else .disabled := by
  unfold overrunTask afterRun
  simp only [overrunSuspends_iff, h, if_true]
  split <;> exact ⟨rfl, rfl⟩

theorem overrun_task (t : Nat) (s : State) : (overrun t s).task t = overrunTask (s.task t) := by
  have hne : overrunTask (s.task t) ≠ {} := ne_of_apply_ne Task.ovrFlag (by rw [(overrunTask_flagged _).1]; simp)
  rw [(overrun_changed t s).task, State.task, overrunReported_cox]
  exact look_put_ne _ _ _ _ hne

theorem overrun_counts (t : Nat) (s : State) : (overrun t s).cox.cntOverrun = satInc s.cox.cntOverrun ∧
    (overrun t s).cox.lastOvr = some (t, overrunReason (s.task t), (s.task t).deadline) := by
  rw [(overrun_changed t s).cox, overrunReported_cox]
  exact ⟨rfl, rfl⟩

theorem overrunMarked_unhooked (h : Unhooked s 0x400 4) : Unhooked (overrunMarked t s) 0x400 4 :=
  unhooked_of_routes (s := s) rfl rfl h

theorem overrun_lines (h : Unhooked s 0x400 4) : reportLines (overrun t s) = reportLines s ++
    (45, codeCoxOverrun, t) :: (if overrunSuspends (s.task t) then [(45, codeCoxSuspend, t)] else []) := by
  have hmarked := overrunMarked_unhooked (t := t) h
  have hfirst : reportLines (report 45 codeCoxOverrun t (overrunMarked t s)) = reportLines s ++ [(45, codeCoxOverrun, t)] :=
    report_cox_arrives hmarked
  rw [(overrun_changed t s).lines, overrunReported]
  split
  · rw [report_cox_arrives (report_cox_unhooked hmarked), hfirst, List.append_assoc]
    rfl
  · exact hfirst

theorem coxOverrun_acts (hup : s.sys.up = true) (hdue : (s.task t).deadline ≤ s.now)
    (hstate : (s.task t).state = .ready ∨ (s.task t).state = .running ∨ (s.task t).state = .preempted ∨
      (s.task t).state = .disabling) : exec (.coxOverrun t) s = .next (overrun t s) :=
  run_due (overrunDue · t) _ hup (by rw [overrunDue, decide_eq_true hdue, decide_eq_true hstate]; rfl)

theorem coxOverrun_early (hup : s.sys.up = true) (h : s.now < (s.task t).deadline) : exec (.coxOverrun t) s = .next s := by
  have hdue : overrunDue s t = false := by rw [overrunDue, decide_eq_false h.not_ge]; rfl
  exact run_gives hup (by rw [hdue, whenever_false])

end Overrun

/-! ## The memory fault (R223) and the ECC errors (R268) -/

section Errors

variable {s : State} {c t : Nat}

/-- The task whose run ends in a memory fault. -/
def faultedTask (x : Task) : Task := { x with state := .suspended, ovrFlag := true, trig := none, pending := false }

theorem memFault_eq (h : (s.core c).task = some t) :
    memFault c s = report 45 codeCoxMemfault t (coreFree c (s.setTask t (faultedTask (s.task t)))) := by
  rw [memFault, h]; rfl

theorem memFault_task (h : (s.core c).task = some t) : (memFault c s).task t = faultedTask (s.task t) := by
  rw [memFault_eq h, report_task, coreFree_task]
  exact State.task_setTask_enabled (by simp [faultedTask])

theorem memFault_leaves (h : (s.core c).task = some t) : CoreLeft s (memFault c s) c := by
  rw [memFault_eq h]
  unfold CoreLeft
  rw [report_core]
  exact coreFree_leaves rfl

theorem memFault_lines (h : (s.core c).task = some t) (hu : Unhooked s 0x400 4) :
    reportLines (memFault c s) = reportLines s ++ [(45, codeCoxMemfault, t)] := by
  have hfree := coreFree_changed c (s.setTask t (faultedTask (s.task t)))
  rw [memFault_eq h, report_cox_arrives (hfree.unhooked (unhooked_of_routes (s := s) rfl rfl hu)), hfree.lines]
  rfl

/-- The task whose run ends by an uncorrectable error. -/
def erredTask (x : Task) : Task := { afterRun .waiting x with ovrFlag := true, trig := none }

theorem eccEnd_eq (h : (s.core c).task = some t) : eccEnd c s = coreFree c (s.setTask t (erredTask (s.task t))) := by
  rw [eccEnd, h]; rfl

theorem eccEnd_task (h : (s.core c).task = some t) : (eccEnd c s).task t = erredTask (s.task t) := by
  rw [eccEnd_eq h, coreFree_task]
  exact State.task_setTask_ne (ne_of_apply_ne Task.ovrFlag (by simp [erredTask]))

theorem erredTask_waits {x : Task} (h : x.state = .running) : (erredTask x).state = .waiting := by simp [erredTask, afterRun, h]

theorem eccEnd_core (h : (s.core c).task = some t) (hrun : (s.core c).state = .run) :
    (eccEnd c s).core c = coreLeft (s.core c) := by
  rw [eccEnd_eq h]
  exact coreFree_core hrun

/-- An uncorrectable error of the waveform memory, counted and reported (R268). -/
def boatErred (s : State) : State := report 46 codeBoatEcc 0 { s with boat := { s.boat with
  eccUncorr := if s.boat.eccUncorr = 0xFFFF then 0xFFFF else s.boat.eccUncorr + 1 } }

theorem boatEcc_uncorrected (s : State) : boatEcc .other false s = boatErred s ∧
    boatEcc .host false s = { boatErred s with host := { (boatErred s).host with resp := [0] } } ∧
    ∀ c, boatEcc (.core c) false s = eccEnd c (boatErred s) := by
  have hsat : (if s.boat.eccUncorr = 0xFFFF then s.boat.eccUncorr else s.boat.eccUncorr + 1) =
      if s.boat.eccUncorr = 0xFFFF then 0xFFFF else s.boat.eccUncorr + 1 := by
    split
    · next h => exact h
    · rfl
  unfold boatEcc boatErred
  simp only [Bool.false_eq_true, if_false, hsat, implies_true, and_self]

/-- A core with an uncorrectable error (R268). -/
def coreErred (k : Core) : Core := { k with eccBit := true, eccOff := true }

/-- The core goes off, and no request brings it back before a passing slice. -/
theorem coreAfterOff_erred (k : Core) : (coreAfterOff (coreLeft (coreErred k))).eccBit = true ∧
    (coreAfterOff (coreLeft (coreErred k))).eccOff = true ∧ (coreAfterOff (coreLeft (coreErred k))).state ≠ .run ∧
    (coreAfterOff (coreLeft (coreErred k))).state ≠ .idle := by
  have hwanted : coreWanted (coreLeft (coreErred k)) = false := by simp [coreWanted, coreLeft, coreErred]
  have hoff : (coreAfterOff (coreLeft (coreErred k))).state = offState (coreLeft (coreErred k)) := if_neg (by rw [hwanted]; simp)
  refine ⟨rfl, rfl, ?_⟩
  rw [hoff]
  unfold offState
  repeat' split
  all_goals exact ⟨by decide, by decide⟩

theorem dspEcc_eq (c : Nat) (s : State) : dspEcc c s =
    report 45 codeDspEcc (coreTask s c) (coreDown c (eccEnd c (s.setCore c (coreErred (s.core c))))) := rfl

theorem dspEcc_ends (h : (s.core c).task = some t) (hrun : (s.core c).state = .run) :
    (dspEcc c s).task t = erredTask (s.task t) ∧ (dspEcc c s).core c = coreAfterOff (coreLeft (coreErred (s.core c))) := by
  have hset : (s.setCore c (coreErred (s.core c))).core c = coreErred (s.core c) :=
    State.core_setCore_ne (ne_of_apply_ne Core.eccBit (by simp [coreErred]))
  have htask : ((s.setCore c (coreErred (s.core c))).core c).task = some t := by rw [hset]; exact h
  have hleft := eccEnd_core htask (by rw [hset]; exact hrun)
  rw [hset] at hleft
  rw [dspEcc_eq, report_task, report_core, coreDown_task, eccEnd_task htask, coreDown_idle (by rw [hleft]; rfl), pmuSync_core, hleft]
  exact ⟨rfl, State.core_setCore_ne (ne_of_apply_ne Core.eccBit (by rw [(coreAfterOff_erred _).1]; simp))⟩

end Errors

/-- Settles O34: an overrun's reports come before its core is left, so that they find the hooks as they were; the errors end the run
by the same step, `coreFree`. -/
theorem overrunsAndErrors : Obligations.OverrunsAndErrors := by
  intro s hup
  refine ⟨?overrun, ?disabling, fun t h => coxOverrun_early hup h, fun c t htask hrun => ?memfault,
    fun c t hc htask hrun hstate => ?dspEcc, fun reader => run_up _ _ hup, ?boatEcc⟩
  case overrun =>
    rintro t x run rfl rfl hdue hstate
    obtain ⟨hcount, hlast⟩ := overrun_counts t s
    refine ⟨_, coxOverrun_acts hup hdue (by rcases hstate with h | h | h <;> simp [h]), ?_, hcount, ?_, fun hu => ?_⟩
    · rw [overrun_task, overrunTask_ended hstate]
    · rw [hlast, overrun_task, (overrunTask_flagged _).2]
    · exact (overrun_lines hu).trans (by simp only [overrunSuspends_iff]; rfl)
  case disabling =>
    rintro t x rfl hdue hstate
    obtain ⟨hpending, hended⟩ := overrunTask_disabling hstate
    refine ⟨_, coxOverrun_acts hup hdue (by simp [hstate]), ?_, ?_, (overrun_counts t s).1, ?_⟩
    · rw [overrun_task, (overrunTask_flagged _).1]
    · rw [overrun_task, hpending]
    · rw [overrun_task, hended]
  case memfault =>
    have htask' := memFault_task htask
    refine ⟨_, run_up _ _ hup, ?_, (memFault_leaves htask hrun).1, ?_, fun hu => memFault_lines htask hu⟩
    · rw [htask']; rfl
    · rw [htask']; rfl
  case dspEcc =>
    obtain ⟨ht, hcore⟩ := dspEcc_ends htask hrun
    refine ⟨_, run_gives hup (by rw [decide_eq_true hc, whenever_true]), ?_, ?_, ?_⟩
    · rw [ht]; exact erredTask_waits hstate
    · rw [ht]; rfl
    · rw [hcore]; exact coreAfterOff_erred _
  case boatEcc =>
    rintro e rfl
    obtain ⟨hother, hhost, hread⟩ := boatEcc_uncorrected s
    refine ⟨run_gives hup hother, run_gives hup hhost, fun c t htask hstate hrun => ⟨_, run_gives hup (hread c), ?_⟩⟩
    have hcore : (boatErred s).core c = s.core c := report_core ..
    have ht : (boatErred s).task t = s.task t := report_task ..
    rw [eccEnd_task (by rw [hcore, htask]), eccEnd_core (by rw [hcore, htask]) (by rw [hcore, hrun]), ht, eccEnd_only]
    exact ⟨erredTask_waits hstate, rfl, rfl, rfl, rfl⟩

end Sys2Proof.Machine
end

section
/-!
SUPPORT. The service calls that need no page (R227, R228, R234, R247): a run's own frames, the end of an activation, the choice of a
YIELD, and the statement about them.
-/
namespace Sys2Proof.Machine

open Sys2Proof

/-! ## The frames of a run (R226, R271) -/

/-- Task `t` has sent frames: of the tasks and cores only its own SEQ differs. -/
structure TaskSent (t : Nat) (s u : State) : Prop where
  only : u = { s with
    fresh := u.fresh, fab := u.fab, afe := u.afe, host := u.host, net := u.net, cox := { s.cox with tasks := u.cox.tasks } }
  task : (s.task t).state ≠ .disabled → ∃ q, u.task t = { s.task t with seq := q }

section Frames

variable {s u v : State} {t c : Nat}

theorem TaskSent.refl (t : Nat) (s : State) : TaskSent t s s := ⟨rfl, fun _ => ⟨_, rfl⟩⟩

theorem TaskSent.trans (h : TaskSent t s u) (k : TaskSent t u v) : TaskSent t s v where
  only := by rw [k.only, h.only]
  task hs := by
    obtain ⟨q, hq⟩ := h.task hs
    obtain ⟨r, hr⟩ := k.task (by rw [hq]; exact hs)
    exact ⟨r, by rw [hr, hq]⟩

theorem TaskSent.core (h : TaskSent t s u) (c : Nat) : u.core c = s.core c := by rw [h.only]; rfl
theorem TaskSent.hook (h : TaskSent t s u) : u.hook = s.hook := by rw [h.only]

theorem setSeq_sent (q : Nat) (s : State) : TaskSent t s (s.setTask t { s.task t with seq := q }) :=
  ⟨rfl, fun h => ⟨q, State.task_setTask_enabled h⟩⟩

theorem taskSend_sent (t cls : Nat) (ws : List Word) (s : State) : TaskSent t s (taskSend t cls ws s) := by
  have hsent : TaskSent t s (sendAs (0x100 + t) (s.task t).seq cls 0 (3 * s.now) ws s) := ⟨rfl, fun _ => ⟨_, rfl⟩⟩
  have hnext : TaskSent t s ((sendAs (0x100 + t) (s.task t).seq cls 0 (3 * s.now) ws s).setTask t
    { s.task t with seq := ((s.task t).seq + 1) % 256 }) := hsent.trans (setSeq_sent _ _)
  unfold taskSend
  dsimp only
  generalize State.setTask _ t _ = u at hnext ⊢
  split
  · refine hnext.trans ?_
    rw [pushEvent_only]
    exact ⟨rfl, fun _ => ⟨_, rfl⟩⟩
  · exact hnext

theorem featReport_sent (t : Nat) (s : State) (e : Nat × FeatureCfg) : TaskSent t s (featReport t s e) := by
  unfold featReport
  dsimp only
  split
  · exact TaskSent.refl t s
  · refine TaskSent.trans ?_ (taskSend_sent ..)
    exact ⟨rfl, fun _ => ⟨_, rfl⟩⟩

theorem featRun_sent (t : Nat) (s : State) : TaskSent t s (featRun t s) :=
  List.foldlRecOn (motive := TaskSent t s) _ _ (TaskSent.refl t s) fun _ h e _ => h.trans (featReport_sent t _ e)

end Frames

/-! ## A task ready for a service call (R227) -/

section Calls

variable {s : State} {c t : Nat}

theorem runningTask_calls (h : Calls s c t) : runningTask s c = some t := by
  obtain ⟨hstate, hwaiting, hstalled, htask⟩ := h
  unfold runningTask
  dsimp only
  rw [if_pos (by rw [decide_eq_true hstate, hwaiting, hstalled]; rfl), htask]

theorem setResult_eq (c : Nat) (r : CallResult) (s : State) : setResult c r s = callReturns c r s := rfl

variable (hcall : Calls s c t)
include hcall

/-! ## DONE (R227, R229) -/

section Done

variable (hnow : s.now ≤ (s.task t).deadline) (htrig : (s.task t).trig = none) (hstate : (s.task t).state = .running)
include hnow htrig hstate

theorem taskDone_waits (hpend : (s.task t).pend = none) : ∃ (q : Nat) (v : State), v.core c = s.core c ∧ taskDone c s = coreFree c (v.setTask t
    { s.task t with seq := q, runs := (s.task t).runs + 1, ovrRun := 0, trig := none, state := .waiting }) := by
  have hsent := featRun_sent t s
  obtain ⟨q, hq⟩ := hsent.task (by rw [hstate]; decide)
  refine ⟨q, featRun t s, hsent.core c, ?_⟩
  unfold taskDone
  rw [runningTask_calls hcall]
  dsimp only
  rw [if_neg hnow.not_gt, htrig]
  dsimp only
  rw [hq]
  simp [hstate, hpend]

theorem taskDone_readies {f : TrigFrame} {k : Nat} (hpend : (s.task t).pend = some (f, k)) (hhook : hookMet s (onTask t) = none) :
    ∃ (q : Nat) (v : State), v.core c = s.core c ∧ taskDone c s = coreFree c (v.setTask t { s.task t with
      seq := q, runs := (s.task t).runs + 1, ovrRun := 0, trig := some (f, k), state := .ready, pend := none,
      deadline := k + taskDeadline (s.task t), ran := false }) := by
  have hsent := featRun_sent t s
  obtain ⟨q, hq⟩ := hsent.task (by rw [hstate]; decide)
  refine ⟨q, featRun t s, hsent.core c, ?_⟩
  have hunmet : hookMet (featRun t s) (onTask t) = none := (hookMet_of_hook hsent.hook _).trans hhook
  unfold taskDone
  rw [runningTask_calls hcall]
  dsimp only
  rw [if_neg hnow.not_gt, htrig]
  dsimp only
  rw [hq]
  simp [hstate, hpend, hookTask_unmet hunmet, taskDeadline]

end Done

/-! ## YIELD (R234) -/

omit hcall in
theorem idleFor_pmuEvent (c code : Nat) (s : State) (u : Nat) : idleFor (pmuEvent c code s) u = idleFor s u := by
  simp only [idleFor, coreIdle, pmuEvent_task, pmuEvent_core]

omit hcall in
theorem rankedTasks_pmuEvent (c code : Nat) (s : State) : rankedTasks (pmuEvent c code s) = rankedTasks s := by
  have hcox := (pmuEvent_counted c code s).cox
  have hhook := (pmuEvent_counted c code s).hook
  unfold rankedTasks taskHeld
  rw [hcox, hhook]

theorem taskYield_overruns (h : (s.task t).deadline ≤ s.now) : taskYield c s = overrun t (pmuEvent c 0x0E s) := by
  rw [taskYield, runningTask_calls hcall]
  dsimp only
  rw [if_pos (by rw [pmuEvent_task, (pmuEvent_counted ..).now]; exact h)]

section InTime

variable (hnow : s.now < (s.task t).deadline)
include hnow

/-- A core that is being shut down preempts whatever the ranking says (R238). -/
theorem taskYield_preempts (h : (s.core c).state = .shutdown) : taskYield c s = preempt c t (pmuEvent c 0x0E s) := by
  rw [taskYield, runningTask_calls hcall]
  dsimp only
  rw [if_neg (by rw [pmuEvent_task, (pmuEvent_counted ..).now]; exact hnow.not_ge), if_pos (by rw [pmuEvent_core, h])]

theorem taskYield_goesOn (hrun : (s.core c).state = .run)
    (h : (rankedTasks s).filter (fun u => taskOn (s.task u) c && (idleFor s u).isNone) = []) :
    taskYield c s = callReturns c (.preempted false) (pmuEvent c 0x0E s) := by
  rw [taskYield, runningTask_calls hcall]
  dsimp only
  rw [if_neg (by rw [pmuEvent_task, (pmuEvent_counted ..).now]; exact hnow.not_ge), if_neg (by rw [pmuEvent_core, hrun]; decide)]
  simp only [rankedTasks_pmuEvent, pmuEvent_task, idleFor_pmuEvent, h]
  rfl

end InTime

omit hcall in
theorem saveContext_cox (t : Nat) (s : State) : (saveContext t s).cox = s.cox := by unfold saveContext; split <;> rfl

omit hcall in
/-- A preempted run waits in the ranking, and the preemption counts (R232). -/
theorem preempt_ends (h : (s.task t).state = .running) : ((preempt c t s).task t).state = .preempted ∧
    (preempt c t s).cox.cntPreempt = satInc s.cox.cntPreempt := by
  have hcox := saveContext_cox t s
  have htask : (saveContext t s).task t = s.task t := by rw [State.task, hcox, State.task]
  unfold preempt
  dsimp only
  generalize saveContext t s = u at hcox htask ⊢
  rw [coreFree_task, pmuEvent_task, (coreFree_changed ..).cox, (pmuEvent_counted ..).cox]
  have hyield : (afterYield (u.task t)).state = .preempted := by simp [afterYield, htask, h]
  refine ⟨?_, by rw [← hcox]; rfl⟩
  exact (congrArg Task.state (State.task_setTask_enabled (by exact hyield ▸ by decide))).trans hyield

/-! ## SEND, TIME, PMU_READ, LVT_READ (R227, R228, R247) -/

theorem taskSendCall_refused {cls : Nat} {ws : List Word} {room : Bool} (h : sendOk cls ws = false) : taskSendCall c cls ws room s =
    callReturns c .refused { s with cox := { s.cox with cntRefused := satInc s.cox.cntRefused } } := by
  rw [taskSendCall, runningTask_calls hcall]
  dsimp only
  rw [h]
  rfl

theorem taskSendCall_sends {cls : Nat} {ws : List Word} (h : sendOk cls ws = true) :
    taskSendCall c cls ws true s = callReturns c .sent (taskSend t cls ws s) ∧
    taskSendCall c cls ws false s = pmuSync c (s.setCore c { s.core c with stalled := some (cls, ws) }) := by
  rw [taskSendCall, taskSendCall, runningTask_calls hcall]
  dsimp only
  rw [h]
  exact ⟨rfl, rfl⟩

theorem sendRoom_sends {cls : Nat} {ws : List Word} {s' : State}
    (hs' : s' = s.setCore c { s.core c with stalled := some (cls, ws) }) : sendRoom c s' =
      callReturns c .sent (taskSend t cls ws (pmuSync c (s'.setCore c { s'.core c with stalled := none }))) := by
  have hcore : s'.core c = { s.core c with stalled := some (cls, ws) } := by
    rw [hs']; exact State.core_setCore_ne (ne_of_apply_ne Core.stalled (by simp))
  obtain ⟨-, -, -, htask⟩ := hcall
  have hstalled : (s'.core c).stalled = some (cls, ws) := by rw [hcore]
  have ht : (s'.core c).task = some t := by rw [hcore]; exact htask
  unfold sendRoom
  dsimp only
  rw [hstalled, ht]
  rfl

theorem timeCall_returns : timeCall c s =
    callReturns c (.time (BitVec.ofNat 32 s.now) (BitVec.ofNat 32 (s.now / 2 ^ 32))) s := by
  rw [timeCall, runningTask_calls hcall]; rfl

theorem pmuRead_cycles (h : s.cox.userEn.getLsbD c = true) : pmuRead c 8 s = callReturns c (.counter (cycNow s c)) s := by
  rw [pmuRead, runningTask_calls hcall]
  dsimp only
  rw [if_pos h]
  rfl

theorem pmuRead_counter {k : Nat} (hk : k ≠ 8) (h : s.cox.userEn.getLsbD c = true) : pmuRead c k s =
    callReturns c (.counter (look 0 ((pmuSync c s).pmu c).cnt k)) (pmuSync c s) := by
  rw [pmuRead, runningTask_calls hcall]
  dsimp only
  rw [if_pos h, if_neg hk]
  rfl

theorem pmuRead_denied {k : Nat} (h : s.cox.userEn.getLsbD c = false) : pmuRead c k s =
    callReturns c (.counter 0) { s with cox := { s.cox with denied := sat 0xFFFF s.cox.denied } } := by
  rw [pmuRead, runningTask_calls hcall]
  dsimp only
  rw [h]
  rfl

theorem lvtRead_returns (r a : Nat) : lvtRead c r a s =
    callReturns c (.lvt (s.rnode r a).lv ((s.rnode r a).stamp.getD 0) (s.rnode r a).seq.toNat) s := by
  rw [lvtRead, runningTask_calls hcall]; rfl

end Calls

/-- Settles O32: each call finds its running task; DONE and YIELD end in `coreFree`, which leaves the core idle. -/
theorem serviceCalls : Obligations.ServiceCalls := by
  rintro s c t x hup hcall rfl
  have htask : (s.core c).task = some t := hcall.2.2.2
  refine ⟨fun hnow htrig hstate => ⟨fun hpend => ?waits, fun f k hpend hhook => ?readies⟩, fun hnow hrun h => ?goesOn,
    fun hnow hdown hstate => ?preempts, fun h => ?overruns, fun cls ws room h => run_gives hup (taskSendCall_refused hcall h),
    fun cls ws h => ?sends, ?room, run_gives hup (timeCall_returns hcall), fun h => run_gives hup (pmuRead_cycles hcall h),
    fun k hk h => run_gives hup (pmuRead_counter hcall hk h), fun k h => run_gives hup (pmuRead_denied hcall h), ?lvt⟩
  case waits =>
    obtain ⟨q, v, hcore, hdone⟩ := taskDone_waits hcall hnow htrig hstate hpend
    refine ⟨_, run_gives hup hdone, ?_, coreFree_leaves hcore⟩
    rw [coreFree_task, State.task_setTask_enabled (by simp)]
  case readies =>
    obtain ⟨q, v, hcore, hdone⟩ := taskDone_readies hcall hnow htrig hstate hpend hhook
    refine ⟨_, run_gives hup hdone, ?_, coreFree_leaves hcore⟩
    rw [coreFree_task, State.task_setTask_enabled (by simp)]
  case goesOn =>
    refine ⟨_, run_gives hup (taskYield_goesOn hcall hnow hrun h), ?_⟩
    have hcore : (callReturns c (.preempted false) (pmuEvent c 0x0E s)).core c =
        { s.core c with result := .preempted false } := by
      rw [callReturns, pmuEvent_core]
      exact State.core_setCore_ne (ne_of_apply_ne Core.task (by rw [htask]; simp))
    have htasks : (pmuEvent c 0x0E s).cox.tasks = s.cox.tasks := by rw [(pmuEvent_counted ..).cox]
    rw [hcore]
    exact ⟨rfl, htask, htasks⟩
  case preempts =>
    refine ⟨_, run_gives hup (taskYield_preempts hcall hnow hdown), ?_⟩
    obtain ⟨hended, hcount⟩ := preempt_ends (c := c) (t := t) (s := pmuEvent c 0x0E s) (by rw [pmuEvent_task, hstate])
    exact ⟨hended, hcount.trans (by rw [(pmuEvent_counted ..).cox])⟩
  case overruns =>
    refine ⟨_, run_gives hup (taskYield_overruns hcall h), ?_⟩
    rw [(overrun_counts ..).1, (pmuEvent_counted ..).cox]
  case sends =>
    obtain ⟨hsent, hstalls⟩ := taskSendCall_sends hcall h
    exact ⟨run_gives hup hsent, run_gives hup hstalls⟩
  case room =>
    intro s' cls ws hs'
    exact run_gives (by rw [hs']; exact hup) (sendRoom_sends hcall hs')
  case lvt =>
    rintro r a n rfl
    exact run_gives hup (lvtRead_returns hcall r a)

end Sys2Proof.Machine
end

section
/-!
SUPPORT. The service calls on pages (R227, R255, R257, R262): a request for one page, its answer to the running task, a copy between a
page and the data region, and the statement about them.
-/
namespace Sys2Proof.Machine

open Sys2Proof

/-! ## One page for a task (R255, R257, R258) -/

section Grants

variable {s : State} {c t h cap replies p q : Nat} {rest : List Nat}

theorem State.page_setPage_ne {v : BoatPage} (hv : v ≠ {}) : (s.setPage p v).page p = v := look_put_ne _ _ _ _ hv
theorem State.page_setPage_other {v : BoatPage} (hq : q ≠ p) : (s.setPage p v).page q = s.page q := look_put_other _ _ _ _ _ hq

/-- The page as its new holder has it. -/
def pageTaken (s : State) (h cap p : Nat) : BoatPage :=
  { state := .held, gen := ((s.page p).gen + 1) % 4096, holder := h, time := s.now, cap := cap }

theorem pageTaken_ne (s : State) (h cap p : Nat) : pageTaken s h cap p ≠ {} := ne_of_apply_ne BoatPage.state (by simp [pageTaken])

theorem budgetOf_task (ht : t < 512) (s : State) : budgetOf s (0x100 + t) = bits (s.task t).w4 27 16 := by
  have htask : holderTask (0x100 + t) = some t := by simp only [holderTask]; rw [if_pos (by omega), Nat.add_sub_cancel_left]
  rw [budgetOf, htask]

theorem allocate_takes (hbudget : (heldPages s h).length + 1 ≤ budgetOf s h) (hfree : freePages s = p :: rest) :
    ∃ u, allocate h 1 cap replies s = (.pages [(p, ((s.page p).gen + 1) % 4096)], u) ∧ u.cox = s.cox ∧
      u.boat.pages = put {} s.boat.pages p (pageTaken s h cap p) := by
  have hgen : ((takePage h cap p s).page p).gen = ((s.page p).gen + 1) % 4096 :=
    congrArg BoatPage.gen (State.page_setPage_ne (pageTaken_ne s h cap p))
  unfold allocate
  dsimp only
  rw [if_neg hbudget.not_gt, hfree, if_neg (by simp)]
  exact ⟨_, Prod.ext (congrArg (fun g => Grant.pages [(p, g)]) hgen) rfl, rfl, rfl⟩

theorem allocate_overBudget (hbudget : budgetOf s h < (heldPages s h).length + 1) :
    ∃ u, allocate h 1 cap replies s = (.budget, u) ∧ u.cox = s.cox ∧ u.boat.pages = s.boat.pages := by
  unfold allocate
  dsimp only
  rw [if_pos hbudget]
  exact ⟨_, rfl, rfl, rfl⟩

theorem allocate_starves (hbudget : (heldPages s h).length + 1 ≤ budgetOf s h) (hfree : freePages s = []) :
    ∃ u, allocate h 1 cap replies s = (.starved, u) ∧ u.cox.cores = s.cox.cores ∧ u.boat.pages = s.boat.pages ∧
      u.boat.evicting = true := by
  unfold allocate
  dsimp only
  rw [if_neg hbudget.not_gt, hfree, if_pos (by simp)]
  split
  · exact ⟨_, rfl, rfl, rfl, rfl⟩
  · exact ⟨_, rfl, rfl, rfl, rfl⟩

end Grants

/-! ## PAGE_REQ and PAGE_FREE (R227, R255, R262) -/

section Calls

variable {s u : State} {c t p : Nat} {rest : List Nat}

theorem Counted.page (h : Counted c s u) (p : Nat) : u.page p = s.page p := by rw [State.page, h.boat, State.page]
theorem Counted.heldPages (h : Counted c s u) (n : Nat) : heldPages u n = Machine.heldPages s n := by
  simp only [Machine.heldPages, h.page]
theorem Counted.freePages (h : Counted c s u) : freePages u = Machine.freePages s := by
  simp only [Machine.freePages, h.page, h.boat]

theorem callReturns_core {r : CallResult} (hcores : u.cox.cores = s.cox.cores) (h : (s.core c).task = some t) :
    (callReturns c r u).core c = { s.core c with result := r } := by
  have hcore : u.core c = s.core c := by rw [State.core, hcores, State.core]
  rw [callReturns, hcore]
  exact State.core_setCore_ne (ne_of_apply_ne Core.task (by simp [h]))

section Requests

variable (hcall : Calls s c t)
include hcall

theorem pageReq_answers (r : Nat × Nat) (u : State) :
    (allocate (0x100 + t) 1 0 1 (pmuEvent c 0x12 s) = (.pages [r], u) →
      pageReq c s = callReturns c (.page (pageRef r)) (u.setTask t { u.task t with starved := false })) ∧
    (allocate (0x100 + t) 1 0 1 (pmuEvent c 0x12 s) = (.budget, u) →
      pageReq c s = callReturns c (.noPage false) (pmuEvent c 0x13 (u.setTask t { u.task t with starved := false }))) ∧
    (allocate (0x100 + t) 1 0 1 (pmuEvent c 0x12 s) = (.starved, u) →
      pageReq c s = callReturns c (.noPage true) (pmuEvent c 0x13 u)) := by
  rw [pageReq, runningTask_calls hcall]
  dsimp only
  refine ⟨fun h => ?_, fun h => ?_, fun h => ?_⟩
  all_goals rw [h]; rfl

variable (ht : t < 512)
include ht

theorem pageReq_serves (hbudget : (heldPages s (0x100 + t)).length + 1 ≤ bits (s.task t).w4 27 16) (hfree : freePages s = p :: rest) :
    ∃ u, pageReq c s = callReturns c (.page (pageRef (p, ((s.page p).gen + 1) % 4096))) u ∧ u.cox.cores = s.cox.cores ∧
      u.boat.pages = put {} s.boat.pages p (pageTaken s (0x100 + t) 0 p) := by
  have hcount := pmuEvent_counted c 0x12 s
  obtain ⟨v, hgrant, hcox, hpages⟩ := allocate_takes (s := pmuEvent c 0x12 s) (h := 0x100 + t) (cap := 0) (replies := 1)
    (p := p) (rest := rest) (by rw [hcount.heldPages, budgetOf_task ht, pmuEvent_task]; exact hbudget) (by rw [hcount.freePages, hfree])
  refine ⟨v.setTask t { v.task t with starved := false }, ?_, ?_, ?_⟩
  · rw [(pageReq_answers hcall _ v).1 hgrant, hcount.page]
  · exact (congrArg Cox.cores hcox).trans (by rw [hcount.cox])
  · refine hpages.trans ?_
    rw [hcount.boat, pageTaken, hcount.page, hcount.now, pageTaken]

theorem pageReq_overBudget (hbudget : bits (s.task t).w4 27 16 < (heldPages s (0x100 + t)).length + 1) :
    ∃ u, pageReq c s = callReturns c (.noPage false) u ∧ u.cox.cores = s.cox.cores ∧ u.boat.pages = s.boat.pages := by
  have hcount := pmuEvent_counted c 0x12 s
  obtain ⟨v, hgrant, hcox, hpages⟩ := allocate_overBudget (s := pmuEvent c 0x12 s) (h := 0x100 + t) (cap := 0) (replies := 1)
    (by rw [hcount.heldPages, budgetOf_task ht, pmuEvent_task]; exact hbudget)
  have hlow := pmuEvent_counted c 0x13 (v.setTask t { v.task t with starved := false })
  refine ⟨_, (pageReq_answers hcall (0, 0) v).2.1 hgrant, ?_, ?_⟩
  · rw [hlow.cox]
    exact (congrArg Cox.cores hcox).trans (by rw [hcount.cox])
  · rw [hlow.boat]
    exact hpages.trans (by rw [hcount.boat])

theorem pageReq_starves (hbudget : (heldPages s (0x100 + t)).length + 1 ≤ bits (s.task t).w4 27 16) (hfree : freePages s = []) :
    ∃ u, pageReq c s = callReturns c (.noPage true) u ∧ u.cox.cores = s.cox.cores ∧ u.boat.pages = s.boat.pages ∧
      u.boat.evicting = true := by
  have hcount := pmuEvent_counted c 0x12 s
  obtain ⟨v, hgrant, hcores, hpages, hevicting⟩ := allocate_starves (s := pmuEvent c 0x12 s) (h := 0x100 + t) (cap := 0) (replies := 1)
    (by rw [hcount.heldPages, budgetOf_task ht, pmuEvent_task]; exact hbudget) (by rw [hcount.freePages, hfree])
  have hlow := pmuEvent_counted c 0x13 v
  refine ⟨_, (pageReq_answers hcall (0, 0) v).2.2 hgrant, ?_, ?_, ?_⟩
  · rw [hlow.cox]
    exact hcores.trans (by rw [hcount.cox])
  · rw [hlow.boat, hpages, hcount.boat]
  · rw [hlow.boat, hevicting]

omit ht in
theorem pageFree_answers (ref : Word) :
    (∀ p, refPage s (0x100 + t) ref = some p →
      pageFree c ref s = if (s.task t).ctx = some p then callReturns c .refused s else callReturns c .freed (dropPage p s)) ∧
    (refPage s (0x100 + t) ref = none → pageFree c ref s = callReturns c .evicted s) := by
  rw [pageFree, runningTask_calls hcall]
  dsimp only
  refine ⟨fun p h => ?_, fun h => ?_⟩
  all_goals rw [h]; rfl

end Requests

/-! ## Copies (R223, R227) -/

/-- A copy within a held page and the data region. -/
def copyFits (s : State) (t : Nat) (q : CopyReq) : Prop := (refPage s (0x100 + t) q.ref).isSome = true ∧ 1 ≤ q.bytes ∧ q.bytes ≤ 4096 ∧
  q.pageOff + q.bytes ≤ 4096 ∧ q.dataOff + q.bytes ≤ 163840

theorem copyFits_of_held {q : CopyReq} (hheld : refPage s (0x100 + t) q.ref = some p) (hbytes : 1 ≤ q.bytes)
    (hpage : q.pageOff + q.bytes ≤ 4096) (hdata : q.dataOff + q.bytes ≤ 163840) : copyFits s t q :=
  ⟨by rw [hheld]; rfl, hbytes, by omega, hpage, hdata⟩

theorem not_copyFits {q : CopyReq} (h : refPage s (0x100 + t) q.ref = none ∨ q.bytes = 0 ∨ 4096 < q.pageOff + q.bytes ∨
    163840 < q.dataOff + q.bytes) : ¬ copyFits s t q := by
  rintro ⟨hheld, hbytes, -, hpage, hdata⟩
  rcases h with h | h | h | h
  · simp [h] at hheld
  all_goals omega

section Copies

variable (hcall : Calls s c t)
include hcall

theorem copyCall_starts {q : CopyReq} (h : copyFits s t q) :
    copyCall c q s = s.setCore c { copyStaged q (s.core c) with copies := (s.core c).copies ++ [q] } := by
  rw [copyCall, runningTask_calls hcall]
  exact if_pos h

theorem copyCall_faults {q : CopyReq} (h : ¬ copyFits s t q) : copyCall c q s = memFault c s := by
  rw [copyCall, runningTask_calls hcall]
  exact if_neg h

/-- The core after its oldest copy, whose access its page's bank has granted. -/
def copyTaken (s : State) (c p : Nat) (rest : List CopyReq) : State :=
  accessBank (pageBank p) 8 (pmuSync c (s.setCore c { s.core c with copies := rest, waiting := false }))

omit hcall in
theorem copyTaken_mem (s : State) (c p : Nat) (rest : List CopyReq) : (copyTaken s c p rest).boat.mem = s.boat.mem := by
  have hboat := (pmuSync_counted c (s.setCore c { s.core c with copies := rest, waiting := false })).boat
  change (pmuSync c _).boat.mem = _
  rw [hboat]
  rfl

/-- The bytes of a copy have moved, into page `p` or from it: `mem` is the memory, and `k` the core, before it. -/
def copyMoved (c p : Nat) (q : CopyReq) (k : Core) (mem : Tab Byte) (w : State) : State :=
  if q.toPage then
    { w with boat := { w.boat with
        mem := memBytes (4096 * p + q.pageOff) ((List.range q.bytes).map (fun i => dataByte k (q.dataOff + i))) mem } }
  else
    w.setCore c (dataPut q.dataOff ((List.range q.bytes).map (fun i => look 0 mem (4096 * p + q.pageOff + i))) (w.core c))

theorem copyDone_moves {q : CopyReq} {rest : List CopyReq} (hcopies : (s.core c).copies = q :: rest)
    (hheld : refPage s (0x100 + t) q.ref = some p) :
    copyDone c s = copyMoved c p q (s.core c) s.boat.mem (copyTaken s c p rest) := by
  obtain ⟨-, hwaiting, -, htask⟩ := hcall
  have hdone : copyDone c s = copyMoved c p q (s.core c) (copyTaken s c p rest).boat.mem (copyTaken s c p rest) := by
    unfold copyDone
    dsimp only
    split
    next q' rest' t' hq hrun =>
      obtain ⟨rfl, rfl⟩ := List.cons.inj (hcopies.symm.trans hq)
      obtain rfl : t = t' := Option.some.inj (htask.symm.trans hrun)
      rw [hheld, hwaiting, Bool.false_and]
      rfl
    next h => exact absurd htask (h q rest t hcopies)
  rw [hdone, copyTaken_mem]

theorem copyWait_waits : copyWait c s = pmuSync c (s.setCore c { s.core c with waiting := !(s.core c).copies.isEmpty }) := by
  rw [copyWait, runningTask_calls hcall]

end Copies

end Calls

/-- Settles O33: a request reads the pages as they are before it, since the event it counts changes none; a copy's bytes are those
before it, since neither the counters nor the bank's turn changes one. -/
theorem pageCalls : Obligations.PageCalls := by
  intro s c t hup hcall ht
  have htask : (s.core c).task = some t := hcall.2.2.2
  refine ⟨fun p rest hbudget hfree => ?serves, fun hbudget => ?overBudget, fun hbudget hfree => ?starves,
    fun ref p hheld hctx => run_gives hup (((pageFree_answers hcall ref).1 p hheld).trans (if_neg hctx)),
    fun ref p hheld hctx => run_gives hup (((pageFree_answers hcall ref).1 p hheld).trans (if_pos hctx)),
    fun ref h => run_gives hup ((pageFree_answers hcall ref).2 h),
    fun q p hheld hbytes hpage hdata => run_gives hup (copyCall_starts hcall (copyFits_of_held hheld hbytes hpage hdata)),
    fun q h => ?faults, ?completes, run_gives hup (copyWait_waits hcall)⟩
  case serves =>
    obtain ⟨u, hreq, hcores, hpages⟩ := pageReq_serves hcall ht hbudget hfree
    have htaken : (callReturns c (.page (pageRef (p, ((s.page p).gen + 1) % 4096))) u).page p = pageTaken s (0x100 + t) 0 p := by
      refine (congrArg (look {} · p) hpages).trans (look_put_ne _ _ _ _ (pageTaken_ne s _ _ p))
    refine ⟨_, run_gives hup hreq, ?_, ?_, ?_, ?_, fun q hq => ?_⟩
    · rw [htaken]; rfl
    · rw [htaken]; rfl
    · rw [htaken]; rfl
    · rw [callReturns_core hcores htask]
    · exact (congrArg (look {} · q) hpages).trans (look_put_other _ _ _ _ _ hq)
  case overBudget =>
    obtain ⟨u, hreq, hcores, hpages⟩ := pageReq_overBudget hcall ht hbudget
    exact ⟨_, run_gives hup hreq, by rw [callReturns_core hcores htask], hpages⟩
  case starves =>
    obtain ⟨u, hreq, hcores, hpages, hevicting⟩ := pageReq_starves hcall ht hbudget hfree
    exact ⟨_, run_gives hup hreq, by rw [callReturns_core hcores htask], hevicting, hpages⟩
  case faults =>
    refine ⟨_, run_gives hup (copyCall_faults hcall (not_copyFits h)), ?_, memFault_leaves htask⟩
    rw [memFault_task htask]; rfl
  case completes =>
    rintro q rest p w hcopies hheld rfl
    have hmoves := copyDone_moves hcall hcopies hheld
    exact ⟨fun hto => run_gives hup (hmoves.trans (if_pos hto)),
      fun hto => run_gives hup (hmoves.trans (if_neg (by rw [hto]; simp)))⟩

end Sys2Proof.Machine
end

section
/-!
SUPPORT. The commands on tasks and cores (R237, R238, R375, R380): what each does on the state in which its log entry stands, the
core that a shut-down leaves, and the statement about them.
-/
namespace Sys2Proof.Machine

open Sys2Proof

/-! ## Commands on tasks (R237) -/

section Tasks

variable {s : State} {p : Port} {t : Nat}

/-- A task without captures has none to abort (R260). -/
theorem abortCaps_none {f : Capture → Bool} (h : ∀ cap ∈ s.boat.caps, f cap = false) : abortCaps f s = s := by
  have hnone : s.boat.caps.filter (fun cap => cap.filling && f cap) = [] :=
    List.filter_eq_nil_iff.mpr fun cap hcap => by simp [h cap hcap]
  rw [abortCaps, hnone, List.foldl_nil]

theorem taskDisable_acts (hcaps : ∀ cap ∈ s.boat.caps, cap.holder ≠ 0x100 + t) :
    ((s.task t).state = .waiting →
      taskDisable t s = s.setTask t { s.task t with state := .disabled, trig := none, pend := none }) ∧
    ((s.task t).state = .ready ∨ (s.task t).state = .preempted →
      taskDisable t s = s.setTask t { s.task t with state := .disabled, ovrFlag := true, trig := none, pend := none }) ∧
    ((s.task t).state = .running → taskDisable t s = s.setTask t { s.task t with state := .disabling }) := by
  have hnone : abortCaps (fun cap => decide (cap.holder = 0x100 + t)) s = s :=
    abortCaps_none fun cap hcap => decide_eq_false (hcaps cap hcap)
  unfold taskDisable
  dsimp only
  rw [hnone]
  refine ⟨fun h => ?_, fun h => ?_, fun h => ?_⟩
  · rw [h]
  · rcases h with h | h <;> rw [h]
  · rw [h]

theorem taskEnable_acts :
    ((s.task t).state = .disabled → taskValid (s.task t) = true → taskEnable t s = s.setTask t { s.task t with state := .waiting }) ∧
    ((s.task t).state = .disabling → taskEnable t s = s.setTask t { s.task t with pending := true }) := by
  unfold taskEnable
  dsimp only
  refine ⟨fun h hvalid => ?_, fun h => ?_⟩
  · rw [h, if_pos hvalid]
  · rw [h]

theorem taskReload_waits (h : (s.task t).state = .suspended ∨ (s.task t).state = .disabled) :
    ((taskReload t s).task t).state = .waiting ∧ ((taskReload t s).task t).seq = 0 ∧ ((taskReload t s).task t).ovrRun = 0 := by
  unfold taskReload
  dsimp only
  rw [if_pos h, State.task_setTask_enabled (by simp)]
  exact ⟨rfl, rfl, rfl⟩

@[simp] theorem opLogged_task {addr : Nat} {old new : List Word} (n : Nat) : (opLogged p addr old new s).task n = s.task n := rfl
@[simp] theorem opLogged_core {addr : Nat} {old new : List Word} (n : Nat) : (opLogged p addr old new s).core n = s.core n := rfl

/-- The log entry of a task command (R237, R372). -/
def taskLogged (p : Port) (t op : Nat) (s : State) : State :=
  opLogged p addrTaskCmd [BitVec.ofNat 32 (taskStateNo (s.task t).state)] [BitVec.ofNat 32 (t + 512 * op)] s

theorem taskGate_admitted (h : Admitted s p rightOps) (op : Nat) (f : State → State) :
    taskGate p t op true f s = f (taskLogged p t op s) := gate_opLogged h f

end Tasks

/-! ## The core that a shut-down leaves (R238) -/

section Cores

variable {s : State} {p : Port} {c : Nat} {k : Core}

theorem coreWanted_of (hen : k.en = true) (hbist : k.bistOff = false) (hecc : k.eccOff = false) (hfailed : k.failed = false)
    (hreduced : k.reduced = false) (hhalt : k.halt = false) : coreWanted k = true := by
  simp [coreWanted, hen, hbist, hecc, hfailed, hreduced, hhalt]

theorem coreAfterOff_returns (h : coreWanted k = true) : coreAfterOff k = { k with pending := false, task := none, state := .idle } := by
  rw [coreAfterOff, if_pos h]

theorem coreAfterOff_stays (hen : k.en = false) (hbist : k.bistOff = false) (hhalt : k.halt = false) :
    coreAfterOff k = { k with pending := false, task := none, state := .off } := by
  simp [coreAfterOff, coreWanted, offState, hen, hbist, hhalt]

theorem coreAfterOff_halts (hbist : k.bistOff = false) (hhalt : k.halt = true) :
    coreAfterOff k = { k with pending := false, task := none, state := .halt } := by
  simp [coreAfterOff, coreWanted, offState, hbist, hhalt]

/-- A core changed while it is on goes down from there. -/
theorem coreDown_setCore_idle (h : k.state = .idle) : coreDown c (s.setCore c k) = pmuSync c (s.setCore c (coreAfterOff k)) := by
  have hon : k.state ≠ .off := by rw [h]; decide
  have hset : (s.setCore c k).core c = k := State.core_setCore_on hon
  rw [coreDown_idle (by rw [hset, h]), hset, State.setCore_setCore (ne_of_apply_ne Core.state hon)]

theorem coreDown_setCore_run (h : k.state = .run) :
    coreDown c (s.setCore c k) = pmuSync c (s.setCore c { k with state := .shutdown }) := by
  have hon : k.state ≠ .off := by rw [h]; decide
  have hset : (s.setCore c k).core c = k := State.core_setCore_on hon
  rw [coreDown_run (by rw [hset, h]), coreTo, hset, State.setCore_setCore (ne_of_apply_ne Core.state hon)]

/-! ## Commands on cores (R238) -/

theorem coreGate_admitted (h : Admitted s p rightOps) (hc : c < 8) (on : Bool) (f : State → State) :
    coreGate p c on f s = f (opLogged p addrCoreCtrl [coreEnBits s]
      [if on then coreEnBits s ||| BitVec.ofNat 32 (1 <<< c) else coreEnBits s &&& ~~~(BitVec.ofNat 32 (1 <<< c))] s) := by
  rw [coreGate, decide_eq_true hc]
  exact gate_opLogged h f

theorem coreUp_core (hset : (s.setCore c k).core c = k) (h : k.state = .off ∨ k.state = .halt) (hwanted : coreWanted k = true) :
    (coreUp c (s.setCore c k)).core c = { k with state := .idle } := by
  rw [coreUp_returns (by rw [hset]; exact h) (by rw [hset]; exact hwanted), coreTo_core (by decide), hset]

theorem coreEnable_idles (hoff : (s.core c).state = .off) (hbist : (s.core c).bistOff = false) (hecc : (s.core c).eccOff = false)
    (hfailed : (s.core c).failed = false) (hreduced : (s.core c).reduced = false) (hhalt : (s.core c).halt = false) :
    (coreEnable c s).core c = { s.core c with en := true, state := .idle } :=
  coreUp_core (State.core_setCore_ne (ne_of_apply_ne Core.en (by simp))) (.inl hoff)
    (coreWanted_of rfl hbist hecc hfailed hreduced hhalt)

theorem coreDisable_acts (hen : (s.core c).en = true) :
    ((s.core c).state = .idle → (s.core c).bistOff = false → (s.core c).halt = false → coreDisable c s =
      pmuSync c (s.setCore c { s.core c with en := false, pending := false, task := none, state := .off })) ∧
    ((s.core c).state = .run → coreDisable c s =
      pmuSync c (s.setCore c { s.core c with en := false, pending := false, state := .shutdown })) := by
  rw [coreDisable, if_pos hen]
  refine ⟨fun hidle hbist hhalt => ?_, fun hrun => coreDown_setCore_run hrun⟩
  rw [coreDown_setCore_idle (by exact hidle), coreAfterOff_stays rfl (by exact hbist) (by exact hhalt)]

theorem coreShutdownComplete_acts (hup : s.sys.up = true) (hdown : (s.core c).state = .shutdown) (htask : (s.core c).task = none) :
    exec (.coreShutdownComplete c) s = .next (pmuSync c (s.setCore c (coreAfterOff (s.core c)))) := by
  have hoff : coreOff c s = pmuSync c (s.setCore c (coreAfterOff (s.core c))) := coreOff_eq (by rw [hdown]; decide)
  rw [← hoff]
  exact run_due (fun s => decide ((s.core c).state = .shutdown) && (s.core c).task.isNone) _ hup (by simp [hdown, htask])

/-! ## Halts (R335, R375, R380) -/

/-- Without a slice of the core, only a pending request is withdrawn. -/
theorem coreSliceAbort_idle (hslice : s.bist.running = none) (hbist : (s.core c).bistOff = false) :
    coreSliceAbort c s = dropSlice (8 + c) s := by
  have habort : abortSlice (8 + c) s = s := if_neg (by simp [hslice])
  unfold coreSliceAbort
  dsimp only
  rw [habort]
  exact if_neg (Bool.not_eq_true _ ▸ hbist)

theorem coreHalt_halts (hdebug : s.sec.debug ≠ 0) (hpower : reducedNow s = false) (hc : c < 8) (hidle : (s.core c).state = .idle)
    (hhalt : (s.core c).halt = false) (hbist : (s.core c).bistOff = false) (hslice : s.bist.running = none) :
    (coreHalt c false s).core c = { s.core c with halt := true, pending := false, task := none, state := .halt } := by
  have hcore : (dropSlice (8 + c) s).core c = s.core c := rfl
  unfold coreHalt
  dsimp only
  rw [if_neg (by simp [hdebug, hpower]; omega), if_neg (by simp), if_neg (by simp [hhalt]), coreSliceAbort_idle hslice hbist, hcore,
    coreDown_setCore_idle (by exact hidle), coreAfterOff_halts (by exact hbist) rfl, pmuSync_core, State.core_setCore_on (by simp)]

theorem coreHalt_closed (h : s.sec.debug = 0) (step : Bool) : coreHalt c step s = s := if_pos (.inl h)

theorem haltRelease_idles (hstate : (s.core c).state = .halt) (hhalt : (s.core c).halt = true) (hen : (s.core c).en = true)
    (hbist : (s.core c).bistOff = false) (hecc : (s.core c).eccOff = false) (hfailed : (s.core c).failed = false)
    (hreduced : (s.core c).reduced = false) : (haltRelease c s).core c = { s.core c with halt := false, state := .idle } := by
  rw [haltRelease, if_pos hhalt]
  exact coreUp_core (State.core_setCore_on (by rw [hstate]; decide)) (.inr hstate)
    (coreWanted_of hen hbist hecc hfailed hreduced rfl)

end Cores

/-- Settles O35: an admitted command acts on the state that its log entry leaves, whose tasks, cores and captures are those before it. -/
theorem taskAndCoreCommands : Obligations.TaskAndCoreCommands := by
  intro s p hup
  refine ⟨?tasks, ?cores, ?shutdowns, ?halts, ?releases⟩
  case tasks =>
    rintro t x hadm rfl
    refine ⟨?_, ?_, fun h => ?_, fun hsuspended hdisabled => ?_⟩
    · rintro l rfl hcaps
      obtain ⟨hwaiting, hready, hrunning⟩ := taskDisable_acts (s := taskLogged p t 0 s) (t := t) hcaps
      rw [taskLogged, opLogged_task] at hwaiting hready hrunning
      have hgate := taskGate_admitted (t := t) hadm 0 (taskDisable t)
      exact ⟨fun h => run_gives hup (hgate.trans (hwaiting h)), fun h => run_gives hup (hgate.trans (hready h)),
        fun h => run_gives hup (hgate.trans (hrunning h))⟩
    · rintro l rfl
      obtain ⟨hdisabled, hdisabling⟩ := taskEnable_acts (s := taskLogged p t 1 s) (t := t)
      rw [taskLogged, opLogged_task] at hdisabled hdisabling
      have hgate := taskGate_admitted (t := t) hadm 1 (taskEnable t)
      exact ⟨fun h hvalid => run_gives hup (hgate.trans (hdisabled h hvalid)),
        fun h => run_gives hup (hgate.trans (hdisabling h))⟩
    · refine ⟨_, run_gives hup ?_, taskReload_waits (s := taskLogged p t 2 s) h⟩
      rw [decide_eq_true h]
      exact taskGate_admitted hadm 2 _
    · exact run_gives hup (gate_refused (.inr (by simp [hsuspended, hdisabled])) _ _ _ _ _)
  case cores =>
    rintro c k hadm hc rfl
    refine ⟨fun hoff hbist hecc hfailed hreduced hhalt => ?_, ?_⟩
    · have hcore := coreEnable_idles (s := opLogged p addrCoreCtrl [coreEnBits s] [coreEnBits s ||| BitVec.ofNat 32 (1 <<< c)] s)
        hoff hbist hecc hfailed hreduced hhalt
      refine ⟨_, run_gives hup (coreGate_admitted hadm hc true _), ?_⟩
      rw [if_pos rfl, hcore]
      exact ⟨rfl, rfl⟩
    · rintro l rfl hen
      obtain ⟨hidle, hrun⟩ := coreDisable_acts (c := c)
        (s := opLogged p addrCoreCtrl [coreEnBits s] [coreEnBits s &&& ~~~(BitVec.ofNat 32 (1 <<< c))] s) hen
      rw [opLogged_core] at hidle hrun
      have hgate := coreGate_admitted hadm hc false (coreDisable c)
      exact ⟨fun h hbist hhalt => run_gives hup (hgate.trans (hidle h hbist hhalt)), fun h => run_gives hup (hgate.trans (hrun h))⟩
  case shutdowns =>
    rintro c k rfl hdown htask
    have hexec := coreShutdownComplete_acts hup hdown htask
    refine ⟨fun hen hbist hhalt => ?_, fun hen hbist hecc hfailed hreduced hhalt => ?_⟩
    · rw [hexec, coreAfterOff_stays hen hbist hhalt, ← htask]
    · rw [hexec, coreAfterOff_returns (coreWanted_of hen hbist hecc hfailed hreduced hhalt), ← htask]
  case halts =>
    rintro c k hc rfl hidle hhalt hbist hslice -
    refine ⟨fun hdebug hpower => ⟨_, run_up _ _ hup, ?_⟩, fun hdebug => run_gives hup (coreHalt_closed hdebug false)⟩
    rw [coreHalt_halts hdebug hpower hc hidle hhalt hbist hslice]
    exact ⟨rfl, rfl⟩
  case releases =>
    rintro c k rfl hstate hhalt hen hbist hecc hfailed hreduced
    refine ⟨_, run_up _ _ hup, ?_⟩
    rw [haltRelease_idles hstate hhalt hen hbist hecc hfailed hreduced]
    exact ⟨rfl, rfl⟩

end Sys2Proof.Machine
end

section
/-!
SUPPORT. The two memories keep their canonical form through every function of the model: one lemma per function,
named after it, in the model's own order. A function that leaves both memories alone is covered by what it changes
(`MemoriesCanonical.of_same`, `MemoriesCanonical.of_only`); the stores themselves keep the form by the laws of `wf`.
-/
namespace Sys2Proof

section
variable {s t u : Machine.State}

theorem MemoriesCanonical.of_mem (h : MemoriesCanonical s) (hboat : t.boat.mem = s.boat.mem)
    (hnvm : t.nvm.mem = s.nvm.mem) : MemoriesCanonical t := by
  obtain ⟨hb, hn⟩ := h
  exact ⟨hboat ▸ hb, hnvm ▸ hn⟩

theorem MemoriesCanonical.of_same (h : MemoriesCanonical s)
    (e : (t.boat.mem, t.nvm.mem) = (s.boat.mem, s.nvm.mem)) : MemoriesCanonical t :=
  h.of_mem (congrArg Prod.fst e) (congrArg Prod.snd e)

theorem MemoriesCanonical.of_only (h : MemoriesCanonical s) (e : t = u) (hboat : u.boat.mem = s.boat.mem)
    (hnvm : u.nvm.mem = s.nvm.mem) : MemoriesCanonical t := e ▸ h.of_mem hboat hnvm

end

end Sys2Proof

namespace Sys2Proof.Machine

open Sys2Proof

section
variable {s t : State}

theorem ite_canonical {p : Prop} [Decidable p] (hs : MemoriesCanonical s) (ht : MemoriesCanonical t) :
    MemoriesCanonical (if p then s else t) := by
  split
  · exact hs
  · exact ht

theorem foldl_canonical {α : Type} {f : State → α → State} {l : List α}
    (hf : ∀ t a, MemoriesCanonical t → MemoriesCanonical (f t a))
    (h : MemoriesCanonical s) : MemoriesCanonical (l.foldl f s) :=
  List.foldlRecOn l f h (fun t ht a _ => hf t a ht)

end

section
variable {s t : State}

/-! ### Events, frames and the counters -/

theorem setLane_canonical {l : Lane} {d : LaneDie} (h : MemoriesCanonical s) : MemoriesCanonical (State.setLane s l d) := by
  unfold State.setLane
  exact h.of_same (by dsimp only)

theorem setMgr_canonical {l : Lane} {m : LaneMgr} (h : MemoriesCanonical s) : MemoriesCanonical (State.setMgr s l m) := by
  unfold State.setMgr
  exact h.of_same (by dsimp only)

theorem setSi_canonical {n : Nat} {v : Si} (h : MemoriesCanonical s) : MemoriesCanonical (State.setSi s n v) := by
  unfold State.setSi
  exact h.of_same (by dsimp only)

theorem setTp_canonical {n : Nat} {v : Tp} (h : MemoriesCanonical s) : MemoriesCanonical (State.setTp s n v) := by
  unfold State.setTp
  exact h.of_same (by dsimp only)

theorem setSo_canonical {n : Nat} {v : So} (h : MemoriesCanonical s) : MemoriesCanonical (State.setSo s n v) := by
  unfold State.setSo
  exact h.of_same (by dsimp only)

theorem setCio_canonical {n : Nat} {v : Cio} (h : MemoriesCanonical s) : MemoriesCanonical (State.setCio s n v) := by
  unfold State.setCio
  exact h.of_same (by dsimp only)

theorem setGroup_canonical {g : Group} {v : GroupSt} (h : MemoriesCanonical s) : MemoriesCanonical (State.setGroup s g v) := by
  unfold State.setGroup
  split
  · exact h.of_same (by dsimp only)
  · exact h.of_same (by dsimp only)
  · exact h.of_same (by dsimp only)
  · exact h.of_same (by dsimp only)

theorem setSupply_canonical {g : Supply} {v : SupplySt} (h : MemoriesCanonical s) :
    MemoriesCanonical (State.setSupply s g v) := by
  unfold State.setSupply
  split
  · exact h.of_same (by dsimp only)
  · exact h.of_same (by dsimp only)
  · exact h.of_same (by dsimp only)

theorem setAin_canonical {n : Nat} {v : Ain} (h : MemoriesCanonical s) : MemoriesCanonical (State.setAin s n v) := by
  unfold State.setAin
  exact h.of_same (by dsimp only)

theorem setTach_canonical {n : Nat} {v : Tach} (h : MemoriesCanonical s) : MemoriesCanonical (State.setTach s n v) := by
  unfold State.setTach
  exact h.of_same (by dsimp only)

theorem setRg_canonical {n : Nat} {v : Ring} (h : MemoriesCanonical s) : MemoriesCanonical (State.setRg s n v) := by
  unfold State.setRg
  exact h.of_same (by dsimp only)

theorem setNd_canonical {uid : U64} {v : Node} (h : MemoriesCanonical s) : MemoriesCanonical (State.setNd s uid v) := by
  unfold State.setNd
  exact h.of_same (by dsimp only)

theorem setTask_canonical {n : Nat} {v : Task} (h : MemoriesCanonical s) : MemoriesCanonical (State.setTask s n v) := by
  unfold State.setTask
  exact h.of_same (by dsimp only)

theorem setCore_canonical {n : Nat} {v : Core} (h : MemoriesCanonical s) : MemoriesCanonical (State.setCore s n v) := by
  unfold State.setCore
  exact h.of_same (by dsimp only)

theorem setPmu_canonical {n : Nat} {v : Pmu} (h : MemoriesCanonical s) : MemoriesCanonical (State.setPmu s n v) := by
  unfold State.setPmu
  exact h.of_same (by dsimp only)

theorem fresh_canonical (h : MemoriesCanonical s) : MemoriesCanonical (fresh s).2 :=
  h.of_only (fresh_only ..) rfl rfl

theorem setEth_canonical {p : Nat} {e : EthPort} (h : MemoriesCanonical s) : MemoriesCanonical (State.setEth s p e) := by
  unfold State.setEth
  exact h.of_same (by dsimp only)

theorem ethRx_canonical {p : Nat} (h : MemoriesCanonical s) : MemoriesCanonical (ethRx p s) :=
  h.of_only (ethRx_only ..) rfl rfl

theorem ethDrop_canonical {p : Nat} (h : MemoriesCanonical s) : MemoriesCanonical (ethDrop p s) :=
  h.of_only (ethDrop_only ..) rfl rfl

theorem ethTx_canonical {p q len : Nat} (h : MemoriesCanonical s) : MemoriesCanonical (ethTx p q len s) :=
  h.of_only (ethTx_only ..) rfl rfl

theorem coreSends_canonical {q len : Nat} (h : MemoriesCanonical s) : MemoriesCanonical (coreSends q len s) :=
  h.of_only (coreSends_only ..) rfl rfl

theorem coreUnicast_canonical {q len : Nat} (h : MemoriesCanonical s) : MemoriesCanonical (coreUnicast q len s) :=
  h.of_only (coreUnicast_only ..) rfl rfl

theorem pushEvent_canonical {src cls code : Nat} {data : List Word} {time : Nat} (h : MemoriesCanonical s) :
    MemoriesCanonical (pushEvent src cls code data time s) :=
  h.of_only (pushEvent_only ..) rfl rfl

theorem refuse_canonical {addr : Nat} (h : MemoriesCanonical s) : MemoriesCanonical (refuse addr s) :=
  h.of_only (refuse_only ..) rfl rfl

theorem whenever_canonical {c : Bool} {f : State → State} (hf : ∀ {t : State}, MemoriesCanonical t → MemoriesCanonical (f t))
    (h : MemoriesCanonical s) :
    MemoriesCanonical (whenever c f s) :=
  ite_canonical (hf h) h

/-! ### The hooks of PERTURB -/

theorem setHk_canonical {n : Nat} {k : Hook} (h : MemoriesCanonical s) : MemoriesCanonical (s.setHk n k) := by
  unfold State.setHk
  exact h.of_same (by dsimp only)

theorem holdItem_canonical {on : Word → Bool} {n : Nat} {item : Instr} (h : MemoriesCanonical s) :
    MemoriesCanonical (holdItem on n item s) :=
  h.of_only (holdItem_only ..) rfl rfl

theorem hooked_canonical {on : Word → Bool} {item : Instr} {go : State → State}
    (hgo : ∀ {t : State}, MemoriesCanonical t → MemoriesCanonical (go t)) (h : MemoriesCanonical s) :
    MemoriesCanonical (hooked on item go s) := by
  unfold hooked
  split
  · exact holdItem_canonical h
  · exact hgo h

theorem noteWait_canonical {src cls wait : Nat} (h : MemoriesCanonical s) : MemoriesCanonical (noteWait src cls wait s) :=
  h.of_only (noteWait_only ..) rfl rfl

theorem hookedFrame_canonical {src cls wait : Nat} {item : Instr} {go : State → State}
    (hgo : ∀ {t : State}, MemoriesCanonical t → MemoriesCanonical (go t)) (h : MemoriesCanonical s) :
    MemoriesCanonical (hookedFrame src cls wait item go s) := by
  unfold hookedFrame
  split
  · exact noteWait_canonical (holdItem_canonical h)
  · exact hgo h

theorem hookTask_canonical {t : Nat} (h : MemoriesCanonical s) : MemoriesCanonical (hookTask t s) :=
  hooked_canonical (fun ht => ht) h

/-! ### The links of the umpire fabric -/

theorem sendFrom_canonical {src cls seat since : Nat} {words : List Word} (h : MemoriesCanonical s) :
    MemoriesCanonical (sendFrom src cls seat since words s) :=
  h.of_only (sendFrom_only ..) rfl rfl

theorem sendFrame_canonical {src cls : Nat} {words : List Word} (h : MemoriesCanonical s) :
    MemoriesCanonical (sendFrame src cls words s) :=
  h.of_only (sendFrame_only ..) rfl rfl

theorem laneFrame_canonical {l : Lane} {base cls : Nat} {words : List Word} (h : MemoriesCanonical s) :
    MemoriesCanonical (laneFrame l base cls words s) :=
  h.of_only (laneFrame_only ..) rfl rfl

theorem resetSources_canonical {who : Nat} {srcs : List Nat} (h : MemoriesCanonical s) :
    MemoriesCanonical (resetSources who srcs s) := by
  unfold resetSources
  exact (sendFrame_canonical h).of_same (by dsimp only)

theorem advance_canonical {tick : Nat} (h : MemoriesCanonical s) : MemoriesCanonical (advance tick s) :=
  h.of_only (advance_only ..) rfl rfl

theorem idleTick_canonical (h : MemoriesCanonical s) : MemoriesCanonical (idleTick s) :=
  ite_canonical (advance_canonical h) h

theorem setFcnt_canonical {p : Nat} {c : PortCnt} (h : MemoriesCanonical s) : MemoriesCanonical (State.setFcnt s p c) := by
  unfold State.setFcnt
  exact h.of_same (by dsimp only)

theorem setShownCnt_canonical {p : Nat} {c : PortCnt} (h : MemoriesCanonical s) :
    MemoriesCanonical (State.setShownCnt s p c) := by
  unfold State.setShownCnt
  exact h.of_same (by dsimp only)

theorem countPort_canonical {p i n : Nat} (h : MemoriesCanonical s) : MemoriesCanonical (countPort p i n s) :=
  h.of_only (countPort_only ..) rfl rfl

theorem heardFrom_canonical {ep src seq : Nat} (h : MemoriesCanonical s) : MemoriesCanonical (heardFrom ep src seq s) :=
  h.of_only (heardFrom_only ..) rfl rfl

theorem frameHeard_canonical {ep src : Nat} (h : MemoriesCanonical s) : MemoriesCanonical (frameHeard ep src s) :=
  heardFrom_canonical h

theorem emit_canonical {r : Report} (h : MemoriesCanonical s) : MemoriesCanonical (emit r s) :=
  h.of_only (emit_only ..) rfl rfl

theorem report_canonical {line code detail : Nat} (h : MemoriesCanonical s) : MemoriesCanonical (report line code detail s) :=
  h.of_only (report_only ..) rfl rfl

theorem laneReport_canonical {l : Lane} {code detail : Nat} (h : MemoriesCanonical s) :
    MemoriesCanonical (laneReport l code detail s) :=
  h.of_only (laneReport_only ..) rfl rfl

theorem laneTelReport_canonical {l : Lane} {code : Nat} (h : MemoriesCanonical s) :
    MemoriesCanonical (laneTelReport l code s) :=
  h.of_only (laneTelReport_only ..) rfl rfl

/-! ### The lanes -/

theorem laneSend_canonical {l : Lane} {out : LaneOut} (h : MemoriesCanonical s) : MemoriesCanonical (laneSend l out s) :=
  h.of_only (laneSend_only ..) rfl rfl

theorem flagFaulty_canonical {l : Lane} {cause : Nat} (h : MemoriesCanonical s) : MemoriesCanonical (flagFaulty l cause s) :=
  h.of_only (flagFaulty_only ..) rfl rfl

theorem telChanges_canonical {l : Lane} {cs : List (Nat × TelState × TelState)} (h : MemoriesCanonical s) :
    MemoriesCanonical (telChanges l cs s) :=
  ite_canonical (foldl_canonical (fun _ _ ht => ite_canonical ht (pushEvent_canonical ht))
      (ite_canonical (h.of_same (by dsimp only)) h))
      (ite_canonical (h.of_same (by dsimp only)) h)

theorem evaluate_canonical {l : Lane} {im : Image} {a : ImageArrival} (h : MemoriesCanonical s) :
    MemoriesCanonical (evaluate l im a s) := by
  unfold evaluate
  extract_lets
  split
  · exact h
  · extract_lets
    exact foldl_canonical (fun _ _ ht => laneReport_canonical ht) (telChanges_canonical
        (foldl_canonical (fun _ _ ht => laneTelReport_canonical ht) (foldl_canonical (fun _ _ ht => laneReport_canonical ht)
            (laneSend_canonical (setLane_canonical h)))))

theorem catchUp_canonical {l : Lane} (h : MemoriesCanonical s) : MemoriesCanonical (catchUp l s) := by
  unfold catchUp
  split
  · exact ite_canonical (setLane_canonical (evaluate_canonical h)) h
  · exact h

theorem imageHeard_canonical {l : Lane} {a : ImageArrival} (h : MemoriesCanonical s) : MemoriesCanonical (imageHeard l a s) :=
  foldl_canonical (fun _ _ ht => frameHeard_canonical ht) (foldl_canonical (fun _ _ ht => frameHeard_canonical ht)
      (frameHeard_canonical h))

theorem laneImage_canonical {l : Lane} {a : ImageArrival} (h : MemoriesCanonical s) : MemoriesCanonical (laneImage l a s) := by
  unfold laneImage
  extract_lets _ _ s0 _ sh s1
  have hs0 : MemoriesCanonical s0 := setLane_canonical h
  have hsh : MemoriesCanonical sh := imageHeard_canonical hs0
  have hs1 : MemoriesCanonical s1 := ite_canonical (catchUp_canonical hsh) hsh
  split
  · exact laneSend_canonical h
  · exact h
  · refine ite_canonical (flagFaulty_canonical hs0) (ite_canonical (flagFaulty_canonical hs0)
        (ite_canonical (setLane_canonical hs0) (ite_canonical (evaluate_canonical hs1) ?_)))
    split
    · exact laneSend_canonical hs1
    · exact laneSend_canonical hs1
    · exact setLane_canonical hs1
    · exact setLane_canonical hs1
    · exact hs1

theorem blockEvent_canonical {l : Lane} {blk : Nat} {f : Ctx → Block → BlockState → Option (BlockState × (List Val → List Val))}
    (h : MemoriesCanonical s) :
    MemoriesCanonical (blockEvent l blk f s) := by
  unfold blockEvent
  extract_lets
  split
  · exact h
  · split
    · exact h
    · refine ite_canonical ?_ h
      split
      · exact h
      · extract_lets s1
        have hs1 : MemoriesCanonical s1 := setLane_canonical h
        exact foldl_canonical (fun _ _ ht => laneReport_canonical ht) hs1

theorem vibSegEnd_canonical {l : Lane} {blk : Nat} (h : MemoriesCanonical s) : MemoriesCanonical (vibSegEnd l blk s) := by
  unfold vibSegEnd
  refine ite_canonical ?_ h
  split
  · exact h
  · extract_lets
    exact ite_canonical (laneReport_canonical (foldl_canonical (fun _ _ ht => laneReport_canonical ht) (setLane_canonical h)))
        (foldl_canonical (fun _ _ ht => laneReport_canonical ht) (setLane_canonical h))

theorem configPass_canonical {l : Lane} {ok : Bool} (h : MemoriesCanonical s) : MemoriesCanonical (configPass l ok s) :=
  ite_canonical (setLane_canonical h) (flagFaulty_canonical (setLane_canonical h))

theorem copyHeard_canonical {l src : Lane} (h : MemoriesCanonical s) : MemoriesCanonical (copyHeard l src s) :=
  heardFrom_canonical h

theorem copyFrame_canonical {l : Lane} {intact last : Bool} (h : MemoriesCanonical s) :
    MemoriesCanonical (copyFrame l intact last s) := by
  unfold copyFrame
  extract_lets
  split
  · refine ite_canonical (ite_canonical (setMgr_canonical h) ?_) h
    split
    · exact h
    · extract_lets s1
      have hs1 : MemoriesCanonical s1 := copyHeard_canonical h
      split
      · exact ite_canonical (setMgr_canonical (setLane_canonical hs1)) hs1
      · exact hs1
  · exact h

theorem recheck_canonical {l : Lane} {ok : Bool} (h : MemoriesCanonical s) : MemoriesCanonical (recheck l ok s) :=
  h.of_only (recheck_only ..) rfl rfl

theorem telArrive_canonical {l : Lane} {conn : Nat} {bytes : List Byte} (h : MemoriesCanonical s) :
    MemoriesCanonical (telArrive l conn bytes s) :=
  h.of_only (telArrive_only ..) rfl rfl

theorem telWatchdog_canonical {l : Lane} {blk : Nat} (h : MemoriesCanonical s) : MemoriesCanonical (telWatchdog l blk s) := by
  unfold telWatchdog
  extract_lets
  split
  · exact h
  · split
    · extract_lets _ _ _ _ s1
      have hs1 : MemoriesCanonical s1 := setLane_canonical h
      exact ite_canonical (telChanges_canonical (laneTelReport_canonical hs1)) h
    · exact h

theorem telSend_canonical {l : Lane} {blk : Nat} (h : MemoriesCanonical s) : MemoriesCanonical (telSend l blk s) := by
  unfold telSend
  extract_lets
  split
  · exact h
  · split
    · exact laneFrame_canonical (setLane_canonical h)
    · exact h

/-! ### The copies of a channel -/

theorem channelOn_canonical {n : Nat} (h : MemoriesCanonical s) : MemoriesCanonical (channelOn n s) :=
  h.of_only (channelOn_only ..) rfl rfl

theorem chanEnable_canonical {ch : Nat} (h : MemoriesCanonical s) : MemoriesCanonical (chanEnable ch s) :=
  h.of_only (chanEnable_only ..) rfl rfl

theorem chanDisable_canonical {ch : Nat} (h : MemoriesCanonical s) : MemoriesCanonical (chanDisable ch s) :=
  h.of_only (chanDisable_only ..) rfl rfl

theorem startChannel_canonical {n : Nat} (h : MemoriesCanonical s) : MemoriesCanonical (startChannel s n) :=
  ite_canonical (ite_canonical (channelOn_canonical h) h) (ite_canonical
      (ite_canonical (channelOn_canonical h) (chanEnable_canonical h)) (chanDisable_canonical h))

theorem tachOn_canonical {t : Nat} (h : MemoriesCanonical s) : MemoriesCanonical (tachOn t s) :=
  h.of_only (tachOn_only ..) rfl rfl

theorem tachEnable_canonical {t : Nat} (h : MemoriesCanonical s) : MemoriesCanonical (tachEnable t s) :=
  h.of_only (tachEnable_only ..) rfl rfl

theorem tachDisable_canonical {t : Nat} (h : MemoriesCanonical s) : MemoriesCanonical (tachDisable t s) :=
  h.of_only (tachDisable_only ..) rfl rfl

theorem startTimer_canonical {t : Nat} (h : MemoriesCanonical s) : MemoriesCanonical (startTimer s t) :=
  ite_canonical h (ite_canonical (tachEnable_canonical h) (tachDisable_canonical h))

theorem startChannels_canonical (h : MemoriesCanonical s) : MemoriesCanonical (startChannels s) :=
  foldl_canonical (fun _ _ ht => startTimer_canonical ht) (foldl_canonical (fun _ _ ht => startChannel_canonical ht) h)

/-! ### The output groups -/

theorem refreshCio_canonical {n : Nat} (h : MemoriesCanonical s) : MemoriesCanonical (refreshCio s n) :=
  h.of_only (refreshCio_only ..) rfl rfl

theorem refreshAll_canonical (h : MemoriesCanonical s) : MemoriesCanonical (refreshAll s) :=
  h.of_only (refreshAll_only ..) rfl rfl

theorem groupCause_canonical {g : Group} {f : GroupSt → GroupSt} (h : MemoriesCanonical s) :
    MemoriesCanonical (groupCause g f s) :=
  h.of_only (groupCause_only ..) rfl rfl

theorem groupMet_canonical {g : Group} {f : GroupSt → GroupSt} (h : MemoriesCanonical s) : MemoriesCanonical (groupMet g f s) :=
  h.of_only (groupMet_only ..) rfl rfl

theorem groupsGood_canonical (h : MemoriesCanonical s) : MemoriesCanonical (groupsGood s) :=
  foldl_canonical (fun _ _ ht => ite_canonical (setGroup_canonical ht) ht) h

theorem groupComplete_canonical {g : Group} (h : MemoriesCanonical s) : MemoriesCanonical (groupComplete g s) :=
  h.of_only (groupComplete_only ..) rfl rfl

theorem forcedLines_canonical {umpire own : BitVec 4} (h : MemoriesCanonical s) :
    MemoriesCanonical (forcedLines umpire own s) :=
  h.of_only (forcedLines_only ..) rfl rfl

theorem holdGroups_canonical (h : MemoriesCanonical s) : MemoriesCanonical (holdGroups s) :=
  h.of_only (holdGroups_only ..) rfl rfl

theorem unholdGroups_canonical (h : MemoriesCanonical s) : MemoriesCanonical (unholdGroups s) :=
  foldl_canonical (fun _ _ ht => groupMet_canonical ht) h

theorem groupOvercurrent_canonical {g : Group} (h : MemoriesCanonical s) : MemoriesCanonical (groupOvercurrent g s) :=
  h.of_only (groupOvercurrent_only ..) rfl rfl

theorem groupOvertemp_canonical {g : Group} (h : MemoriesCanonical s) : MemoriesCanonical (groupOvertemp g s) :=
  h.of_only (groupOvertemp_only ..) rfl rfl

theorem groupOffRequests_canonical (h : MemoriesCanonical s) : MemoriesCanonical (groupOffRequests s) :=
  foldl_canonical (fun _ _ ht => ite_canonical (groupMet_canonical ht) ht) h

theorem sampleGroup_canonical {r : GroupReading} {g : Group} (h : MemoriesCanonical s) :
    MemoriesCanonical (sampleGroup r g s) :=
  setGroup_canonical h

/-! ### Slices and units under test -/

theorem setUnit_canonical {u : Nat} {b : BUnit} (h : MemoriesCanonical s) : MemoriesCanonical (State.setUnit s u b) := by
  unfold State.setUnit
  exact h.of_same (by dsimp only)

theorem abortSlice_canonical {u : Nat} (h : MemoriesCanonical s) : MemoriesCanonical (abortSlice u s) :=
  h.of_only (abortSlice_only ..) rfl rfl

theorem dropSlice_canonical {u : Nat} (h : MemoriesCanonical s) : MemoriesCanonical (dropSlice u s) :=
  h.of_only (dropSlice_only ..) rfl rfl

/-! ### The seats -/

theorem voteFrame_canonical {l : Lane} {onTime intact : Bool} (h : MemoriesCanonical s) :
    MemoriesCanonical (voteFrame l onTime intact s) := by
  unfold voteFrame
  extract_lets _ _ s0 s1
  have hs0 : MemoriesCanonical s0 := ite_canonical (frameHeard_canonical h) h
  have hs1 : MemoriesCanonical s1 := setLane_canonical hs0
  split
  · exact h
  · extract_lets _ rx s2
    have hs2 : MemoriesCanonical s2 := setMgr_canonical hs1
    clear_value rx
    split
    · exact hs2.of_same (by dsimp only)
    · exact hs2

theorem tally_canonical (h : MemoriesCanonical s) : MemoriesCanonical (tally s) := by
  unfold tally
  exact h.of_same (by dsimp only)

theorem countFailure_canonical {l : Lane} {cause : Nat} (h : MemoriesCanonical s) :
    MemoriesCanonical (countFailure l cause s) :=
  h.of_only (countFailure_only ..) rfl rfl

theorem takeOut_canonical {l : Lane} (h : MemoriesCanonical s) : MemoriesCanonical (takeOut l s) :=
  ite_canonical h (setMgr_canonical h)

theorem seatLane_canonical {l : Lane} (h : MemoriesCanonical s) : MemoriesCanonical (seatLane l s) :=
  dropSlice_canonical (setMgr_canonical h)

theorem seatCommand_canonical {kind : Nat} {l : Lane} (h : MemoriesCanonical s) : MemoriesCanonical (seatCommand kind l s) :=
  sendFrame_canonical h

theorem enterState_canonical {st : SeatState} {row : Nat} {l : Option Lane} (h : MemoriesCanonical s) :
    MemoriesCanonical (enterState st row l s) :=
  h.of_only (enterState_only ..) rfl rfl

theorem setDue_canonical {b t p : Option Lane} (h : MemoriesCanonical s) : MemoriesCanonical (setDue b t p s) :=
  h.of_only (setDue_only ..) rfl rfl

theorem deferStep_canonical (h : MemoriesCanonical s) : MemoriesCanonical (deferStep s) := by
  unfold deferStep
  exact h.of_same (by dsimp only)

theorem startLanes_canonical {request : Bool} (h : MemoriesCanonical s) : MemoriesCanonical (startLanes request s) :=
  foldl_canonical (fun _ _ ht => ite_canonical ht (setMgr_canonical ht)) h

theorem lockOut_canonical {row : Nat} {l : Option Lane} (h : MemoriesCanonical s) : MemoriesCanonical (lockOut row l s) :=
  setDue_canonical (enterState_canonical ((startLanes_canonical (foldl_canonical
      (fun _ _ ht => dropSlice_canonical (abortSlice_canonical ht)) h)).of_same (by dsimp only)))

theorem clearFilters_canonical (h : MemoriesCanonical s) : MemoriesCanonical (clearFilters s) :=
  foldl_canonical (fun _ _ ht => setSi_canonical ht) h

theorem clearBlocks_canonical (h : MemoriesCanonical s) : MemoriesCanonical (clearBlocks s) :=
  foldl_canonical (fun _ _ ht => setLane_canonical ht) h

theorem enterStart_canonical {row : Nat} {request : Bool} (h : MemoriesCanonical s) :
    MemoriesCanonical (enterStart row request s) :=
  setDue_canonical (enterState_canonical ((clearBlocks_canonical (startLanes_canonical
      (startChannels_canonical (clearFilters_canonical h)))).of_same (by dsimp only)))

theorem countGone_canonical {l : Lane} (h : MemoriesCanonical s) : MemoriesCanonical (countGone s l) := by
  unfold countGone
  split
  · extract_lets s1
    have hs1 : MemoriesCanonical s1 := countFailure_canonical h
    exact setMgr_canonical hs1
  · exact h

theorem seatLoss_canonical {row : Nat} {l : Option Lane} (h : MemoriesCanonical s) : MemoriesCanonical (seatLoss row l s) :=
  report_canonical (lockOut_canonical h)

theorem beginRun_canonical (h : MemoriesCanonical s) : MemoriesCanonical (beginRun s) := by
  unfold beginRun
  exact (unholdGroups_canonical (clearBlocks_canonical h)).of_same (by dsimp only)

theorem applyRow_canonical {elig : Bool} {row : Nat} (h : MemoriesCanonical s) : MemoriesCanonical (applyRow elig row s) := by
  unfold applyRow
  extract_lets q gone left third
  clear_value left third
  split
  · exact lockOut_canonical h
  · exact seatLoss_canonical h
  · exact seatLoss_canonical h
  · exact report_canonical (lockOut_canonical (h.of_same (by dsimp only)))
  · exact report_canonical (lockOut_canonical h)
  · exact (enterStart_canonical h).of_same (by dsimp only)
  · split
    · exact emit_canonical (enterState_canonical (setDue_canonical (deferStep_canonical
        (seatLane_canonical (takeOut_canonical (countFailure_canonical (h.of_same (by dsimp only))))))))
    · exact report_canonical (lockOut_canonical (h.of_same (by dsimp only)))
  · split
    · exact enterState_canonical (setDue_canonical (deferStep_canonical (seatLane_canonical (takeOut_canonical h))))
    · exact h
  · split
    · rename_i o
      refine setDue_canonical (enterState_canonical ((deferStep_canonical ?_).of_same (by dsimp only)))
      have ho : MemoriesCanonical (takeOut o s) := takeOut_canonical h
      split
      · exact ite_canonical (seatCommand_canonical (dropSlice_canonical (setMgr_canonical ho))) ho
      · exact ho
    · exact h
  · exact seatLoss_canonical h
  · split
    · exact setDue_canonical (enterState_canonical (deferStep_canonical (takeOut_canonical
        (dropSlice_canonical (ite_canonical h (report_canonical (countFailure_canonical h)))))))
    · exact h
  · split
    · exact setDue_canonical ((enterState_canonical (seatLane_canonical h)).of_same (by dsimp only))
    · exact h
  · split
    · refine ite_canonical ?_ (setDue_canonical (enterState_canonical (setMgr_canonical h)))
      split
      · exact setDue_canonical (enterState_canonical ((setMgr_canonical (seatLane_canonical h)).of_same (by dsimp only)))
      · exact h
    · exact h
  · split
    · exact ite_canonical (enterState_canonical (h.of_same (by dsimp only))) (setMgr_canonical h)
    · exact h
  · split
    · exact enterState_canonical (setMgr_canonical h)
    · exact h
  · split
    · exact setDue_canonical (enterState_canonical (deferStep_canonical (takeOut_canonical h)))
    · exact h
  · split
    · exact setDue_canonical (enterState_canonical (setMgr_canonical h))
    · exact h
  · exact setDue_canonical (enterState_canonical (h.of_same (by dsimp only)))
  · exact setDue_canonical ((enterState_canonical (beginRun_canonical (seatLane_canonical
      (seatLane_canonical (setMgr_canonical h))))).of_same (by dsimp only))
  · exact enterStart_canonical h
  · split
    · exact setDue_canonical (enterState_canonical (beginRun_canonical (seatLane_canonical (seatLane_canonical h))))
    · exact h
  · split
    · exact setDue_canonical (enterState_canonical (deferStep_canonical (takeOut_canonical h)))
    · exact h
  · exact h

theorem retestPassed_canonical {l : Lane} (h : MemoriesCanonical s) : MemoriesCanonical (retestPassed l s) := by
  unfold retestPassed
  extract_lets
  refine ite_canonical ?_ h
  split
  · exact setMgr_canonical h
  · exact ite_canonical (setMgr_canonical h) (setMgr_canonical h)
  · exact h

theorem copyAgain_canonical {l : Lane} (h : MemoriesCanonical s) : MemoriesCanonical (copyAgain l s) :=
  ite_canonical (setMgr_canonical h) h

theorem orderCopy_canonical {l : Lane} (h : MemoriesCanonical s) : MemoriesCanonical (orderCopy l s) := by
  unfold orderCopy
  extract_lets
  refine ite_canonical ?_ h
  split
  · extract_lets s1
    have hs1 : MemoriesCanonical s1 := setMgr_canonical h
    exact seatCommand_canonical (resetSources_canonical hs1)
  · exact h

theorem staleCopy_canonical {l : Lane} (h : MemoriesCanonical s) : MemoriesCanonical (staleCopy l s) := by
  unfold staleCopy
  split
  · exact ite_canonical (setMgr_canonical h) h
  · exact h

theorem abortCommand_canonical {l : Lane} (h : MemoriesCanonical s) : MemoriesCanonical (abortCommand l s) :=
  h.of_only (abortCommand_only ..) rfl rfl

theorem abortComplete_canonical {l : Lane} (h : MemoriesCanonical s) : MemoriesCanonical (abortComplete l s) :=
  h.of_only (abortComplete_only ..) rfl rfl

theorem rotationInstant_canonical (h : MemoriesCanonical s) : MemoriesCanonical (rotationInstant s) :=
  h.of_only (rotationInstant_only ..) rfl rfl

theorem stepSix_canonical (h : MemoriesCanonical s) : MemoriesCanonical (stepSix s) := by
  unfold stepSix
  extract_lets s0 s1 _ s2 _ s3 s4 s5
  have hs0 : MemoriesCanonical s0 := foldl_canonical (fun _ _ ht => abortComplete_canonical ht) (advance_canonical h)
  have hs1 : MemoriesCanonical s1 := whenever_canonical rotationInstant_canonical hs0
  have hs2 : MemoriesCanonical s2 := tally_canonical hs1
  have hs3 : MemoriesCanonical s3 := applyRow_canonical (foldl_canonical (fun _ _ ht => countGone_canonical ht) hs2)
  have hs4 : MemoriesCanonical s4 := ite_canonical (foldl_canonical (fun _ _ ht => copyAgain_canonical ht) hs3) hs3
  have hs5 : MemoriesCanonical s5 := foldl_canonical (fun _ _ ht => orderCopy_canonical
      (staleCopy_canonical (retestPassed_canonical ht))) hs4
  exact hs5.of_same (by dsimp only)

theorem voteDeadline_canonical (h : MemoriesCanonical s) : MemoriesCanonical (voteDeadline s) :=
  ite_canonical h (stepSix_canonical h)

theorem twoOarLimit_canonical (h : MemoriesCanonical s) : MemoriesCanonical (twoOarLimit s) :=
  h.of_only (twoOarLimit_only ..) rfl rfl

theorem failureExpiry_canonical {l : Lane} (h : MemoriesCanonical s) : MemoriesCanonical (failureExpiry l s) :=
  setMgr_canonical h

/-! ### Safety inputs -/

theorem filterChange_canonical {n : Nat} (h : MemoriesCanonical s) : MemoriesCanonical (filterChange n s) :=
  h.of_only (filterChange_only ..) rfl rfl

theorem inputsCarry_canonical {k : Nat} (h : MemoriesCanonical s) : MemoriesCanonical (inputsCarry k s) :=
  h.of_only (inputsCarry_only ..) rfl rfl

theorem declareStuck_canonical {k : Nat} (h : MemoriesCanonical s) : MemoriesCanonical (declareStuck k s) :=
  ite_canonical (setTp_canonical h) (report_canonical (inputsCarry_canonical (setTp_canonical h)))

theorem overload_canonical {k : Nat} (h : MemoriesCanonical s) : MemoriesCanonical (overload k s) :=
  h.of_only (overload_only ..) rfl rfl

theorem declareShort_canonical {n : Nat} (h : MemoriesCanonical s) : MemoriesCanonical (declareShort n s) := by
  unfold declareShort
  extract_lets _ s1
  have hs1 : MemoriesCanonical s1 := setSi_canonical h
  split
  · exact h
  · exact ite_canonical hs1 (emit_canonical hs1)

theorem declareCross_canonical {n k q : Nat} (h : MemoriesCanonical s) : MemoriesCanonical (declareCross n k q s) :=
  ite_canonical (setSi_canonical h) (report_canonical (setSi_canonical h))

theorem sampleSi_canonical {v : Bool} {q n : Nat} (h : MemoriesCanonical s) : MemoriesCanonical (sampleSi v q n s) := by
  unfold sampleSi
  extract_lets
  refine ite_canonical (setSi_canonical ?_) ?_
  · split
    · exact setSi_canonical h
    · split
      · exact setSi_canonical h
      · exact ite_canonical (ite_canonical (setSi_canonical (setSi_canonical h))
            (ite_canonical (setSi_canonical (setSi_canonical h)) (setSi_canonical h))) (setSi_canonical h)
  · split
    · exact setSi_canonical h
    · split
      · exact setSi_canonical h
      · exact ite_canonical (ite_canonical (setSi_canonical (setSi_canonical h))
            (ite_canonical (setSi_canonical (setSi_canonical h)) (setSi_canonical h))) (setSi_canonical h)

theorem sampleTp_canonical {v lim : Bool} {q k : Nat} (h : MemoriesCanonical s) : MemoriesCanonical (sampleTp v lim q k s) := by
  unfold sampleTp
  extract_lets _ _ _ _ _ _ _ _ _ _ s1
  have hs1 : MemoriesCanonical s1 := setTp_canonical h
  split
  · exact hs1
  · exact ite_canonical (ite_canonical (declareStuck_canonical hs1) (ite_canonical hs1
        (ite_canonical (setTp_canonical hs1) (setTp_canonical hs1)))) hs1

theorem pulseBegin_canonical {k : Nat} (h : MemoriesCanonical s) : MemoriesCanonical (pulseBegin k s) :=
  h.of_only (pulseBegin_only ..) rfl rfl

theorem foreignInput_canonical {k p n : Nat} (h : MemoriesCanonical s) : MemoriesCanonical (foreignInput k p n s) :=
  ite_canonical (ite_canonical (declareCross_canonical h) (ite_canonical (setSi_canonical h) h)) h

theorem windowEnd_canonical {k : Nat} (h : MemoriesCanonical s) : MemoriesCanonical (windowEnd k s) := by
  unfold windowEnd
  split
  · exact h
  · extract_lets _ s1
    have hs1 : MemoriesCanonical s1 := setTp_canonical h
    exact foldl_canonical (fun _ _ ht => foreignInput_canonical ht) hs1

theorem sampleSupply_canonical {r : SupplyReading} {v : Supply} (h : MemoriesCanonical s) :
    MemoriesCanonical (sampleSupply r v s) :=
  setSupply_canonical h

theorem supplyWarn_canonical {v : Supply} (h : MemoriesCanonical s) : MemoriesCanonical (supplyWarn v s) :=
  h.of_only (supplyWarn_only ..) rfl rfl

theorem supplySag_canonical {v : Supply} (h : MemoriesCanonical s) : MemoriesCanonical (supplySag v s) :=
  report_canonical (foldl_canonical (fun _ _ ht => groupCause_canonical ht) (setSupply_canonical h))

theorem supplyMissing_canonical {v : Supply} (h : MemoriesCanonical s) : MemoriesCanonical (supplyMissing v s) :=
  report_canonical (foldl_canonical (fun _ _ ht => groupCause_canonical ht) (setSupply_canonical h))

theorem supplyRecovery_canonical {v : Supply} (h : MemoriesCanonical s) : MemoriesCanonical (supplyRecovery v s) :=
  h.of_only (supplyRecovery_only ..) rfl rfl

theorem lorHist_canonical (h : MemoriesCanonical s) : MemoriesCanonical (lorHist s) :=
  h.of_only (lorHist_only ..) rfl rfl

theorem lorArm_canonical (h : MemoriesCanonical s) : MemoriesCanonical (lorArm s) :=
  ite_canonical (h.of_same (by dsimp only)) (ite_canonical (h.of_same (by dsimp only)) h)

theorem lorAccept_canonical (h : MemoriesCanonical s) : MemoriesCanonical (lorAccept s) := by
  unfold lorAccept
  extract_lets _ _ s1
  have hs1 : MemoriesCanonical s1 := startLanes_canonical (h.of_same (by dsimp only))
  exact ite_canonical (hs1.of_same (by dsimp only)) (h.of_same (by dsimp only))

theorem lorCycle_canonical (h : MemoriesCanonical s) : MemoriesCanonical (lorCycle s) :=
  ite_canonical h (ite_canonical (ite_canonical (lorAccept_canonical (h.of_same (by dsimp only))) (h.of_same (by dsimp only)))
      (h.of_same (by dsimp only)))

theorem lorDisarm_canonical (h : MemoriesCanonical s) : MemoriesCanonical (lorDisarm s) := by
  unfold lorDisarm
  exact h.of_same (by dsimp only)

/-! ### Safety outputs -/

theorem outPulseBegin_canonical {k : Nat} (h : MemoriesCanonical s) : MemoriesCanonical (outPulseBegin k s) :=
  h.of_only (outPulseBegin_only ..) rfl rfl

theorem declareOutCross_canonical {k partner : Nat} (h : MemoriesCanonical s) :
    MemoriesCanonical (declareOutCross k partner s) :=
  ite_canonical (setSo_canonical h) (report_canonical (setSo_canonical h))

theorem crossCheck_canonical {k p j : Nat} (h : MemoriesCanonical s) : MemoriesCanonical (crossCheck k p j s) :=
  ite_canonical (declareOutCross_canonical (declareOutCross_canonical h)) h

theorem outPulseEnd_canonical {k : Nat} (h : MemoriesCanonical s) : MemoriesCanonical (outPulseEnd k s) := by
  unfold outPulseEnd
  split
  · exact h
  · extract_lets _ s1
    have hs1 : MemoriesCanonical s1 := setSo_canonical h
    exact ite_canonical (foldl_canonical (fun _ _ ht => crossCheck_canonical ht) hs1) hs1

theorem sampleSo_canonical {r : SoReading} {q k : Nat} (h : MemoriesCanonical s) : MemoriesCanonical (sampleSo r q k s) :=
  setSo_canonical h

theorem outShort_canonical {k : Nat} (h : MemoriesCanonical s) : MemoriesCanonical (outShort k s) :=
  h.of_only (outShort_only ..) rfl rfl

theorem outHold_canonical {code k : Nat} (h : MemoriesCanonical s) : MemoriesCanonical (outHold code k s) :=
  h.of_only (outHold_only ..) rfl rfl

theorem outStuck_canonical {k : Nat} (h : MemoriesCanonical s) : MemoriesCanonical (outStuck k s) :=
  h.of_only (outStuck_only ..) rfl rfl

theorem outOpenLoad_canonical {k : Nat} (h : MemoriesCanonical s) : MemoriesCanonical (outOpenLoad k s) :=
  h.of_only (outOpenLoad_only ..) rfl rfl

theorem outClear_canonical {k : Nat} (h : MemoriesCanonical s) : MemoriesCanonical (outClear k s) :=
  h.of_only (outClear_only ..) rfl rfl

theorem boundarySo_canonical {a b : Word} {k : Nat} (h : MemoriesCanonical s) : MemoriesCanonical (boundarySo a b s k) :=
  setSo_canonical h

theorem watchdogCycle_canonical (h : MemoriesCanonical s) : MemoriesCanonical (watchdogCycle s) := by
  unfold watchdogCycle
  exact h.of_same (by dsimp only)

theorem wdTrip_canonical (h : MemoriesCanonical s) : MemoriesCanonical (wdTrip s) :=
  h.of_only (wdTrip_only ..) rfl rfl

theorem wdRelease_canonical (h : MemoriesCanonical s) : MemoriesCanonical (wdRelease s) :=
  h.of_only (wdRelease_only ..) rfl rfl

/-! ### Conventional I/O -/

theorem sampleCio_canonical {r : CioReading} {n : Nat} (h : MemoriesCanonical s) : MemoriesCanonical (sampleCio r n s) := by
  unfold sampleCio
  extract_lets
  split
  · exact setCio_canonical h
  · exact setCio_canonical h

theorem boundaryCio_canonical {a b : Word} {start n : Nat} (h : MemoriesCanonical s) :
    MemoriesCanonical (boundaryCio a b start s n) := by
  unfold boundaryCio
  extract_lets
  split
  · exact h
  · exact setCio_canonical h
  · exact setCio_canonical h

theorem cioSilence_canonical {n : Nat} (h : MemoriesCanonical s) : MemoriesCanonical (cioSilence n s) :=
  h.of_only (cioSilence_only ..) rfl rfl

theorem cioHeard_canonical {src : Nat} (h : MemoriesCanonical s) : MemoriesCanonical (cioHeard src s) :=
  foldl_canonical (fun _ _ ht => ite_canonical (setCio_canonical (whenever_canonical cioSilence_canonical ht)) ht) h

theorem cioSet_canonical {src : Nat} {mask value : Word} {n : Nat} (h : MemoriesCanonical s) :
    MemoriesCanonical (cioSet src mask value s n) :=
  ite_canonical (ite_canonical (refreshCio_canonical (setCio_canonical h)) (h.of_same (by dsimp only))) h

theorem cioCommand_canonical {src : Nat} {mask value : Word} (h : MemoriesCanonical s) :
    MemoriesCanonical (cioCommand src mask value s) := by
  have hs : MemoriesCanonical ((List.range 24).foldl (cioSet src mask value) (cioHeard src s)) :=
    foldl_canonical (fun _ _ ht => cioSet_canonical ht) (cioHeard_canonical h)
  exact ite_canonical (refuse_canonical hs) hs

theorem cioValueWrite_canonical {p : Port} {value : Word} (h : MemoriesCanonical s) :
    MemoriesCanonical (cioValueWrite p value s) :=
  hookedFrame_canonical cioCommand_canonical h

theorem cioBeatWrite_canonical {p : Port} (h : MemoriesCanonical s) : MemoriesCanonical (cioBeatWrite p s) :=
  hookedFrame_canonical cioHeard_canonical h

theorem cioOverload_canonical {n : Nat} (h : MemoriesCanonical s) : MemoriesCanonical (cioOverload n s) :=
  h.of_only (cioOverload_only ..) rfl rfl

theorem cioShort_canonical {n : Nat} (h : MemoriesCanonical s) : MemoriesCanonical (cioShort n s) :=
  h.of_only (cioShort_only ..) rfl rfl

/-! ### The umpire -/

theorem linesFollow_canonical (h : MemoriesCanonical s) : MemoriesCanonical (linesFollow s) :=
  h.of_only (linesFollow_only ..) rfl rfl

theorem localAssert_canonical {gs : BitVec 4} (h : MemoriesCanonical s) : MemoriesCanonical (localAssert gs s) :=
  h.of_only (localAssert_only ..) rfl rfl

theorem aliveStop_canonical (h : MemoriesCanonical s) : MemoriesCanonical (aliveStop s) :=
  ite_canonical (h.of_same (by dsimp only)) h

theorem lockoutFault_canonical (h : MemoriesCanonical s) : MemoriesCanonical (lockoutFault s) := by
  unfold lockoutFault
  exact (lorDisarm_canonical h).of_same (by dsimp only)

theorem latchOne_canonical {r : Report} (h : MemoriesCanonical s) : MemoriesCanonical (latchOne s r) := by
  unfold latchOne
  extract_lets _ _ _ s2 s1
  have hs2 : MemoriesCanonical s2 := h.of_same (by dsimp only)
  have hs1 : MemoriesCanonical s1 := by
    refine ite_canonical (h.of_same (by dsimp only)) ?_
    split
    · exact aliveStop_canonical (lockoutFault_canonical hs2)
    · exact aliveStop_canonical hs2
    · exact hs2
  exact pushEvent_canonical hs1

theorem latchAll_canonical (h : MemoriesCanonical s) : MemoriesCanonical (latchAll s) := by
  unfold latchAll
  split
  · exact h
  · exact linesFollow_canonical (foldl_canonical (fun _ _ ht => latchOne_canonical ht) (h.of_same (by dsimp only)))

theorem checkTaken_canonical {k : Nat} (h : MemoriesCanonical s) : MemoriesCanonical (checkTaken k s) := by
  unfold checkTaken
  exact h.of_same (by dsimp only)

theorem scheduled_canonical {k : Nat} {f : State → State} (hf : ∀ {t : State}, MemoriesCanonical t → MemoriesCanonical (f t))
    (h : MemoriesCanonical s) :
    MemoriesCanonical (scheduled k f s) :=
  ite_canonical (hf (checkTaken_canonical h)) h

theorem umpCheck_canonical {pass : Bool} (h : MemoriesCanonical s) : MemoriesCanonical (umpCheck pass s) :=
  h.of_only (umpCheck_only ..) rfl rfl

theorem umpSelfCheck_canonical {pass : Bool} (h : MemoriesCanonical s) : MemoriesCanonical (umpSelfCheck pass s) :=
  ite_canonical (h.of_same (by dsimp only)) (umpCheck_canonical h)

theorem handlingClose_canonical (h : MemoriesCanonical s) : MemoriesCanonical (handlingClose s) := by
  unfold handlingClose
  extract_lets _ s1
  have hs1 : MemoriesCanonical s1 := latchAll_canonical (h.of_same (by dsimp only))
  split
  · exact ite_canonical hs1 (umpCheck_canonical hs1)
  · exact hs1

theorem groupCheck_canonical {g : Group} {pass : Bool} (h : MemoriesCanonical s) : MemoriesCanonical (groupCheck g pass s) :=
  ite_canonical (h.of_same (by dsimp only)) (report_canonical (localAssert_canonical (h.of_same (by dsimp only))))

theorem fieldCheck_canonical {pass : Bool} (h : MemoriesCanonical s) : MemoriesCanonical (fieldCheck pass s) :=
  ite_canonical (h.of_same (by dsimp only)) (report_canonical (localAssert_canonical (h.of_same (by dsimp only))))

theorem clearBit_canonical {busy : List Nat} {n : Nat} (h : MemoriesCanonical s) : MemoriesCanonical (clearBit busy s n) :=
  ite_canonical h (ite_canonical (h.of_same (by dsimp only)) (h.of_same (by dsimp only)))

theorem acceptClear_canonical (h : MemoriesCanonical s) : MemoriesCanonical (acceptClear s) :=
  ite_canonical (h.of_same (by dsimp only)) (h.of_same (by dsimp only))

theorem clearLo_canonical {bits : Word} (h : MemoriesCanonical s) : MemoriesCanonical (clearLo bits s) := by
  unfold clearLo
  extract_lets _ s0 s1 s2 _ _ s3
  have hs0 : MemoriesCanonical s0 := foldl_canonical (fun _ _ ht => clearBit_canonical ht) h
  have hs1 : MemoriesCanonical s1 := ite_canonical hs0 (refuse_canonical hs0)
  have hs2 : MemoriesCanonical s2 := ite_canonical (acceptClear_canonical hs1) hs1
  have hs3 : MemoriesCanonical s3 := ite_canonical hs2 (hs2.of_same (by dsimp only))
  split
  · exact linesFollow_canonical hs3
  · exact latchAll_canonical hs3

theorem clearHi_canonical {bits : Word} (h : MemoriesCanonical s) : MemoriesCanonical (clearHi bits s) :=
  latchAll_canonical (h.of_same (by dsimp only))

theorem aliveCycle_canonical (h : MemoriesCanonical s) : MemoriesCanonical (aliveCycle s) := by
  unfold aliveCycle
  exact h.of_same (by dsimp only)

/-! ### The event log -/

theorem logAppend_canonical {actor kind param : Nat} {old new : List Word} {target : Nat} (h : MemoriesCanonical s) :
    MemoriesCanonical (logAppend actor kind param old new target s) := by
  obtain ⟨hboat, hnvm⟩ := h
  exact ⟨hboat, wf_logAppend _ _ _ _ _ _ _ hnvm⟩

theorem logThen_canonical {actor kind param : Nat} {old new : List Word} {target : Nat} {refusal apply : State → State}
    (hrefusal : ∀ {t : State}, MemoriesCanonical t → MemoriesCanonical (refusal t))
        (happly : ∀ {t : State}, MemoriesCanonical t → MemoriesCanonical (apply t)) (h : MemoriesCanonical s) :
    MemoriesCanonical (logThen actor kind param old new target refusal apply s) :=
  ite_canonical (happly (logAppend_canonical h)) (hrefusal (report_canonical ((logAppend_canonical h).of_same (by dsimp only))))

theorem logEvent_canonical {actor kind param : Nat} {old new : List Word} (h : MemoriesCanonical s) :
    MemoriesCanonical (logEvent actor kind param old new s) :=
  ite_canonical (h.of_same (by dsimp only)) (logAppend_canonical h)

/-! ### Sessions and password classes -/

theorem secRefuse_canonical {addr code : Nat} (h : MemoriesCanonical s) : MemoriesCanonical (secRefuse addr code s) :=
  h.of_only (secRefuse_only ..) rfl rfl

theorem dropSession_canonical {p : Port} (h : MemoriesCanonical s) : MemoriesCanonical (dropSession p s) :=
  h.of_only (dropSession_only ..) rfl rfl

theorem touchSession_canonical {p : Port} (h : MemoriesCanonical s) : MemoriesCanonical (touchSession p s) :=
  h.of_only (touchSession_only ..) rfl rfl

theorem gate_canonical {p : Port} {right : Nat} {valueOk : Bool} {kind addr : Nat} {old new : List Word} {apply : State → State}
    (happly : ∀ {t : State}, MemoriesCanonical t → MemoriesCanonical (apply t)) (h : MemoriesCanonical s) :
    MemoriesCanonical (gate p right valueOk kind addr old new apply s) := by
  unfold gate
  extract_lets s1
  have hs1 : MemoriesCanonical s1 := touchSession_canonical h
  exact ite_canonical (secRefuse_canonical hs1) (ite_canonical (secRefuse_canonical hs1)
      (ite_canonical (secRefuse_canonical hs1) (ite_canonical (secRefuse_canonical
          (report_canonical (hs1.of_same (by dsimp only))))
          (logThen_canonical secRefuse_canonical happly hs1))))

theorem sealReport_canonical {old : Word} (h : MemoriesCanonical s) : MemoriesCanonical (sealReport old s) :=
  ite_canonical (logEvent_canonical (report_canonical h)) (report_canonical h)

theorem sealWatch_canonical (h : MemoriesCanonical s) : MemoriesCanonical (sealWatch s) :=
  ite_canonical h (h.of_same (by dsimp only))

theorem sealChange_canonical {b closed : Bool} (h : MemoriesCanonical s) : MemoriesCanonical (sealChange b closed s) :=
  sealWatch_canonical (sealReport_canonical (h.of_same (by dsimp only)))

theorem sealSample_canonical {b closed : Bool} (h : MemoriesCanonical s) : MemoriesCanonical (sealSample b closed s) :=
  ite_canonical (sealChange_canonical (h.of_same (by dsimp only))) (h.of_same (by dsimp only))

theorem sealRuns_canonical {a b : Bool} (h : MemoriesCanonical s) : MemoriesCanonical (sealRuns a b s) := by
  unfold sealRuns
  exact h.of_same (by dsimp only)

theorem sealInputs_canonical {a b : Bool} (h : MemoriesCanonical s) : MemoriesCanonical (sealInputs a b s) :=
  sealRuns_canonical (sealSample_canonical (sealSample_canonical h))

theorem sealDiscSet_canonical (h : MemoriesCanonical s) : MemoriesCanonical (sealDiscSet s) :=
  sealWatch_canonical (sealReport_canonical (h.of_same (by dsimp only)))

theorem setLogin_canonical {p : Port} {v : LoginPort} (h : MemoriesCanonical s) : MemoriesCanonical (State.setLogin s p v) := by
  unfold State.setLogin
  exact h.of_same (by dsimp only)

theorem setSlotCnt_canonical {k : Nat} {v : SlotCnt} (h : MemoriesCanonical s) :
    MemoriesCanonical (State.setSlotCnt s k v) := by
  unfold State.setSlotCnt
  exact h.of_same (by dsimp only)

theorem challenge_canonical {p : Port} {slot : Nat} (h : MemoriesCanonical s) : MemoriesCanonical (challenge p slot s) :=
  h.of_only (challenge_only ..) rfl rfl

theorem loginFail_canonical {p : Port} {k : Nat} (h : MemoriesCanonical s) : MemoriesCanonical (loginFail p k s) :=
  ite_canonical (logEvent_canonical (report_canonical (setSlotCnt_canonical (setLogin_canonical h))))
      (setSlotCnt_canonical (setLogin_canonical h))

theorem loginOpen_canonical {p : Port} {k : Nat} (h : MemoriesCanonical s) : MemoriesCanonical (loginOpen p k s) :=
  ite_canonical (secRefuse_canonical (setLogin_canonical h)) ((setSlotCnt_canonical
      (dropSession_canonical (setLogin_canonical h))).of_same (by dsimp only))

theorem respond_canonical {p : Port} {k : Nat} (h : MemoriesCanonical s) : MemoriesCanonical (respond p k s) := by
  unfold respond
  extract_lets
  split
  · exact secRefuse_canonical (setLogin_canonical h)
  · exact ite_canonical (secRefuse_canonical (setLogin_canonical h)) (ite_canonical (loginFail_canonical h)
        (loginOpen_canonical h))

theorem nonceExpiry_canonical {p : Option Port} (h : MemoriesCanonical s) : MemoriesCanonical (nonceExpiry p s) := by
  unfold nonceExpiry
  split
  · extract_lets
    exact ite_canonical (setLogin_canonical h) h
  · exact ite_canonical (h.of_same (by dsimp only)) h

theorem sessionTimeout_canonical {p : Port} (h : MemoriesCanonical s) : MemoriesCanonical (sessionTimeout p s) := by
  unfold sessionTimeout
  exact h.of_same (by dsimp only)

theorem slotLockEnd_canonical {k : Nat} (h : MemoriesCanonical s) : MemoriesCanonical (slotLockEnd k s) :=
  ite_canonical h (setSlotCnt_canonical h)

/-! ### The boathouse -/

theorem setPage_canonical {p : Nat} {v : BoatPage} (h : MemoriesCanonical s) : MemoriesCanonical (State.setPage s p v) := by
  unfold State.setPage
  exact h.of_same (by dsimp only)

theorem takePage_canonical {holder cap p : Nat} (h : MemoriesCanonical s) : MemoriesCanonical (takePage holder cap p s) :=
  setPage_canonical h

theorem noteLow_canonical (h : MemoriesCanonical s) : MemoriesCanonical (noteLow s) := by
  unfold noteLow
  exact h.of_same (by dsimp only)

theorem allocate_canonical {holder n cap replies : Nat} (h : MemoriesCanonical s) :
    MemoriesCanonical (allocate holder n cap replies s).2 := by
  unfold allocate
  extract_lets _ s0 _ _ s1 _ _ s2
  have hs0 : MemoriesCanonical s0 := h.of_same (by dsimp only)
  have hs1 : MemoriesCanonical s1 := by
    unfold s1
    split
    · exact setTask_canonical hs0
    · exact hs0
  have hs2 : MemoriesCanonical s2 := foldl_canonical (fun _ _ ht => takePage_canonical ht) hs0
  split
  · exact hs0.of_same (by dsimp only)
  · split
    · exact hs1.of_same (by dsimp only)
    · exact noteLow_canonical hs2

theorem dropPage_canonical {p : Nat} (h : MemoriesCanonical s) : MemoriesCanonical (dropPage p s) := by
  unfold dropPage
  exact (setPage_canonical h).of_same (by dsimp only)

theorem servePage_canonical {r : PageReq} (h : MemoriesCanonical s) : MemoriesCanonical (servePage r s) :=
  sendFrame_canonical (allocate_canonical h)

theorem serveAll_canonical {n : Nat} {reqs : List PageReq} (h : MemoriesCanonical s) :
    MemoriesCanonical (serveAll n reqs s) := by
  induction n generalizing reqs s with
  | zero => exact h
  | succ n ih => exact ih (foldl_canonical (fun _ _ ht => servePage_canonical ht) (h.of_same (by dsimp only)))

theorem memPut_canonical {a : Nat} {w : Word} (h : MemoriesCanonical s) : MemoriesCanonical (memPut a w s) := by
  obtain ⟨hboat, hnvm⟩ := h
  exact ⟨wf_memPut _ _ _ hboat, hnvm⟩

theorem memPuts_canonical {a : Nat} {ws : List Word} (h : MemoriesCanonical s) : MemoriesCanonical (memPuts a ws s) := by
  obtain ⟨hboat, hnvm⟩ := h
  exact ⟨wf_memPuts _ _ _ hboat, hnvm⟩

theorem streamSlots_canonical {b n : Nat} (h : MemoriesCanonical s) : MemoriesCanonical (streamSlots b n s) :=
  ite_canonical h (h.of_same (by dsimp only))

theorem accessBank_canonical {b who : Nat} (h : MemoriesCanonical s) : MemoriesCanonical (accessBank b who s) := by
  unfold accessBank
  exact h.of_same (by dsimp only)

theorem memZero_canonical {p : Nat} (h : MemoriesCanonical s) : MemoriesCanonical (memZero p s) := by
  obtain ⟨hboat, hnvm⟩ := h
  exact ⟨wf_memZero _ _ hboat, hnvm⟩

theorem scrubDone_canonical {p : Nat} (h : MemoriesCanonical s) : MemoriesCanonical (scrubDone p s) :=
  ite_canonical (setPage_canonical (accessBank_canonical (memZero_canonical h))) h

theorem capFrame_canonical {kind : Nat} {c : Capture} {count stamp : Nat} {refs : List (Nat × Nat)} (h : MemoriesCanonical s) :
    MemoriesCanonical (capFrame kind c count stamp refs s) :=
  h.of_only (capFrame_only ..) rfl rfl

theorem newCapture_canonical {holder prio : Nat} {evict : Bool} {chan : Option Nat} {refs : List (Nat × Nat)} {count : Nat}
    (h : MemoriesCanonical s) : MemoriesCanonical (newCapture holder prio evict chan refs count s) := h.of_mem rfl rfl

theorem requestCapture_canonical {holder prio : Nat} {evict : Bool} {ch count : Nat} (h : MemoriesCanonical s) :
    MemoriesCanonical (requestCapture holder prio evict ch count s).2 := by
  have ha : MemoriesCanonical (allocate holder (pagesFor count) (s.boat.serial + 1) 1 s).2 := allocate_canonical h
  unfold requestCapture
  generalize allocate holder (pagesFor count) (s.boat.serial + 1) 1 s = g at ha ⊢
  split
  · exact h.of_same (by dsimp only)
  · split
    · exact h
    · obtain ⟨g, s1⟩ := g
      cases g with
      | budget => exact ha
      | starved => exact ha
      | pages refs => exact newCapture_canonical ha

theorem taskCapture_canonical {src : Nat} {w0 w1 : Word} (h : MemoriesCanonical s) :
    MemoriesCanonical (taskCapture src w0 w1 s) :=
  ite_canonical (ite_canonical (requestCapture_canonical h) (sendFrame_canonical (requestCapture_canonical h))) h

theorem hostCapture_canonical {v : Word} (h : MemoriesCanonical s) : MemoriesCanonical (hostCapture v s) := by
  unfold hostCapture
  extract_lets count
  have hr : MemoriesCanonical (requestCapture 0x400 0 (v.getLsbD 5) (bits v 4 0) count s).2 := requestCapture_canonical h
  generalize requestCapture 0x400 0 (v.getLsbD 5) (bits v 4 0) count s = r at hr ⊢
  obtain ⟨r, s1⟩ := r
  have hs2 : MemoriesCanonical (if r = 0 then s1 else refuse 0x000C00A0 s1) := ite_canonical hr (refuse_canonical hr)
  exact hs2.of_same (by dsimp only)

theorem hostCapEnd_canonical {st : Nat} {c : Capture} (h : MemoriesCanonical s) : MemoriesCanonical (hostCapEnd st c s) :=
  ite_canonical (h.of_same (by dsimp only)) h

theorem setCap_canonical {c : Capture} (h : MemoriesCanonical s) : MemoriesCanonical (setCap c s) := by
  unfold setCap
  exact h.of_same (by dsimp only)

theorem capComplete_canonical {c : Capture} (h : MemoriesCanonical s) : MemoriesCanonical (capComplete c s) :=
  hostCapEnd_canonical (capFrame_canonical (setCap_canonical h))

theorem capAbort_canonical {c : Capture} (h : MemoriesCanonical s) : MemoriesCanonical (capAbort c s) := by
  unfold capAbort
  exact (hostCapEnd_canonical (capFrame_canonical (foldl_canonical (fun _ _ ht => dropPage_canonical ht)
      (setCap_canonical h)))).of_same (by dsimp only)

theorem abortCaps_canonical {f : Capture → Bool} (h : MemoriesCanonical s) : MemoriesCanonical (abortCaps f s) :=
  foldl_canonical (fun _ _ ht => capAbort_canonical ht) h

theorem capWrite_canonical {c : Capture} {stamp : Word} {ws : List Word} (h : MemoriesCanonical s) :
    MemoriesCanonical (capWrite c stamp ws s) := by
  unfold capWrite
  extract_lets _ _ s1 _ s2
  have hs1 : MemoriesCanonical s1 := by
    refine foldl_canonical (fun _ _ ht => ?_) h
    dsimp only
    split
    · exact streamSlots_canonical (memPut_canonical ht)
    · exact ht
  have hs2 : MemoriesCanonical s2 := setCap_canonical hs1
  exact ite_canonical (capComplete_canonical hs2) hs2

theorem streamWrite_canonical {ch : Nat} {intact : Bool} (h : MemoriesCanonical s) :
    MemoriesCanonical (streamWrite ch intact s) := by
  unfold streamWrite
  extract_lets _ s0
  have hs0 : MemoriesCanonical s0 := setAin_canonical h
  split
  · exact h
  · exact ite_canonical (foldl_canonical (fun _ _ ht => capWrite_canonical ht)
        ((streamSlots_canonical (memPuts_canonical hs0)).of_same (by dsimp only))) (hs0.of_same (by dsimp only))

theorem streamArrives_canonical {ch : Nat} {intact : Bool} (h : MemoriesCanonical s) :
    MemoriesCanonical (streamArrives ch intact s) := by
  unfold streamArrives
  split
  · extract_lets s1
    have hs1 : MemoriesCanonical s1 := holdItem_canonical h
    exact hs1.of_same (by dsimp only)
  · exact streamWrite_canonical h

theorem evictPages_canonical {n : Nat} {cur : Option Capture} {lost : List (Capture × List (Nat × Nat))}
    (h : MemoriesCanonical s) : MemoriesCanonical (evictPages n cur lost s).2 := by
  induction n generalizing cur lost s with
  | zero => exact h
  | succ n ih =>
    unfold evictPages
    extract_lets now c
    clear_value c
    split
    · exact h
    · split
      · exact h
      · exact ih (dropPage_canonical (h.of_same (by dsimp only)))

theorem evictionDone_canonical (h : MemoriesCanonical s) : MemoriesCanonical (evictionDone s) :=
  ite_canonical (foldl_canonical (fun _ _ ht => capFrame_canonical ht) ((evictPages_canonical h).of_same (by dsimp only))) h

theorem countWinref_canonical {addr : Nat} (h : MemoriesCanonical s) : MemoriesCanonical (countWinref addr s) :=
  refuse_canonical (h.of_same (by dsimp only))

theorem hostFree_canonical {ref : Word} (h : MemoriesCanonical s) : MemoriesCanonical (hostFree ref s) := by
  unfold hostFree
  split
  · exact dropPage_canonical h
  · exact countWinref_canonical h

theorem windowWrite_canonical {addr : Nat} {v : Word} (h : MemoriesCanonical s) : MemoriesCanonical (windowWrite addr v s) :=
  ite_canonical (accessBank_canonical (memPut_canonical h)) (countWinref_canonical h)

/-! ### The analog channels -/

theorem supplyTrack_canonical {n : Nat} (h : MemoriesCanonical s) : MemoriesCanonical (supplyTrack n s) :=
  h.of_only (supplyTrack_only ..) rfl rfl

theorem fullFrame_canonical {ch stamp : Nat} {samples : List Int} (h : MemoriesCanonical s) :
    MemoriesCanonical (fullFrame ch stamp samples s) :=
  ite_canonical (supplyTrack_canonical h) (sendFrame_canonical ((setAin_canonical (supplyTrack_canonical h)).of_same
      (by dsimp only)))

theorem decimReady_canonical {ch : Nat} {word : Word} (h : MemoriesCanonical s) : MemoriesCanonical (decimReady ch word s) :=
  h.of_only (decimReady_only ..) rfl rfl

theorem decimate_canonical {ch : Nat} {bias : Int} (h : MemoriesCanonical s) : MemoriesCanonical (decimate ch bias s) :=
  ite_canonical (supplyTrack_canonical h) (hooked_canonical decimReady_canonical (setAin_canonical (supplyTrack_canonical h)))

theorem ainOpen_canonical {ch : Nat} (h : MemoriesCanonical s) : MemoriesCanonical (ainOpen ch s) :=
  h.of_only (ainOpen_only ..) rfl rfl

theorem ainShort_canonical {ch : Nat} (h : MemoriesCanonical s) : MemoriesCanonical (ainShort ch s) :=
  h.of_only (ainShort_only ..) rfl rfl

theorem settled_canonical {ch : Nat} (h : MemoriesCanonical s) : MemoriesCanonical (settled ch s) :=
  h.of_only (settled_only ..) rfl rfl

theorem calComplete_canonical {ch : Nat} (h : MemoriesCanonical s) : MemoriesCanonical (calComplete ch s) :=
  ite_canonical (ite_canonical (setAin_canonical h) (ite_canonical (setAin_canonical h)
      (report_canonical (setAin_canonical h)))) h

theorem chanGate_canonical {p : Port} {ch : Nat} {ok : Bool} {new : Word} {f : State → State}
    (hf : ∀ {t : State}, MemoriesCanonical t → MemoriesCanonical (f t)) (h : MemoriesCanonical s) :
    MemoriesCanonical (chanGate p ch ok new f s) :=
  ite_canonical (gate_canonical hf h) (secRefuse_canonical h)

theorem calStart_canonical {ch : Nat} (h : MemoriesCanonical s) : MemoriesCanonical (calStart ch s) :=
  h.of_only (calStart_only ..) rfl rfl

theorem chanOff_canonical {ch : Nat} (h : MemoriesCanonical s) : MemoriesCanonical (chanOff ch s) :=
  ite_canonical (ite_canonical (channelOn_canonical (setAin_canonical (abortCaps_canonical h)))
      (setAin_canonical (abortCaps_canonical h))) h

/-! ### The tachs -/

theorem tachEdge_canonical {t tick : Nat} {volts : List Int} (h : MemoriesCanonical s) :
    MemoriesCanonical (tachEdge t tick volts s) :=
  setTach_canonical (advance_canonical h)

theorem cmpWrite_canonical {t k : Nat} {v : Word} (h : MemoriesCanonical s) : MemoriesCanonical (cmpWrite t k v s) :=
  h.of_only (cmpWrite_only ..) rfl rfl

theorem stepWrite_canonical {t k : Nat} {v : Word} (h : MemoriesCanonical s) : MemoriesCanonical (stepWrite t k v s) :=
  h.of_only (stepWrite_only ..) rfl rfl

theorem tachGate_canonical {p : Port} {t : Nat} {new : Word} {f : State → State}
    (hf : ∀ {t : State}, MemoriesCanonical t → MemoriesCanonical (f t)) (h : MemoriesCanonical s) :
    MemoriesCanonical (tachGate p t new f s) :=
  ite_canonical (secRefuse_canonical h) (gate_canonical hf h)

theorem tachBoundary_canonical {t : Nat} (h : MemoriesCanonical s) : MemoriesCanonical (tachBoundary s t).2 := by
  unfold tachBoundary
  extract_lets x s1
  have hs1 : MemoriesCanonical s1 := setTach_canonical h
  split
  · exact h
  · exact sendFrom_canonical (setTach_canonical h)
  · exact ite_canonical (tachOn_canonical hs1) hs1

/-! ### The CRC unit -/

theorem setCtx_canonical {n : Nat} {c : CrcCtx} (h : MemoriesCanonical s) : MemoriesCanonical (State.setCtx s n c) := by
  unfold State.setCtx
  exact h.of_same (by dsimp only)

theorem crcRefuse_canonical {addr : Nat} (h : MemoriesCanonical s) : MemoriesCanonical (crcRefuse addr s) :=
  h.of_only (crcRefuse_only ..) rfl rfl

theorem hostCtx_canonical {n off : Nat} {f : CrcCtx → CrcCtx} (h : MemoriesCanonical s) :
    MemoriesCanonical (hostCtx n off f s) :=
  h.of_only (hostCtx_only ..) rfl rfl

theorem hostCheck_canonical {n : Nat} (h : MemoriesCanonical s) : MemoriesCanonical (hostCheck n s) :=
  h.of_only (hostCheck_only ..) rfl rfl

theorem hostDin_canonical {n : Nat} {v : Word} (h : MemoriesCanonical s) : MemoriesCanonical (hostDin n v s) :=
  ite_canonical ((hostCtx_canonical h).of_same (by dsimp only)) (hostCtx_canonical h)

theorem moduleCheck_canonical {n : Nat} {ok : Bool} (h : MemoriesCanonical s) : MemoriesCanonical (moduleCheck n ok s) :=
  h.of_only (moduleCheck_only ..) rfl rfl

theorem katRun_canonical {ok : Bool} (h : MemoriesCanonical s) : MemoriesCanonical (katRun ok s) :=
  ite_canonical ((ite_canonical (setCtx_canonical h) (moduleCheck_canonical h)).of_same (by dsimp only))
      (report_canonical ((ite_canonical (setCtx_canonical h) (moduleCheck_canonical h)).of_same (by dsimp only)))

/-! ### Alarms -/

theorem taskSend_canonical {t cls : Nat} {words : List Word} (h : MemoriesCanonical s) :
    MemoriesCanonical (taskSend t cls words s) :=
  h.of_only (taskSend_only ..) rfl rfl

theorem featReport_canonical {t : Nat} {e : Nat × FeatureCfg} (h : MemoriesCanonical s) :
    MemoriesCanonical (featReport t s e) :=
  ite_canonical h (taskSend_canonical ((setAin_canonical h).of_same (by dsimp only)))

theorem featRun_canonical {t : Nat} (h : MemoriesCanonical s) : MemoriesCanonical (featRun t s) :=
  foldl_canonical (fun _ _ ht => featReport_canonical ht) h

theorem alarmFrame_canonical {kind n : Nat} {a : Alarm} {v stamp : Word} (h : MemoriesCanonical s) :
    MemoriesCanonical (alarmFrame kind n a v stamp s) :=
  h.of_only (alarmFrame_only ..) rfl rfl

theorem setAlarm_canonical {n : Nat} {a : Alarm} (h : MemoriesCanonical s) : MemoriesCanonical (State.setAlarm s n a) := by
  unfold State.setAlarm
  exact h.of_same (by dsimp only)

theorem alarmNoData_canonical {n : Nat} {v stamp : Word} (h : MemoriesCanonical s) :
    MemoriesCanonical (alarmNoData n v stamp s) :=
  h.of_only (alarmNoData_only ..) rfl rfl

theorem alarmValue_canonical {n : Nat} {v : Int} {w stamp : Word} (h : MemoriesCanonical s) :
    MemoriesCanonical (alarmValue n v w stamp s) :=
  ite_canonical (alarmFrame_canonical (setAlarm_canonical (ite_canonical (alarmFrame_canonical h) h)))
      (setAlarm_canonical (ite_canonical (alarmFrame_canonical h) h))

theorem alarmReport_canonical {f : TrigFrame} {stamp : Word} {n : Nat} (h : MemoriesCanonical s) :
    MemoriesCanonical (alarmReport f stamp s n) := by
  unfold alarmReport
  extract_lets
  split
  · exact alarmNoData_canonical (fresh_canonical h)
  · split
    · exact alarmNoData_canonical h
    · exact ite_canonical (alarmNoData_canonical h) (alarmValue_canonical h)

theorem alarmRun_canonical {t : Nat} {f : TrigFrame} {stamp : Nat} (h : MemoriesCanonical s) :
    MemoriesCanonical (alarmRun t f stamp s) :=
  ite_canonical (foldl_canonical (fun _ _ ht => alarmReport_canonical ht) h) h

theorem alarmStale_canonical {src : Nat} (h : MemoriesCanonical s) : MemoriesCanonical (alarmStale src s) :=
  foldl_canonical (fun _ _ ht => alarmNoData_canonical (fresh_canonical (fresh_canonical ht))) h

theorem alarmUpdate_canonical {n : Nat} (h : MemoriesCanonical s) : MemoriesCanonical (alarmUpdate n s) := by
  unfold alarmUpdate
  extract_lets
  split
  · exact setAlarm_canonical h
  · exact h

/-! ### The fabric -/

theorem sendCounts_canonical (h : MemoriesCanonical s) : MemoriesCanonical (sendCounts s) := by
  unfold sendCounts
  exact (foldl_canonical (fun _ _ ht => laneFrame_canonical ht) (sendFrame_canonical h)).of_same (by dsimp only)

theorem reportLink_canonical (h : MemoriesCanonical s) : MemoriesCanonical (reportLink s) :=
  h.of_only (reportLink_only ..) rfl rfl

theorem linkFailed_canonical {link : Nat} (h : MemoriesCanonical s) : MemoriesCanonical (linkFailed link s) :=
  h.of_only (linkFailed_only ..) rfl rfl

theorem setRx_canonical {ep src : Nat} {r : Rx} (h : MemoriesCanonical s) : MemoriesCanonical (State.setRx s ep src r) := by
  unfold State.setRx
  exact h.of_same (by dsimp only)

theorem chkFail_canonical {p : Nat} (h : MemoriesCanonical s) : MemoriesCanonical (chkFail p s) := by
  unfold chkFail
  extract_lets s1 _ _ s2 _ _ s3 s4
  have hs1 : MemoriesCanonical s1 := countPort_canonical h
  have hs2 : MemoriesCanonical s2 := hs1.of_same (by dsimp only)
  have hs3 : MemoriesCanonical s3 := setFcnt_canonical hs2
  have hs4 : MemoriesCanonical s4 := ite_canonical (report_canonical hs3) hs3
  refine ite_canonical ?_ hs4
  split
  · exact linkFailed_canonical hs4
  · exact reportLink_canonical hs4

theorem frameEnd_canonical {p ep src : Nat} {r : Route} {f : OpenFrame} (h : MemoriesCanonical s) :
    MemoriesCanonical (frameEnd p ep src r f s) :=
  h.of_only (frameEnd_only ..) rfl rfl

theorem frameLen_canonical {p ep src : Nat} {r : Route} {dropped : Bool} (h : MemoriesCanonical s) :
    MemoriesCanonical (frameLen p ep src r dropped s) :=
  ite_canonical (setRx_canonical h) (ite_canonical (report_canonical (countPort_canonical (setRx_canonical h)))
      (countPort_canonical (setRx_canonical h)))

theorem frameStart_canonical {p ep src : Nat} {r : Route} {w : Word × Word} (h : MemoriesCanonical s) :
    MemoriesCanonical (frameStart p ep src r w s) := by
  unfold frameStart
  extract_lets _ _ _ s2 s1
  have hs2 : MemoriesCanonical s2 := countPort_canonical h
  have hs1 : MemoriesCanonical s1 := ite_canonical h (ite_canonical (report_canonical hs2) hs2)
  exact ite_canonical (frameEnd_canonical (setRx_canonical hs1)) (setRx_canonical hs1)

theorem wordAt_canonical {p : Nat} {r : Route} {w : Word × Word} {ep : Nat} (h : MemoriesCanonical s) :
    MemoriesCanonical (wordAt p r w s ep) := by
  unfold wordAt
  extract_lets
  split
  · exact frameStart_canonical h
  · exact ite_canonical (ite_canonical (frameEnd_canonical h) (ite_canonical (frameStart_canonical (frameLen_canonical h))
        (setRx_canonical h))) (frameStart_canonical (frameLen_canonical h))

theorem routeMiss_canonical {p : Nat} {safe : Bool} (h : MemoriesCanonical s) : MemoriesCanonical (routeMiss p safe s) :=
  ite_canonical (report_canonical (countPort_canonical h)) (countPort_canonical h)

theorem switchWord_canonical {p i : Nat} {r : Route} {w : Word × Word} (h : MemoriesCanonical s) :
    MemoriesCanonical (switchWord p i r w s) := by
  unfold switchWord
  extract_lets
  split
  · exact routeMiss_canonical h
  · exact h.of_same (by dsimp only)

theorem receiveWord_canonical {p : Nat} {w : Word × Word} (h : MemoriesCanonical s) :
    MemoriesCanonical (receiveWord p s w) := by
  unfold receiveWord
  refine ite_canonical (chkFail_canonical h) (ite_canonical (h.of_same (by dsimp only))
      (ite_canonical (routeMiss_canonical (h.of_same (by dsimp only))) ?_))
  split
  · exact routeMiss_canonical (h.of_same (by dsimp only))
  · extract_lets
    split
    · exact ite_canonical (wordAt_canonical (h.of_same (by dsimp only))) (routeMiss_canonical (h.of_same (by dsimp only)))
    · exact switchWord_canonical (h.of_same (by dsimp only))

theorem receiveFrame_canonical {p : Nat} {words : List (Word × Word)} {wait : Nat} (h : MemoriesCanonical s) :
    MemoriesCanonical (receiveFrame p words wait s) := by
  unfold receiveFrame
  refine foldl_canonical (fun _ _ ht => receiveWord_canonical ht) ?_
  split
  · exact noteWait_canonical h
  · exact h

theorem frameArrives_canonical {p : Nat} {words : List (Word × Word)} {wait : Nat} (h : MemoriesCanonical s) :
    MemoriesCanonical (frameArrives p words wait s) := by
  unfold frameArrives
  split
  · exact receiveFrame_canonical h
  · exact hookedFrame_canonical receiveFrame_canonical h

theorem creditDiscard_canonical {p : Nat} (h : MemoriesCanonical s) : MemoriesCanonical (creditDiscard p s) :=
  countPort_canonical (h.of_same (by dsimp only))

theorem lastResetFrame_canonical {ep src who : Nat} (h : MemoriesCanonical s) :
    MemoriesCanonical (lastResetFrame ep src who s) :=
  ite_canonical (setRx_canonical h) (routeMiss_canonical h)

/-! ### The PMUs -/

theorem counterWrap_canonical {c k t : Nat} (h : MemoriesCanonical s) : MemoriesCanonical (counterWrap c k t s) :=
  h.of_only (counterWrap_only ..) rfl rfl

theorem pmuSync_canonical {c : Nat} (h : MemoriesCanonical s) : MemoriesCanonical (pmuSync c s) :=
  h.of_only (pmuSync_only ..) rfl rfl

theorem coreTo_canonical {c : Nat} {st : CoreState} (h : MemoriesCanonical s) : MemoriesCanonical (coreTo c st s) :=
  h.of_only (coreTo_only ..) rfl rfl

theorem countEvent_canonical {c code k : Nat} (h : MemoriesCanonical s) : MemoriesCanonical (countEvent c code s k) :=
  ite_canonical (ite_canonical (counterWrap_canonical (setPmu_canonical h)) (setPmu_canonical h)) h

theorem pmuEvent_canonical {c code : Nat} (h : MemoriesCanonical s) : MemoriesCanonical (pmuEvent c code s) :=
  foldl_canonical (fun _ _ ht => countEvent_canonical ht) h

theorem pmuWrap_canonical {c : Nat} (h : MemoriesCanonical s) : MemoriesCanonical (pmuWrap c s) :=
  ite_canonical (pmuSync_canonical h) h

theorem snapCore_canonical {c : Nat} (h : MemoriesCanonical s) : MemoriesCanonical (snapCore s c) :=
  setPmu_canonical (pmuSync_canonical h)

theorem pmuSnap_canonical (h : MemoriesCanonical s) : MemoriesCanonical (pmuSnap s) := by
  unfold pmuSnap
  exact (foldl_canonical (fun _ _ ht => snapCore_canonical ht) h).of_same (by dsimp only)

theorem pmuFreeze_canonical {on : Bool} (h : MemoriesCanonical s) : MemoriesCanonical (pmuFreeze on s) :=
  foldl_canonical (fun _ _ ht => pmuSync_canonical ht) ((foldl_canonical (fun _ _ ht => pmuSync_canonical ht) h).of_same
      (by dsimp only))

theorem pmuBistClear_canonical {c : Nat} (h : MemoriesCanonical s) : MemoriesCanonical (pmuBistClear c s) :=
  setPmu_canonical h

theorem writeCounter_canonical {c k : Nat} {hi : Bool} {v : Word} (h : MemoriesCanonical s) :
    MemoriesCanonical (writeCounter c k hi v s) :=
  setPmu_canonical (pmuSync_canonical h)

theorem writeEvsel_canonical {c k : Nat} {v : Word} (h : MemoriesCanonical s) : MemoriesCanonical (writeEvsel c k v s) :=
  setPmu_canonical (pmuSync_canonical h)

theorem pmuSeen_canonical {a : Nat} (h : MemoriesCanonical s) : MemoriesCanonical (pmuSeen a s) :=
  h.of_only (pmuSeen_only ..) rfl rfl

/-! ### The cores and their tasks -/

theorem periodicRelease_canonical {t : Nat} (h : MemoriesCanonical s) : MemoriesCanonical (periodicRelease t s) := by
  unfold periodicRelease
  extract_lets
  split
  · exact h
  · exact ite_canonical h (ite_canonical (hookTask_canonical (setTask_canonical h)) (ite_canonical (setTask_canonical h) h))

theorem taskTrigger_canonical {t : Nat} {f : TrigFrame} (h : MemoriesCanonical s) : MemoriesCanonical (taskTrigger t f s) := by
  unfold taskTrigger
  extract_lets
  refine ite_canonical h (ite_canonical (setTask_canonical h) ?_)
  split
  · exact hookTask_canonical (setTask_canonical h)
  · exact setTask_canonical h
  · exact setTask_canonical h
  · exact setTask_canonical h
  · exact setTask_canonical h
  · exact setTask_canonical h
  · exact setTask_canonical h

theorem startTask_canonical {t c : Nat} (h : MemoriesCanonical s) : MemoriesCanonical (startTask t c s) :=
  pmuEvent_canonical (coreTo_canonical ((setCore_canonical (setTask_canonical h)).of_same (by dsimp only)))

theorem dispatch_canonical (h : MemoriesCanonical s) : MemoriesCanonical (dispatch s) := by
  unfold dispatch
  split
  · split
    · exact startTask_canonical h
    · exact h
  · exact h

theorem coreOff_canonical {c : Nat} (h : MemoriesCanonical s) : MemoriesCanonical (coreOff c s) :=
  h.of_only (coreOff_only ..) rfl rfl

theorem coreDown_canonical {c : Nat} (h : MemoriesCanonical s) : MemoriesCanonical (coreDown c s) :=
  h.of_only (coreDown_only ..) rfl rfl

theorem coreUp_canonical {c : Nat} (h : MemoriesCanonical s) : MemoriesCanonical (coreUp c s) :=
  h.of_only (coreUp_only ..) rfl rfl

theorem coreFree_canonical {c : Nat} (h : MemoriesCanonical s) : MemoriesCanonical (coreFree c s) :=
  h.of_only (coreFree_only ..) rfl rfl

theorem overrun_canonical {t : Nat} (h : MemoriesCanonical s) : MemoriesCanonical (overrun t s) := by
  unfold overrun
  extract_lets _ _ _ _ _ _ _ s1 _ s2 s3 s4 s5
  have hs1 : MemoriesCanonical s1 := setTask_canonical h
  have hs2 : MemoriesCanonical s2 := hs1.of_same (by dsimp only)
  have hs3 : MemoriesCanonical s3 := report_canonical hs2
  have hs4 : MemoriesCanonical s4 := ite_canonical (report_canonical hs3) hs3
  have hs5 : MemoriesCanonical s5 := pmuEvent_canonical hs4
  exact ite_canonical (coreFree_canonical hs5) hs5

theorem taskDone_canonical {c : Nat} (h : MemoriesCanonical s) : MemoriesCanonical (taskDone c s) := by
  unfold taskDone
  split
  · exact h
  · extract_lets _ s0 _ _ _ s1
    have hs0 : MemoriesCanonical s0 := by
      refine featRun_canonical ?_
      split
      · exact alarmRun_canonical h
      · exact h
    have hs1 : MemoriesCanonical s1 := setTask_canonical hs0
    exact ite_canonical (overrun_canonical h) (coreFree_canonical (ite_canonical (hookTask_canonical hs1) hs1))

theorem saveContext_canonical {t : Nat} (h : MemoriesCanonical s) : MemoriesCanonical (saveContext t s) := by
  unfold saveContext
  split
  · extract_lets
    exact memPuts_canonical (h.of_same (by dsimp only))
  · exact h

theorem preempt_canonical {c t : Nat} (h : MemoriesCanonical s) : MemoriesCanonical (preempt c t s) :=
  coreFree_canonical (pmuEvent_canonical ((setTask_canonical (saveContext_canonical h)).of_same (by dsimp only)))

theorem taskYield_canonical {c : Nat} (h : MemoriesCanonical s) : MemoriesCanonical (taskYield c s) := by
  unfold taskYield
  split
  · exact h
  · extract_lets s0
    have hs0 : MemoriesCanonical s0 := pmuEvent_canonical h
    refine ite_canonical (overrun_canonical hs0) (ite_canonical (preempt_canonical hs0) ?_)
    split
    · exact ite_canonical (startTask_canonical (preempt_canonical hs0)) (setCore_canonical hs0)
    · exact setCore_canonical hs0

theorem setResult_canonical {c : Nat} {r : CallResult} (h : MemoriesCanonical s) : MemoriesCanonical (setResult c r s) :=
  h.of_only (setResult_only ..) rfl rfl

theorem taskSendCall_canonical {c cls : Nat} {words : List Word} {room : Bool} (h : MemoriesCanonical s) :
    MemoriesCanonical (taskSendCall c cls words room s) := by
  unfold taskSendCall
  split
  · exact h
  · exact ite_canonical (setResult_canonical (h.of_same (by dsimp only)))
        (ite_canonical (setResult_canonical (taskSend_canonical h))
        (pmuSync_canonical (setCore_canonical h)))

theorem sendRoom_canonical {c : Nat} (h : MemoriesCanonical s) : MemoriesCanonical (sendRoom c s) := by
  unfold sendRoom
  extract_lets
  split
  · exact setResult_canonical (taskSend_canonical (pmuSync_canonical (setCore_canonical h)))
  · exact h

theorem pageReq_canonical {c : Nat} (h : MemoriesCanonical s) : MemoriesCanonical (pageReq c s) := by
  unfold pageReq
  split
  · exact h
  · rename_i t _
    have ha : MemoriesCanonical (allocate (0x100 + t) 1 0 1 (pmuEvent c 0x12 s)).2 := allocate_canonical (pmuEvent_canonical h)
    generalize allocate (0x100 + t) 1 0 1 (pmuEvent c 0x12 s) = g at ha ⊢
    obtain ⟨g, s1⟩ := g
    dsimp only at ha ⊢
    split
    · exact setResult_canonical (setTask_canonical ha)
    · exact setResult_canonical (pmuEvent_canonical (setTask_canonical ha))
    · exact setResult_canonical (pmuEvent_canonical ha)

theorem pageFree_canonical {c : Nat} {ref : Word} (h : MemoriesCanonical s) : MemoriesCanonical (pageFree c ref s) := by
  unfold pageFree
  split
  · exact h
  · split
    · exact ite_canonical (setResult_canonical h) (setResult_canonical (dropPage_canonical h))
    · exact setResult_canonical h

theorem memFault_canonical {c : Nat} (h : MemoriesCanonical s) : MemoriesCanonical (memFault c s) :=
  h.of_only (memFault_only ..) rfl rfl

theorem copyCall_canonical {c : Nat} {q : CopyReq} (h : MemoriesCanonical s) : MemoriesCanonical (copyCall c q s) := by
  unfold copyCall
  split
  · exact h
  · exact ite_canonical (setCore_canonical h) (memFault_canonical h)

theorem copyDone_canonical {c : Nat} (h : MemoriesCanonical s) : MemoriesCanonical (copyDone c s) := by
  unfold copyDone
  extract_lets k
  split
  · extract_lets s1
    have hs1 : MemoriesCanonical s1 := pmuSync_canonical (setCore_canonical h)
    split
    · exact memFault_canonical hs1
    · extract_lets s2
      obtain ⟨hboat, hnvm⟩ : MemoriesCanonical s2 := accessBank_canonical hs1
      exact ite_canonical ⟨wf_memBytes _ _ _ hboat, hnvm⟩ (setCore_canonical ⟨hboat, hnvm⟩)
  · exact h

theorem copyWait_canonical {c : Nat} (h : MemoriesCanonical s) : MemoriesCanonical (copyWait c s) := by
  unfold copyWait
  split
  · exact h
  · exact pmuSync_canonical (setCore_canonical h)

theorem timeCall_canonical {c : Nat} (h : MemoriesCanonical s) : MemoriesCanonical (timeCall c s) := by
  unfold timeCall
  split
  · exact h
  · exact setResult_canonical h

theorem pmuRead_canonical {c idx : Nat} (h : MemoriesCanonical s) : MemoriesCanonical (pmuRead c idx s) := by
  unfold pmuRead
  split
  · exact h
  · exact ite_canonical (ite_canonical (setResult_canonical h) (setResult_canonical (pmuSync_canonical h)))
        (setResult_canonical (h.of_same (by dsimp only)))

theorem lvtRead_canonical {c r addr : Nat} (h : MemoriesCanonical s) : MemoriesCanonical (lvtRead c r addr s) := by
  unfold lvtRead
  split
  · exact h
  · extract_lets
    exact setResult_canonical h

theorem eccEnd_canonical {c : Nat} (h : MemoriesCanonical s) : MemoriesCanonical (eccEnd c s) :=
  h.of_only (eccEnd_only ..) rfl rfl

theorem dspEcc_canonical {c : Nat} (h : MemoriesCanonical s) : MemoriesCanonical (dspEcc c s) :=
  report_canonical (coreDown_canonical (eccEnd_canonical (setCore_canonical h)))

theorem boatEcc_canonical {reader : BoatReader} {corrected : Bool} (h : MemoriesCanonical s) :
    MemoriesCanonical (boatEcc reader corrected s) := by
  unfold boatEcc
  extract_lets _ n s1
  have hs1 : MemoriesCanonical s1 := report_canonical (h.of_same (by dsimp only))
  refine ite_canonical (h.of_same (by dsimp only)) ?_
  split
  · exact eccEnd_canonical hs1
  · exact hs1.of_same (by dsimp only)
  · exact hs1

theorem taskDisable_canonical {t : Nat} (h : MemoriesCanonical s) : MemoriesCanonical (taskDisable t s) := by
  unfold taskDisable
  extract_lets _ s1
  have hs1 : MemoriesCanonical s1 := abortCaps_canonical h
  split
  · exact setTask_canonical hs1
  · exact setTask_canonical hs1
  · exact setTask_canonical hs1
  · exact setTask_canonical hs1
  · exact setTask_canonical hs1
  · exact hs1

theorem taskEnable_canonical {t : Nat} (h : MemoriesCanonical s) : MemoriesCanonical (taskEnable t s) :=
  h.of_only (taskEnable_only ..) rfl rfl

theorem loadImage_canonical {t : Nat} (h : MemoriesCanonical s) : MemoriesCanonical (loadImage t s) := by
  unfold loadImage
  split
  · exact memPuts_canonical (memZero_canonical h)
  · exact h

theorem taskReload_canonical {t : Nat} (h : MemoriesCanonical s) : MemoriesCanonical (taskReload t s) :=
  ite_canonical (setTask_canonical (loadImage_canonical (resetSources_canonical
      (foldl_canonical (fun _ _ ht => dropPage_canonical ht) (abortCaps_canonical h))))) h

theorem taskGate_canonical {p : Port} {t op : Nat} {ok : Bool} {f : State → State}
    (hf : ∀ {t : State}, MemoriesCanonical t → MemoriesCanonical (f t)) (h : MemoriesCanonical s) :
    MemoriesCanonical (taskGate p t op ok f s) :=
  gate_canonical hf h

theorem coreEnable_canonical {c : Nat} (h : MemoriesCanonical s) : MemoriesCanonical (coreEnable c s) :=
  h.of_only (coreEnable_only ..) rfl rfl

theorem coreDisable_canonical {c : Nat} (h : MemoriesCanonical s) : MemoriesCanonical (coreDisable c s) :=
  h.of_only (coreDisable_only ..) rfl rfl

theorem coreGate_canonical {p : Port} {c : Nat} {on : Bool} {f : State → State}
    (hf : ∀ {t : State}, MemoriesCanonical t → MemoriesCanonical (f t)) (h : MemoriesCanonical s) :
    MemoriesCanonical (coreGate p c on f s) :=
  gate_canonical hf h

theorem coresReduced_canonical {on : Bool} (h : MemoriesCanonical s) : MemoriesCanonical (coresReduced on s) :=
  foldl_canonical (fun _ _ ht => ite_canonical (coreDown_canonical (setCore_canonical ht))
      (coreUp_canonical (setCore_canonical ht))) h

theorem haltRelease_canonical {c : Nat} (h : MemoriesCanonical s) : MemoriesCanonical (haltRelease c s) :=
  h.of_only (haltRelease_only ..) rfl rfl

/-! ### Self-test -/

theorem bistFail_canonical {scopeS : Bool} {detail : Nat} (h : MemoriesCanonical s) :
    MemoriesCanonical (bistFail scopeS detail s) :=
  h.of_only (bistFail_only ..) rfl rfl

theorem sliceRequest_canonical {l : Lane} (h : MemoriesCanonical s) : MemoriesCanonical (sliceRequest l s) :=
  ite_canonical (setUnit_canonical (seatCommand_canonical (setMgr_canonical h))) h

theorem corePend_canonical {c : Nat} (h : MemoriesCanonical s) : MemoriesCanonical (corePend c s) :=
  h.of_only (corePend_only ..) rfl rfl

theorem coreSliceDue_canonical (h : MemoriesCanonical s) : MemoriesCanonical (coreSliceDue s) :=
  ite_canonical (h.of_same (by dsimp only)) (corePend_canonical (h.of_same (by dsimp only)))

theorem cmdTake_canonical {u : Nat} (h : MemoriesCanonical s) : MemoriesCanonical (cmdTake u s) :=
  ite_canonical (corePend_canonical h) (setUnit_canonical h)

theorem bistCmd_canonical {p : Port} {v : Word} (h : MemoriesCanonical s) : MemoriesCanonical (bistCmd p v s) :=
  ite_canonical ((gate_canonical cmdTake_canonical h).of_same (by dsimp only)) (gate_canonical cmdTake_canonical h)

theorem laneSliceStart_canonical {l : Lane} (h : MemoriesCanonical s) : MemoriesCanonical (laneSliceStart l s) :=
  ite_canonical ((enterState_canonical (setMgr_canonical (setMgr_canonical (setLane_canonical h)))).of_same (by dsimp only))
      (ite_canonical (setMgr_canonical (setMgr_canonical (setLane_canonical h))) (setMgr_canonical (setLane_canonical h)))

theorem coreSliceStart_canonical {c : Nat} (h : MemoriesCanonical s) : MemoriesCanonical (coreSliceStart c s) :=
  pmuBistClear_canonical (coreTo_canonical (setCore_canonical h))

theorem sliceStart_canonical {u : Nat} (h : MemoriesCanonical s) : MemoriesCanonical (sliceStart u s) :=
  ite_canonical (laneSliceStart_canonical ((setUnit_canonical h).of_same (by dsimp only)))
      (ite_canonical (coreSliceStart_canonical ((setUnit_canonical h).of_same (by dsimp only)))
          ((setUnit_canonical h).of_same (by dsimp only)))

theorem coreSliceAbort_canonical {c : Nat} (h : MemoriesCanonical s) : MemoriesCanonical (coreSliceAbort c s) :=
  h.of_only (coreSliceAbort_only ..) rfl rfl

theorem coreSlicesAbort_canonical (h : MemoriesCanonical s) : MemoriesCanonical (coreSlicesAbort s) :=
  foldl_canonical (fun _ _ ht => coreSliceAbort_canonical ht) h

theorem controllerFail_canonical (h : MemoriesCanonical s) : MemoriesCanonical (controllerFail s) :=
  ite_canonical (coreSlicesAbort_canonical (foldl_canonical (fun _ _ ht => dropSlice_canonical ht)
      (bistFail_canonical (h.of_same (by dsimp only))))) (bistFail_canonical (h.of_same (by dsimp only)))

theorem sliceBegin_canonical {u : Nat} {ctrlOk : Bool} (h : MemoriesCanonical s) : MemoriesCanonical (sliceBegin u ctrlOk s) :=
  ite_canonical (ite_canonical (sliceStart_canonical h) (controllerFail_canonical h)) h

theorem bootNext_canonical {u : Nat} {again : Bool} (h : MemoriesCanonical s) : MemoriesCanonical (bootNext u again s) :=
  h.of_only (bootNext_only ..) rfl rfl

theorem resultFrames_canonical {u : Nat} (h : MemoriesCanonical s) : MemoriesCanonical (resultFrames u s) :=
  sendFrame_canonical (laneFrame_canonical h)

theorem lanePass_canonical {l : Lane} (h : MemoriesCanonical s) : MemoriesCanonical (lanePass l s) := by
  unfold lanePass
  extract_lets
  split
  · exact setMgr_canonical h
  · exact resetSources_canonical (setMgr_canonical h)
  · exact setMgr_canonical h

theorem laneFail_canonical {l : Lane} (h : MemoriesCanonical s) : MemoriesCanonical (laneFail l s) := by
  unfold laneFail
  extract_lets s1
  have hs1 : MemoriesCanonical s1 := countFailure_canonical h
  split
  · exact setMgr_canonical hs1
  · exact ite_canonical hs1 (setMgr_canonical hs1)
  · exact hs1

theorem corePass_canonical {c : Nat} (h : MemoriesCanonical s) : MemoriesCanonical (corePass c s) :=
  coreUp_canonical (setCore_canonical h)

theorem coreFailed_canonical {c : Nat} (h : MemoriesCanonical s) : MemoriesCanonical (coreFailed c s) :=
  coreTo_canonical (setCore_canonical h)

theorem bootCores_canonical (h : MemoriesCanonical s) : MemoriesCanonical (bootCores s) :=
  foldl_canonical (fun _ _ ht => setUnit_canonical ht) h

theorem slicePass_canonical {u : Nat} (h : MemoriesCanonical s) : MemoriesCanonical (slicePass u s) := by
  unfold slicePass
  extract_lets _ s1 _ s2 s3
  have hs1 : MemoriesCanonical s1 := setUnit_canonical h
  have hs2 : MemoriesCanonical s2 := hs1.of_same (by dsimp only)
  have hs3 : MemoriesCanonical s3 := ite_canonical (lanePass_canonical (resultFrames_canonical hs2))
      (ite_canonical (corePass_canonical hs2) (ite_canonical (bootCores_canonical hs2) hs2))
  exact bootNext_canonical hs3

theorem sliceFail_canonical {u cause : Nat} {f : BUnit → BUnit} (h : MemoriesCanonical s) :
    MemoriesCanonical (sliceFail u cause f s) := by
  unfold sliceFail
  extract_lets _ s1 _ s2 s3
  have hs1 : MemoriesCanonical s1 := setUnit_canonical h
  have hs2 : MemoriesCanonical s2 := bistFail_canonical (hs1.of_same (by dsimp only))
  have hs3 : MemoriesCanonical s3 := ite_canonical (laneFail_canonical (resultFrames_canonical hs2))
      (ite_canonical (coreFailed_canonical hs2) hs2)
  exact bootNext_canonical hs3

theorem sliceComplete_canonical {u applied : Nat} {segOk : Bool} {misr : U64} (h : MemoriesCanonical s) :
    MemoriesCanonical (sliceComplete u applied segOk misr s) :=
  ite_canonical (ite_canonical (slicePass_canonical h) (sliceFail_canonical h)) h

theorem sliceTimeout_canonical {u : Nat} (h : MemoriesCanonical s) : MemoriesCanonical (sliceTimeout u s) :=
  ite_canonical (sliceFail_canonical (h.of_same (by dsimp only))) h

theorem holdEntry_canonical (h : MemoriesCanonical s) : MemoriesCanonical (holdEntry s) :=
  coreSlicesAbort_canonical (coresReduced_canonical (holdGroups_canonical (h.of_same (by dsimp only))))

theorem coreHalt_canonical {c : Nat} {step : Bool} (h : MemoriesCanonical s) : MemoriesCanonical (coreHalt c step s) :=
  ite_canonical h (ite_canonical (setCore_canonical (h.of_same (by dsimp only))) (ite_canonical h
      (coreDown_canonical (setCore_canonical (coreSliceAbort_canonical h)))))

/-! ### Reset -/

theorem resetAll_canonical (h : MemoriesCanonical s) : MemoriesCanonical (resetAll s) := by
  obtain ⟨_, hnvm⟩ := h
  exact ⟨rfl, wf_tornFlash _ _ hnvm⟩

theorem recordClear_canonical (h : MemoriesCanonical s) : MemoriesCanonical (recordClear s) := by
  unfold recordClear
  exact h.of_same (by dsimp only)

/-! ### Power and debug requests -/

theorem cellsLogged_canonical (h : MemoriesCanonical s) : MemoriesCanonical (cellsLogged s) :=
  ite_canonical (logEvent_canonical (h.of_same (by dsimp only))) h

theorem hooksEnd_canonical (h : MemoriesCanonical s) : MemoriesCanonical (hooksEnd s) :=
  cellsLogged_canonical (h.of_same (by dsimp only))

theorem leaving_canonical {f : State → State} (hf : ∀ {t : State}, MemoriesCanonical t → MemoriesCanonical (f t))
    (h : MemoriesCanonical s) :
    MemoriesCanonical (leaving f s) :=
  ite_canonical (hooksEnd_canonical (hf h)) (hf h)

theorem tokenFail_canonical (h : MemoriesCanonical s) : MemoriesCanonical (tokenFail s) :=
  ite_canonical (h.of_same (by dsimp only)) (h.of_same (by dsimp only))

theorem judgeToken_canonical {key : Option (List Byte)} {level : Nat} (h : MemoriesCanonical s) :
    MemoriesCanonical (judgeToken key level s).2 := by
  unfold judgeToken
  split
  · exact h
  · split
    · exact h
    · split
      · exact tokenFail_canonical h
      · extract_lets
        split
        · exact h.of_same (by dsimp only)
        · exact tokenFail_canonical h

theorem debugChallenge_canonical (h : MemoriesCanonical s) : MemoriesCanonical (debugChallenge s) :=
  h.of_only (debugChallenge_only ..) rfl rfl

theorem lcMove_canonical {lc : Nat} (h : MemoriesCanonical s) : MemoriesCanonical (lcMove lc s) :=
  logEvent_canonical (h.of_same (by dsimp only))

theorem lcField_canonical (h : MemoriesCanonical s) : MemoriesCanonical (lcField s) :=
  ite_canonical (lcMove_canonical h) (secRefuse_canonical h)

theorem lcRma_canonical (h : MemoriesCanonical s) : MemoriesCanonical (lcRma s) := by
  have hj : MemoriesCanonical (judgeToken s.otp.vendorKey 3 s).2 := judgeToken_canonical h
  unfold lcRma
  generalize judgeToken s.otp.vendorKey 3 s = j at hj ⊢
  obtain ⟨ok, s1⟩ := j
  exact ite_canonical (ite_canonical (lcMove_canonical (hj.of_same (by dsimp only))) (secRefuse_canonical hj))
      (secRefuse_canonical h)

theorem openCmLevel_canonical (h : MemoriesCanonical s) : MemoriesCanonical (openCmLevel s) := by
  unfold openCmLevel
  exact h.of_same (by dsimp only)

theorem openCm_canonical (h : MemoriesCanonical s) : MemoriesCanonical (openCm s) :=
  ite_canonical h (ite_canonical (openCmLevel_canonical h)
    (ite_canonical (openCmLevel_canonical (judgeToken_canonical h)) (secRefuse_canonical (judgeToken_canonical h))))

theorem secretsGone_canonical (h : MemoriesCanonical s) : MemoriesCanonical (secretsGone s) := by
  unfold secretsGone
  exact h.of_same (by dsimp only)

theorem zeroise_canonical (h : MemoriesCanonical s) : MemoriesCanonical (zeroise s) := by
  unfold zeroise
  exact (secretsGone_canonical h).of_same (by dsimp only)

theorem holdDisarm_canonical (h : MemoriesCanonical s) : MemoriesCanonical (holdDisarm s) :=
  h.of_only (holdDisarm_only ..) rfl rfl

theorem fullHold_canonical (h : MemoriesCanonical s) : MemoriesCanonical (fullHold s) :=
  holdDisarm_canonical (h.of_same (by dsimp only))

theorem fullEntry_canonical (h : MemoriesCanonical s) : MemoriesCanonical (fullEntry s) := by
  unfold fullEntry
  extract_lets s1 _ s2 s3
  have hs1 : MemoriesCanonical s1 := fullHold_canonical h
  have hs2 : MemoriesCanonical s2 := linesFollow_canonical (hs1.of_same (by dsimp only))
  have hs3 : MemoriesCanonical s3 := zeroise_canonical hs2
  exact hs3.of_same (by dsimp only)

theorem openFull_canonical (h : MemoriesCanonical s) : MemoriesCanonical (openFull s) :=
  ite_canonical (secRefuse_canonical h)
    (ite_canonical (fullEntry_canonical (judgeToken_canonical h)) (secRefuse_canonical (judgeToken_canonical h)))

theorem debugClose_canonical (h : MemoriesCanonical s) : MemoriesCanonical (debugClose s) := by
  unfold debugClose
  split
  · exact foldl_canonical (fun _ _ ht => haltRelease_canonical ht) (h.of_same (by dsimp only))
  · exact secRefuse_canonical h
  · exact h

theorem keyProgram_canonical {v : Word} (h : MemoriesCanonical s) : MemoriesCanonical (keyProgram v s) :=
  h.of_only (keyProgram_only ..) rfl rfl

theorem setAuthReq_canonical (h : MemoriesCanonical s) : MemoriesCanonical (setAuthReq s) :=
  h.of_only (setAuthReq_only ..) rfl rfl

theorem requested_canonical {req : Nat} (h : MemoriesCanonical s) : MemoriesCanonical (requested req s) :=
  h.of_only (requested_only ..) rfl rfl

theorem pwrRefuse_canonical (h : MemoriesCanonical s) : MemoriesCanonical (pwrRefuse s) :=
  h.of_only (pwrRefuse_only ..) rfl rfl

theorem pwrRun_canonical (h : MemoriesCanonical s) : MemoriesCanonical (pwrRun s) :=
  ite_canonical ((requested_canonical h).of_same (by dsimp only)) (ite_canonical
      (coresReduced_canonical ((requested_canonical h).of_same (by dsimp only)))
      (pwrRefuse_canonical (requested_canonical h)))

theorem pwrReduced_canonical (h : MemoriesCanonical s) : MemoriesCanonical (pwrReduced s) :=
  ite_canonical (coresReduced_canonical (coreSlicesAbort_canonical ((requested_canonical h).of_same (by dsimp only))))
      (pwrRefuse_canonical (requested_canonical h))

theorem pwrHold_canonical (h : MemoriesCanonical s) : MemoriesCanonical (pwrHold s) :=
  h.of_only (pwrHold_only ..) rfl rfl

theorem pwrOff_canonical (h : MemoriesCanonical s) : MemoriesCanonical (pwrOff s) :=
  ite_canonical ((resetAll_canonical (ite_canonical (hooksEnd_canonical (requested_canonical h))
      (requested_canonical h))).of_same (by dsimp only)) (pwrRefuse_canonical (requested_canonical h))

/-! ### The nodes -/

theorem nodeBeacon_canonical {uid : U64} {b : Beacon} (h : MemoriesCanonical s) : MemoriesCanonical (nodeBeacon uid b s) :=
  ite_canonical (setNd_canonical h) h

theorem nodeDiscover_canonical {r : Nat} {uid : U64} {fromA streamA : Bool} (h : MemoriesCanonical s) :
    MemoriesCanonical (nodeDiscover r uid fromA streamA s) :=
  ite_canonical (setRg_canonical (setNd_canonical h)) h

theorem nodeAssign_canonical {uid : U64} {fromA : Bool} {target : U64} {addr interval phase : Nat} (h : MemoriesCanonical s) :
    MemoriesCanonical (nodeAssign uid fromA target addr interval phase s) :=
  ite_canonical (setNd_canonical h) h

theorem nodeIdent_canonical {uid : U64} {c : NodeCmd} (h : MemoriesCanonical s) : MemoriesCanonical (nodeIdent uid c s) := by
  unfold nodeIdent
  extract_lets _ s1
  have hs1 : MemoriesCanonical s1 := setNd_canonical h
  refine ite_canonical ?_ h
  split
  · exact setRg_canonical hs1
  · exact hs1

theorem nodeBurst_canonical {uid : U64} {c : NodeCmd} {rate count : Nat} (h : MemoriesCanonical s) :
    MemoriesCanonical (nodeBurst uid c rate count s) :=
  ite_canonical (setNd_canonical h) h

theorem nodeBurstAbort_canonical {uid : U64} {c : NodeCmd} (h : MemoriesCanonical s) :
    MemoriesCanonical (nodeBurstAbort uid c s) :=
  ite_canonical (setNd_canonical h) h

theorem nodePark_canonical {uid : U64} {fromA : Bool} {target : U64} (h : MemoriesCanonical s) :
    MemoriesCanonical (nodePark uid fromA target s) :=
  ite_canonical (setNd_canonical h) h

theorem nodeRelease_canonical {uid : U64} {c : NodeCmd} (h : MemoriesCanonical s) : MemoriesCanonical (nodeRelease uid c s) :=
  ite_canonical (setNd_canonical h) h

theorem nodeCommand_canonical {uid : U64} {fromA : Bool} {ws : List Word} (h : MemoriesCanonical s) :
    MemoriesCanonical (nodeCommand uid fromA ws s) := by
  unfold nodeCommand
  extract_lets
  split
  · exact nodeAssign_canonical h
  · exact nodeIdent_canonical h
  · exact nodeBurst_canonical h
  · exact nodeBurstAbort_canonical h
  · exact nodePark_canonical h
  · exact nodeRelease_canonical h
  · exact h

theorem nodeReport_canonical {uid : U64} {values : List Word} {sensor : Bool} (h : MemoriesCanonical s) :
    MemoriesCanonical (nodeReport uid values sensor s) :=
  ite_canonical (setNd_canonical h) h

theorem nodeBeaconLoss_canonical {uid : U64} (h : MemoriesCanonical s) : MemoriesCanonical (nodeBeaconLoss uid s) :=
  ite_canonical (setNd_canonical h) h

theorem nodeTakes_canonical {uid : U64} {fromA : Bool} {f : RingFrame} (h : MemoriesCanonical s) :
    MemoriesCanonical (nodeTakes uid fromA f s) :=
  ite_canonical (nodeCommand_canonical (setNd_canonical h)) h

theorem nodeFrame_canonical {r : Nat} {uid : U64} {fromA : Bool} {f : RingFrame} (h : MemoriesCanonical s) :
    MemoriesCanonical (nodeFrame r uid fromA f s) := by
  unfold nodeFrame
  extract_lets _ _ s1
  have hs1 : MemoriesCanonical s1 := setNd_canonical h
  exact ite_canonical h (ite_canonical (nodeDiscover_canonical h) (ite_canonical
      (ite_canonical (nodeBeacon_canonical hs1) (ite_canonical (nodeTakes_canonical hs1)
          (ite_canonical (setNd_canonical hs1) hs1))) hs1))

/-! ### The rings -/

theorem setRnode_canonical {r a : Nat} {n : RNode} (h : MemoriesCanonical s) : MemoriesCanonical (State.setRnode s r a n) :=
  setRg_canonical h

theorem ringAlarm_canonical {r code detail : Nat} (h : MemoriesCanonical s) : MemoriesCanonical (ringAlarm r code detail s) :=
  h.of_only (ringAlarm_only ..) rfl rfl

theorem burstCut_canonical {r : Nat} {st : BurstStatus} {b : Burst} (h : MemoriesCanonical s) :
    MemoriesCanonical (burstCut r st b s) := by
  unfold burstCut
  extract_lets s1
  have hs1 : MemoriesCanonical s1 := by
    unfold s1
    split
    · exact capAbort_canonical h
    · exact h
  exact setRg_canonical hs1

theorem burstNext_canonical {r n : Nat} (h : MemoriesCanonical s) : MemoriesCanonical (burstNext r n s) := by
  induction n generalizing s with
  | zero => exact h
  | succ n ih =>
    unfold burstNext
    extract_lets
    split
    · exact ite_canonical (setRg_canonical (setRg_canonical h)) (ih (burstCut_canonical (setRg_canonical h)))
    · exact h

theorem burstEnd_canonical {r : Nat} {st : BurstStatus} (h : MemoriesCanonical s) : MemoriesCanonical (burstEnd r st s) := by
  unfold burstEnd
  split
  · exact h
  · exact burstNext_canonical (ite_canonical (setRg_canonical (setRg_canonical h)) (burstCut_canonical (setRg_canonical h)))

theorem burstAbortAll_canonical {r : Nat} (h : MemoriesCanonical s) : MemoriesCanonical (burstAbortAll r s) :=
  foldl_canonical (fun _ _ ht => burstCut_canonical ht) (setRg_canonical h)

theorem burstRefuse_canonical {r : Nat} {st : BurstStatus} {b : BurstReq} (h : MemoriesCanonical s) :
    MemoriesCanonical (burstRefuse r st b s) :=
  ite_canonical (setRg_canonical h) h

theorem burstRequest_canonical {r : Nat} {b : BurstReq} (h : MemoriesCanonical s) :
    MemoriesCanonical (burstRequest r b s).2 := by
  unfold burstRequest
  extract_lets _ count n
  have ha : MemoriesCanonical (allocate b.src n (s.boat.serial + 1) n s).2 := allocate_canonical h
  generalize allocate b.src n (s.boat.serial + 1) n s = g at ha ⊢
  obtain ⟨g, s1⟩ := g
  split
  · exact burstRefuse_canonical h
  split
  · exact burstRefuse_canonical h
  split
  · exact burstRefuse_canonical h
  split
  · exact burstRefuse_canonical (h.of_same (by dsimp only))
  dsimp only at ha ⊢
  split
  · exact burstNext_canonical (setRg_canonical (newCapture_canonical ha))
  · exact burstRefuse_canonical ha

theorem burstCmdWrite_canonical {r : Nat} {v : Word} (h : MemoriesCanonical s) : MemoriesCanonical (burstCmdWrite r v s) :=
  ite_canonical (ite_canonical (burstRequest_canonical h) (refuse_canonical (burstRequest_canonical h))) (refuse_canonical h)

theorem burstSamples_canonical {r : Nat} {gap : Bool} {ws : List Word} (h : MemoriesCanonical s) :
    MemoriesCanonical (burstSamples r gap ws s) := by
  unfold burstSamples
  split
  · exact h
  · split
    · exact burstEnd_canonical h
    · extract_lets _ _ s1 _ s2
      have hs1 : MemoriesCanonical s1 := capWrite_canonical h
      have hs2 : MemoriesCanonical s2 := setRg_canonical hs1
      exact ite_canonical (burstEnd_canonical hs2) hs2

theorem burstOnce_canonical {r : Nat} {f : State → State} (hf : ∀ {t : State}, MemoriesCanonical t → MemoriesCanonical (f t))
    (h : MemoriesCanonical s) :
    MemoriesCanonical (burstOnce r f s) :=
  ite_canonical h (hf (setRg_canonical h))

theorem burstFrame_canonical {r addr offset : Nat} {ws : List Word} (h : MemoriesCanonical s) :
    MemoriesCanonical (burstFrame r addr offset ws s) := by
  unfold burstFrame
  split
  · exact ite_canonical (burstOnce_canonical burstSamples_canonical h) h
  · exact h

theorem burstFail_canonical {r samples : Nat} (h : MemoriesCanonical s) : MemoriesCanonical (burstFail r samples s) := by
  unfold burstFail
  split
  · exact h
  · exact burstOnce_canonical (fun ht => ite_canonical (setRg_canonical ht) (burstSamples_canonical ht)) h

theorem ringStart_canonical {r : Nat} (h : MemoriesCanonical s) : MemoriesCanonical (ringStart r s) :=
  setRg_canonical (burstAbortAll_canonical h)

theorem ringOn_canonical {r : Nat} (h : MemoriesCanonical s) : MemoriesCanonical (ringOn r s) := by
  unfold ringOn
  extract_lets
  split
  · exact ringStart_canonical h
  · exact setRg_canonical h
  · exact h

theorem ringOff_canonical {r : Nat} (h : MemoriesCanonical s) : MemoriesCanonical (ringOff r s) := by
  unfold ringOff
  extract_lets _ s1
  have hs1 : MemoriesCanonical s1 := burstAbortAll_canonical h
  split
  · exact h
  · exact setRg_canonical h
  · exact setRg_canonical hs1

theorem ringGate_canonical {p : Port} {r : Nat} {new : Word} {f : State → State}
    (hf : ∀ {t : State}, MemoriesCanonical t → MemoriesCanonical (f t)) (h : MemoriesCanonical s) :
    MemoriesCanonical (ringGate p r new f s) :=
  ite_canonical (gate_canonical hf h) (secRefuse_canonical h)

theorem ringShutdownDone_canonical {r : Nat} (h : MemoriesCanonical s) : MemoriesCanonical (ringShutdownDone r s) :=
  ite_canonical (ite_canonical (ringStart_canonical h) (setRg_canonical h)) h

theorem ringBreak_canonical {r : Nat} (h : MemoriesCanonical s) : MemoriesCanonical (ringBreak r s) :=
  h.of_only (ringBreak_only ..) rfl rfl

theorem ringClosed_canonical {r : Nat} (h : MemoriesCanonical s) : MemoriesCanonical (ringClosed r s) :=
  h.of_only (ringClosed_only ..) rfl rfl

theorem ringDown_canonical {r : Nat} (h : MemoriesCanonical s) : MemoriesCanonical (ringDown r s) :=
  h.of_only (ringDown_only ..) rfl rfl

theorem validFrame_canonical {r : Nat} (h : MemoriesCanonical s) : MemoriesCanonical (validFrame r s) :=
  h.of_only (validFrame_only ..) rfl rfl

theorem nodeLost_canonical {r a : Nat} (h : MemoriesCanonical s) : MemoriesCanonical (nodeLost r a s) := by
  unfold nodeLost
  extract_lets _ s1
  have hs1 : MemoriesCanonical s1 := ringAlarm_canonical (setRnode_canonical h)
  split
  · exact ite_canonical (burstEnd_canonical hs1) hs1
  · exact hs1

theorem nodeStale_canonical {r a : Nat} (h : MemoriesCanonical s) : MemoriesCanonical (nodeStale r a s) :=
  alarmStale_canonical (setRnode_canonical h)

theorem nodeHeard_canonical {r a : Nat} (h : MemoriesCanonical s) : MemoriesCanonical (nodeHeard r a s) :=
  h.of_only (nodeHeard_only ..) rfl rfl

theorem assignNode_canonical {r a : Nat} {uid : U64} {interval phase : Nat} {booked : Bool} (h : MemoriesCanonical s) :
    MemoriesCanonical (assignNode r a uid interval phase booked s) :=
  setRg_canonical (setRnode_canonical (resetSources_canonical h))

theorem parkNode_canonical {r : Nat} {uid : U64} {reason : Nat} (h : MemoriesCanonical s) :
    MemoriesCanonical (parkNode r uid reason s) := by
  unfold parkNode
  extract_lets x s1 old s2
  have hs1 : MemoriesCanonical s1 := setRg_canonical h
  clear_value old
  have hs2 : MemoriesCanonical s2 := by
    unfold s2
    split
    · exact setRnode_canonical hs1
    · split
      · exact setRnode_canonical hs1
      · exact hs1
  exact report_canonical hs2

theorem newIntervals_canonical {r : Nat} (h : MemoriesCanonical s) : MemoriesCanonical (newIntervals r s) := by
  unfold newIntervals
  refine foldl_canonical (fun _ _ ht => ?_) h
  split
  · exact ite_canonical (assignNode_canonical (ht.of_same (by dsimp only))) ht
  · exact ht

theorem allocateSlots_canonical {r : Nat} (h : MemoriesCanonical s) : MemoriesCanonical (allocateSlots r s) :=
  setRg_canonical h

theorem closeSuperframe_canonical {r : Nat} (h : MemoriesCanonical s) : MemoriesCanonical (closeSuperframe r s) :=
  ite_canonical h (setRg_canonical h)

theorem ringSettle_canonical {r : Nat} (h : MemoriesCanonical s) : MemoriesCanonical (ringSettle r s) :=
  foldl_canonical (fun _ _ ht => whenever_canonical nodeStale_canonical (whenever_canonical nodeLost_canonical ht))
      (whenever_canonical ringDown_canonical (whenever_canonical ringClosed_canonical
          (whenever_canonical ringBreak_canonical h)))

theorem superframeRun_canonical {r : Nat} (h : MemoriesCanonical s) : MemoriesCanonical (superframeRun r s) :=
  setRg_canonical (allocateSlots_canonical (setRg_canonical (newIntervals_canonical
      (ringSettle_canonical (closeSuperframe_canonical h)))))

theorem superframeStop_canonical {r : Nat} (h : MemoriesCanonical s) : MemoriesCanonical (superframeStop r s) :=
  setRg_canonical h

theorem superframe_canonical {r : Nat} (h : MemoriesCanonical s) : MemoriesCanonical (superframe r s) := by
  unfold superframe
  split
  · exact h
  · exact superframeStop_canonical h
  · exact superframeRun_canonical h

theorem reportStore_canonical {r : Nat} {rep : RingReport} (h : MemoriesCanonical s) :
    MemoriesCanonical (reportStore r rep s) :=
  h.of_only (reportStore_only ..) rfl rfl

theorem nodeAccept_canonical {r a seq : Nat} {wrap sideA : Bool} {go : State → State}
    (hgo : ∀ {t : State}, MemoriesCanonical t → MemoriesCanonical (go t)) (h : MemoriesCanonical s) :
    MemoriesCanonical (nodeAccept r a seq wrap sideA go s) :=
  ite_canonical h (ite_canonical (hgo (nodeHeard_canonical (setRnode_canonical (setRg_canonical (validFrame_canonical h)))))
      (setRg_canonical (validFrame_canonical h)))

theorem ringReport_canonical {r : Nat} {rep : RingReport} (h : MemoriesCanonical s) : MemoriesCanonical (ringReport r rep s) :=
  nodeAccept_canonical (fun ht => hooked_canonical reportStore_canonical ht) h

theorem replyTaken_canonical {r addr : Nat} {words : List Word} (h : MemoriesCanonical s) :
    MemoriesCanonical (replyTaken r addr words s) :=
  setNd_canonical (setRg_canonical (setRnode_canonical h))

theorem ringReply_canonical {r addr seq : Nat} {words : List Word} {wrap sideA : Bool} (h : MemoriesCanonical s) :
    MemoriesCanonical (ringReply r addr seq words wrap sideA s) :=
  nodeAccept_canonical replyTaken_canonical h

theorem ringBurst_canonical {r addr seq offset : Nat} {samples : List Word} {wrap sideA : Bool} (h : MemoriesCanonical s) :
    MemoriesCanonical (ringBurst r addr seq offset samples wrap sideA s) :=
  nodeAccept_canonical burstFrame_canonical h

theorem slotFail_canonical {r addr : Nat} (h : MemoriesCanonical s) : MemoriesCanonical (slotFail r addr s) := by
  unfold slotFail
  extract_lets
  split
  · exact ite_canonical (ite_canonical (setRnode_canonical (setRg_canonical h))
        (whenever_canonical nodeLost_canonical (setRg_canonical (setRnode_canonical (setRg_canonical h))))) h
  · exact h

theorem announceRow_canonical {r : Nat} {uid : U64} (h : MemoriesCanonical s) : MemoriesCanonical (announceRow r uid s) := by
  unfold announceRow
  extract_lets x again
  split
  · exact ite_canonical (parkNode_canonical h) (assignNode_canonical h)
  · split
    · exact assignNode_canonical (fresh_canonical h)
    · refine ite_canonical (parkNode_canonical h) ?_
      split
      · exact parkNode_canonical h
      · split
        · exact parkNode_canonical h
        · exact assignNode_canonical (fresh_canonical (setRg_canonical h))

theorem announce_canonical {r : Nat} {uid : U64} {kind : Word} (h : MemoriesCanonical s) :
    MemoriesCanonical (announce r uid kind s) := by
  unfold announce
  extract_lets s1 _ s2
  have hs2 : MemoriesCanonical s2 := announceRow_canonical (setRg_canonical (validFrame_canonical h))
  clear_value s2
  refine ite_canonical ?_ h
  split
  · exact setRnode_canonical hs2
  · exact hs2

theorem ownFrame_canonical {r : Nat} {sideA : Bool} {f : RingFrame} (h : MemoriesCanonical s) :
    MemoriesCanonical (ownFrame r sideA f s) :=
  ite_canonical (setRg_canonical h) (setRg_canonical h)

theorem regionFail_canonical {r : Nat} {f : RingFrame} (h : MemoriesCanonical s) : MemoriesCanonical (regionFail r f s) := by
  unfold regionFail
  refine ite_canonical ?_ (ite_canonical (ite_canonical (burstFail_canonical h)
      (burstFail_canonical (h.of_same (by dsimp only)))) h)
  split
  · exact slotFail_canonical h
  · exact h

theorem frameTaken_canonical {r : Nat} {sideA : Bool} {f : RingFrame} (h : MemoriesCanonical s) :
    MemoriesCanonical (frameTaken r sideA f s) := by
  unfold frameTaken
  extract_lets
  split
  · exact ite_canonical (ringReport_canonical h) h
  · exact ite_canonical (ringReply_canonical h) h
  · exact ringBurst_canonical h
  · exact announce_canonical h
  · exact ownFrame_canonical h

theorem portFrame_canonical {r : Nat} {sideA : Bool} {f : RingFrame} (h : MemoriesCanonical s) :
    MemoriesCanonical (portFrame r sideA f s) :=
  ite_canonical h (ite_canonical (regionFail_canonical (setRg_canonical h)) (frameTaken_canonical (validFrame_canonical h)))

theorem ringFrame_canonical {r : Nat} {f : RingFrame} (h : MemoriesCanonical s) : MemoriesCanonical (ringFrame r f s) := by
  unfold ringFrame
  split
  · exact portFrame_canonical h
  · exact portFrame_canonical h
  · exact nodeFrame_canonical h
  · exact h

theorem setSignal_canonical {lost : Bool} {r : Nat} {rx : RingReceiver} (h : MemoriesCanonical s) :
    MemoriesCanonical (setSignal lost r rx s) :=
  h.of_only (setSignal_only ..) rfl rfl

/-! ### Start-up from the flash -/

theorem passBegin_canonical {b : Nat} {rest : List Nat} (h : MemoriesCanonical s) : MemoriesCanonical (passBegin b rest s) := by
  unfold passBegin
  exact h.of_same (by dsimp only)

theorem noBank_canonical (h : MemoriesCanonical s) : MemoriesCanonical (noBank s) :=
  h.of_only (noBank_only ..) rfl rfl

theorem boatStart_canonical (h : MemoriesCanonical s) : MemoriesCanonical (boatStart s) :=
  noteLow_canonical (foldl_canonical (fun _ _ ht => takePage_canonical ht) (h.of_same (by dsimp only)))

theorem nvmStart_canonical {f : FlashFacts} (h : MemoriesCanonical s) : MemoriesCanonical (nvmStart f s) := by
  unfold nvmStart
  extract_lets s1 n s2
  obtain ⟨hboat, hnvm⟩ := h
  have hs1 : MemoriesCanonical s1 := boatStart_canonical ⟨hboat, wf_flashFound _ _ hnvm⟩
  have hs2 : MemoriesCanonical s2 := hs1.of_same (by dsimp only)
  refine ite_canonical (ite_canonical (report_canonical hs1) (ite_canonical hs1 ?_)) ⟨hboat, hnvm⟩
  split
  · exact passBegin_canonical hs2
  · exact noBank_canonical hs2

theorem sendConfig_canonical {ws : List Word} (h : MemoriesCanonical s) : MemoriesCanonical (sendConfig ws s) :=
  foldl_canonical (fun _ _ ht => sendFrame_canonical ht) h

theorem copyDigest_canonical {bytes : List Byte} {crc : Word} {ok : Bool} (h : MemoriesCanonical s) :
    MemoriesCanonical (copyDigest bytes crc ok s).2 := by
  unfold copyDigest
  split
  · exact h
  · exact fresh_canonical h

theorem laneLoad_canonical {l : Lane} {ok : Bool} (h : MemoriesCanonical s) : MemoriesCanonical (laneLoad l ok s) := by
  unfold laneLoad
  extract_lets m
  split
  · rename_i bytes crc _
    have hd : MemoriesCanonical (copyDigest bytes crc ok (sendConfig (crc :: wordsOf bytes) s)).2 :=
      copyDigest_canonical (sendConfig_canonical h)
    refine ite_canonical (ite_canonical (setMgr_canonical (setLane_canonical hd)) ?_) h
    extract_lets n _ s1 _ s2
    have hs1 : MemoriesCanonical s1 := setLane_canonical hd
    have hs2 : MemoriesCanonical s2 := hs1.of_same (by dsimp only)
    exact ite_canonical (report_canonical hs2) hs2
  · exact h

theorem guardChannels_canonical {img : SafetyImage} (h : MemoriesCanonical s) : MemoriesCanonical (guardChannels img s) :=
  foldl_canonical (fun _ _ ht => ite_canonical (channelOn_canonical (setAin_canonical ht)) ht) h

theorem safetyTimers_canonical {img : SafetyImage} (h : MemoriesCanonical s) : MemoriesCanonical (safetyTimers img s) :=
  foldl_canonical (fun _ _ ht => tachOn_canonical (setTach_canonical ht)) h

theorem pinsFrom_canonical {img : SafetyImage} (h : MemoriesCanonical s) : MemoriesCanonical (pinsFrom img s) :=
  foldl_canonical (fun _ _ ht => ite_canonical (setCio_canonical ht) ht) h

theorem fieldLoad_canonical (h : MemoriesCanonical s) : MemoriesCanonical (fieldLoad s) := by
  unfold fieldLoad
  split
  · exact ite_canonical (safetyTimers_canonical (guardChannels_canonical
        (pinsFrom_canonical ((sendConfig_canonical h).of_same (by dsimp only))))) h
  · exact h

theorem armChannels_canonical {cm : CmImage} (h : MemoriesCanonical s) : MemoriesCanonical (armChannels cm s) := by
  unfold armChannels
  extract_lets s1
  have hs1 : MemoriesCanonical s1 := foldl_canonical (fun _ _ ht => ite_canonical ht
      (ite_canonical (channelOn_canonical (setAin_canonical ht)) (setAin_canonical ht))) h
  exact foldl_canonical (fun _ _ ht => ite_canonical ht (ite_canonical (tachOn_canonical (setTach_canonical ht))
      (setTach_canonical ht))) hs1

theorem copyCode_canonical {mask : Word} {code : List Word} (h : MemoriesCanonical s) :
    MemoriesCanonical (copyCode mask code s) :=
  foldl_canonical (fun _ _ ht => ite_canonical (setCore_canonical ht) ht) h

theorem armTask_canonical {e : Nat × TaskImage} (h : MemoriesCanonical s) : MemoriesCanonical (armTask s e) := by
  unfold armTask
  extract_lets w s1
  have ha : MemoriesCanonical (allocate (0x100 + e.1) 1 0 1 s1).2 := allocate_canonical
      (setTask_canonical (copyCode_canonical h))
  generalize allocate (0x100 + e.1) 1 0 1 s1 = g at ha ⊢
  obtain ⟨g, s2⟩ := g
  split
  · rename_i heq
    cases heq
    exact loadImage_canonical (setTask_canonical ha)
  · rename_i heq
    cases heq
    exact ha

theorem armCores_canonical {cm : CmImage} (h : MemoriesCanonical s) : MemoriesCanonical (armCores cm s) :=
  foldl_canonical (fun _ _ ht => ite_canonical (coreUp_canonical (setCore_canonical ht)) ht) h

theorem armRings_canonical {cm : CmImage} (h : MemoriesCanonical s) : MemoriesCanonical (armRings cm s) :=
  foldl_canonical (fun _ _ ht => ite_canonical (ringStart_canonical (setRg_canonical ht)) (setRg_canonical ht)) h

theorem staffOut_canonical (h : MemoriesCanonical s) : MemoriesCanonical (staffOut s) :=
  foldl_canonical (fun _ _ ht => ite_canonical (dropPage_canonical ht) ht) (h.of_same (by dsimp only))

theorem deliverSections_canonical {b : Nat} (h : MemoriesCanonical s) : MemoriesCanonical (deliverSections b s) :=
  foldl_canonical (fun _ _ ht => sendConfig_canonical ht) h

theorem arm_canonical {b : Nat} {s0 : State} (h : MemoriesCanonical s0) : MemoriesCanonical (arm b s0) :=
  armRings_canonical (armCores_canonical (foldl_canonical (fun _ _ ht => armTask_canonical ht)
      (armChannels_canonical (staffOut_canonical ((sendFrame_canonical h).of_same (by dsimp only))))))

theorem dropField_canonical (h : MemoriesCanonical s) : MemoriesCanonical (dropField s) := by
  unfold dropField
  split
  · exact h
  · extract_lets s1 s2
    have hs1 : MemoriesCanonical s1 := foldl_canonical (fun _ _ ht => setAin_canonical ht) h
    have hs2 : MemoriesCanonical s2 := foldl_canonical (fun _ _ ht => setTach_canonical ht) hs1
    exact foldl_canonical (fun _ _ ht => setCio_canonical ht) hs2

theorem discard_canonical {s0 : State} (h : MemoriesCanonical s0) : MemoriesCanonical (discard s0) := by
  unfold discard
  exact (foldl_canonical (fun _ _ ht => setMgr_canonical (setLane_canonical ht)) (dropField_canonical h)).of_same
      (by dsimp only)

theorem setReason_mem (b r : Nat) (n : Nvm) : (setReason b r n).mem = n.mem := by
  unfold setReason
  split <;> rfl

theorem bankFails_canonical {b r : Nat} (h : MemoriesCanonical s) : MemoriesCanonical (bankFails b r s) := by
  have hr : MemoriesCanonical (report 49 codeCfgBank 0 { s with nvm := setReason b r s.nvm }) :=
    report_canonical (h.of_mem rfl (setReason_mem b r s.nvm))
  exact ite_canonical (report_canonical hr) hr

theorem passComplete_canonical (h : MemoriesCanonical s) : MemoriesCanonical (passComplete s) := by
  unfold passComplete
  split
  · exact h
  · extract_lets _ _ _ s0 s1 _ s2 s3
    have hs0 : MemoriesCanonical s0 := deliverSections_canonical (moduleCheck_canonical (h.of_same (by dsimp only)))
    have hs1 : MemoriesCanonical s1 := ite_canonical (report_canonical hs0) hs0
    have hs2 : MemoriesCanonical s2 := bankFails_canonical (hs1.of_same (by dsimp only))
    have hs3 : MemoriesCanonical s3 := discard_canonical hs2
    refine ite_canonical (arm_canonical hs1) ?_
    split
    · exact passBegin_canonical (hs3.of_same (by dsimp only))
    · exact noBank_canonical hs3

theorem logCreate_canonical (h : MemoriesCanonical s) : MemoriesCanonical (logCreate s) := by
  obtain ⟨hboat, hnvm⟩ := h
  exact ite_canonical ⟨hboat, hnvm⟩ ⟨hboat, wf_areaStart _ _ _ _ hnvm⟩

theorem logScan_mem (n : Nvm) : (logScan n).mem = n.mem := by
  unfold logScan
  rfl

theorem scanComplete_canonical (h : MemoriesCanonical s) : MemoriesCanonical (scanComplete s) := by
  unfold scanComplete
  extract_lets s1 s2 _ s3
  have hs1 : MemoriesCanonical s1 := logCreate_canonical h
  clear_value s1
  have hs2 : MemoriesCanonical s2 := hs1.of_mem rfl (logScan_mem _)
  clear_value s2
  have hs3 : MemoriesCanonical s3 := hs2.of_same (by dsimp only)
  exact ite_canonical (cellsLogged_canonical (logEvent_canonical hs3)) h

/-! ### The PERTURB block -/

theorem perturbRefuse_canonical {addr : Nat} {v : Word} (h : MemoriesCanonical s) :
    MemoriesCanonical (perturbRefuse addr v s) :=
  logEvent_canonical ((report_canonical (refuse_canonical h)).of_same (by dsimp only))

theorem perturbWrite_canonical {p : Port} {ok : Bool} {addr : Nat} {old v : Word} {apply : State → State}
    (happly : ∀ {t : State}, MemoriesCanonical t → MemoriesCanonical (apply t)) (h : MemoriesCanonical s) :
    MemoriesCanonical (perturbWrite p ok addr old v apply s) :=
  ite_canonical (logThen_canonical perturbRefuse_canonical happly h) (perturbRefuse_canonical h)

theorem tgtWrite_canonical {p : Port} {n : Nat} {v : Word} (h : MemoriesCanonical s) : MemoriesCanonical (tgtWrite p n v s) :=
  perturbWrite_canonical (fun ht => setHk_canonical ht) h

theorem cfgWrite_canonical {p : Port} {n : Nat} {v : Word} (h : MemoriesCanonical s) : MemoriesCanonical (cfgWrite p n v s) :=
  perturbWrite_canonical (fun ht => setHk_canonical ht) h

theorem seedWrite_canonical {p : Port} {v : Word} (h : MemoriesCanonical s) : MemoriesCanonical (seedWrite p v s) :=
  perturbWrite_canonical (fun ht => (ht.of_same (by dsimp only))) h

theorem deliver_canonical {item : Instr} (h : MemoriesCanonical s) : MemoriesCanonical (deliver item s) := by
  unfold deliver
  split
  · exact receiveFrame_canonical h
  · exact telArrive_canonical h
  · exact cioCommand_canonical h
  · exact cioHeard_canonical h
  · exact reportStore_canonical h
  · exact decimReady_canonical h
  · exact streamWrite_canonical h
  · exact h

theorem releaseItem_canonical {e : HeldItem} (h : MemoriesCanonical s) : MemoriesCanonical (releaseItem e s) :=
  deliver_canonical ((advance_canonical h).of_same (by dsimp only))

theorem hookRelease_canonical {n : Nat} (h : MemoriesCanonical s) : MemoriesCanonical (hookRelease n s) := by
  unfold hookRelease
  split
  · exact ite_canonical (releaseItem_canonical h) h
  · exact h

theorem releaseUpTo_canonical {tick : Nat} (h : MemoriesCanonical s) : MemoriesCanonical (releaseUpTo tick s) :=
  foldl_canonical (fun _ _ ht => ite_canonical (releaseItem_canonical ht) ht) h

/-! ### The safety cycle -/

theorem each_canonical {n : Nat} {due : State → Nat → Bool} {f : Nat → State → State}
    (hf : ∀ a0 {t : State}, MemoriesCanonical t → MemoriesCanonical (f a0 t)) (h : MemoriesCanonical s) :
    MemoriesCanonical (each n due f s) :=
  foldl_canonical (fun _ _ ht => whenever_canonical (hf _) ht) h

theorem eachGroup_canonical {due : State → Group → Bool} {f : Group → State → State}
    (hf : ∀ a0 {t : State}, MemoriesCanonical t → MemoriesCanonical (f a0 t)) (h : MemoriesCanonical s) :
    MemoriesCanonical (eachGroup due f s) :=
  foldl_canonical (fun _ _ ht => whenever_canonical (hf _) ht) h

theorem eachSupply_canonical {due : State → Supply → Bool} {f : Supply → State → State}
    (hf : ∀ a0 {t : State}, MemoriesCanonical t → MemoriesCanonical (f a0 t)) (h : MemoriesCanonical s) :
    MemoriesCanonical (eachSupply due f s) :=
  foldl_canonical (fun _ _ ht => whenever_canonical (hf _) ht) h

theorem settleIn_canonical (h : MemoriesCanonical s) : MemoriesCanonical (settleIn s) := by
  unfold settleIn
  extract_lets s1
  have hs1 : MemoriesCanonical s1 := each_canonical (fun _ => windowEnd_canonical)
      (each_canonical (fun _ => overload_canonical) (each_canonical (fun _ => filterChange_canonical) h))
  exact eachSupply_canonical (fun _ => supplyRecovery_canonical) (eachSupply_canonical (fun _ => supplyMissing_canonical)
      (eachSupply_canonical (fun _ => supplySag_canonical) (eachSupply_canonical (fun _ => supplyWarn_canonical) hs1)))

theorem settleOut_canonical (h : MemoriesCanonical s) : MemoriesCanonical (settleOut s) := by
  unfold settleOut
  extract_lets s1 s2 s3 s4
  have hs1 : MemoriesCanonical s1 := each_canonical (fun _ => outClear_canonical)
      (each_canonical (fun _ => outPulseEnd_canonical) h)
  have hs2 : MemoriesCanonical s2 := each_canonical (fun _ => outOpenLoad_canonical)
      (each_canonical (fun _ => outHold_canonical) (each_canonical (fun _ => outStuck_canonical)
          (each_canonical (fun _ => outShort_canonical) hs1)))
  have hs3 : MemoriesCanonical s3 := each_canonical (fun _ => cioSilence_canonical)
      (each_canonical (fun _ => cioShort_canonical) (each_canonical (fun _ => cioOverload_canonical) hs2))
  have hs4 : MemoriesCanonical s4 := eachGroup_canonical (fun _ => groupOvertemp_canonical)
      (eachGroup_canonical (fun _ => groupOvercurrent_canonical) hs3)
  exact whenever_canonical wdRelease_canonical (whenever_canonical wdTrip_canonical hs4)

theorem settleRest_canonical (h : MemoriesCanonical s) : MemoriesCanonical (settleRest s) := by
  unfold settleRest
  extract_lets s1 s2
  have hs1 : MemoriesCanonical s1 := each_canonical (fun _ => settled_canonical)
      (each_canonical (fun _ => ainShort_canonical) (each_canonical (fun _ => ainOpen_canonical) h))
  have hs2 : MemoriesCanonical s2 := whenever_canonical twoOarLimit_canonical (whenever_canonical lorHist_canonical hs1)
  exact latchAll_canonical (whenever_canonical handlingClose_canonical hs2)

theorem settleBegin_canonical (h : MemoriesCanonical s) : MemoriesCanonical (settleBegin s) :=
  each_canonical (fun _ => outPulseBegin_canonical) (each_canonical (fun _ => pulseBegin_canonical) h)

theorem settle_canonical (h : MemoriesCanonical s) : MemoriesCanonical (settle s) :=
  settleBegin_canonical (settleRest_canonical (settleOut_canonical (settleIn_canonical h)))

theorem takeReadings_canonical {r : Readings} {q : Nat} (h : MemoriesCanonical s) : MemoriesCanonical (takeReadings r q s) := by
  unfold takeReadings
  extract_lets s1 s2 s3 s4 s5
  have hs1 : MemoriesCanonical s1 := sampleSupply_canonical (sampleSupply_canonical (sampleSupply_canonical h))
  have hs2 : MemoriesCanonical s2 := foldl_canonical (fun _ _ ht => sampleTp_canonical ht) hs1
  have hs3 : MemoriesCanonical s3 := foldl_canonical (fun _ _ ht => sampleSi_canonical ht) hs2
  have hs4 : MemoriesCanonical s4 := foldl_canonical (fun _ _ ht => sampleSo_canonical ht) hs3
  have hs5 : MemoriesCanonical s5 := foldl_canonical (fun _ _ ht => sampleCio_canonical ht) hs4
  exact sampleGroup_canonical (sampleGroup_canonical (sampleGroup_canonical (sampleGroup_canonical hs5)))

theorem setFld_canonical {f : Field} (h : MemoriesCanonical s) : MemoriesCanonical { s with fld := f } := h

theorem samplingInstant_canonical {r : Readings} (h : MemoriesCanonical s) : MemoriesCanonical (samplingInstant r s) := by
  unfold samplingInstant
  extract_lets tick s1 s2 s3
  have hs1 : MemoriesCanonical s1 := advance_canonical (settle_canonical (releaseUpTo_canonical h))
  have hs2 : MemoriesCanonical s2 := eachGroup_canonical (fun _ => groupComplete_canonical) hs1
  have hs3 : MemoriesCanonical s3 := takeReadings_canonical hs2
  exact ite_canonical (setFld_canonical hs3) h

theorem boundaryRows_canonical (h : MemoriesCanonical s) : MemoriesCanonical (boundaryRows s) :=
  ite_canonical h (ite_canonical (applyRow_canonical h) (ite_canonical (applyRow_canonical h) h))

theorem nextCycle_canonical (h : MemoriesCanonical s) : MemoriesCanonical (nextCycle s) := by
  unfold nextCycle
  exact h.of_same (by dsimp only)

theorem mappingDue_canonical (h : MemoriesCanonical s) : MemoriesCanonical (mappingDue s) := by
  unfold mappingDue
  split
  · exact h.of_same (by dsimp only)
  · exact h

theorem applyVotes_canonical {start : Nat} (h : MemoriesCanonical s) : MemoriesCanonical (applyVotes start s) :=
  foldl_canonical (fun _ _ ht => boundaryCio_canonical ht) (foldl_canonical (fun _ _ ht => boundarySo_canonical ht) h)

theorem boundaryGroups_canonical (h : MemoriesCanonical s) : MemoriesCanonical (boundaryGroups s) :=
  refreshAll_canonical (groupsGood_canonical (ite_canonical (holdEntry_canonical (groupOffRequests_canonical h))
      (groupOffRequests_canonical h)))

theorem nextSlots_canonical (h : MemoriesCanonical s) : MemoriesCanonical (nextSlots s) :=
  ite_canonical (h.of_same (by dsimp only)) (ite_canonical ((foldl_canonical (fun _ _ ht => setSo_canonical ht)
      (foldl_canonical (fun _ _ ht => setTp_canonical ht) h)).of_same (by dsimp only)) (h.of_same (by dsimp only)))

theorem boundaryTachs_canonical (h : MemoriesCanonical s) : MemoriesCanonical (boundaryTachs s).2 := by
  refine List.foldlRecOn (motive := fun e : Tab TachFrame × State => MemoriesCanonical e.2) _ _ h (fun e he t _ => ?_)
  have hb := tachBoundary_canonical (t := t) he
  split
  · rename_i heq
    exact (congrArg Prod.snd heq) ▸ hb
  · rename_i heq
    exact (congrArg Prod.snd heq) ▸ hb

theorem readySamples_canonical (h : MemoriesCanonical s) : MemoriesCanonical (readySamples s).2 := by
  refine List.foldlRecOn (motive := fun e : Tab Word × State => MemoriesCanonical e.2) _ _ h (fun e he ch _ => ?_)
  dsimp only
  split
  · exact setAin_canonical he
  · exact he

theorem freeze_canonical (h : MemoriesCanonical s) : MemoriesCanonical (freeze s) := by
  have hr : MemoriesCanonical (readySamples (boundaryTachs s).2).2 := readySamples_canonical (boundaryTachs_canonical h)
  unfold freeze
  generalize boundaryTachs s = b at hr ⊢
  obtain ⟨tach, s1⟩ := b
  dsimp only at hr ⊢
  generalize readySamples s1 = r at hr ⊢
  obtain ⟨dec, s2⟩ := r
  exact foldl_canonical (fun _ _ ht => sendFrom_canonical ht) (sendFrom_canonical (hr.of_same (by dsimp only)))

theorem freezeCopy_canonical {src : Lane} {c : Nat} (h : MemoriesCanonical s) : MemoriesCanonical (freezeCopy src c s) := by
  unfold freezeCopy
  extract_lets _ s1
  have hs1 : MemoriesCanonical s1 := setLane_canonical h
  split
  · exact hs1
  · exact foldl_canonical (fun _ _ ht => sendFrom_canonical ht) hs1

theorem freezeCopies_canonical (h : MemoriesCanonical s) : MemoriesCanonical (freezeCopies s) := by
  unfold freezeCopies
  refine foldl_canonical (fun _ _ ht => ?_) h
  split
  · exact ite_canonical (freezeCopy_canonical ht) ht
  · exact ht

theorem boundary_canonical (h : MemoriesCanonical s) : MemoriesCanonical (boundary s) := by
  unfold boundary
  extract_lets _ s0 s1 s2 s3 s4
  have hs0 : MemoriesCanonical s0 := foldl_canonical (fun _ _ ht => declareShort_canonical ht)
      (settle_canonical (releaseUpTo_canonical h))
  have hs1 : MemoriesCanonical s1 := boundaryRows_canonical (latchAll_canonical (voteDeadline_canonical hs0))
  have hs2 : MemoriesCanonical s2 := mappingDue_canonical (nextCycle_canonical hs1)
  have hs3 : MemoriesCanonical s3 := watchdogCycle_canonical (boundaryGroups_canonical (applyVotes_canonical hs2))
  have hs4 : MemoriesCanonical s4 := sendCounts_canonical (freezeCopies_canonical (freeze_canonical (nextSlots_canonical hs3)))
  exact aliveCycle_canonical (lorCycle_canonical (lorArm_canonical hs4))

/-! ### The network -/

theorem learn_canonical {m p : Nat} (h : MemoriesCanonical s) : MemoriesCanonical (learn m p s) :=
  ite_canonical h (h.of_same (by dsimp only))

theorem coreAdmits_canonical (h : MemoriesCanonical s) : MemoriesCanonical (coreAdmits s).2 := by
  unfold coreAdmits
  extract_lets
  split
  · exact h
  · exact h.of_same (by dsimp only)

theorem coreTakes_canonical {f : EthFrame} (h : MemoriesCanonical s) : MemoriesCanonical (coreTakes f s) := by
  unfold coreTakes
  split
  · exact coreUnicast_canonical h
  · exact coreUnicast_canonical h
  · exact ite_canonical (ethDrop_canonical (coreAdmits_canonical h)) (coreAdmits_canonical h)
  · exact h
  · exact h

theorem forward_canonical {p : Nat} {f : EthFrame} (h : MemoriesCanonical s) : MemoriesCanonical (forward p f s) :=
  ite_canonical (coreTakes_canonical (ethTx_canonical (foldl_canonical (fun _ _ ht => ethTx_canonical ht) h)))
      (foldl_canonical (fun _ _ ht => ethTx_canonical ht) h)

theorem groupAdmits_canonical {p : Nat} {f : EthFrame} (h : MemoriesCanonical s) : MemoriesCanonical (groupAdmits p f s).2 := by
  unfold groupAdmits
  extract_lets
  split
  · exact h
  · split
    · exact h
    · exact setEth_canonical h

theorem ethFrame_canonical {p : Nat} {f : EthFrame} (h : MemoriesCanonical s) : MemoriesCanonical (ethFrame p f s) := by
  have hr : MemoriesCanonical (ethRx p s) := ethRx_canonical h
  have hg : MemoriesCanonical (groupAdmits p f (ethRx p s)).2 := groupAdmits_canonical hr
  exact ite_canonical h (ite_canonical hr (ite_canonical (forward_canonical (learn_canonical hg)) (ethDrop_canonical hg)))

theorem macAge_canonical {m : Nat} (h : MemoriesCanonical s) : MemoriesCanonical (macAge m s) := by
  unfold macAge
  exact h.of_same (by dsimp only)

theorem dropUdp_canonical (h : MemoriesCanonical s) : MemoriesCanonical (dropUdp s) :=
  ite_canonical h (h.of_same (by dsimp only))

theorem phyPoll_canonical {p : Nat} {link : Bool} {speed : Nat} (h : MemoriesCanonical s) :
    MemoriesCanonical (phyPoll p link speed s) :=
  ite_canonical h (ite_canonical (setEth_canonical h) (report_canonical (dropUdp_canonical (setEth_canonical h))))

theorem newMap_canonical {base : Nat} {rate : Int} (h : MemoriesCanonical s) : MemoriesCanonical (newMap base rate s) :=
  h.of_only (newMap_only ..) rfl rfl

theorem slew_canonical (h : MemoriesCanonical s) : MemoriesCanonical (slew s) :=
  newMap_canonical (h.of_same (by dsimp only))

theorem timeStep_canonical {d : Int} (h : MemoriesCanonical s) : MemoriesCanonical (timeStep d s) :=
  logEvent_canonical ((newMap_canonical h).of_same (by dsimp only))

theorem setLocked_canonical {b : Bool} (h : MemoriesCanonical s) : MemoriesCanonical (setLocked b s) :=
  h.of_only (setLocked_only ..) rfl rfl

theorem measure_canonical {off : Int} (h : MemoriesCanonical s) : MemoriesCanonical (measure off s) :=
  setLocked_canonical (ite_canonical (timeStep_canonical (h.of_same (by dsimp only)))
      (slew_canonical (h.of_same (by dsimp only))))

theorem syncDone_canonical {t1 t2 : Int} (h : MemoriesCanonical s) : MemoriesCanonical (syncDone t1 t2 s) := by
  unfold syncDone
  extract_lets _ s1
  have hs1 : MemoriesCanonical s1 := h.of_same (by dsimp only)
  split
  · exact measure_canonical hs1
  · exact hs1

theorem delayDone_canonical {t4 : Int} (h : MemoriesCanonical s) : MemoriesCanonical (delayDone t4 s) := by
  unfold delayDone
  split
  · exact h.of_same (by dsimp only)
  · exact h

theorem ptpMessage_canonical {m : PtpMsg} (h : MemoriesCanonical s) : MemoriesCanonical (ptpMessage m s) := by
  unfold ptpMessage
  split
  · exact h.of_same (by dsimp only)
  · exact ite_canonical h (ite_canonical (ite_canonical (h.of_same (by dsimp only)) (h.of_same (by dsimp only)))
        (h.of_same (by dsimp only)))
  · exact ite_canonical h (ite_canonical (h.of_same (by dsimp only)) (syncDone_canonical (h.of_same (by dsimp only))))
  · refine ite_canonical h ?_
    split
    · exact syncDone_canonical h
    · exact h
  · exact ite_canonical (coreSends_canonical (h.of_same (by dsimp only))) h
  · exact ite_canonical (delayDone_canonical h) h

theorem ptpInterval_canonical (h : MemoriesCanonical s) : MemoriesCanonical (ptpInterval s) :=
  ite_canonical h (ite_canonical (h.of_same (by dsimp only)) (ite_canonical
      (coreSends_canonical (coreSends_canonical (h.of_same (by dsimp only))))
      (ite_canonical (coreSends_canonical (h.of_same (by dsimp only))) h)))

theorem ptpLost_canonical (h : MemoriesCanonical s) : MemoriesCanonical (ptpLost s) :=
  report_canonical (setLocked_canonical (h.of_same (by dsimp only)))

theorem ppsSecond_canonical (h : MemoriesCanonical s) : MemoriesCanonical (ppsSecond s) :=
  ite_canonical h (h.of_same (by dsimp only))

theorem telDatagram_canonical {peer : Nat} {bytes : List Byte} (h : MemoriesCanonical s) :
    MemoriesCanonical (telDatagram peer bytes s) := by
  unfold telDatagram
  refine ite_canonical h ?_
  split
  · exact sendFrame_canonical h
  · exact ethDrop_canonical h

theorem outTelegram_canonical {conn : Nat} (h : MemoriesCanonical s) : MemoriesCanonical (outTelegram conn s) :=
  ite_canonical h (ite_canonical h (ite_canonical (coreUnicast_canonical
      ((foldl_canonical (fun _ _ ht => setLane_canonical ht) h).of_same (by dsimp only)))
          ((foldl_canonical (fun _ _ ht => setLane_canonical ht) h).of_same (by dsimp only))))

/-! ### The flash -/

theorem writeEnd_canonical {w : ImgWrite} (h : MemoriesCanonical s) : MemoriesCanonical (writeEnd w s) := by
  unfold writeEnd
  extract_lets _ s1
  have hs1 : MemoriesCanonical s1 := pushEvent_canonical (h.of_same (by dsimp only))
  exact hs1.of_same (by dsimp only)

theorem writeFail_canonical {cause : Nat} (h : MemoriesCanonical s) : MemoriesCanonical (writeFail cause s) := by
  obtain ⟨hboat, hnvm⟩ := h
  have he : MemoriesCanonical { s with nvm := flashErase s.nvm (bankBase s.nvm s.nvm.wr.target) 256 } :=
    ⟨hboat, wf_flashErase _ _ _ hnvm⟩
  unfold writeFail
  extract_lets w s1
  have hs1 : MemoriesCanonical s1 := writeEnd_canonical he
  exact ite_canonical (hs1.of_same (by dsimp only)) hs1

theorem flashTimeout_canonical (h : MemoriesCanonical s) : MemoriesCanonical (flashTimeout s) :=
  ite_canonical (report_canonical (h.of_same (by dsimp only))) (writeFail_canonical
      (report_canonical (h.of_same (by dsimp only))))

theorem nvmFail_canonical {atBoot : Bool} (h : MemoriesCanonical s) : MemoriesCanonical (nvmFail atBoot s) :=
  ite_canonical (ite_canonical h (report_canonical (h.of_same (by dsimp only)))) (flashTimeout_canonical h)

theorem writeBegin_canonical {byModule : Bool} {slot : Option Nat} (h : MemoriesCanonical s) :
    MemoriesCanonical (writeBegin byModule slot s) := by
  obtain ⟨hboat, hnvm⟩ := h
  exact ⟨hboat, wf_flashErase _ _ _ hnvm⟩

theorem cfgOpen_canonical (h : MemoriesCanonical s) : MemoriesCanonical (cfgOpen s) :=
  ite_canonical (refuse_canonical h) (ite_canonical (refuse_canonical (h.of_same (by dsimp only)))
      (ite_canonical (refuse_canonical (h.of_same (by dsimp only))) (writeBegin_canonical h)))

theorem cfgCommit_canonical {p : Port} (h : MemoriesCanonical s) : MemoriesCanonical (cfgCommit p s) :=
  ite_canonical (refuse_canonical h) (ite_canonical (secRefuse_canonical (touchSession_canonical h))
      (ite_canonical (secRefuse_canonical (touchSession_canonical h)) ((touchSession_canonical h).of_same (by dsimp only))))

theorem cfgCancel_canonical (h : MemoriesCanonical s) : MemoriesCanonical (cfgCancel s) :=
  ite_canonical (writeFail_canonical h) h

theorem bulkData_canonical {offset : Nat} {bytes : List Byte} (h : MemoriesCanonical s) :
    MemoriesCanonical (bulkData offset bytes s).2 := by
  unfold bulkData
  extract_lets
  split
  · exact refuse_canonical h
  · split
    · exact refuse_canonical (writeFail_canonical h)
    · obtain ⟨hboat, hnvm⟩ := h
      exact ⟨hboat, wf_flashProgram _ _ _ hnvm⟩

theorem judgeCommit_canonical (h : MemoriesCanonical s) : MemoriesCanonical (judgeCommit s) :=
  ite_canonical (ite_canonical (writeFail_canonical (moduleCheck_canonical h))
      (refuse_canonical (writeFail_canonical (moduleCheck_canonical h)))) ((moduleCheck_canonical h).of_same (by dsimp only))

theorem writeDone_canonical (h : MemoriesCanonical s) : MemoriesCanonical (writeDone s) :=
  ite_canonical (logEvent_canonical ((writeEnd_canonical h).of_same (by dsimp only)))
      ((writeEnd_canonical h).of_same (by dsimp only))

theorem flashNext_canonical (h : MemoriesCanonical s) : MemoriesCanonical (flashNext s) := by
  obtain ⟨hboat, hnvm⟩ := id h
  unfold flashNext
  extract_lets n w base
  split
  · exact h.of_same (by dsimp only)
  · have he : wf 0xFF (flashErase s.nvm (base + 65536 * w.done64) 65536).mem = true := wf_flashErase _ _ _ hnvm
    exact ite_canonical ⟨hboat, he⟩ ⟨hboat, he⟩
  · refine ite_canonical ⟨hboat, ?_⟩ h
    exact List.foldlRecOn (motive := fun n : Nvm => wf 0xFF n.mem = true) _ _ hnvm (fun _ hm _ _ => wf_flashProgram _ _ _ hm)
  · exact judgeCommit_canonical h
  · exact ⟨hboat, wf_flashProgram _ _ _ hnvm⟩
  · exact writeDone_canonical h
  · exact h

theorem flashComplete_canonical {ok : Bool} (h : MemoriesCanonical s) : MemoriesCanonical (flashComplete ok s) :=
  ite_canonical h (ite_canonical (flashNext_canonical h) (writeFail_canonical h))

theorem persistStart_canonical (h : MemoriesCanonical s) : MemoriesCanonical (persistStart s) := by
  unfold persistStart
  exact (writeBegin_canonical h).of_same (by dsimp only)

theorem logReclaim_mem (n : Nvm) : (logReclaim n).mem = n.mem := by
  unfold logReclaim
  split <;> rfl

theorem logAckWrite_canonical {v : Word} (h : MemoriesCanonical s) : MemoriesCanonical (logAckWrite v s) :=
  ite_canonical (h.of_mem rfl (logReclaim_mem _)) (refuse_canonical h)

theorem areaErased_canonical (h : MemoriesCanonical s) : MemoriesCanonical (areaErased s) := by
  obtain ⟨hboat, hnvm⟩ := h
  unfold areaErased
  extract_lets n first n1
  have hn1 : wf 0xFF n1.mem = true := wf_areaStart _ _ _ _ hnvm
  clear_value n1
  refine ite_canonical ⟨hboat, ?_⟩ ⟨hboat, hnvm⟩
  rw [logTurn_mem]
  exact hn1

theorem cmApply_canonical {p : Port} {c : CmChange} (h : MemoriesCanonical s) : MemoriesCanonical (cmApply p c s) := by
  unfold cmApply
  extract_lets _ s1
  have hs1 : MemoriesCanonical s1 := h.of_same (by dsimp only)
  split
  · exact sendFrame_canonical (setAlarm_canonical hs1)
  · exact sendFrame_canonical hs1
  · extract_lets
    exact hs1.of_same (by dsimp only)

theorem cmRequest_canonical {p : Port} {c : CmChange} (h : MemoriesCanonical s) : MemoriesCanonical (cmRequest p c s) :=
  gate_canonical cmApply_canonical h

/-! ### Power -/

theorem vsysSeen_canonical {v : Nat} (h : MemoriesCanonical s) : MemoriesCanonical (vsysSeen v s) :=
  h.of_only (vsysSeen_only ..) rfl rfl

theorem powerUp_canonical (h : MemoriesCanonical s) : MemoriesCanonical (powerUp s) :=
  h.of_only (powerUp_only ..) rfl rfl

theorem vsysGood_canonical (h : MemoriesCanonical s) : MemoriesCanonical (vsysGood s) :=
  h.of_only (vsysGood_only ..) rfl rfl

theorem brownOut_canonical (h : MemoriesCanonical s) : MemoriesCanonical (brownOut s) := by
  have hf : MemoriesCanonical (fresh (recordClear (resetAll s))).2 :=
    fresh_canonical (recordClear_canonical (resetAll_canonical h))
  unfold brownOut
  generalize fresh (recordClear (resetAll s)) = f at hf ⊢
  obtain ⟨w, s1⟩ := f
  exact ite_canonical (hf.of_same (by dsimp only)) h

theorem rstLow_canonical (h : MemoriesCanonical s) : MemoriesCanonical (rstLow s) := by
  unfold rstLow
  extract_lets _ s1 _ s2
  have hs1 : MemoriesCanonical s1 := h.of_same (by dsimp only)
  have hs2 : MemoriesCanonical s2 := resetAll_canonical hs1
  exact ite_canonical (hs2.of_same (by dsimp only)) hs1

theorem rstHigh_canonical (h : MemoriesCanonical s) : MemoriesCanonical (rstHigh s) :=
  ite_canonical (powerUp_canonical (h.of_same (by dsimp only))) (h.of_same (by dsimp only))

theorem mcoreWd_canonical (h : MemoriesCanonical s) : MemoriesCanonical (mcoreWd s) :=
  report_canonical (h.of_same (by dsimp only))

theorem vsysFault_canonical {v n : Nat} (h : MemoriesCanonical s) : MemoriesCanonical (vsysFault v n s) :=
  ite_canonical (ite_canonical ((vsysSeen_canonical h).of_same (by dsimp only))
      (report_canonical ((vsysSeen_canonical h).of_same (by dsimp only))))
      (vsysSeen_canonical h)

theorem vsysBack_canonical {v n : Nat} (h : MemoriesCanonical s) : MemoriesCanonical (vsysBack v n s) :=
  ite_canonical ((vsysSeen_canonical h).of_same (by dsimp only)) (vsysSeen_canonical h)

theorem laneOffNow_canonical {n : Nat} (h : MemoriesCanonical s) : MemoriesCanonical (laneOffNow n s) :=
  setLane_canonical (h.of_same (by dsimp only))

theorem railLost_canonical {n : Nat} (h : MemoriesCanonical s) : MemoriesCanonical (railLost n s) :=
  ite_canonical (laneOffNow_canonical (h.of_same (by dsimp only))) (ite_canonical
      (ite_canonical (nvmFail_canonical (report_canonical (h.of_same (by dsimp only))))
      (report_canonical (h.of_same (by dsimp only)))) (h.of_same (by dsimp only)))

theorem railSeen_canonical {n mv samples : Nat} (h : MemoriesCanonical s) : MemoriesCanonical (railSeen n mv samples s) :=
  ite_canonical (ite_canonical h (h.of_same (by dsimp only))) (ite_canonical (railLost_canonical h) h)

theorem clkNote_canonical {c n : Nat} (h : MemoriesCanonical s) : MemoriesCanonical (clkNote c n s) := by
  unfold clkNote
  exact h.of_same (by dsimp only)

theorem clkFail_canonical {c : Nat} (h : MemoriesCanonical s) : MemoriesCanonical (clkFail c s) :=
  ite_canonical (report_canonical (forcedLines_canonical h)) (ite_canonical (report_canonical h)
      (report_canonical (localAssert_canonical h)))

theorem laneClock_canonical {l : Lane} (h : MemoriesCanonical s) : MemoriesCanonical (laneClock l s) :=
  ite_canonical h (flagFaulty_canonical h)

theorem clkWindow_canonical {c n : Nat} (h : MemoriesCanonical s) : MemoriesCanonical (clkWindow c n s) :=
  ite_canonical h (ite_canonical (clkNote_canonical h) (ite_canonical (laneClock_canonical (clkNote_canonical h))
      (ite_canonical (clkNote_canonical h) (clkFail_canonical (clkNote_canonical h)))))

theorem pllLoss_canonical {b : Bool} (h : MemoriesCanonical s) : MemoriesCanonical (pllLoss b s) :=
  ite_canonical (report_canonical (h.of_same (by dsimp only))) h

theorem rampDone_canonical (h : MemoriesCanonical s) : MemoriesCanonical (rampDone s) := by
  unfold rampDone
  exact h.of_same (by dsimp only)

theorem tempRead_canonical {ts : List Int} (h : MemoriesCanonical s) : MemoriesCanonical (tempRead ts s) :=
  ite_canonical (report_canonical (h.of_same (by dsimp only))) (h.of_same (by dsimp only))

/-! ### Reads that clear -/

theorem bankWait_canonical (h : MemoriesCanonical s) : MemoriesCanonical (bankWait s).2 :=
  h.of_only (bankWait_only ..) rfl rfl

theorem valueAt_canonical {p : Port} {a : Nat} (h : MemoriesCanonical s) : MemoriesCanonical (valueAt p a s).2 := by
  unfold valueAt
  extract_lets s1 s2
  have hs2 : MemoriesCanonical s2 := ite_canonical (accessBank_canonical (pmuSeen_canonical h)) (pmuSeen_canonical h)
  split
  · exact bankWait_canonical hs2
  · split
    · split
      · exact hs2
      · exact fresh_canonical hs2
    · exact fresh_canonical hs2

/-! ### Register reads -/

theorem latchPartners_canonical {p : Port} {a : Nat} (h : MemoriesCanonical s) : MemoriesCanonical (latchPartners p a s) :=
  foldl_canonical (fun _ _ ht => (valueAt_canonical ht).of_mem rfl rfl) h

theorem noteEventRead_canonical {a : Nat} (h : MemoriesCanonical s) : MemoriesCanonical (noteEventRead a s) :=
  ite_canonical (h.of_same (by dsimp only)) h

theorem clearFab_canonical {o : Nat} (h : MemoriesCanonical s) : MemoriesCanonical (clearFab o s) :=
  h.of_only (clearFab_only ..) rfl rfl

theorem clearSys_canonical {o : Nat} (h : MemoriesCanonical s) : MemoriesCanonical (clearSys o s) :=
  h.of_only (clearSys_only ..) rfl rfl

theorem clearAfe_canonical {o : Nat} (h : MemoriesCanonical s) : MemoriesCanonical (clearAfe o s) :=
  h.of_only (clearAfe_only ..) rfl rfl

theorem clearRing_canonical {r o : Nat} (h : MemoriesCanonical s) : MemoriesCanonical (clearRing r o s) :=
  h.of_only (clearRing_only ..) rfl rfl

theorem clearCox_canonical {o : Nat} (h : MemoriesCanonical s) : MemoriesCanonical (clearCox o s) :=
  h.of_only (clearCox_only ..) rfl rfl

theorem clearPmu_canonical {o : Nat} (h : MemoriesCanonical s) : MemoriesCanonical (clearPmu o s) :=
  h.of_only (clearPmu_only ..) rfl rfl

theorem clearBoat_canonical {o : Nat} (h : MemoriesCanonical s) : MemoriesCanonical (clearBoat o s) := by
  unfold clearBoat
  extract_lets
  split
  · exact h.of_same (by dsimp only)
  · exact h.of_same (by dsimp only)
  · exact h.of_same (by dsimp only)
  · exact h.of_same (by dsimp only)
  · exact h.of_same (by dsimp only)
  · exact h.of_same (by dsimp only)
  · exact h.of_same (by dsimp only)
  · exact h.of_same (by dsimp only)
  · exact h.of_same (by dsimp only)
  · exact h

theorem clearEth_canonical {o : Nat} (h : MemoriesCanonical s) : MemoriesCanonical (clearEth o s) :=
  h.of_only (clearEth_only ..) rfl rfl

theorem clearHspi_canonical {o : Nat} (h : MemoriesCanonical s) : MemoriesCanonical (clearHspi o s) :=
  h.of_only (clearHspi_only ..) rfl rfl

theorem clearPerturb_canonical {o : Nat} (h : MemoriesCanonical s) : MemoriesCanonical (clearPerturb o s) :=
  h.of_only (clearPerturb_only ..) rfl rfl

theorem readClear_canonical {a : Nat} (h : MemoriesCanonical s) : MemoriesCanonical (readClear a s) := by
  unfold readClear
  extract_lets
  split
  · exact ite_canonical (clearSys_canonical h) (ite_canonical (clearFab_canonical h) h)
  · exact ite_canonical (h.of_same (by dsimp only)) h
  · exact ite_canonical (h.of_same (by dsimp only)) h
  · exact clearAfe_canonical h
  · exact clearRing_canonical h
  · exact clearCox_canonical h
  · exact clearBoat_canonical h
  · exact clearPmu_canonical h
  · exact ite_canonical (h.of_same (by dsimp only)) h
  · exact ite_canonical (h.of_same (by dsimp only)) h
  · exact ite_canonical (h.of_same (by dsimp only)) h
  · exact clearEth_canonical h
  · exact clearHspi_canonical h
  · exact clearPerturb_canonical h
  · exact h

theorem readWord_canonical {p : Port} {a : Nat} (h : MemoriesCanonical s) : MemoriesCanonical (readWord p a s).2 := by
  unfold readWord
  split
  · exact h
  · exact readClear_canonical (noteEventRead_canonical (latchPartners_canonical (valueAt_canonical h)))

theorem readWords_canonical {p : Port} {n a : Nat} (h : MemoriesCanonical s) : MemoriesCanonical (readWords p n a s).2 := by
  induction n generalizing a s with
  | zero => exact h
  | succ n ih => exact ih (readWord_canonical h)

theorem hostRead_canonical {p : Port} {a : Nat} (h : MemoriesCanonical s) : MemoriesCanonical (hostRead p a s) :=
  (readWord_canonical h).of_mem rfl rfl

/-! ### Register writes -/

theorem powerWrite_canonical {v : Word} (h : MemoriesCanonical s) : MemoriesCanonical (powerWrite v s) := by
  unfold powerWrite
  split
  · exact leaving_canonical pwrRun_canonical h
  · exact leaving_canonical pwrReduced_canonical h
  · exact pwrHold_canonical h
  · exact pwrOff_canonical h

theorem sysWrite_canonical {a o : Nat} {v : Word} (h : MemoriesCanonical s) : MemoriesCanonical (sysWrite a o v s) := by
  unfold sysWrite
  obtain ⟨k, hk⟩ : ∃ k, o - 0x4000 = k := ⟨_, rfl⟩
  rw [hk]
  refine ite_canonical (powerWrite_canonical h) (ite_canonical (h.of_same (by dsimp only)) (ite_canonical ?_ h))
  extract_lets f
  split
  · exact h.of_same (by dsimp only)
  · exact setShownCnt_canonical h
  · exact h.of_same (by dsimp only)
  · exact h.of_same (by dsimp only)
  · exact refuse_canonical h

theorem soutWrite_canonical {p : Port} {a o : Nat} {v : Word} (h : MemoriesCanonical s) :
    MemoriesCanonical (soutWrite p a o v s) := by
  unfold soutWrite
  split
  · exact h.of_same (by dsimp only)
  · exact cioValueWrite_canonical h
  · exact cioBeatWrite_canonical h
  · exact refuse_canonical h

theorem afeCtrlWrite_canonical {p : Port} {n : Nat} {v : Word} (h : MemoriesCanonical s) :
    MemoriesCanonical (afeCtrlWrite p n v s) :=
  chanGate_canonical (fun ht => ite_canonical (calStart_canonical (ite_canonical (chanEnable_canonical ht)
      (chanDisable_canonical ht))) (ite_canonical (chanEnable_canonical ht) (chanDisable_canonical ht))) h

theorem afeWrite_canonical {p : Port} {a o : Nat} {v : Word} (h : MemoriesCanonical s) :
    MemoriesCanonical (afeWrite p a o v s) :=
  ite_canonical (h.of_same (by dsimp only)) (ite_canonical (ite_canonical (afeCtrlWrite_canonical h)
      (ite_canonical h (refuse_canonical h))) h)

theorem tachWrite_canonical {p : Port} {o : Nat} {v : Word} (h : MemoriesCanonical s) :
    MemoriesCanonical (tachWrite p o v s) := by
  unfold tachWrite
  extract_lets
  refine ite_canonical ?_ h
  split
  · exact ite_canonical (tachGate_canonical tachEnable_canonical h) (tachGate_canonical tachDisable_canonical h)
  · exact setTach_canonical h
  · exact cmpWrite_canonical h
  · exact cmpWrite_canonical h
  · exact stepWrite_canonical h
  · exact stepWrite_canonical h
  · exact h

theorem ringWrite_canonical {p : Port} {a r o : Nat} {v : Word} (h : MemoriesCanonical s) :
    MemoriesCanonical (ringWrite p a r o v s) := by
  unfold ringWrite
  refine ite_canonical (ite_canonical (ringGate_canonical ringOn_canonical h) (ringGate_canonical ringOff_canonical h))
      (ite_canonical (refuse_canonical h) ?_)
  split
  · exact burstCmdWrite_canonical h
  · exact setRg_canonical h
  · exact h

theorem coresWrite_canonical {p : Port} {v : Word} (h : MemoriesCanonical s) : MemoriesCanonical (coresWrite p v s) :=
  gate_canonical (fun ht => foldl_canonical (fun _ _ ht => ite_canonical (ite_canonical ht (coreEnable_canonical ht))
      (coreDisable_canonical ht)) ht) h

theorem taskCmdWrite_canonical {p : Port} {v : Word} (h : MemoriesCanonical s) : MemoriesCanonical (taskCmdWrite p v s) := by
  unfold taskCmdWrite
  extract_lets
  split
  · exact taskGate_canonical taskDisable_canonical h
  · exact taskGate_canonical taskEnable_canonical h
  · exact taskGate_canonical taskReload_canonical h
  · exact secRefuse_canonical h

theorem coxWrite_canonical {p : Port} {o : Nat} {v : Word} (h : MemoriesCanonical s) :
    MemoriesCanonical (coxWrite p o v s) := by
  unfold coxWrite
  split
  · exact coresWrite_canonical h
  · exact h.of_same (by dsimp only)
  · exact taskCmdWrite_canonical h
  · split
    · exact setCore_canonical h
    · exact h

theorem pmuGate_canonical {p : Port} {a : Nat} {old new : Word} {f : State → State}
    (hf : ∀ {t : State}, MemoriesCanonical t → MemoriesCanonical (f t)) (h : MemoriesCanonical s) :
    MemoriesCanonical (pmuGate p a old new f s) :=
  gate_canonical hf h

theorem corePmuWrite_canonical {p : Port} {a c o : Nat} {v : Word} {s0 : State} (h : MemoriesCanonical s0) :
    MemoriesCanonical (corePmuWrite p a c o v s0) := by
  unfold corePmuWrite
  extract_lets s
  have hs : MemoriesCanonical s := pmuSeen_canonical h
  refine ite_canonical (setPmu_canonical hs) ?_
  split
  · exact pmuGate_canonical writeCounter_canonical hs
  · exact pmuGate_canonical writeEvsel_canonical hs
  · exact hs

theorem pmuWrite_canonical {p : Port} {a o : Nat} {v : Word} (h : MemoriesCanonical s) :
    MemoriesCanonical (pmuWrite p a o v s) := by
  unfold pmuWrite
  split
  · exact pmuGate_canonical (fun ht => (ht.of_same (by dsimp only))) h
  · extract_lets s1
    have hs1 : MemoriesCanonical s1 := pmuFreeze_canonical h
    exact ite_canonical (pmuSnap_canonical hs1) hs1
  · exact ite_canonical (corePmuWrite_canonical h) h

theorem boatWrite_canonical {o : Nat} {v : Word} (h : MemoriesCanonical s) : MemoriesCanonical (boatWrite o v s) := by
  unfold boatWrite
  extract_lets
  split
  · exact h.of_same (by dsimp only)
  · exact h.of_same (by dsimp only)
  · exact h.of_same (by dsimp only)
  · exact hostCapture_canonical h
  · exact hostFree_canonical h
  · exact h

theorem crcParam_canonical {n k : Nat} {ok : Bool} {f : CrcCtx → CrcCtx} (h : MemoriesCanonical s) :
    MemoriesCanonical (crcParam n k ok f s) :=
  ite_canonical (crcRefuse_canonical h) (hostCtx_canonical h)

theorem ctxWrite_canonical {n k : Nat} {v : Word} (h : MemoriesCanonical s) : MemoriesCanonical (ctxWrite n k v s) := by
  unfold ctxWrite
  extract_lets _ s1
  have hs1 : MemoriesCanonical s1 := ite_canonical (hostCtx_canonical h) h
  split
  · exact crcParam_canonical h
  · exact crcParam_canonical h
  · exact crcParam_canonical h
  · exact crcParam_canonical h
  · exact hostCtx_canonical h
  · exact hostCtx_canonical h
  · exact ite_canonical (crcRefuse_canonical h) (ite_canonical (hostCheck_canonical hs1) hs1)
  · exact hostDin_canonical h
  · exact hostCtx_canonical h
  · exact hostCtx_canonical h
  · exact hostCtx_canonical h
  · exact h

theorem nvmWrite_canonical {p : Port} {o : Nat} {v : Word} (h : MemoriesCanonical s) :
    MemoriesCanonical (nvmWrite p o v s) := by
  unfold nvmWrite
  split
  · exact h.of_same (by dsimp only)
  · split
    · exact cfgOpen_canonical h
    · exact cfgCommit_canonical h
    · exact cfgCancel_canonical h
    · exact h
  · exact logAckWrite_canonical h
  · exact h

theorem loginWrite_canonical {p : Port} {v : Word} (h : MemoriesCanonical s) : MemoriesCanonical (loginWrite p v s) := by
  unfold loginWrite
  extract_lets
  split
  · exact challenge_canonical h
  · exact respond_canonical h
  · exact dropSession_canonical h
  · exact secRefuse_canonical h

theorem debugWrite_canonical {v : Word} (h : MemoriesCanonical s) : MemoriesCanonical (debugWrite v s) := by
  unfold debugWrite
  split
  · exact debugChallenge_canonical h
  · exact leaving_canonical openCm_canonical h
  · exact leaving_canonical openFull_canonical h
  · exact leaving_canonical debugClose_canonical h
  · exact h

theorem secWrite_canonical {p : Port} {o : Nat} {v : Word} (h : MemoriesCanonical s) :
    MemoriesCanonical (secWrite p o v s) := by
  unfold secWrite
  split
  · exact loginWrite_canonical h
  · exact ite_canonical (lcField_canonical h) (ite_canonical (lcRma_canonical h) h)
  · exact debugWrite_canonical h
  · extract_lets s1
    have hs1 : MemoriesCanonical s1 := keyProgram_canonical h
    exact ite_canonical (setAuthReq_canonical hs1) hs1
  · split
    · exact setLogin_canonical h
    · exact h.of_same (by dsimp only)
    · exact h.of_same (by dsimp only)
    · exact h

theorem hspiRegWrite_canonical {a o : Nat} {v : Word} (h : MemoriesCanonical s) : MemoriesCanonical (hspiRegWrite a o v s) := by
  unfold hspiRegWrite
  extract_lets
  split
  · exact h.of_same (by dsimp only)
  · exact h.of_same (by dsimp only)
  · exact h.of_same (by dsimp only)
  · exact h.of_same (by dsimp only)
  · exact ite_canonical (refuse_canonical h) h

theorem hookWrite_canonical {p : Port} {o : Nat} {v : Word} (h : MemoriesCanonical s) : MemoriesCanonical (hookWrite p o v s) :=
  ite_canonical (seedWrite_canonical h) (ite_canonical (tgtWrite_canonical h) (ite_canonical (cfgWrite_canonical h) h))

theorem hostWrite_canonical {p : Port} {a : Nat} {v : Word} (h : MemoriesCanonical s) :
    MemoriesCanonical (hostWrite p a v s) := by
  unfold hostWrite
  extract_lets o
  refine ite_canonical (ite_canonical (windowWrite_canonical h) h) ?_
  generalize a / 0x10000 = b
  clear_value o
  split
  · exact sysWrite_canonical h
  · exact ite_canonical (clearLo_canonical h) (ite_canonical (clearHi_canonical h) h)
  · exact refuse_canonical h
  · exact refuse_canonical h
  · exact refuse_canonical h
  · exact refuse_canonical h
  · exact refuse_canonical h
  · exact soutWrite_canonical h
  · exact afeWrite_canonical h
  · exact tachWrite_canonical h
  · exact ringWrite_canonical h
  · exact coxWrite_canonical h
  · exact boatWrite_canonical h
  · exact pmuWrite_canonical h
  · exact ite_canonical (ctxWrite_canonical h) h
  · exact ite_canonical (bistCmd_canonical h) h
  · exact nvmWrite_canonical h
  · exact secWrite_canonical h
  · exact ite_canonical (h.of_same (by dsimp only)) h
  · exact hspiRegWrite_canonical h
  · exact hookWrite_canonical h
  · exact h

theorem writeJudged_canonical {p : Port} {a : Nat} {v : Word} (h : MemoriesCanonical s) :
    MemoriesCanonical (writeJudged p a v s).2 := by
  unfold writeJudged
  extract_lets _ t
  have ht : MemoriesCanonical t := hostWrite_canonical (h.of_same (by dsimp only))
  split
  · exact h
  · exact ite_canonical (ht.of_same (by dsimp only)) ht

theorem writeWords_canonical {p : Port} {a : Nat} {vs : List Word} (h : MemoriesCanonical s) :
    MemoriesCanonical (writeWords p a vs s).2 := by
  induction vs generalizing a s with
  | nil => exact h
  | cons v vs ih => exact ih (writeJudged_canonical h)

/-! ### The register protocol and the host port -/

theorem respondUdp_canonical {ws : List Word} (h : MemoriesCanonical s) : MemoriesCanonical (respondUdp ws s) :=
  coreUnicast_canonical (h.of_same (by dsimp only))

theorem keepResponse_canonical {peer : Nat} {req : List Byte} {ws : List Word} (h : MemoriesCanonical s) :
    MemoriesCanonical (keepResponse peer req ws s) := by
  unfold keepResponse
  exact h.of_same (by dsimp only)

theorem request_canonical {peer : Nat} {req : List Byte} {crc : Word} {work : State → List Word × State}
    (hwork : ∀ {t : State}, MemoriesCanonical t → MemoriesCanonical (work t).2) (h : MemoriesCanonical s) :
    MemoriesCanonical (request peer req crc work s) := by
  unfold request
  refine ite_canonical h (ite_canonical (moduleCheck_canonical h) ?_)
  split
  · exact respondUdp_canonical h
  · have hs1 := hwork (moduleCheck_canonical (n := 3) (ok := true) h)
    exact ite_canonical (respondUdp_canonical (keepResponse_canonical hs1)) hs1

theorem protoRead_canonical {peer txn addr count : Nat} (h : MemoriesCanonical s) :
    MemoriesCanonical (protoRead peer txn addr count s).2 := by
  unfold protoRead
  split
  · exact readWords_canonical h
  · exact h

theorem protoWrite_canonical {peer txn addr : Nat} {values : List Word} (h : MemoriesCanonical s) :
    MemoriesCanonical (protoWrite peer txn addr values s).2 := by
  unfold protoWrite
  split
  · exact writeWords_canonical h
  · exact h

theorem protoBulkRead_canonical {txn index count : Nat} (h : MemoriesCanonical s) :
    MemoriesCanonical (protoBulkRead txn index count s).2 := by
  unfold protoBulkRead
  extract_lets
  split
  · exact foldl_canonical (fun _ _ ht => moduleCheck_canonical ht) h
  · exact h

theorem protoBulkWrite_canonical {txn offset : Nat} {bytes : List Byte} (h : MemoriesCanonical s) :
    MemoriesCanonical (protoBulkWrite txn offset bytes s).2 := by
  unfold protoBulkWrite
  split
  · exact bulkData_canonical h
  · exact h

theorem protoSubscribe_canonical {peer txn : Nat} (h : MemoriesCanonical s) :
    MemoriesCanonical (protoSubscribe peer txn s).2 := by
  unfold protoSubscribe
  split
  · exact h
  · split
    · exact h.of_same (by dsimp only)
    · exact h

theorem protoUnsubscribe_canonical {peer txn : Nat} (h : MemoriesCanonical s) :
    MemoriesCanonical (protoUnsubscribe peer txn s).2 := h.of_mem rfl rfl

theorem spiSends_canonical {bytes : List Byte} (h : MemoriesCanonical s) : MemoriesCanonical (spiSends bytes s) :=
  h.of_mem rfl rfl

theorem spiRead_canonical {addr count : Nat} (h : MemoriesCanonical s) : MemoriesCanonical (spiRead addr count s) := by
  have hr : MemoriesCanonical (readWords .spi count addr s).2 := readWords_canonical h
  unfold spiRead
  generalize readWords .spi count addr s = r at hr ⊢
  obtain ⟨ws, s1⟩ := r
  have hs2 : MemoriesCanonical (spiSends (0xA5 :: wireBytes ws) { s1 with host := { s1.host with resp := ws } }) :=
    spiSends_canonical (hr.of_same (by dsimp only))
  exact hs2.of_same (by dsimp only)

theorem spiWrite_canonical {addr : Nat} {values : List Word} {crc : Word} (h : MemoriesCanonical s) :
    MemoriesCanonical (spiWrite addr values crc s) := by
  have hw : MemoriesCanonical (writeWords .spi addr values (moduleCheck 3 true s)).2 :=
    writeWords_canonical (moduleCheck_canonical h)
  unfold spiWrite
  generalize writeWords .spi addr values (moduleCheck 3 true s) = w at hw ⊢
  obtain ⟨refused, s1⟩ := w
  exact ite_canonical (ite_canonical (spiSends_canonical (hw.of_same (by dsimp only))) hw)
      (spiSends_canonical ((moduleCheck_canonical h).of_same (by dsimp only)))

theorem spiAbort_canonical (h : MemoriesCanonical s) : MemoriesCanonical (spiAbort s) := by
  unfold spiAbort
  exact h.of_same (by dsimp only)

/-! ### Every command -/

/-- Every state an outcome hands on has both memories in canonical form. -/
def AnswersCanonical (o : Host.Outcome State Fault Refusal) : Prop := ∀ t, o = .next t → MemoriesCanonical t

theorem next_canonical {s : State} (h : MemoriesCanonical s) : AnswersCanonical (.next s) := by
  rintro t ⟨⟩
  exact h

theorem exec_canonical {s : State} (c : Instr) (h : MemoriesCanonical s) : AnswersCanonical (exec c s) := by
  cases c with refine next_canonical ?_
  | safetyCycleBoundary => exact ite_canonical (leaving_canonical boundary_canonical h) h
  | laneInputImage => exact ite_canonical (laneImage_canonical h) h
  | tonExpiry => exact ite_canonical (blockEvent_canonical h) h
  | tofExpiry => exact ite_canonical (blockEvent_canonical h) h
  | tpPulseExpiry => exact ite_canonical (blockEvent_canonical h) h
  | discTimeout => exact ite_canonical (blockEvent_canonical h) h
  | muteTimeout => exact ite_canonical (blockEvent_canonical h) h
  | muteLamp => exact ite_canonical (blockEvent_canonical h) h
  | lockFb => exact ite_canonical (blockEvent_canonical h) h
  | standstillReached => exact ite_canonical (blockEvent_canonical h) h
  | tachMissing => exact ite_canonical (blockEvent_canonical h) h
  | speedDisc => exact ite_canonical (blockEvent_canonical h) h
  | edmTimeout => exact ite_canonical (blockEvent_canonical h) h
  | resetOpenHistory => exact ite_canonical (blockEvent_canonical h) h
  | resetStuck => exact ite_canonical (blockEvent_canonical h) h
  | vibSegmentEnd => exact ite_canonical (vibSegEnd_canonical h) h
  | vibDisc => exact ite_canonical (blockEvent_canonical h) h
  | evaluationOverrun => exact ite_canonical (flagFaulty_canonical h) h
  | lockstepMismatch => exact ite_canonical (flagFaulty_canonical h) h
  | laneUncorrectableEcc => exact ite_canonical (flagFaulty_canonical h) h
  | laneConfigPassComplete => exact ite_canonical (configPass_canonical h) h
  | seatVoteFrame => exact ite_canonical (voteFrame_canonical h) h
  | voteDeadline => exact ite_canonical (leaving_canonical voteDeadline_canonical h) h
  | rotationInstant => exact ite_canonical (whenever_canonical rotationInstant_canonical h) h
  | scullTimeout => exact ite_canonical (leaving_canonical (fun ht => whenever_canonical voteDeadline_canonical ht) h) h
  | twoOarLimit => exact ite_canonical (whenever_canonical twoOarLimit_canonical h) h
  | failureWindowExpiry => exact ite_canonical (failureExpiry_canonical h) h
  | spareAbortCommand => exact ite_canonical (abortCommand_canonical h) h
  | spareAbortComplete => exact ite_canonical (abortComplete_canonical h) h
  | stateCopyFrame => exact ite_canonical (copyFrame_canonical h) h
  | catchUpEvaluationEnd => exact ite_canonical (whenever_canonical catchUp_canonical h) h
  | segmentRecheckComplete => exact ite_canonical (recheck_canonical h) h
  | lastResetFrame => exact ite_canonical (whenever_canonical lastResetFrame_canonical h) h
  | fabricFrameReceive => exact ite_canonical (whenever_canonical frameArrives_canonical h) h
  | linkFail => exact ite_canonical (whenever_canonical linkFailed_canonical h) h
  | creditTimeoutDiscard => exact ite_canonical (whenever_canonical creditDiscard_canonical h) h
  | inputFilterChange => exact ite_canonical (whenever_canonical filterChange_canonical h) h
  | lorOpenHistory => exact ite_canonical (whenever_canonical lorHist_canonical h) h
  | testPulseBegin => exact ite_canonical (whenever_canonical pulseBegin_canonical h) h
  | testPulseWindowEnd => exact ite_canonical (whenever_canonical windowEnd_canonical h) h
  | tpOverload => exact ite_canonical (whenever_canonical overload_canonical h) h
  | vfldLowWarning => exact ite_canonical (whenever_canonical supplyWarn_canonical h) h
  | vfldSag => exact ite_canonical (whenever_canonical supplySag_canonical h) h
  | vfldMissing => exact ite_canonical (whenever_canonical supplyMissing_canonical h) h
  | vfldRecovery => exact ite_canonical (whenever_canonical supplyRecovery_canonical h) h
  | outputPulseBegin => exact ite_canonical (whenever_canonical outPulseBegin_canonical h) h
  | outputPulseEnd => exact ite_canonical (whenever_canonical outPulseEnd_canonical h) h
  | outShortVfld => exact ite_canonical (whenever_canonical outShort_canonical h) h
  | outStuckOff => exact ite_canonical (whenever_canonical outStuck_canonical h) h
  | outOverload => exact ite_canonical (whenever_canonical outHold_canonical h) h
  | outOpenLoad => exact ite_canonical (whenever_canonical outOpenLoad_canonical h) h
  | outDiagClear => exact ite_canonical (whenever_canonical outClear_canonical h) h
  | grpOvercurrent => exact ite_canonical (whenever_canonical groupOvercurrent_canonical h) h
  | grpOvertemp => exact ite_canonical (whenever_canonical groupOvertemp_canonical h) h
  | groupShutdownComplete => exact ite_canonical (whenever_canonical groupComplete_canonical h) h
  | outputWatchdogTrip => exact ite_canonical (whenever_canonical wdTrip_canonical h) h
  | outputWatchdogRelease => exact ite_canonical (whenever_canonical wdRelease_canonical h) h
  | cioCommandFrame => exact ite_canonical (hookedFrame_canonical cioCommand_canonical h) h
  | cioHeartbeatFrame => exact ite_canonical (hookedFrame_canonical cioHeard_canonical h) h
  | cioSilent => exact ite_canonical (whenever_canonical cioSilence_canonical h) h
  | cioOverload => exact ite_canonical (whenever_canonical cioOverload_canonical h) h
  | cioShortVfld => exact ite_canonical (whenever_canonical cioShort_canonical h) h
  | cioCmdValueWrite => exact ite_canonical (cioValueWrite_canonical h) h
  | cioHeartbeatWrite => exact ite_canonical (cioBeatWrite_canonical h) h
  | afeFullRateFrame => exact ite_canonical (fullFrame_canonical h) h
  | afeDecimatedSample => exact ite_canonical (whenever_canonical decimate_canonical h) h
  | ainOpen => exact ite_canonical (whenever_canonical ainOpen_canonical h) h
  | ainShort => exact ite_canonical (whenever_canonical ainShort_canonical h) h
  | ainSettlingComplete => exact ite_canonical (whenever_canonical settled_canonical h) h
  | afeCalRequest => exact ite_canonical (chanGate_canonical calStart_canonical h) h
  | afeCalComplete => exact ite_canonical (whenever_canonical calComplete_canonical h) h
  | afeChannelEnable => exact ite_canonical (chanGate_canonical chanEnable_canonical h) h
  | afeChannelDisable => exact ite_canonical (chanGate_canonical chanDisable_canonical h) h
  | afeShutdownComplete => exact ite_canonical (chanOff_canonical h) h
  | tachCountedEdge => exact ite_canonical (tachEdge_canonical h) h
  | tachCmpWrite => exact ite_canonical (cmpWrite_canonical h) h
  | tachStepWrite => exact ite_canonical (stepWrite_canonical h) h
  | tachEnable => exact ite_canonical (tachGate_canonical tachEnable_canonical h) h
  | tachDisable => exact ite_canonical (tachGate_canonical tachDisable_canonical h) h
  | ringSuperframeStart => exact ite_canonical (superframe_canonical (advance_canonical h)) h
  | ringFrameReceive => exact ite_canonical (ringFrame_canonical h) h
  | ringReportReceive => exact ite_canonical (ringReport_canonical h) h
  | ringReplyReceive => exact ite_canonical (ringReply_canonical h) h
  | ringAnnounceReceive => exact ite_canonical (announce_canonical h) h
  | ringBurstFrameReceive => exact ite_canonical (ringBurst_canonical h) h
  | ringSlotFail => exact ite_canonical (slotFail_canonical h) h
  | nodeBeacon => exact ite_canonical (nodeBeacon_canonical h) h
  | nodeDiscover => exact ite_canonical (nodeDiscover_canonical h) h
  | nodeAssign => exact ite_canonical (nodeAssign_canonical h) h
  | nodeIdent => exact ite_canonical (nodeIdent_canonical h) h
  | nodeBurst => exact ite_canonical (nodeBurst_canonical h) h
  | nodeBurstAbort => exact ite_canonical (nodeBurstAbort_canonical h) h
  | nodePark => exact ite_canonical (nodePark_canonical h) h
  | nodeRelease => exact ite_canonical (nodeRelease_canonical h) h
  | nodeReportWindow => exact ite_canonical (nodeReport_canonical h) h
  | nodeBeaconLoss => exact ite_canonical (nodeBeaconLoss_canonical h) h
  | lossOfSignal => exact ite_canonical (setSignal_canonical h) h
  | ringBreak => exact ite_canonical (whenever_canonical ringBreak_canonical h) h
  | ringClosed => exact ite_canonical (whenever_canonical ringClosed_canonical h) h
  | ringDown => exact ite_canonical (whenever_canonical ringDown_canonical h) h
  | nodeLost => exact ite_canonical (whenever_canonical nodeLost_canonical h) h
  | nodeStale => exact ite_canonical (whenever_canonical nodeStale_canonical h) h
  | ringBurstRequest => exact ite_canonical (whenever_canonical (fun ht => burstRequest_canonical ht) h) h
  | ringBurstCmdWrite => exact ite_canonical (burstCmdWrite_canonical h) h
  | ringEnable => exact ite_canonical (ringGate_canonical ringOn_canonical h) h
  | ringDisable => exact ite_canonical (ringGate_canonical ringOff_canonical h) h
  | ringShutdownComplete => exact ite_canonical (ringShutdownDone_canonical h) h
  | periodicRelease => exact ite_canonical (periodicRelease_canonical h) h
  | taskTrigger => exact ite_canonical (taskTrigger_canonical h) h
  | coxDispatch => exact ite_canonical (dispatch_canonical h) h
  | done => exact ite_canonical (taskDone_canonical h) h
  | yield => exact ite_canonical (taskYield_canonical h) h
  | send => exact ite_canonical (taskSendCall_canonical h) h
  | sendBufferRoom => exact ite_canonical (sendRoom_canonical h) h
  | pageReq => exact ite_canonical (pageReq_canonical h) h
  | pageFree => exact ite_canonical (pageFree_canonical h) h
  | copy => exact ite_canonical (copyCall_canonical h) h
  | copyComplete => exact ite_canonical (copyDone_canonical h) h
  | copyWait => exact ite_canonical (copyWait_canonical h) h
  | time => exact ite_canonical (timeCall_canonical h) h
  | pmuRead => exact ite_canonical (pmuRead_canonical h) h
  | lvtRead => exact ite_canonical (lvtRead_canonical h) h
  | coxOverrun => exact ite_canonical (whenever_canonical overrun_canonical h) h
  | coxMemfault => exact ite_canonical (memFault_canonical h) h
  | dspEcc => exact ite_canonical (whenever_canonical dspEcc_canonical h) h
  | taskDisable => exact ite_canonical (taskGate_canonical taskDisable_canonical h) h
  | taskEnable => exact ite_canonical (taskGate_canonical taskEnable_canonical h) h
  | taskReload => exact ite_canonical (taskGate_canonical taskReload_canonical h) h
  | coreEnable => exact ite_canonical (coreGate_canonical coreEnable_canonical h) h
  | coreDisable => exact ite_canonical (coreGate_canonical coreDisable_canonical h) h
  | coreShutdownComplete => exact ite_canonical (whenever_canonical coreOff_canonical h) h
  | pmuCounterWrap => exact ite_canonical (whenever_canonical pmuWrap_canonical h) h
  | pmuSnap => exact ite_canonical (pmuSnap_canonical h) h
  | pmuFreeze => exact ite_canonical (pmuFreeze_canonical h) h
  | boatPageRequest => exact ite_canonical (serveAll_canonical h) h
  | evictionComplete => exact ite_canonical (evictionDone_canonical h) h
  | pageScrubComplete => exact ite_canonical (scrubDone_canonical h) h
  | afeCaptureRequest => exact ite_canonical (taskCapture_canonical h) h
  | boatHostCapWrite => exact ite_canonical (hostCapture_canonical h) h
  | streamFrameWrite => exact ite_canonical (streamArrives_canonical h) h
  | boatHostFreeWrite => exact ite_canonical (hostFree_canonical h) h
  | boatWindowWrite => exact ite_canonical (windowWrite_canonical h) h
  | boatEcc => exact ite_canonical (boatEcc_canonical h) h
  | alarmEntryUpdate => exact ite_canonical (alarmUpdate_canonical h) h
  | crcStart => exact ite_canonical (hostCtx_canonical h) h
  | crcCheck => exact ite_canonical (hostCheck_canonical h) h
  | crcDinWrite => exact ite_canonical (hostDin_canonical h) h
  | crcValueWrite => exact ite_canonical (hostCtx_canonical h) h
  | crcKatRun => exact ite_canonical (katRun_canonical h) h
  | umpireErrorLatch => exact ite_canonical (latchAll_canonical h) h
  | handlingWindowClose => exact ite_canonical (whenever_canonical handlingClose_canonical h) h
  | umpSelfCheck => exact ite_canonical (scheduled_canonical umpSelfCheck_canonical h) h
  | groupMonitorSelfCheck => exact ite_canonical (scheduled_canonical groupCheck_canonical h) h
  | fieldDieSelfCheck => exact ite_canonical (scheduled_canonical fieldCheck_canonical h) h
  | umpStatusLoClear => exact ite_canonical (clearLo_canonical h) h
  | umpStatusHiClear => exact ite_canonical (clearHi_canonical h) h
  | bistSliceRequest => exact ite_canonical (sliceRequest_canonical h) h
  | coreSliceDue => exact ite_canonical (whenever_canonical coreSliceDue_canonical h) h
  | bistSliceStart => exact ite_canonical (sliceBegin_canonical h) h
  | bistSliceComplete => exact ite_canonical (sliceComplete_canonical h) h
  | bistSliceTimeout => exact ite_canonical (sliceTimeout_canonical h) h
  | bistCmdWrite => exact ite_canonical (bistCmd_canonical h) h
  | vsysGood => exact vsysGood_canonical h
  | nvmControllerStart => exact ite_canonical (nvmStart_canonical h) h
  | nvmFail => exact ite_canonical (nvmFail_canonical h) h
  | fullPassComplete => exact ite_canonical (passComplete_canonical h) h
  | laneConfigLoad => exact ite_canonical (laneLoad_canonical h) h
  | fieldPartLoad => exact ite_canonical (fieldLoad_canonical h) h
  | logScanComplete => exact ite_canonical (scanComplete_canonical h) h
  | cfgOpen => exact ite_canonical (cfgOpen_canonical h) h
  | cfgCommit => exact ite_canonical (cfgCommit_canonical h) h
  | cfgCancel => exact ite_canonical (cfgCancel_canonical h) h
  | flashOperationComplete => exact ite_canonical (flashComplete_canonical h) h
  | cmPersistStart => exact ite_canonical (whenever_canonical persistStart_canonical h) h
  | logAckWrite => exact ite_canonical (logAckWrite_canonical h) h
  | logAreaEraseComplete => exact ite_canonical (areaErased_canonical h) h
  | sealInputChange => exact ite_canonical (whenever_canonical sealInputs_canonical h) h
  | sealDisc => exact ite_canonical (whenever_canonical sealDiscSet_canonical h) h
  | loginChallenge => exact ite_canonical (challenge_canonical h) h
  | loginRespond => exact ite_canonical (respond_canonical h) h
  | logout => exact ite_canonical (dropSession_canonical h) h
  | nonceExpiry => exact ite_canonical (nonceExpiry_canonical h) h
  | sessionTimeout => exact ite_canonical (sessionTimeout_canonical h) h
  | slotLockEnd => exact ite_canonical (slotLockEnd_canonical h) h
  | passwordClassChange => exact ite_canonical (cmRequest_canonical h) h
  | lcField => exact ite_canonical (lcField_canonical h) h
  | lcRma => exact ite_canonical (lcRma_canonical h) h
  | dbgChallenge => exact ite_canonical (debugChallenge_canonical h) h
  | openCm => exact ite_canonical (leaving_canonical openCm_canonical h) h
  | openFull => exact ite_canonical (leaving_canonical openFull_canonical h) h
  | dbgClose => exact ite_canonical (leaving_canonical debugClose_canonical h) h
  | keyProgram => exact ite_canonical (keyProgram_canonical h) h
  | setAuthReq => exact ite_canonical (setAuthReq_canonical h) h
  | pwrReqRun => exact ite_canonical (leaving_canonical pwrRun_canonical h) h
  | pwrReqReduced => exact ite_canonical (leaving_canonical pwrReduced_canonical h) h
  | pwrReqHold => exact ite_canonical (pwrHold_canonical h) h
  | pwrReqOff => exact ite_canonical (pwrOff_canonical h) h
  | ethFrameReceive => exact ite_canonical (ethFrame_canonical h) h
  | macAgeOut => exact ite_canonical (macAge_canonical h) h
  | phyPoll => exact ite_canonical (phyPoll_canonical h) h
  | telegramDatagram => exact ite_canonical (telDatagram_canonical h) h
  | telegramFrameArrival => exact ite_canonical (hookedFrame_canonical telArrive_canonical h) h
  | telWatchdog => exact ite_canonical (telWatchdog_canonical h) h
  | telOutSend => exact ite_canonical (telSend_canonical h) h
  | outboundTelegram => exact ite_canonical (outTelegram_canonical h) h
  | ptpMessage => exact ite_canonical (whenever_canonical ptpMessage_canonical h) h
  | ptpLost => exact ite_canonical (whenever_canonical ptpLost_canonical h) h
  | ppsSecond => exact ite_canonical (ppsSecond_canonical h) h
  | regProtoRead => exact ite_canonical (request_canonical protoRead_canonical h) h
  | regProtoWrite => exact ite_canonical (request_canonical protoWrite_canonical h) h
  | regProtoBulkRead => exact ite_canonical (request_canonical protoBulkRead_canonical h) h
  | regProtoBulkWrite => exact ite_canonical (request_canonical protoBulkWrite_canonical h) h
  | regProtoSubscribe => exact ite_canonical (request_canonical protoSubscribe_canonical h) h
  | regProtoUnsubscribe => exact ite_canonical (request_canonical protoUnsubscribe_canonical h) h
  | hspiRead => exact ite_canonical (whenever_canonical spiRead_canonical h) h
  | hspiWrite => exact ite_canonical (whenever_canonical spiWrite_canonical h) h
  | hspiAbort => exact ite_canonical (spiAbort_canonical h) h
  | clockSupervisorWindow => exact ite_canonical (clkWindow_canonical h) h
  | pllLockLoss => exact ite_canonical (pllLoss_canonical h) h
  | vsysFault => exact ite_canonical (vsysFault_canonical h) h
  | vsysRecovered => exact ite_canonical (vsysBack_canonical h) h
  | brownOut => exact brownOut_canonical h
  | railOutOfRange => exact railSeen_canonical h
  | sysRstN => exact rstLow_canonical h
  | mcoreWd => exact ite_canonical (mcoreWd_canonical h) h
  | dieTempRead => exact ite_canonical (whenever_canonical tempRead_canonical h) h
  | perturbTgtWrite => exact ite_canonical (whenever_canonical tgtWrite_canonical h) h
  | perturbCfgWrite => exact ite_canonical (whenever_canonical cfgWrite_canonical h) h
  | perturbSeedWrite => exact ite_canonical (seedWrite_canonical h) h
  | perturbRelease => exact ite_canonical (hookRelease_canonical h) h
  | latchingRead => exact ite_canonical (hostRead_canonical h) h
  | clearingRead => exact ite_canonical (hostRead_canonical h) h
  | registerWrite => exact ite_canonical (hostWrite_canonical h) h
  | samplingInstant => exact ite_canonical (samplingInstant_canonical h) h
  | sysRstNRelease => exact rstHigh_canonical h
  | coreHalt => exact ite_canonical (coreHalt_canonical h) h
  | coreHaltRelease => exact ite_canonical (haltRelease_canonical h) h
  | ptpSyncInterval => exact ite_canonical (ptpInterval_canonical h) h
  | spreadRampComplete => exact ite_canonical (whenever_canonical rampDone_canonical h) h
  | signalReturn => exact ite_canonical (setSignal_canonical h) h

end

/-- Settles O46, by the case of each command: what its effect is made of keeps both memories canonical. -/
theorem stepKeepsMemoriesCanonical : Obligations.StepKeepsMemoriesCanonical := by
  unfold Obligations.StepKeepsMemoriesCanonical
  intro s t h
  unfold step
  split
  case h_1 => exact next_canonical (idleTick_canonical h) t
  case h_2 => exact exec_canonical _ (h.of_same (by dsimp only)) t

end Sys2Proof.Machine
end

section
/-!
SUPPORT. Single bytes of the two memories (R252, R267, R343): what an address reads after bytes are stored, a page is cleared, the
flash is programmed and a range of it is erased, and the statement about them.
-/
namespace Sys2Proof.Machine

open Sys2Proof

theorem look_memBytes (a x : Nat) (bs : List Byte) (m : Tab Byte) (h : wf 0 m = true) :
    look 0 (memBytes a bs m) x = if a ≤ x then (bs[x - a]?).getD (look 0 m x) else look 0 m x := by
  induction bs generalizing a m with
  | nil => simp [memBytes]
  | cons b bs ih =>
    rw [memBytes, ih _ _ (wf_put _ _ _ _ h)]
    obtain hlt | rfl | hgt := Nat.lt_trichotomy x a
    · rw [if_neg (by omega), if_neg (by omega), look_put_other _ _ _ _ _ hlt.ne]
    · rw [if_neg (by omega), if_pos le_rfl, Nat.sub_self, look_put_same _ _ _ _ h]
      rfl
    · rw [if_pos (Nat.succ_le_of_lt hgt), if_pos hgt.le, look_put_other _ _ _ _ _ hgt.ne', show x - a = x - (a + 1) + 1 by omega, List.getElem?_cons_succ]

theorem look_memZero (p x : Nat) (s : State) :
    look 0 (memZero p s).boat.mem x = if 4096 * p ≤ x ∧ x < 4096 * (p + 1) then 0 else look 0 s.boat.mem x := by
  have hkept := look_filter_key (0 : Byte) (fun k => decide (k < 4096 * p) || decide (4096 * (p + 1) ≤ k)) s.boat.mem x
  refine hkept.trans ?_
  by_cases hin : 4096 * p ≤ x ∧ x < 4096 * (p + 1)
  · rw [if_pos hin, if_neg (by simp; omega)]
  · rw [if_neg hin, if_pos (by simp; omega)]

theorem flashAt_flashProgram (n : Nvm) (a x : Nat) (bs : List Byte) (h : wf 0xFF n.mem = true) :
    flashAt (flashProgram n a bs) x = if a ≤ x then flashAt n x &&& (bs[x - a]?).getD 0xFF else flashAt n x := by
  induction bs generalizing a n with
  | nil => simpa [flashProgram] using fun _ => (BitVec.and_allOnes (x := flashAt n x)).symm
  | cons b bs ih =>
    rw [flashProgram]
    obtain hlt | rfl | hgt := Nat.lt_trichotomy x a
    · rw [flashAt_programmed _ _ _ _ (by omega), if_neg (by omega), flashAt, look_put_other _ _ _ _ _ hlt.ne, flashAt]
    · rw [flashAt_programmed _ _ _ _ (by omega), if_pos le_rfl, Nat.sub_self, flashAt, look_put_same _ _ _ _ h]
      rfl
    · rw [ih _ _ (wf_put _ _ _ _ h), if_pos (Nat.succ_le_of_lt hgt), if_pos hgt.le, flashAt, look_put_other _ _ _ _ _ hgt.ne', flashAt,
        show x - a = x - (a + 1) + 1 by omega, List.getElem?_cons_succ]

/-- Settles O37, byte by byte along the stored string, and by the addresses that a cleared range leaves out. -/
theorem memoryStoresExactly : Obligations.MemoryStoresExactly := by
  unfold Obligations.MemoryStoresExactly
  refine ⟨fun m a x bs h => ⟨wf_memBytes a bs m h, look_memBytes a x bs m h⟩,
    fun s p x h => ⟨wf_memZero p s h, look_memZero p x s⟩,
    fun n a x bs h => ⟨wf_flashProgram n a bs h, flashAt_flashProgram n a x bs h⟩,
    fun n a len x h => ⟨wf_flashErase n a len h, (flashAt_erased n a len x).trans ?_⟩⟩
  by_cases hin : a ≤ x ∧ x < a + len
  · rw [if_pos hin, if_neg (by omega)]
  · rw [if_neg hin, if_pos (by omega)]

end Sys2Proof.Machine
end

section
/-!
SUPPORT. The pages of the Boathouse (R255 to R258, R261 to R263, R267): what the pages are after a request at the ports, after an
eviction and after a scrub, what the host's register and window do, and the statement about them.
-/
namespace Sys2Proof.Machine

open Sys2Proof

/-! ## A request at the ports (R255 to R258) -/

section Requests

variable {s u : State} {h n cap replies p q : Nat} {g : Grant} {r a b : PageReq} {rest : List Nat}

/-- What a request leaves alone and the next one reads. -/
def poolFacts (s : State) : Fab × Bool × Nat := (s.fab, s.boat.ready, s.boat.hostBudget)

theorem allocate_keeps (halloc : allocate h n cap replies s = (g, u)) : poolFacts u = poolFacts s := by
  suffices hkept : poolFacts (allocate h n cap replies s).2 = poolFacts s by rwa [halloc] at hkept
  unfold allocate
  dsimp only
  split
  · rfl
  · split
    · split
      · rfl
      · rfl
    · exact foldl_keeps (part := poolFacts) (f := fun t p => takePage h cap p t) (fun _ _ => rfl) _ _

theorem crcFor_of_fab (hfab : u.fab = s.fab) (src cls : Nat) : crcFor u src cls = crcFor s src cls := by
  have hroute : routeAt u = routeAt s := by funext i; simp only [routeAt, hfab]
  simp only [crcFor, routeFor, hroute]

/-- The reference that answers a request is the last frame of SRC 0x405. -/
theorem reference_sent (hkept : poolFacts u = poolFacts s) (ref : Word) : look [] (sendFrame 0x405 5 [ref] u).fab.sent 0x405 =
    frameWords 0x405 (look 0 s.fab.srcSeq 0x405) 5 0 (crcFor s 0x405 5) [ref] := by
  have hfab : u.fab = s.fab := congrArg Prod.fst hkept
  rw [sendFrame_sent (List.cons_ne_nil _ _), hfab, crcFor_of_fab hfab]

theorem servePage_takes (hbudget : (heldPages s r.holder).length + 1 ≤ budgetOf s r.holder) (hfree : freePages s = p :: rest) :
    ∃ u, servePage r s = sendFrame 0x405 5 [pageRef (p, ((s.page p).gen + 1) % 4096)] u ∧ poolFacts u = poolFacts s ∧
      u.cox = s.cox ∧ u.boat.pages = put {} s.boat.pages p (pageTaken s r.holder 0 p) := by
  obtain ⟨u, halloc, hcox, hpages⟩ := allocate_takes (cap := 0) (replies := 1) hbudget hfree
  exact ⟨u, by rw [servePage, halloc], allocate_keeps halloc, hcox, hpages⟩

theorem allocate_evicting (hbudget : budgetOf s h < (heldPages s h).length + n) :
    (allocate h n cap replies s).2.boat.evicting = s.boat.evicting := by
  unfold allocate
  dsimp only
  rw [if_pos hbudget]

theorem servePage_overBudget (hbudget : budgetOf s r.holder < (heldPages s r.holder).length + 1) :
    ∃ u, servePage r s = sendFrame 0x405 5 [nullReference 2] u ∧ poolFacts u = poolFacts s ∧ u.boat.pages = s.boat.pages ∧
      u.boat.evicting = s.boat.evicting := by
  obtain ⟨u, halloc, _, hpages⟩ := allocate_overBudget (cap := 0) (replies := 1) hbudget
  have hevicting := allocate_evicting (cap := 0) (replies := 1) hbudget
  rw [halloc] at hevicting
  exact ⟨u, by rw [servePage, halloc]; rfl, allocate_keeps halloc, hpages, hevicting⟩

theorem servePage_starves (hbudget : (heldPages s r.holder).length + 1 ≤ budgetOf s r.holder) (hfree : freePages s = []) :
    ∃ u, servePage r s = sendFrame 0x405 5 [nullReference 1] u ∧ poolFacts u = poolFacts s ∧ u.boat.pages = s.boat.pages ∧
      u.boat.evicting = true := by
  obtain ⟨u, halloc, _, hpages, hevicting⟩ := allocate_starves (cap := 0) (replies := 1) hbudget hfree
  exact ⟨u, by rw [servePage, halloc]; rfl, allocate_keeps halloc, hpages, hevicting⟩

theorem serveAll_one : serveAll 1 [r] s = servePage r s := by
  simp only [serveAll, pickTwo, List.length_singleton, Nat.one_le_ofNat, if_true, List.foldl_cons, List.foldl_nil]

/-- Of two requests the lower port's is decided first, whatever their order in the queue. -/
theorem serveAll_two (hport : a.port < b.port) : serveAll 2 [b, a] s = servePage b (servePage a s) := by
  have hpick : ∀ ptr, pickTwo ptr [b, a] = ([a, b], ptr) := fun ptr => by
    simp only [pickTwo, List.length_cons, List.length_nil, Nat.reduceAdd, le_refl, if_true, if_neg hport.not_ge]
  have hrest : [b, a].filter (fun r => !([a, b].contains r)) = [] := by simp
  have hnil : ∀ t, serveAll 1 [] t = t := fun t => by simp [serveAll, pickTwo]
  unfold serveAll
  rw [hpick]
  dsimp only
  rw [hrest, hnil]
  rfl

/-! A page taken by one holder leaves another holder's pages, and its own number is gone from the free ones. -/

section Taken

variable (hpages : u.boat.pages = put {} s.boat.pages p (pageTaken s h cap p))
include hpages

theorem page_taken : u.page p = pageTaken s h cap p := by
  rw [State.page, hpages, look_put_ne _ _ _ _ (pageTaken_ne s h cap p)]

theorem page_untaken (hq : q ≠ p) : u.page q = s.page q := by
  rw [State.page, hpages, look_put_other _ _ _ _ _ hq, State.page]

theorem heldPages_other {k : Nat} (hk : h ≠ k) (hfree : (s.page p).state = .free) : heldPages u k = heldPages s k := by
  refine List.filter_congr fun q _ => ?_
  by_cases hq : q = p
  · subst hq
    rw [page_taken hpages, hfree]
    simp [pageTaken, hk]
  · rw [page_untaken hpages hq]

theorem freePages_taken (hready : u.boat.ready = s.boat.ready) (hfree : freePages s = p :: rest) : freePages u = rest := by
  have hon : s.boat.ready = true := by
    by_contra hoff
    rw [freePages, if_neg hoff] at hfree
    exact List.noConfusion rfl (heq_of_eq hfree)
  rw [freePages, if_pos hon] at hfree
  have hnodup : (p :: rest).Nodup := hfree ▸ (List.nodup_range.map fun i j hij => by omega).filter _
  have hstill : ∀ q, decide ((u.page q).state = .free) = (decide (q ≠ p) && decide ((s.page q).state = .free)) := fun q => by
    by_cases hq : q = p
    · subst hq
      rw [page_taken hpages]
      simp [pageTaken]
    · rw [page_untaken hpages hq]
      simp [hq]
  rw [freePages, hready, if_pos hon, List.filter_congr fun q _ => hstill q, ← List.filter_filter, hfree,
    List.filter_cons_of_neg (by simp), List.filter_eq_self.2]
  exact fun q hq => decide_eq_true fun e => (List.nodup_cons.1 hnodup).1 (e ▸ hq)

end Taken

theorem budgetOf_kept (hcox : u.cox = s.cox) (hkept : poolFacts u = poolFacts s) (k : Nat) : budgetOf u k = budgetOf s k := by
  have hhost : u.boat.hostBudget = s.boat.hostBudget := congrArg (·.2.2) hkept
  simp only [budgetOf, State.task, hcox, hhost]

theorem free_of_freePages (hfree : freePages s = p :: rest) : (s.page p).state = .free := by
  have hmem : p ∈ freePages s := hfree ▸ List.mem_cons_self
  unfold freePages at hmem
  split at hmem
  · exact of_decide_eq_true (List.mem_filter.1 hmem).2
  · exact absurd hmem List.not_mem_nil

/-- Two requests of different holders: the first takes the lowest free page, the second the next. -/
theorem servePage_servePage (hholder : a.holder ≠ b.holder) (ha : (heldPages s a.holder).length + 1 ≤ budgetOf s a.holder)
    (hb : (heldPages s b.holder).length + 1 ≤ budgetOf s b.holder) (hfree : freePages s = p :: q :: rest) :
    ((servePage b (servePage a s)).page p).state = .held ∧ ((servePage b (servePage a s)).page p).holder = a.holder ∧
      ((servePage b (servePage a s)).page q).state = .held ∧ ((servePage b (servePage a s)).page q).holder = b.holder := by
  obtain ⟨u, hserved, hkept, hcox, hpages⟩ := servePage_takes ha hfree
  have hnext : freePages u = q :: rest := freePages_taken hpages (congrArg (·.2.1) hkept) hfree
  have hheld : heldPages u b.holder = heldPages s b.holder := heldPages_other hpages hholder (free_of_freePages hfree)
  rw [hserved]
  generalize hv : sendFrame 0x405 5 _ u = v
  have hvq : q ≠ p := fun e => by
    have hstate := free_of_freePages hnext
    rw [e, page_taken hpages] at hstate
    exact PageState.noConfusion hstate
  obtain ⟨w, hserved', _, _, hpages'⟩ := servePage_takes (r := b) (s := v) (p := q) (rest := rest)
    (by subst hv; exact (congrArg (List.length · + 1) hheld).trans_le (hb.trans_eq (budgetOf_kept hcox hkept _).symm))
    (by subst hv; exact hnext)
  have hp : (sendFrame 0x405 5 [pageRef (q, ((v.page q).gen + 1) % 4096)] w).page p = pageTaken s a.holder 0 p := by
    refine (page_untaken hpages' hvq.symm).trans ?_
    subst hv
    exact page_taken hpages
  have hq : (sendFrame 0x405 5 [pageRef (q, ((v.page q).gen + 1) % 4096)] w).page q = pageTaken v b.holder 0 q := page_taken hpages'
  rw [hserved', hp, hq]
  exact ⟨rfl, rfl, rfl, rfl⟩

end Requests

/-! ## Evictions (R261, R262) -/

section Evictions

variable {s : State} {p q : Nat} {x : Capture}

/-- The page waits for its scrub. -/
def Scrubbed (s : State) (p : Nat) : Prop := (s.page p).state = .scrub ∧ (s.page p).holder = 0

theorem dropPage_page (p : Nat) (s : State) : (dropPage p s).page p = { s.page p with state := .scrub, holder := 0, cap := 0 } :=
  State.page_setPage_ne (ne_of_apply_ne BoatPage.state (by simp))

theorem dropPage_page_other (hq : q ≠ p) (s : State) : (dropPage p s).page q = s.page q := State.page_setPage_other hq

theorem dropPage_scrubs (p : Nat) (s : State) : Scrubbed (dropPage p s) p := by
  rw [Scrubbed, dropPage_page]
  exact ⟨rfl, rfl⟩

theorem dropPage_scrubbed (h : Scrubbed s q) : Scrubbed (dropPage p s) q := by
  by_cases hq : q = p
  · subst hq
    exact dropPage_scrubs q s
  · rw [Scrubbed, dropPage_page_other hq]
    exact h

theorem evictPages_scrubbed {n : Nat} {cur : Option Capture} {lost : List (Capture × List (Nat × Nat))} (h : Scrubbed s q) :
    Scrubbed (evictPages n cur lost s).2 q := by
  induction n generalizing cur lost s with
  | zero => exact h
  | succ n ih =>
    unfold evictPages
    extract_lets now c
    clear_value c
    split
    · exact h
    · split
      · exact h
      · exact ih (dropPage_scrubbed h)

/-- The first page that an eviction takes. -/
theorem evictPages_takes {n : Nat} (hchoice : evictChoice s = some x) (hpage : oldestPage s x = some p) :
    Scrubbed (evictPages (n + 1) none [] s).2 p := by
  unfold evictPages
  dsimp only [Option.bind_none]
  rw [hchoice]
  dsimp only
  rw [hpage]
  exact evictPages_scrubbed (dropPage_scrubs p _)

theorem evictPages_nothing {n : Nat} (hchoice : evictChoice s = none) : evictPages n none [] s = ([], s) := by
  cases n with
  | zero => rfl
  | succ n =>
    unfold evictPages
    dsimp only [Option.bind_none]
    rw [hchoice]

/-- What tells the holders of an eviction's outcome leaves the pages as they are. -/
theorem evictionDone_pages (hevicting : s.boat.evicting = true) : (evictionDone s).boat.evicting = false ∧
    (evictionDone s).boat.pages = (evictPages s.boat.reclaim none [] s).2.boat.pages := by
  rw [evictionDone, if_pos hevicting]
  generalize evictPages s.boat.reclaim none [] s = r
  obtain ⟨lost, t⟩ := r
  have hkept := foldl_keeps (part := State.boat) (f := fun t e => capFrame 2 e.1 (capPages t e.1.serial) 0 e.2 t) (fun _ _ => rfl)
    lost.reverse { t with boat := { t.boat with evicting := false } }
  dsimp only at hkept ⊢
  rw [hkept]
  exact ⟨rfl, rfl⟩

theorem evictionDone_scrubs (hevicting : s.boat.evicting = true) (hreclaim : 0 < s.boat.reclaim)
    (hchoice : evictChoice s = some x) (hpage : oldestPage s x = some p) : Scrubbed (evictionDone s) p := by
  obtain ⟨n, hn⟩ := Nat.exists_eq_add_one.2 hreclaim
  have hscrubbed := evictPages_takes (n := n) hchoice hpage
  rw [Scrubbed, State.page] at hscrubbed ⊢
  rw [(evictionDone_pages hevicting).2, hn]
  exact hscrubbed

theorem evictionDone_nothing (hevicting : s.boat.evicting = true) (hchoice : evictChoice s = none) :
    evictionDone s = { s with boat := { s.boat with evicting := false } } := by
  rw [evictionDone, if_pos hevicting, evictPages_nothing hchoice]
  rfl

end Evictions

/-! ## The host's free and its window (R262, R267) -/

section Window

variable {s : State} {p o : Nat} {ref v : Word}

theorem hostFree_held (h : refPage s 0x400 ref = some p) : hostFree ref s = dropPage p s := by rw [hostFree, h]

theorem hostFree_refused (h : refPage s 0x400 ref = none) : hostFree ref s = countWinref 0x000C00A8 s := by rw [hostFree, h]

theorem window_page (ho : o < 4096) : (0x01000000 + 0x1000 * p + o - windowBase) / 4096 = p := by
  unfold windowBase
  omega

theorem window_word (ho : o < 4096) : (0x01000000 + 0x1000 * p + o - windowBase) / 4 * 4 = 4096 * p + o / 4 * 4 := by
  unfold windowBase
  omega

theorem windowWrite_held (hlow : 800 ≤ p) (hhigh : p < 4096) (ho : o < 4096) (hstate : (s.page p).state = .held)
    (hholder : (s.page p).holder = 0x400) :
    windowWrite (0x01000000 + 0x1000 * p + o) v s = accessBank (pageBank p) 9 (memPut (4096 * p + o / 4 * 4) v s) := by
  unfold windowWrite
  dsimp only
  rw [window_page ho, window_word ho, if_pos ⟨by unfold windowBase; omega, hlow, hhigh, hstate, hholder⟩]

theorem windowWrite_refused (ho : o < 4096) (h : (s.page p).state ≠ .held ∨ (s.page p).holder ≠ 0x400) :
    windowWrite (0x01000000 + 0x1000 * p + o) v s = countWinref (0x01000000 + 0x1000 * p + o) s := by
  unfold windowWrite
  dsimp only
  rw [window_page ho, if_neg]
  rintro ⟨_, _, _, hstate, hholder⟩
  exact h.elim (· hstate) (· hholder)

end Window

/-- Settles O38, command by command. -/
theorem pagesOfTheBoathouse : Obligations.PagesOfTheBoathouse := by
  unfold Obligations.PagesOfTheBoathouse
  intro s hup
  refine ⟨?takes, ?overBudget, ?starves, ?two, ?nothing, ?evicts, ?idle, ?scrubs, ?frees, ?freeRefused, ?writes, ?writeRefused⟩
  case takes =>
    intro r p rest hbudget hfree
    obtain ⟨u, hserved, hkept, _, hpages⟩ := servePage_takes hbudget hfree
    refine ⟨_, run_gives hup (serveAll_one.trans hserved), ?_⟩
    have hpage : (sendFrame 0x405 5 [pageRef (p, ((s.page p).gen + 1) % 4096)] u).page p = pageTaken s r.holder 0 p :=
      page_taken hpages
    rw [hpage]
    exact ⟨rfl, rfl, rfl, fun q hq => page_untaken hpages hq, reference_sent hkept _⟩
  case overBudget =>
    intro r hbudget
    obtain ⟨u, hserved, hkept, hpages, hevicting⟩ := servePage_overBudget hbudget
    exact ⟨_, run_gives hup (serveAll_one.trans hserved), hpages, hevicting, reference_sent hkept _⟩
  case starves =>
    intro r hbudget hfree
    obtain ⟨u, hserved, hkept, hpages, hevicting⟩ := servePage_starves hbudget hfree
    exact ⟨_, run_gives hup (serveAll_one.trans hserved), hpages, hevicting, reference_sent hkept _⟩
  case two =>
    intro a b p q rest hport hholder ha hb hfree
    obtain ⟨hpheld, hpholder, hqheld, hqholder⟩ := servePage_servePage hholder ha hb hfree
    exact ⟨_, run_gives hup (serveAll_two hport), hpholder, hqholder, hpheld, hqheld⟩
  case nothing => exact fun hevicting hchoice => run_gives hup (evictionDone_nothing hevicting hchoice)
  case evicts =>
    intro x p hevicting hreclaim hchoice hpage
    obtain ⟨hstate, hholder⟩ := evictionDone_scrubs hevicting hreclaim hchoice hpage
    exact ⟨_, run_up _ _ hup, (evictionDone_pages hevicting).1, hstate, hholder⟩
  case idle => exact fun hevicting => run_gives hup (if_neg (by simp [hevicting]))
  case scrubs => exact fun p hscrub => run_gives hup (if_pos hscrub)
  case frees => exact fun _ ref p h => run_gives hup (hostFree_held h)
  case freeRefused => exact fun _ ref h => run_gives hup (hostFree_refused h)
  case writes =>
    exact fun _ p o v hlow hhigh ho hstate hholder => run_gives hup (windowWrite_held hlow hhigh ho hstate hholder)
  case writeRefused => exact fun _ p o v _ ho h => run_gives hup (windowWrite_refused ho h)

end Sys2Proof.Machine
end

section
/-!
SUPPORT. Streams and captures (R254, R259, R260): the record of a stream frame, the capture that a request begins with all its pages,
its refusal on a channel that is not ready, and the statement about them.
-/
namespace Sys2Proof.Machine

open Sys2Proof

/-! ## Stream records (R254) -/

section Streams

variable {s : State} {ch : Nat} {ws : List Word}

theorem streamSlots_boat (b n : Nat) (s : State) :
    (streamSlots b n s).boat = { s.boat with slots := (streamSlots b n s).boat.slots, waits := (streamSlots b n s).boat.waits } := by
  unfold streamSlots
  split
  · rfl
  · rfl

theorem streamArrives_unhooked {intact : Bool} (h : hookMet s (onStream ch) = none) : streamArrives ch intact s = streamWrite ch intact s := by
  rw [streamArrives, h]

/-- The stream of a channel after an intact frame and after a damaged one. -/
def streamGone (x : Stream) : Stream := { x with next := if x.next < 1504 then x.next + 1 else 0, count := x.count + 1 }
def streamDropped (x : Stream) : Stream := { x with drop := if x.drop = 0xFFFF then 0xFFFF else x.drop + 1 }

theorem streamGone_ne (x : Stream) : streamGone x ≠ {} := ne_of_apply_ne Stream.count (Nat.succ_ne_zero _)

theorem streamDropped_ne (x : Stream) : streamDropped x ≠ {} := by
  refine ne_of_apply_ne Stream.drop ?_
  unfold streamDropped
  dsimp only
  split
  · decide
  · bv_omega

/-- The state with a record written at the stream's next index. -/
def recorded (ch : Nat) (ws : List Word) (s : State) : State :=
  streamSlots (pageBank (25 * ch + 68 * (look {} s.boat.streams ch).next / 4096)) ws.length
    (memPuts (4096 * 25 * ch + 4 * 17 * (look {} s.boat.streams ch).next) ws (s.setAin ch { s.ain ch with frame := none }))

theorem recorded_boat : (recorded ch ws s).boat.caps = s.boat.caps ∧ (recorded ch ws s).boat.streams = s.boat.streams ∧
    (recorded ch ws s).boat.mem =
      memBytes (102400 * ch + 68 * (look {} s.boat.streams ch).next) (ws.flatMap (fun w => leBytes w.toNat 4)) s.boat.mem := by
  rw [recorded, streamSlots_boat]
  exact ⟨rfl, rfl, rfl⟩

/-- An intact frame that no capture of the channel takes is its record alone. -/
theorem streamWrite_intact (hframe : (s.ain ch).frame = some ws) (hcaps : ∀ c ∈ s.boat.caps, c.filling = true → c.chan ≠ some ch) :
    streamWrite ch true s = { recorded ch ws s with boat := { (recorded ch ws s).boat with
      streams := put {} s.boat.streams ch (streamGone (look {} s.boat.streams ch)) } } := by
  obtain ⟨hkept, hstreams, _⟩ := recorded_boat (s := s) (ch := ch) (ws := ws)
  have hnone : (recorded ch ws s).boat.caps.filter (fun c => c.filling && decide (c.chan = some ch)) = [] := by
    rw [hkept]
    exact List.filter_eq_nil_iff.2 fun c hc => by simpa using hcaps c hc
  have hwrite : streamWrite ch true s = ((recorded ch ws s).boat.caps.filter
      (fun c => c.filling && decide (c.chan = some ch))).foldl (fun t c => capWrite c (ws.headD 0) (ws.drop 1) t)
      { recorded ch ws s with boat := { (recorded ch ws s).boat with
        streams := put {} (recorded ch ws s).boat.streams ch (streamGone (look {} s.boat.streams ch)) } } := by
    unfold streamWrite
    dsimp only
    rw [hframe]
    rfl
  rw [hwrite, hnone, hstreams]
  rfl

theorem streamWrite_damaged (hframe : (s.ain ch).frame = some ws) : (streamWrite ch false s).boat.mem = s.boat.mem ∧
    look {} (streamWrite ch false s).boat.streams ch = streamDropped (look {} s.boat.streams ch) := by
  unfold streamWrite
  dsimp only
  rw [hframe]
  exact ⟨rfl, look_put_ne _ _ _ _ (streamDropped_ne _)⟩

end Streams

/-! ## Captures (R259) -/

section Captures

variable {s u : State} {h n cap replies prio ch count : Nat} {evict : Bool} {refs : List (Nat × Nat)}

theorem allocate_whole (hbudget : (heldPages s h).length + n ≤ budgetOf s h) (hfree : n ≤ (freePages s).length) :
    ∃ refs u, allocate h n cap replies s = (.pages refs, u) ∧ refs.map (·.1) = (freePages s).take n ∧ u.boat.caps = s.boat.caps := by
  unfold allocate
  dsimp only
  rw [if_neg hbudget.not_gt, if_neg hfree.not_gt]
  refine ⟨_, _, rfl, ?_, ?_⟩
  · rw [List.map_map]
    exact List.map_id _
  · exact foldl_keeps (part := fun t => t.boat.caps) (f := fun t p => takePage h cap p t) (fun _ _ => rfl) _ _

theorem newCapture_caps {chan : Option Nat} : ∃ serial ctx, (newCapture h prio evict chan refs count s).boat.caps =
    s.boat.caps ++ [{ serial, ctx, holder := h, prio, evict, chan, pages := refs, count }] := ⟨_, _, rfl⟩

theorem requestCapture_notReady (hroom : fillingCount s < 64) (hready : channelReady s ch = false) :
    requestCapture h prio evict ch count s = (4, s) := by
  rw [requestCapture, if_neg hroom.not_ge, if_pos (by simp [hready])]

/-- The capture of a channel that a request begins. -/
structure Begins (s u : State) (c : Capture) (h ch samples : Nat) : Prop where
  caps : u.boat.caps = s.boat.caps ++ [c]
  filling : c.filling = true
  holder : c.holder = h
  chan : c.chan = some ch
  count : c.count = samples
  written : c.written = 0
  pages : c.pages.map (·.1) = (freePages s).take (pagesFor samples)

theorem Begins.pages_length {c : Capture} (hbegins : Begins s u c h ch count) (hfree : pagesFor count ≤ (freePages s).length) :
    c.pages.length = pagesFor count := by
  rw [← List.length_map (f := (·.1)), hbegins.pages, List.length_take, Nat.min_eq_left hfree]

theorem requestCapture_begins (hroom : fillingCount s < 64) (hready : channelReady s ch = true)
    (hbudget : (heldPages s h).length + pagesFor count ≤ budgetOf s h) (hfree : pagesFor count ≤ (freePages s).length) :
    ∃ u c, requestCapture h prio evict ch count s = (0, u) ∧ Begins s u c h ch count := by
  obtain ⟨refs, t, halloc, hrefs, hcaps⟩ := allocate_whole (cap := s.boat.serial + 1) (replies := 1) hbudget hfree
  obtain ⟨serial, ctx, hnew⟩ := newCapture_caps (s := t) (h := h) (prio := prio) (evict := evict) (chan := some ch) (refs := refs)
    (count := count)
  refine ⟨_, _, ?_, ⟨hnew.trans (by rw [hcaps]), rfl, rfl, rfl, rfl, rfl, hrefs⟩⟩
  rw [requestCapture, if_neg hroom.not_ge, if_neg (by simp [hready]), halloc]

end Captures

/-! ## The requests of a task and of the host (R259) -/

section Requests

variable {s u : State} {t : Nat} {w0 w1 v : Word}

theorem holderTask_of_lt (ht : t < 512) : holderTask (0x100 + t) = some t := by
  rw [holderTask, if_pos (by omega), Nat.add_sub_cancel_left]

theorem taskCapture_accepted (ht : t < 512) (hop : bits w0 31 24 = 0x10)
    (h : requestCapture (0x100 + t) (min (bits w0 10 8) (holderPrio s (0x100 + t))) (w0.getLsbD 11) (bits w0 4 0)
      (bits w1 15 0 + 1) s = (0, u)) : taskCapture (0x100 + t) w0 w1 s = u := by
  rw [taskCapture, if_pos ⟨hop, by rw [holderTask_of_lt ht]; rfl⟩, h]
  rfl

theorem taskCapture_notReady (ht : t < 512) (hop : bits w0 31 24 = 0x10) (hroom : fillingCount s < 64)
    (hready : channelReady s (bits w0 4 0) = false) :
    taskCapture (0x100 + t) w0 w1 s = sendFrame 0x405 5 [pack [(4, 24, 8)], 0, 4] s := by
  rw [taskCapture, if_pos ⟨hop, by rw [holderTask_of_lt ht]; rfl⟩, requestCapture_notReady hroom hready]
  rfl

theorem hostCapture_notReady (hroom : fillingCount s < 64) (hready : channelReady s (bits v 4 0) = false) :
    hostCapture v s = { refuse 0x000C00A0 s with boat := { s.boat with hostStatus := 7, hostCtx := 0, hostPages := 0 } } := by
  rw [hostCapture, requestCapture_notReady hroom hready]
  dsimp only
  cases s.boat.caps.getLast? with
  | none => rfl
  | some c => rfl

theorem hostCapture_accepted {c : Capture} (h : requestCapture 0x400 0 (v.getLsbD 5) (bits v 4 0) (bits v 31 16 + 1) s = (0, u))
    (hcaps : u.boat.caps = s.boat.caps ++ [c]) : hostCapture v s =
      { u with boat := { u.boat with hostStatus := 1, hostCtx := c.ctx, hostPages := pagesFor (bits v 31 16 + 1) } } := by
  have hlast : u.boat.caps.getLast? = some c := by rw [hcaps, List.getLast?_concat]
  rw [hostCapture, h]
  dsimp only
  rw [hlast]
  rfl

end Requests

/-- Settles O39, command by command. -/
theorem streamsAndCaptures : Obligations.StreamsAndCaptures := by
  unfold Obligations.StreamsAndCaptures
  intro s ch hup hch
  refine ⟨?streams, ?task, ?host⟩
  case streams =>
    intro ws hframe hhook hcaps
    have hrun : ∀ intact, exec (.streamFrameWrite ch intact) s = .next (streamWrite ch intact s) :=
      fun intact => run_gives hup (streamArrives_unhooked hhook)
    obtain ⟨_, _, hmem⟩ := recorded_boat (s := s) (ch := ch) (ws := ws)
    have hgone := look_put_ne ({} : Stream) s.boat.streams ch _ (streamGone_ne (look {} s.boat.streams ch))
    obtain ⟨hmem', hdropped⟩ := streamWrite_damaged hframe
    exact ⟨⟨_, (hrun true).trans (congrArg _ (streamWrite_intact hframe hcaps)), hmem, congrArg Stream.count hgone,
      congrArg Stream.next hgone⟩, ⟨_, hrun false, hmem', congrArg Stream.drop hdropped⟩⟩
  case task =>
    rintro t w0 w1 ht hop rfl hroom
    refine ⟨fun hready => run_gives hup (taskCapture_notReady ht hop hroom hready), ?_⟩
    rintro n rfl hready hbudget hfree
    obtain ⟨u, c, hrequest, hbegins⟩ := requestCapture_begins hroom hready hbudget hfree
    exact ⟨u, c, run_gives hup (taskCapture_accepted ht hop hrequest), hbegins.caps, hbegins.filling, hbegins.holder, hbegins.chan,
      hbegins.count, hbegins.written, hbegins.pages, hbegins.pages_length hfree⟩
  case host =>
    rintro _ v rfl hroom
    refine ⟨fun hready => run_gives hup (hostCapture_notReady hroom hready), ?_⟩
    rintro n rfl hready hbudget hfree
    obtain ⟨u, c, hrequest, hbegins⟩ := requestCapture_begins (h := 0x400) hroom hready hbudget hfree
    exact ⟨_, c, run_gives hup (hostCapture_accepted hrequest hbegins.caps), hbegins.caps, hbegins.holder, hbegins.chan,
      hbegins.pages_length hfree, rfl, rfl, rfl⟩

end Sys2Proof.Machine
end

section
/-!
SUPPORT. The layout of a telegram (R394): its fields behind one another, the bits of its BOOL and NVALID words, its NUM words and its
check value, and the statement that a lane reads back what TEL_OUT builds.
-/
namespace Sys2Proof.Machine

open Sys2Proof

/-! ## Fields behind one another -/

theorem drop_leBytes_append {n k o : Nat} (h : k ≤ o) (bs : List Byte) : (leBytes n k ++ bs).drop o = bs.drop (o - k) := by
  rw [List.drop_append, List.drop_of_length_le (by rw [leBytes_length]; exact h), leBytes_length, List.nil_append]

theorem field_behind {n k o : Nat} (h : k ≤ o) (bs : List Byte) (len : Nat) : field (leBytes n k ++ bs) o len = field bs (o - k) len := by
  rw [field, drop_leBytes_append h, field]

theorem ofNat_ofLe_leBytes (w : Word) : BitVec.ofNat 32 (ofLe (leBytes w.toNat 4)) = w := by
  rw [ofLe_leBytes, Nat.mod_eq_of_lt (by simpa using w.isLt), BitVec.ofNat_toNat, BitVec.setWidth_eq]

theorem takeWords_flatten (ws : List Word) (post : List Byte) :
    takeWords ((ws.map (fun w => leBytes w.toNat 4)).flatten ++ post) ws.length = ws := by
  induction ws with
  | nil => rfl
  | cons w ws ih =>
    have hlen := leBytes_length w.toNat 4
    rw [List.map_cons, List.flatten_cons, List.length_cons, takeWords, List.append_assoc, List.take_left' hlen, List.drop_left' hlen,
      ofNat_ofLe_leBytes, ih]

theorem flatten_words_length (ws : List Word) : ((ws.map (fun w => leBytes w.toNat 4)).flatten).length = 4 * ws.length := by
  rw [List.length_flatten, List.map_map, List.map_congr_left (g := fun _ => 4) (fun w _ => leBytes_length w.toNat 4), List.map_const',
    List.sum_replicate_nat, Nat.mul_comm]

/-! ## Flags laid side by side -/

/-- Flags at their places, added up, are the number whose bits they are. -/
theorem foldl_flags {α : Type} (p : α → Bool) (l : List α) (k acc : Nat) :
    ((l.zipIdx k).map (fun e => if p e.1 then 2 ^ e.2 else 0)).foldl (· + ·) acc =
      acc + 2 ^ k * (BitVec.ofBoolListLE (l.map p)).toNat := by
  induction l generalizing k acc with
  | nil => rfl
  | cons a l ih =>
    rw [List.zipIdx_cons, List.map_cons, List.foldl_cons, ih, List.map_cons, BitVec.ofBoolListLE, BitVec.toNat_concat, pow_succ]
    cases p a
    · simp; ring
    · simp; ring

theorem flags_getLsbD {α : Type} {w : Nat} (p : α → Bool) {l : List α} (h : l.length ≤ w) (i : Nat) :
    (BitVec.ofNat w ((l.zipIdx.map (fun e => if p e.1 then 2 ^ e.2 else 0)).foldl (· + ·) 0)).getLsbD i = (l[i]?.map p).getD false := by
  rw [foldl_flags, pow_zero, one_mul, zero_add, BitVec.getLsbD_ofNat, BitVec.testBit_toNat, BitVec.getLsbD_ofBoolListLE,
    List.getD_eq_getElem?_getD, List.getElem?_map]
  by_cases hi : i < w
  · rw [decide_eq_true hi, Bool.true_and]
  · rw [List.getElem?_eq_none (h.trans (not_lt.1 hi))]
    simp

theorem flags_lt {α : Type} {w : Nat} (p : α → Bool) {l : List α} (h : l.length ≤ w) :
    (l.zipIdx.map (fun e => if p e.1 then 2 ^ e.2 else 0)).foldl (· + ·) 0 < 2 ^ w := by
  rw [foldl_flags, pow_zero, one_mul, zero_add]
  refine (BitVec.isLt _).trans_le (Nat.pow_le_pow_right two_pos ?_)
  rwa [List.length_map]

/-! ## The telegram -/

/-- The bytes before the check value: CONN_ID, CN, ECHO, TYPE 1, FLAGS, the BOOL bits, NVALID and the NUM words. -/
def telegramBody (connId : Word) (cn echo flags bools nvalid : Nat) (nums : List Word) : List Byte :=
  leBytes connId.toNat 4 ++ (leBytes cn 2 ++ (leBytes echo 2 ++ (leBytes 1 1 ++ (leBytes flags 1 ++ (leBytes 0 2 ++
    (leBytes bools 8 ++ (leBytes nvalid 1 ++ (leBytes 0 3 ++ (nums.map (fun w => leBytes w.toNat 4)).flatten))))))))

def telegramCrc (connId : Word) (cn : Nat) (body : List Byte) : Word := crc32cFold2 connId (BitVec.ofNat 32 cn) body

section Layout

variable {connId : Word} {cn echo flags bools nvalid : Nat} {nums : List Word} {post : List Byte}

theorem buildTelegram_eq (unsync noEcho : Bool) (bs : List Bool) (ns : List (Option Word)) :
    ∃ body, body = telegramBody connId cn echo ((if unsync then 1 else 0) + (if noEcho then 2 else 0))
        ((bs.zipIdx.map (fun e => if id e.1 then 2 ^ e.2 else 0)).foldl (· + ·) 0)
        ((ns.zipIdx.map (fun e => if e.1.isSome then 2 ^ e.2 else 0)).foldl (· + ·) 0) (ns.map (fun v => v.getD 0)) ∧
      buildTelegram connId cn echo unsync noEcho bs ns = body ++ leBytes (telegramCrc connId cn body).toNat 4 := by
  refine ⟨_, rfl, ?_⟩
  simp only [buildTelegram, telegramBody, telegramCrc, List.append_assoc, List.map_map, Function.comp_def, id]

theorem telegramBody_length : (telegramBody connId cn echo flags bools nvalid nums).length = 24 + 4 * nums.length := by
  simp only [telegramBody, List.length_append, leBytes_length, flatten_words_length]
  omega

/-- What a lane reads at the places of R394, where each number fits its field. -/
theorem telegramBody_fields (hcn : cn < 65536) (hecho : echo < 65536) (hflags : flags < 256) (hbools : bools < 2 ^ 64)
    (hnvalid : nvalid < 256) {tel : List Byte} (htel : tel = telegramBody connId cn echo flags bools nvalid nums ++ post) :
    field tel 0 4 = connId.toNat ∧ field tel 4 2 = cn ∧ field tel 6 2 = echo ∧ field tel 8 1 = 1 ∧ field tel 9 1 = flags ∧
    field tel 12 8 = bools ∧ field tel 20 1 = nvalid ∧ takeWords (tel.drop 24) nums.length = nums := by
  have hid : connId.toNat < 4294967296 := connId.isLt
  have hbits : bools < 18446744073709551616 := hbools
  subst htel
  simp only [telegramBody, List.append_assoc]
  refine ⟨?_, ?_, ?_, ?_, ?_, ?_, ?_, ?words⟩
  case words => simp only [drop_leBytes_append, Nat.reduceLeDiff, Nat.reduceSub, List.drop_zero, takeWords_flatten]
  all_goals
    simp only [field_behind, Nat.reduceLeDiff, Nat.reduceSub, field_leBytes_head, Nat.reducePow, Nat.reduceMod,
      Nat.mod_eq_of_lt hid, Nat.mod_eq_of_lt hcn, Nat.mod_eq_of_lt hecho, Nat.mod_eq_of_lt hflags, Nat.mod_eq_of_lt hbits,
      Nat.mod_eq_of_lt hnvalid]

/-- The telegram that a lane reads. -/
theorem parseTelegram_body (hcn : cn < 65536) (hecho : echo < 65536) (hflags : flags < 256) (hbools : bools < 2 ^ 64)
    (hnvalid : nvalid < 256) {body : List Byte} (hbody : body = telegramBody connId cn echo flags bools nvalid nums) :
    parseTelegram nums.length (body ++ leBytes (telegramCrc connId cn body).toNat 4) =
      some { connId, cn, echo, type := 1, noEcho := flags.testBit 1, bools := BitVec.ofNat 64 bools, nvalid := BitVec.ofNat 8 nvalid,
             nums, crcOk := true } := by
  have hlen : body.length = 24 + 4 * nums.length := hbody ▸ telegramBody_length
  obtain ⟨tel, htel⟩ : ∃ tel, tel = body ++ leBytes (telegramCrc connId cn body).toNat 4 := ⟨_, rfl⟩
  obtain ⟨hid, hcn', hecho', htype, hflags', hbools', hnvalid', hnums⟩ :=
    telegramBody_fields hcn hecho hflags hbools hnvalid (htel.trans (congrArg (· ++ _) hbody))
  have hcheck : BitVec.ofNat 32 (ofLe (tel.drop (24 + 4 * nums.length))) = telegramCrc connId cn body := by
    rw [htel, List.drop_left' hlen, ofNat_ofLe_leBytes]
  have hchecked : tel.take (24 + 4 * nums.length) = body := by rw [htel, List.take_left' hlen]
  rw [← htel, parseTelegram, if_neg (by rw [htel, List.length_append, hlen, leBytes_length]; omega), hcheck, hchecked, hnums]
  simp only [field, List.drop_zero] at hid hcn' hecho' htype hflags' hbools' hnvalid'
  simp only [hid, hcn', hecho', htype, hflags', hbools', hnvalid', BitVec.ofNat_toNat, BitVec.setWidth_eq, telegramCrc, beq_self_eq_true]

end Layout

/-- Settles O22: the bits and words stand where a lane reads them, and the check value is over the same bytes. -/
theorem telegramRoundTrip : Obligations.TelegramRoundTrip := by
  unfold Obligations.TelegramRoundTrip
  intro connId cn echo unsync noEcho bools nums hcn hecho hbools hnums
  obtain ⟨body, hbody, htel⟩ := buildTelegram_eq (connId := connId) (cn := cn) (echo := echo) unsync noEcho bools nums
  have hlen : body.length = 24 + 4 * nums.length := by rw [hbody, telegramBody_length, List.length_map]
  have hflags : (if unsync then 1 else 0) + (if noEcho then 2 else 0) < 256 := by split <;> split <;> omega
  have hparsed := parseTelegram_body hcn hecho hflags (flags_lt id hbools) (flags_lt (w := 8) Option.isSome hnums) hbody
  rw [List.length_map] at hparsed
  rw [htel]
  refine ⟨by rw [List.length_append, hlen, leBytes_length]; omega, _, hparsed, rfl, rfl, rfl, rfl, ?_, rfl, fun i => ?_, fun i => ?_, rfl⟩
  · cases unsync <;> cases noEcho <;> rfl
  · exact (flags_getLsbD id hbools i).trans (by rw [Option.map_id_fun, id])
  · refine (flags_getLsbD Option.isSome hnums i).trans ?_
    cases nums[i]? <;> rfl

end Sys2Proof.Machine
end

section
/-!
SUPPORT. The queue and the OTP (R373, R374): what every command but those of the lifecycle, of the keys and of the boot leaves alone,
how these change the OTP, and the statement that the lifecycle only advances.
-/
namespace Sys2Proof.Machine

open Sys2Proof

/-! ## The queue and the OTP -/

/-- What no command changes but those of the lifecycle, of the keys and of the boot. -/
def lasting (s : State) : List Instr × Otp := (s.pending, s.otp)

section Lasting

variable (s : State)

@[simp] theorem lasting_elsewhere (sys now t0 fresh fab seat lane fld afe tach ring node cox ump bist time host nvm sec net boat alarm crc hook) :
    lasting (State.mk sys now t0 fresh fab seat lane fld afe tach ring node cox ump bist time host s.otp nvm sec net boat alarm crc hook
      s.pending) = lasting s := by rfl

@[simp] theorem lasting_ite {p : Prop} [Decidable p] {t : State} : lasting (if p then s else t) = if p then lasting s else lasting t :=
  apply_ite lasting p s t

@[simp] theorem lasting_foldl {α : Type} {f : State → α → State} (h : ∀ t a, lasting (f t a) = lasting t) (l : List α) :
    lasting (l.foldl f s) = lasting s := foldl_keeps h l s

/-! ### Events, frames and the counters -/

@[simp] theorem lasting_setLane {l : Lane} {d : LaneDie} : lasting (State.setLane s l d) = lasting s := by rfl
@[simp] theorem lasting_setMgr {l : Lane} {m : LaneMgr} : lasting (State.setMgr s l m) = lasting s := by rfl
@[simp] theorem lasting_setSi {n : Nat} {v : Si} : lasting (State.setSi s n v) = lasting s := by rfl
@[simp] theorem lasting_setTp {n : Nat} {v : Tp} : lasting (State.setTp s n v) = lasting s := by rfl
@[simp] theorem lasting_setSo {n : Nat} {v : So} : lasting (State.setSo s n v) = lasting s := by rfl
@[simp] theorem lasting_setCio {n : Nat} {v : Cio} : lasting (State.setCio s n v) = lasting s := by rfl

@[simp] theorem lasting_setGroup {g : Group} {v : GroupSt} : lasting (State.setGroup s g v) = lasting s := by
  rw [setGroup_only]; exact lasting_elsewhere ..

@[simp] theorem lasting_setSupply {g : Supply} {v : SupplySt} : lasting (State.setSupply s g v) = lasting s := by
  rw [setSupply_only]; exact lasting_elsewhere ..

@[simp] theorem lasting_setAin {n : Nat} {v : Ain} : lasting (State.setAin s n v) = lasting s := by rfl
@[simp] theorem lasting_setTach {n : Nat} {v : Tach} : lasting (State.setTach s n v) = lasting s := by rfl
@[simp] theorem lasting_setRg {n : Nat} {v : Ring} : lasting (State.setRg s n v) = lasting s := by rfl
@[simp] theorem lasting_setNd {uid : U64} {v : Node} : lasting (State.setNd s uid v) = lasting s := by rfl
@[simp] theorem lasting_setTask {n : Nat} {v : Task} : lasting (State.setTask s n v) = lasting s := by rfl
@[simp] theorem lasting_setCore {n : Nat} {v : Core} : lasting (State.setCore s n v) = lasting s := by rfl
@[simp] theorem lasting_setPmu {n : Nat} {v : Pmu} : lasting (State.setPmu s n v) = lasting s := by rfl

@[simp] theorem lasting_fresh : lasting (fresh s).2 = lasting s := by
  rw [fresh_only]; exact lasting_elsewhere ..

@[simp] theorem lasting_setEth {p : Nat} {e : EthPort} : lasting (State.setEth s p e) = lasting s := by rfl

@[simp] theorem lasting_ethRx {p : Nat} : lasting (ethRx p s) = lasting s := by
  rw [ethRx_only]; exact lasting_elsewhere ..

@[simp] theorem lasting_ethDrop {p : Nat} : lasting (ethDrop p s) = lasting s := by
  rw [ethDrop_only]; exact lasting_elsewhere ..

@[simp] theorem lasting_ethTx {p q len : Nat} : lasting (ethTx p q len s) = lasting s := by
  rw [ethTx_only]; exact lasting_elsewhere ..

@[simp] theorem lasting_coreSends {q len : Nat} : lasting (coreSends q len s) = lasting s := by
  rw [coreSends_only]; exact lasting_elsewhere ..

@[simp] theorem lasting_coreUnicast {q len : Nat} : lasting (coreUnicast q len s) = lasting s := by
  rw [coreUnicast_only]; exact lasting_elsewhere ..

@[simp] theorem lasting_pushEvent {src cls code : Nat} {data : List Word} {time : Nat} :
    lasting (pushEvent src cls code data time s) = lasting s := by
  rw [pushEvent_only]; exact lasting_elsewhere ..

@[simp] theorem lasting_refuse {addr : Nat} : lasting (refuse addr s) = lasting s := by
  rw [refuse_only]; exact lasting_elsewhere ..

@[simp] theorem lasting_whenever {c : Bool} {f : State → State} (h : ∀ t, lasting (f t) = lasting t) :
    lasting (whenever c f s) = lasting s := by
  simp [whenever, h]

/-! ### The hooks of PERTURB -/

@[simp] theorem lasting_setHk {n : Nat} {k : Hook} : lasting (s.setHk n k) = lasting s := by rfl

@[simp] theorem lasting_holdItem {on : Word → Bool} {n : Nat} {item : Instr} : lasting (holdItem on n item s) = lasting s := by
  rw [holdItem_only]; exact lasting_elsewhere ..

@[simp] theorem lasting_hooked {on : Word → Bool} {item : Instr} {go : State → State} (h : ∀ t, lasting (go t) = lasting t) :
    lasting (hooked on item go s) = lasting s := by
  unfold hooked
  split <;> simp [h]

@[simp] theorem lasting_noteWait {src cls wait : Nat} : lasting (noteWait src cls wait s) = lasting s := by
  rw [noteWait_only]; exact lasting_elsewhere ..

@[simp] theorem lasting_hookedFrame {src cls wait : Nat} {item : Instr} {go : State → State} (h : ∀ t, lasting (go t) = lasting t) :
    lasting (hookedFrame src cls wait item go s) = lasting s := by
  unfold hookedFrame
  split <;> simp [h]

@[simp] theorem lasting_hookTask {t : Nat} : lasting (hookTask t s) = lasting s := by simp [hookTask]

/-! ### The links of the umpire fabric -/

@[simp] theorem lasting_sendFrom {src cls seat since : Nat} {words : List Word} :
    lasting (sendFrom src cls seat since words s) = lasting s := by
  rw [sendFrom_only]; exact lasting_elsewhere ..

@[simp] theorem lasting_sendFrame {src cls : Nat} {words : List Word} : lasting (sendFrame src cls words s) = lasting s := by
  rw [sendFrame_only]; exact lasting_elsewhere ..

@[simp] theorem lasting_laneFrame {l : Lane} {base cls : Nat} {words : List Word} : lasting (laneFrame l base cls words s) = lasting s := by
  rw [laneFrame_only]; exact lasting_elsewhere ..

@[simp] theorem lasting_resetSources {who : Nat} {srcs : List Nat} : lasting (resetSources who srcs s) = lasting s := by rfl

@[simp] theorem lasting_advance {tick : Nat} : lasting (advance tick s) = lasting s := by
  rw [advance_only]; exact lasting_elsewhere ..

@[simp] theorem lasting_idleTick : lasting (idleTick s) = lasting s := by simp [idleTick]
@[simp] theorem lasting_setFcnt {p : Nat} {c : PortCnt} : lasting (State.setFcnt s p c) = lasting s := by rfl
@[simp] theorem lasting_setShownCnt {p : Nat} {c : PortCnt} : lasting (State.setShownCnt s p c) = lasting s := by rfl

@[simp] theorem lasting_countPort {p i n : Nat} : lasting (countPort p i n s) = lasting s := by
  rw [countPort_only]; exact lasting_elsewhere ..

@[simp] theorem lasting_heardFrom {ep src seq : Nat} : lasting (heardFrom ep src seq s) = lasting s := by
  rw [heardFrom_only]; exact lasting_elsewhere ..

@[simp] theorem lasting_frameHeard {ep src : Nat} : lasting (frameHeard ep src s) = lasting s := by rfl

@[simp] theorem lasting_emit {r : Report} : lasting (emit r s) = lasting s := by
  rw [emit_only]; exact lasting_elsewhere ..

@[simp] theorem lasting_report {line code detail : Nat} : lasting (report line code detail s) = lasting s := by
  rw [report_only]; exact lasting_elsewhere ..

@[simp] theorem lasting_laneReport {l : Lane} {code detail : Nat} : lasting (laneReport l code detail s) = lasting s := by
  rw [laneReport_only]; exact lasting_elsewhere ..

@[simp] theorem lasting_laneTelReport {l : Lane} {code : Nat} : lasting (laneTelReport l code s) = lasting s := by
  rw [laneTelReport_only]; exact lasting_elsewhere ..

/-! ### The lanes -/

@[simp] theorem lasting_laneSend {l : Lane} {out : LaneOut} : lasting (laneSend l out s) = lasting s := by
  rw [laneSend_only]; exact lasting_elsewhere ..

@[simp] theorem lasting_flagFaulty {l : Lane} {cause : Nat} : lasting (flagFaulty l cause s) = lasting s := by
  rw [flagFaulty_only]; exact lasting_elsewhere ..

@[simp] theorem lasting_telChanges {l : Lane} {cs : List (Nat × TelState × TelState)} : lasting (telChanges l cs s) = lasting s := by
  simp [telChanges]

@[simp] theorem lasting_evaluate {l : Lane} {im : Image} {a : ImageArrival} : lasting (evaluate l im a s) = lasting s := by
  unfold evaluate
  dsimp only
  split <;> simp

@[simp] theorem lasting_catchUp {l : Lane} : lasting (catchUp l s) = lasting s := by
  unfold catchUp
  split <;> simp

@[simp] theorem lasting_imageHeard {l : Lane} {a : ImageArrival} : lasting (imageHeard l a s) = lasting s := by simp [imageHeard]

@[simp] theorem lasting_laneImage {l : Lane} {a : ImageArrival} : lasting (laneImage l a s) = lasting s := by
  unfold laneImage
  dsimp only
  (repeat' split) <;> simp

@[simp] theorem lasting_blockEvent {l : Lane} {blk : Nat} {f : Ctx → Block → BlockState → Option (BlockState × (List Val → List Val))} :
    lasting (blockEvent l blk f s) = lasting s := by
  unfold blockEvent
  dsimp only
  (repeat' split) <;> simp

@[simp] theorem lasting_vibSegEnd {l : Lane} {blk : Nat} : lasting (vibSegEnd l blk s) = lasting s := by
  unfold vibSegEnd
  (repeat' split) <;> simp

@[simp] theorem lasting_configPass {l : Lane} {ok : Bool} : lasting (configPass l ok s) = lasting s := by simp [configPass]
@[simp] theorem lasting_copyHeard {l src : Lane} : lasting (copyHeard l src s) = lasting s := by rfl

@[simp] theorem lasting_copyFrame {l : Lane} {intact last : Bool} : lasting (copyFrame l intact last s) = lasting s := by
  unfold copyFrame
  dsimp only
  (repeat' split) <;> simp

@[simp] theorem lasting_recheck {l : Lane} {ok : Bool} : lasting (recheck l ok s) = lasting s := by
  rw [recheck_only]; exact lasting_elsewhere ..

@[simp] theorem lasting_telArrive {l : Lane} {conn : Nat} {bytes : List Byte} : lasting (telArrive l conn bytes s) = lasting s := by
  rw [telArrive_only]; exact lasting_elsewhere ..

@[simp] theorem lasting_telWatchdog {l : Lane} {blk : Nat} : lasting (telWatchdog l blk s) = lasting s := by
  unfold telWatchdog
  dsimp only
  (repeat' split) <;> simp

@[simp] theorem lasting_telSend {l : Lane} {blk : Nat} : lasting (telSend l blk s) = lasting s := by
  unfold telSend
  dsimp only
  (repeat' split) <;> simp

/-! ### The copies of a channel -/

@[simp] theorem lasting_channelOn {n : Nat} : lasting (channelOn n s) = lasting s := by
  rw [channelOn_only]; exact lasting_elsewhere ..

@[simp] theorem lasting_chanEnable {ch : Nat} : lasting (chanEnable ch s) = lasting s := by
  rw [chanEnable_only]; exact lasting_elsewhere ..

@[simp] theorem lasting_chanDisable {ch : Nat} : lasting (chanDisable ch s) = lasting s := by
  rw [chanDisable_only]; exact lasting_elsewhere ..

@[simp] theorem lasting_startChannel {n : Nat} : lasting (startChannel s n) = lasting s := by simp [startChannel]

@[simp] theorem lasting_tachOn {t : Nat} : lasting (tachOn t s) = lasting s := by
  rw [tachOn_only]; exact lasting_elsewhere ..

@[simp] theorem lasting_tachEnable {t : Nat} : lasting (tachEnable t s) = lasting s := by
  rw [tachEnable_only]; exact lasting_elsewhere ..

@[simp] theorem lasting_tachDisable {t : Nat} : lasting (tachDisable t s) = lasting s := by
  rw [tachDisable_only]; exact lasting_elsewhere ..

@[simp] theorem lasting_startTimer {t : Nat} : lasting (startTimer s t) = lasting s := by simp [startTimer]
@[simp] theorem lasting_startChannels : lasting (startChannels s) = lasting s := by simp [startChannels]

/-! ### The output groups -/

@[simp] theorem lasting_refreshCio {n : Nat} : lasting (refreshCio s n) = lasting s := by
  rw [refreshCio_only]; exact lasting_elsewhere ..

@[simp] theorem lasting_refreshAll : lasting (refreshAll s) = lasting s := by
  rw [refreshAll_only]; exact lasting_elsewhere ..

@[simp] theorem lasting_groupCause {g : Group} {f : GroupSt → GroupSt} : lasting (groupCause g f s) = lasting s := by
  rw [groupCause_only]; exact lasting_elsewhere ..

@[simp] theorem lasting_groupMet {g : Group} {f : GroupSt → GroupSt} : lasting (groupMet g f s) = lasting s := by
  rw [groupMet_only]; exact lasting_elsewhere ..

@[simp] theorem lasting_groupsGood : lasting (groupsGood s) = lasting s := by simp [groupsGood]

@[simp] theorem lasting_groupComplete {g : Group} : lasting (groupComplete g s) = lasting s := by
  rw [groupComplete_only]; exact lasting_elsewhere ..

@[simp] theorem lasting_forcedLines {umpire own : BitVec 4} : lasting (forcedLines umpire own s) = lasting s := by
  rw [forcedLines_only]; exact lasting_elsewhere ..

@[simp] theorem lasting_holdGroups : lasting (holdGroups s) = lasting s := by
  rw [holdGroups_only]; exact lasting_elsewhere ..

@[simp] theorem lasting_unholdGroups : lasting (unholdGroups s) = lasting s := by simp [unholdGroups]

@[simp] theorem lasting_groupOvercurrent {g : Group} : lasting (groupOvercurrent g s) = lasting s := by
  rw [groupOvercurrent_only]; exact lasting_elsewhere ..

@[simp] theorem lasting_groupOvertemp {g : Group} : lasting (groupOvertemp g s) = lasting s := by
  rw [groupOvertemp_only]; exact lasting_elsewhere ..

@[simp] theorem lasting_groupOffRequests : lasting (groupOffRequests s) = lasting s := by simp [groupOffRequests]
@[simp] theorem lasting_sampleGroup {r : GroupReading} {g : Group} : lasting (sampleGroup r g s) = lasting s := by simp [sampleGroup]

/-! ### Slices and units under test -/

@[simp] theorem lasting_setUnit {u : Nat} {b : BUnit} : lasting (State.setUnit s u b) = lasting s := by rfl

@[simp] theorem lasting_abortSlice {u : Nat} : lasting (abortSlice u s) = lasting s := by
  rw [abortSlice_only]; exact lasting_elsewhere ..

@[simp] theorem lasting_dropSlice {u : Nat} : lasting (dropSlice u s) = lasting s := by
  rw [dropSlice_only]; exact lasting_elsewhere ..

/-! ### The seats -/

@[simp] theorem lasting_voteFrame {l : Lane} {onTime intact : Bool} : lasting (voteFrame l onTime intact s) = lasting s := by
  unfold voteFrame
  dsimp only
  (repeat' split) <;> simp

@[simp] theorem lasting_tally : lasting (tally s) = lasting s := by rfl

@[simp] theorem lasting_countFailure {l : Lane} {cause : Nat} : lasting (countFailure l cause s) = lasting s := by
  rw [countFailure_only]; exact lasting_elsewhere ..

@[simp] theorem lasting_takeOut {l : Lane} : lasting (takeOut l s) = lasting s := by simp [takeOut]
@[simp] theorem lasting_seatLane {l : Lane} : lasting (seatLane l s) = lasting s := by rfl
@[simp] theorem lasting_seatCommand {kind : Nat} {l : Lane} : lasting (seatCommand kind l s) = lasting s := by rfl

@[simp] theorem lasting_enterState {st : SeatState} {row : Nat} {l : Option Lane} : lasting (enterState st row l s) = lasting s := by
  rw [enterState_only]; exact lasting_elsewhere ..

@[simp] theorem lasting_setDue {b t p : Option Lane} : lasting (setDue b t p s) = lasting s := by
  rw [setDue_only]; exact lasting_elsewhere ..

@[simp] theorem lasting_deferStep : lasting (deferStep s) = lasting s := by rfl
@[simp] theorem lasting_startLanes {request : Bool} : lasting (startLanes request s) = lasting s := by simp [startLanes]
@[simp] theorem lasting_lockOut {row : Nat} {l : Option Lane} : lasting (lockOut row l s) = lasting s := by simp [lockOut]
@[simp] theorem lasting_clearFilters : lasting (clearFilters s) = lasting s := by simp [clearFilters]
@[simp] theorem lasting_clearBlocks : lasting (clearBlocks s) = lasting s := by rfl
@[simp] theorem lasting_enterStart {row : Nat} {request : Bool} : lasting (enterStart row request s) = lasting s := by simp [enterStart]

@[simp] theorem lasting_countGone {l : Lane} : lasting (countGone s l) = lasting s := by
  unfold countGone
  split <;> simp

@[simp] theorem lasting_seatLoss {row : Nat} {l : Option Lane} : lasting (seatLoss row l s) = lasting s := by simp [seatLoss]
@[simp] theorem lasting_beginRun : lasting (beginRun s) = lasting s := by simp [beginRun]

@[simp] theorem lasting_applyRow {elig : Bool} {row : Nat} : lasting (applyRow elig row s) = lasting s := by
  unfold applyRow
  dsimp only
  (repeat' split) <;> simp

@[simp] theorem lasting_retestPassed {l : Lane} : lasting (retestPassed l s) = lasting s := by
  unfold retestPassed
  dsimp only
  (repeat' split) <;> simp

@[simp] theorem lasting_copyAgain {l : Lane} : lasting (copyAgain l s) = lasting s := by simp [copyAgain]

@[simp] theorem lasting_orderCopy {l : Lane} : lasting (orderCopy l s) = lasting s := by
  unfold orderCopy
  split <;> simp

@[simp] theorem lasting_staleCopy {l : Lane} : lasting (staleCopy l s) = lasting s := by
  unfold staleCopy
  split <;> simp

@[simp] theorem lasting_abortCommand {l : Lane} : lasting (abortCommand l s) = lasting s := by
  rw [abortCommand_only]; exact lasting_elsewhere ..

@[simp] theorem lasting_abortComplete {l : Lane} : lasting (abortComplete l s) = lasting s := by
  rw [abortComplete_only]; exact lasting_elsewhere ..

@[simp] theorem lasting_rotationInstant : lasting (rotationInstant s) = lasting s := by
  rw [rotationInstant_only]; exact lasting_elsewhere ..

@[simp] theorem lasting_stepSix : lasting (stepSix s) = lasting s := by simp [stepSix]
@[simp] theorem lasting_voteDeadline : lasting (voteDeadline s) = lasting s := by simp [voteDeadline]

@[simp] theorem lasting_twoOarLimit : lasting (twoOarLimit s) = lasting s := by
  rw [twoOarLimit_only]; exact lasting_elsewhere ..

@[simp] theorem lasting_failureExpiry {l : Lane} : lasting (failureExpiry l s) = lasting s := by rfl

/-! ### Safety inputs -/

@[simp] theorem lasting_filterChange {n : Nat} : lasting (filterChange n s) = lasting s := by
  rw [filterChange_only]; exact lasting_elsewhere ..

@[simp] theorem lasting_inputsCarry {k : Nat} : lasting (inputsCarry k s) = lasting s := by
  rw [inputsCarry_only]; exact lasting_elsewhere ..

@[simp] theorem lasting_declareStuck {k : Nat} : lasting (declareStuck k s) = lasting s := by simp [declareStuck]

@[simp] theorem lasting_overload {k : Nat} : lasting (overload k s) = lasting s := by
  rw [overload_only]; exact lasting_elsewhere ..

@[simp] theorem lasting_declareShort {n : Nat} : lasting (declareShort n s) = lasting s := by
  unfold declareShort
  dsimp only
  split <;> simp

@[simp] theorem lasting_declareCross {n k q : Nat} : lasting (declareCross n k q s) = lasting s := by simp [declareCross]

@[simp] theorem lasting_sampleSi {v : Bool} {q n : Nat} : lasting (sampleSi v q n s) = lasting s := by
  unfold sampleSi
  dsimp only
  simp only [lasting_ite, lasting_setSi, ite_self]
  split
  · simp
  · split <;> simp

@[simp] theorem lasting_sampleTp {v lim : Bool} {q k : Nat} : lasting (sampleTp v lim q k s) = lasting s := by
  unfold sampleTp
  dsimp only
  split <;> simp

@[simp] theorem lasting_pulseBegin {k : Nat} : lasting (pulseBegin k s) = lasting s := by
  rw [pulseBegin_only]; exact lasting_elsewhere ..

@[simp] theorem lasting_foreignInput {k p n : Nat} : lasting (foreignInput k p n s) = lasting s := by simp [foreignInput]

@[simp] theorem lasting_windowEnd {k : Nat} : lasting (windowEnd k s) = lasting s := by
  unfold windowEnd
  split <;> simp

@[simp] theorem lasting_sampleSupply {r : SupplyReading} {v : Supply} : lasting (sampleSupply r v s) = lasting s := by simp [sampleSupply]

@[simp] theorem lasting_supplyWarn {v : Supply} : lasting (supplyWarn v s) = lasting s := by
  rw [supplyWarn_only]; exact lasting_elsewhere ..

@[simp] theorem lasting_supplySag {v : Supply} : lasting (supplySag v s) = lasting s := by simp [supplySag]
@[simp] theorem lasting_supplyMissing {v : Supply} : lasting (supplyMissing v s) = lasting s := by simp [supplyMissing]

@[simp] theorem lasting_supplyRecovery {v : Supply} : lasting (supplyRecovery v s) = lasting s := by
  rw [supplyRecovery_only]; exact lasting_elsewhere ..

@[simp] theorem lasting_lorHist : lasting (lorHist s) = lasting s := by
  rw [lorHist_only]; exact lasting_elsewhere ..

@[simp] theorem lasting_lorArm : lasting (lorArm s) = lasting s := by simp [lorArm]
@[simp] theorem lasting_lorAccept : lasting (lorAccept s) = lasting s := by simp [lorAccept]
@[simp] theorem lasting_lorCycle : lasting (lorCycle s) = lasting s := by simp [lorCycle]
@[simp] theorem lasting_lorDisarm : lasting (lorDisarm s) = lasting s := by rfl

/-! ### Safety outputs -/

@[simp] theorem lasting_outPulseBegin {k : Nat} : lasting (outPulseBegin k s) = lasting s := by
  rw [outPulseBegin_only]; exact lasting_elsewhere ..

@[simp] theorem lasting_declareOutCross {k partner : Nat} : lasting (declareOutCross k partner s) = lasting s := by simp [declareOutCross]
@[simp] theorem lasting_crossCheck {k p j : Nat} : lasting (crossCheck k p j s) = lasting s := by simp [crossCheck]

@[simp] theorem lasting_outPulseEnd {k : Nat} : lasting (outPulseEnd k s) = lasting s := by
  unfold outPulseEnd
  split <;> simp

@[simp] theorem lasting_sampleSo {r : SoReading} {q k : Nat} : lasting (sampleSo r q k s) = lasting s := by rfl

@[simp] theorem lasting_outShort {k : Nat} : lasting (outShort k s) = lasting s := by
  rw [outShort_only]; exact lasting_elsewhere ..

@[simp] theorem lasting_outHold {code k : Nat} : lasting (outHold code k s) = lasting s := by
  rw [outHold_only]; exact lasting_elsewhere ..

@[simp] theorem lasting_outStuck {k : Nat} : lasting (outStuck k s) = lasting s := by
  rw [outStuck_only]; exact lasting_elsewhere ..

@[simp] theorem lasting_outOpenLoad {k : Nat} : lasting (outOpenLoad k s) = lasting s := by
  rw [outOpenLoad_only]; exact lasting_elsewhere ..

@[simp] theorem lasting_outClear {k : Nat} : lasting (outClear k s) = lasting s := by
  rw [outClear_only]; exact lasting_elsewhere ..

@[simp] theorem lasting_boundarySo {a b : Word} {k : Nat} : lasting (boundarySo a b s k) = lasting s := by rfl
@[simp] theorem lasting_watchdogCycle : lasting (watchdogCycle s) = lasting s := by rfl

@[simp] theorem lasting_wdTrip : lasting (wdTrip s) = lasting s := by
  rw [wdTrip_only]; exact lasting_elsewhere ..

@[simp] theorem lasting_wdRelease : lasting (wdRelease s) = lasting s := by
  rw [wdRelease_only]; exact lasting_elsewhere ..

/-! ### Conventional I/O -/

@[simp] theorem lasting_sampleCio {r : CioReading} {n : Nat} : lasting (sampleCio r n s) = lasting s := by
  unfold sampleCio
  dsimp only
  split <;> simp

@[simp] theorem lasting_boundaryCio {a b : Word} {start n : Nat} : lasting (boundaryCio a b start s n) = lasting s := by
  unfold boundaryCio
  dsimp only
  split <;> simp

@[simp] theorem lasting_cioSilence {n : Nat} : lasting (cioSilence n s) = lasting s := by
  rw [cioSilence_only]; exact lasting_elsewhere ..

@[simp] theorem lasting_cioHeard {src : Nat} : lasting (cioHeard src s) = lasting s := by simp [cioHeard]

@[simp] theorem lasting_cioSet {src : Nat} {mask value : Word} {n : Nat} : lasting (cioSet src mask value s n) = lasting s := by
  rw [cioSet_only]; exact lasting_elsewhere ..

@[simp] theorem lasting_cioCommand {src : Nat} {mask value : Word} : lasting (cioCommand src mask value s) = lasting s := by
  simp [cioCommand]

@[simp] theorem lasting_cioValueWrite {p : Port} {value : Word} : lasting (cioValueWrite p value s) = lasting s := by simp [cioValueWrite]
@[simp] theorem lasting_cioBeatWrite {p : Port} : lasting (cioBeatWrite p s) = lasting s := by simp [cioBeatWrite]

@[simp] theorem lasting_cioOverload {n : Nat} : lasting (cioOverload n s) = lasting s := by
  rw [cioOverload_only]; exact lasting_elsewhere ..

@[simp] theorem lasting_cioShort {n : Nat} : lasting (cioShort n s) = lasting s := by
  rw [cioShort_only]; exact lasting_elsewhere ..

/-! ### The umpire -/

@[simp] theorem lasting_linesFollow : lasting (linesFollow s) = lasting s := by
  rw [linesFollow_only]; exact lasting_elsewhere ..

@[simp] theorem lasting_localAssert {gs : BitVec 4} : lasting (localAssert gs s) = lasting s := by
  rw [localAssert_only]; exact lasting_elsewhere ..

@[simp] theorem lasting_aliveStop : lasting (aliveStop s) = lasting s := by simp [aliveStop]
@[simp] theorem lasting_lockoutFault : lasting (lockoutFault s) = lasting s := by rfl

@[simp] theorem lasting_latchOne {r : Report} : lasting (latchOne s r) = lasting s := by
  unfold latchOne
  (repeat' split) <;> simp

@[simp] theorem lasting_latchAll : lasting (latchAll s) = lasting s := by
  unfold latchAll
  split <;> simp

@[simp] theorem lasting_checkTaken {k : Nat} : lasting (checkTaken k s) = lasting s := by rfl

@[simp] theorem lasting_scheduled {k : Nat} {f : State → State} (h : ∀ t, lasting (f t) = lasting t) :
    lasting (scheduled k f s) = lasting s := by
  simp [scheduled, h]

@[simp] theorem lasting_umpCheck {pass : Bool} : lasting (umpCheck pass s) = lasting s := by
  rw [umpCheck_only]; exact lasting_elsewhere ..

@[simp] theorem lasting_umpSelfCheck {pass : Bool} : lasting (umpSelfCheck pass s) = lasting s := by simp [umpSelfCheck]

@[simp] theorem lasting_handlingClose : lasting (handlingClose s) = lasting s := by
  unfold handlingClose
  dsimp only
  split <;> simp

@[simp] theorem lasting_groupCheck {g : Group} {pass : Bool} : lasting (groupCheck g pass s) = lasting s := by simp [groupCheck]
@[simp] theorem lasting_fieldCheck {pass : Bool} : lasting (fieldCheck pass s) = lasting s := by simp [fieldCheck]
@[simp] theorem lasting_clearBit {busy : List Nat} {n : Nat} : lasting (clearBit busy s n) = lasting s := by simp [clearBit]
@[simp] theorem lasting_acceptClear : lasting (acceptClear s) = lasting s := by simp [acceptClear]

@[simp] theorem lasting_clearLo {bits : Word} : lasting (clearLo bits s) = lasting s := by
  unfold clearLo
  dsimp only
  split <;> simp

@[simp] theorem lasting_clearHi {bits : Word} : lasting (clearHi bits s) = lasting s := by simp [clearHi]
@[simp] theorem lasting_aliveCycle : lasting (aliveCycle s) = lasting s := by rfl

/-! ### The event log -/

@[simp] theorem lasting_logAppend {actor kind param : Nat} {old new : List Word} {target : Nat} :
    lasting (logAppend actor kind param old new target s) = lasting s := by
  rw [logAppend_only]; exact lasting_elsewhere ..

@[simp] theorem lasting_logThen {actor kind param : Nat} {old new : List Word} {target : Nat} {refusal apply : State → State}
    (hrefusal : ∀ t, lasting (refusal t) = lasting t) (happly : ∀ t, lasting (apply t) = lasting t) :
    lasting (logThen actor kind param old new target refusal apply s) = lasting s := by
  unfold logThen
  dsimp only
  split <;> simp [hrefusal, happly]

@[simp] theorem lasting_logEvent {actor kind param : Nat} {old new : List Word} :
    lasting (logEvent actor kind param old new s) = lasting s := by
  rw [logEvent_only]; exact lasting_elsewhere ..

/-! ### Sessions and password classes -/

@[simp] theorem lasting_secRefuse {addr code : Nat} : lasting (secRefuse addr code s) = lasting s := by
  rw [secRefuse_only]; exact lasting_elsewhere ..

@[simp] theorem lasting_dropSession {p : Port} : lasting (dropSession p s) = lasting s := by
  rw [dropSession_only]; exact lasting_elsewhere ..

@[simp] theorem lasting_touchSession {p : Port} : lasting (touchSession p s) = lasting s := by
  rw [touchSession_only]; exact lasting_elsewhere ..

@[simp] theorem lasting_gate {p : Port} {right : Nat} {ok : Bool} {kind addr : Nat} {old new : List Word} {apply : State → State}
    (happly : ∀ t, lasting (apply t) = lasting t) : lasting (gate p right ok kind addr old new apply s) = lasting s := by
  unfold gate
  (repeat' split) <;> simp [happly]

@[simp] theorem lasting_sealReport {old : Word} : lasting (sealReport old s) = lasting s := by
  rw [sealReport_only]; exact lasting_elsewhere ..

@[simp] theorem lasting_sealWatch : lasting (sealWatch s) = lasting s := by
  rw [sealWatch_only]; exact lasting_elsewhere ..

@[simp] theorem lasting_sealChange {b closed : Bool} : lasting (sealChange b closed s) = lasting s := by simp [sealChange]
@[simp] theorem lasting_sealSample {b closed : Bool} : lasting (sealSample b closed s) = lasting s := by simp [sealSample]
@[simp] theorem lasting_sealRuns {a b : Bool} : lasting (sealRuns a b s) = lasting s := by rfl
@[simp] theorem lasting_sealInputs {a b : Bool} : lasting (sealInputs a b s) = lasting s := by simp [sealInputs]
@[simp] theorem lasting_sealDiscSet : lasting (sealDiscSet s) = lasting s := by simp [sealDiscSet]
@[simp] theorem lasting_setLogin {p : Port} {v : LoginPort} : lasting (State.setLogin s p v) = lasting s := by rfl
@[simp] theorem lasting_setSlotCnt {k : Nat} {v : SlotCnt} : lasting (State.setSlotCnt s k v) = lasting s := by rfl

@[simp] theorem lasting_challenge {p : Port} {slot : Nat} : lasting (challenge p slot s) = lasting s := by
  rw [challenge_only]; exact lasting_elsewhere ..

@[simp] theorem lasting_loginFail {p : Port} {k : Nat} : lasting (loginFail p k s) = lasting s := by simp [loginFail]
@[simp] theorem lasting_loginOpen {p : Port} {k : Nat} : lasting (loginOpen p k s) = lasting s := by simp [loginOpen]

@[simp] theorem lasting_respond {p : Port} {k : Nat} : lasting (respond p k s) = lasting s := by
  unfold respond
  dsimp only
  split <;> simp

@[simp] theorem lasting_nonceExpiry {p : Option Port} : lasting (nonceExpiry p s) = lasting s := by
  unfold nonceExpiry
  split <;> simp

@[simp] theorem lasting_sessionTimeout {p : Port} : lasting (sessionTimeout p s) = lasting s := by rfl
@[simp] theorem lasting_slotLockEnd {k : Nat} : lasting (slotLockEnd k s) = lasting s := by simp [slotLockEnd]

/-! ### The boathouse -/

@[simp] theorem lasting_setPage {p : Nat} {v : BoatPage} : lasting (State.setPage s p v) = lasting s := by rfl

@[simp] theorem lasting_takePage {holder cap p : Nat} : lasting (takePage holder cap p s) = lasting s := by
  rw [takePage_only]; exact lasting_elsewhere ..

@[simp] theorem lasting_noteLow : lasting (noteLow s) = lasting s := by
  rw [noteLow_only]; exact lasting_elsewhere ..

@[simp] theorem lasting_allocate {holder n cap replies : Nat} : lasting (allocate holder n cap replies s).2 = lasting s := by
  unfold allocate
  dsimp only
  (repeat' split) <;> simp

@[simp] theorem lasting_dropPage {p : Nat} : lasting (dropPage p s) = lasting s := by
  rw [dropPage_only]; exact lasting_elsewhere ..

@[simp] theorem lasting_servePage {r : PageReq} : lasting (servePage r s) = lasting s := by simp [servePage]

@[simp] theorem lasting_serveAll {n : Nat} {reqs : List PageReq} : lasting (serveAll n reqs s) = lasting s := by
  induction n generalizing s reqs with
  | zero => rfl
  | succ n ih => rw [serveAll, ih]; simp

@[simp] theorem lasting_memPut {a : Nat} {w : Word} : lasting (memPut a w s) = lasting s := by
  rw [memPut_only]; exact lasting_elsewhere ..

@[simp] theorem lasting_memPuts {a : Nat} {ws : List Word} : lasting (memPuts a ws s) = lasting s := by
  rw [memPuts_only]; exact lasting_elsewhere ..

@[simp] theorem lasting_streamSlots {b n : Nat} : lasting (streamSlots b n s) = lasting s := by simp [streamSlots]

@[simp] theorem lasting_accessBank {b who : Nat} : lasting (accessBank b who s) = lasting s := by
  rw [accessBank_only]; exact lasting_elsewhere ..

@[simp] theorem lasting_memZero {p : Nat} : lasting (memZero p s) = lasting s := by
  rw [memZero_only]; exact lasting_elsewhere ..

@[simp] theorem lasting_scrubDone {p : Nat} : lasting (scrubDone p s) = lasting s := by simp [scrubDone]

@[simp] theorem lasting_capFrame {kind : Nat} {c : Capture} {count stamp : Nat} {refs : List (Nat × Nat)} :
    lasting (capFrame kind c count stamp refs s) = lasting s := by
  rw [capFrame_only]; exact lasting_elsewhere ..

@[simp] theorem lasting_newCapture {holder prio : Nat} {evict : Bool} {chan : Option Nat} {refs : List (Nat × Nat)} {count : Nat} :
    lasting (newCapture holder prio evict chan refs count s) = lasting s := by
  rw [newCapture_only]; exact lasting_elsewhere ..

@[simp] theorem lasting_requestCapture {holder prio : Nat} {evict : Bool} {ch count : Nat} :
    lasting (requestCapture holder prio evict ch count s).2 = lasting s := by
  unfold requestCapture
  dsimp only
  (repeat' split) <;> simp

@[simp] theorem lasting_taskCapture {src : Nat} {w0 w1 : Word} : lasting (taskCapture src w0 w1 s) = lasting s := by simp [taskCapture]
@[simp] theorem lasting_hostCapture {v : Word} : lasting (hostCapture v s) = lasting s := by simp [hostCapture]

@[simp] theorem lasting_hostCapEnd {st : Nat} {c : Capture} : lasting (hostCapEnd st c s) = lasting s := by
  rw [hostCapEnd_only]; exact lasting_elsewhere ..

@[simp] theorem lasting_setCap {c : Capture} : lasting (setCap c s) = lasting s := by
  rw [setCap_only]; exact lasting_elsewhere ..

@[simp] theorem lasting_capComplete {c : Capture} : lasting (capComplete c s) = lasting s := by simp [capComplete]
@[simp] theorem lasting_capAbort {c : Capture} : lasting (capAbort c s) = lasting s := by simp [capAbort]
@[simp] theorem lasting_abortCaps {f : Capture → Bool} : lasting (abortCaps f s) = lasting s := by simp [abortCaps]

@[simp] theorem lasting_capWrite {c : Capture} {stamp : Word} {ws : List Word} : lasting (capWrite c stamp ws s) = lasting s := by
  unfold capWrite
  dsimp only
  split
  all_goals
    simp only [lasting_capComplete, lasting_setCap]
    refine lasting_foldl _ (fun t e => ?_) _
    split <;> simp

@[simp] theorem lasting_streamWrite {ch : Nat} {intact : Bool} : lasting (streamWrite ch intact s) = lasting s := by
  unfold streamWrite
  dsimp only
  split <;> simp

@[simp] theorem lasting_streamArrives {ch : Nat} {intact : Bool} : lasting (streamArrives ch intact s) = lasting s := by
  unfold streamArrives
  split <;> simp

@[simp] theorem lasting_evictPages {n : Nat} {cur : Option Capture} {lost : List (Capture × List (Nat × Nat))} :
    lasting (evictPages n cur lost s).2 = lasting s := by
  induction n generalizing s cur lost with
  | zero => rfl
  | succ n ih =>
    unfold evictPages
    dsimp only
    split
    · rfl
    · split
      · rfl
      · rw [ih]; simp

@[simp] theorem lasting_evictionDone : lasting (evictionDone s) = lasting s := by
  unfold evictionDone
  split
  · refine (lasting_foldl _ (fun t e => lasting_capFrame t) _).trans ?_
    simp
  · rfl

@[simp] theorem lasting_countWinref {addr : Nat} : lasting (countWinref addr s) = lasting s := by
  rw [countWinref_only]; exact lasting_elsewhere ..

@[simp] theorem lasting_hostFree {ref : Word} : lasting (hostFree ref s) = lasting s := by
  rw [hostFree_only]; exact lasting_elsewhere ..

@[simp] theorem lasting_windowWrite {addr : Nat} {v : Word} : lasting (windowWrite addr v s) = lasting s := by
  rw [windowWrite_only]; exact lasting_elsewhere ..

/-! ### The analog channels -/

@[simp] theorem lasting_supplyTrack {n : Nat} : lasting (supplyTrack n s) = lasting s := by
  rw [supplyTrack_only]; exact lasting_elsewhere ..

@[simp] theorem lasting_fullFrame {ch stamp : Nat} {samples : List Int} : lasting (fullFrame ch stamp samples s) = lasting s := by
  simp [fullFrame]

@[simp] theorem lasting_decimReady {ch : Nat} {word : Word} : lasting (decimReady ch word s) = lasting s := by
  rw [decimReady_only]; exact lasting_elsewhere ..

@[simp] theorem lasting_decimate {ch : Nat} {bias : Int} : lasting (decimate ch bias s) = lasting s := by simp [decimate]

@[simp] theorem lasting_ainOpen {ch : Nat} : lasting (ainOpen ch s) = lasting s := by
  rw [ainOpen_only]; exact lasting_elsewhere ..

@[simp] theorem lasting_ainShort {ch : Nat} : lasting (ainShort ch s) = lasting s := by
  rw [ainShort_only]; exact lasting_elsewhere ..

@[simp] theorem lasting_settled {ch : Nat} : lasting (settled ch s) = lasting s := by
  rw [settled_only]; exact lasting_elsewhere ..

@[simp] theorem lasting_calComplete {ch : Nat} : lasting (calComplete ch s) = lasting s := by simp [calComplete]

@[simp] theorem lasting_chanGate {p : Port} {ch : Nat} {ok : Bool} {new : Word} {f : State → State} (h : ∀ t, lasting (f t) = lasting t) :
    lasting (chanGate p ch ok new f s) = lasting s := by
  simp [chanGate, h]

@[simp] theorem lasting_calStart {ch : Nat} : lasting (calStart ch s) = lasting s := by
  rw [calStart_only]; exact lasting_elsewhere ..

@[simp] theorem lasting_chanOff {ch : Nat} : lasting (chanOff ch s) = lasting s := by simp [chanOff]

/-! ### The tachs -/

@[simp] theorem lasting_tachEdge {t tick : Nat} {volts : List Int} : lasting (tachEdge t tick volts s) = lasting s := by rfl

@[simp] theorem lasting_cmpWrite {t k : Nat} {v : Word} : lasting (cmpWrite t k v s) = lasting s := by
  rw [cmpWrite_only]; exact lasting_elsewhere ..

@[simp] theorem lasting_stepWrite {t k : Nat} {v : Word} : lasting (stepWrite t k v s) = lasting s := by
  rw [stepWrite_only]; exact lasting_elsewhere ..

@[simp] theorem lasting_tachGate {p : Port} {t : Nat} {new : Word} {f : State → State} (h : ∀ t, lasting (f t) = lasting t) :
    lasting (tachGate p t new f s) = lasting s := by
  simp [tachGate, h]

@[simp] theorem lasting_tachBoundary {t : Nat} : lasting (tachBoundary s t).2 = lasting s := by
  unfold tachBoundary
  dsimp only
  split <;> simp

/-! ### The CRC unit -/

@[simp] theorem lasting_setCtx {n : Nat} {c : CrcCtx} : lasting (State.setCtx s n c) = lasting s := by rfl

@[simp] theorem lasting_crcRefuse {addr : Nat} : lasting (crcRefuse addr s) = lasting s := by
  rw [crcRefuse_only]; exact lasting_elsewhere ..

@[simp] theorem lasting_hostCtx {n off : Nat} {f : CrcCtx → CrcCtx} : lasting (hostCtx n off f s) = lasting s := by
  rw [hostCtx_only]; exact lasting_elsewhere ..

@[simp] theorem lasting_hostCheck {n : Nat} : lasting (hostCheck n s) = lasting s := by
  rw [hostCheck_only]; exact lasting_elsewhere ..

@[simp] theorem lasting_hostDin {n : Nat} {v : Word} : lasting (hostDin n v s) = lasting s := by simp [hostDin]

@[simp] theorem lasting_moduleCheck {n : Nat} {ok : Bool} : lasting (moduleCheck n ok s) = lasting s := by
  rw [moduleCheck_only]; exact lasting_elsewhere ..

@[simp] theorem lasting_katRun {ok : Bool} : lasting (katRun ok s) = lasting s := by simp [katRun]

/-! ### Alarms -/

@[simp] theorem lasting_taskSend {t cls : Nat} {words : List Word} : lasting (taskSend t cls words s) = lasting s := by
  rw [taskSend_only]; exact lasting_elsewhere ..

@[simp] theorem lasting_featReport {t : Nat} {e : Nat × FeatureCfg} : lasting (featReport t s e) = lasting s := by simp [featReport]
@[simp] theorem lasting_featRun {t : Nat} : lasting (featRun t s) = lasting s := by simp [featRun]

@[simp] theorem lasting_alarmFrame {kind n : Nat} {a : Alarm} {v stamp : Word} : lasting (alarmFrame kind n a v stamp s) = lasting s := by
  rw [alarmFrame_only]; exact lasting_elsewhere ..

@[simp] theorem lasting_setAlarm {n : Nat} {a : Alarm} : lasting (State.setAlarm s n a) = lasting s := by rfl

@[simp] theorem lasting_alarmNoData {n : Nat} {v stamp : Word} : lasting (alarmNoData n v stamp s) = lasting s := by
  rw [alarmNoData_only]; exact lasting_elsewhere ..

@[simp] theorem lasting_alarmValue {n : Nat} {v : Int} {w stamp : Word} : lasting (alarmValue n v w stamp s) = lasting s := by
  simp [alarmValue]

@[simp] theorem lasting_alarmReport {f : TrigFrame} {stamp : Word} {n : Nat} : lasting (alarmReport f stamp s n) = lasting s := by
  unfold alarmReport
  dsimp only
  (repeat' split) <;> simp

@[simp] theorem lasting_alarmRun {t : Nat} {f : TrigFrame} {stamp : Nat} : lasting (alarmRun t f stamp s) = lasting s := by simp [alarmRun]
@[simp] theorem lasting_alarmStale {src : Nat} : lasting (alarmStale src s) = lasting s := by simp [alarmStale]

@[simp] theorem lasting_alarmUpdate {n : Nat} : lasting (alarmUpdate n s) = lasting s := by
  unfold alarmUpdate
  dsimp only
  split <;> simp

/-! ### The fabric -/

@[simp] theorem lasting_sendCounts : lasting (sendCounts s) = lasting s := by simp [sendCounts]

@[simp] theorem lasting_reportLink : lasting (reportLink s) = lasting s := by
  rw [reportLink_only]; exact lasting_elsewhere ..

@[simp] theorem lasting_linkFailed {link : Nat} : lasting (linkFailed link s) = lasting s := by
  rw [linkFailed_only]; exact lasting_elsewhere ..

@[simp] theorem lasting_setRx {ep src : Nat} {r : Rx} : lasting (State.setRx s ep src r) = lasting s := by rfl

@[simp] theorem lasting_chkFail {p : Nat} : lasting (chkFail p s) = lasting s := by
  unfold chkFail
  (repeat' split) <;> simp

@[simp] theorem lasting_frameEnd {p ep src : Nat} {r : Route} {f : OpenFrame} : lasting (frameEnd p ep src r f s) = lasting s := by
  rw [frameEnd_only]; exact lasting_elsewhere ..

@[simp] theorem lasting_frameLen {p ep src : Nat} {r : Route} {dropped : Bool} : lasting (frameLen p ep src r dropped s) = lasting s := by
  simp [frameLen]

@[simp] theorem lasting_frameStart {p ep src : Nat} {r : Route} {w : Word × Word} : lasting (frameStart p ep src r w s) = lasting s := by
  simp [frameStart]

@[simp] theorem lasting_wordAt {p : Nat} {r : Route} {w : Word × Word} {ep : Nat} : lasting (wordAt p r w s ep) = lasting s := by
  unfold wordAt
  dsimp only
  split <;> simp

@[simp] theorem lasting_routeMiss {p : Nat} {safe : Bool} : lasting (routeMiss p safe s) = lasting s := by simp [routeMiss]

@[simp] theorem lasting_switchWord {p i : Nat} {r : Route} {w : Word × Word} : lasting (switchWord p i r w s) = lasting s := by
  unfold switchWord
  split <;> simp

@[simp] theorem lasting_receiveWord {p : Nat} {w : Word × Word} : lasting (receiveWord p s w) = lasting s := by
  unfold receiveWord
  dsimp only
  (repeat' split) <;> simp

@[simp] theorem lasting_receiveFrame {p : Nat} {words : List (Word × Word)} {wait : Nat} :
    lasting (receiveFrame p words wait s) = lasting s := by
  unfold receiveFrame
  split <;> simp

@[simp] theorem lasting_frameArrives {p : Nat} {words : List (Word × Word)} {wait : Nat} :
    lasting (frameArrives p words wait s) = lasting s := by
  unfold frameArrives
  split <;> simp

@[simp] theorem lasting_creditDiscard {p : Nat} : lasting (creditDiscard p s) = lasting s := by rfl
@[simp] theorem lasting_lastResetFrame {ep src who : Nat} : lasting (lastResetFrame ep src who s) = lasting s := by simp [lastResetFrame]

/-! ### The PMUs -/

@[simp] theorem lasting_counterWrap {c k t : Nat} : lasting (counterWrap c k t s) = lasting s := by
  rw [counterWrap_only]; exact lasting_elsewhere ..

@[simp] theorem lasting_pmuSync {c : Nat} : lasting (pmuSync c s) = lasting s := by
  rw [pmuSync_only]; exact lasting_elsewhere ..

@[simp] theorem lasting_coreTo {c : Nat} {st : CoreState} : lasting (coreTo c st s) = lasting s := by
  rw [coreTo_only]; exact lasting_elsewhere ..

@[simp] theorem lasting_countEvent {c code k : Nat} : lasting (countEvent c code s k) = lasting s := by simp [countEvent]
@[simp] theorem lasting_pmuEvent {c code : Nat} : lasting (pmuEvent c code s) = lasting s := by simp [pmuEvent]
@[simp] theorem lasting_pmuWrap {c : Nat} : lasting (pmuWrap c s) = lasting s := by simp [pmuWrap]
@[simp] theorem lasting_snapCore {c : Nat} : lasting (snapCore s c) = lasting s := by simp [snapCore]
@[simp] theorem lasting_pmuSnap : lasting (pmuSnap s) = lasting s := by simp [pmuSnap]
@[simp] theorem lasting_pmuFreeze {on : Bool} : lasting (pmuFreeze on s) = lasting s := by simp [pmuFreeze]
@[simp] theorem lasting_pmuBistClear {c : Nat} : lasting (pmuBistClear c s) = lasting s := by rfl

@[simp] theorem lasting_writeCounter {c k : Nat} {hi : Bool} {v : Word} : lasting (writeCounter c k hi v s) = lasting s := by
  simp [writeCounter]

@[simp] theorem lasting_writeEvsel {c k : Nat} {v : Word} : lasting (writeEvsel c k v s) = lasting s := by simp [writeEvsel]

@[simp] theorem lasting_pmuSeen {a : Nat} : lasting (pmuSeen a s) = lasting s := by
  rw [pmuSeen_only]; exact lasting_elsewhere ..

/-! ### The cores and their tasks -/

@[simp] theorem lasting_periodicRelease {t : Nat} : lasting (periodicRelease t s) = lasting s := by
  unfold periodicRelease
  dsimp only
  split <;> simp

@[simp] theorem lasting_taskTrigger {t : Nat} {f : TrigFrame} : lasting (taskTrigger t f s) = lasting s := by
  unfold taskTrigger
  dsimp only
  (repeat' split) <;> simp

@[simp] theorem lasting_startTask {t c : Nat} : lasting (startTask t c s) = lasting s := by simp [startTask]

@[simp] theorem lasting_dispatch : lasting (dispatch s) = lasting s := by
  unfold dispatch
  (repeat' split) <;> simp

@[simp] theorem lasting_coreOff {c : Nat} : lasting (coreOff c s) = lasting s := by
  rw [coreOff_only]; exact lasting_elsewhere ..

@[simp] theorem lasting_coreDown {c : Nat} : lasting (coreDown c s) = lasting s := by
  rw [coreDown_only]; exact lasting_elsewhere ..

@[simp] theorem lasting_coreUp {c : Nat} : lasting (coreUp c s) = lasting s := by
  rw [coreUp_only]; exact lasting_elsewhere ..

@[simp] theorem lasting_coreFree {c : Nat} : lasting (coreFree c s) = lasting s := by
  rw [coreFree_only]; exact lasting_elsewhere ..

@[simp] theorem lasting_overrun {t : Nat} : lasting (overrun t s) = lasting s := by simp [overrun]

@[simp] theorem lasting_taskDone {c : Nat} : lasting (taskDone c s) = lasting s := by
  unfold taskDone
  dsimp only
  (repeat' split) <;> simp

@[simp] theorem lasting_saveContext {t : Nat} : lasting (saveContext t s) = lasting s := by
  unfold saveContext
  split <;> simp

@[simp] theorem lasting_preempt {c t : Nat} : lasting (preempt c t s) = lasting s := by simp [preempt]

@[simp] theorem lasting_taskYield {c : Nat} : lasting (taskYield c s) = lasting s := by
  unfold taskYield
  dsimp only
  (repeat' split) <;> simp

@[simp] theorem lasting_setResult {c : Nat} {r : CallResult} : lasting (setResult c r s) = lasting s := by
  rw [setResult_only]; exact lasting_elsewhere ..

@[simp] theorem lasting_taskSendCall {c cls : Nat} {words : List Word} {room : Bool} :
    lasting (taskSendCall c cls words room s) = lasting s := by
  unfold taskSendCall
  split <;> simp

@[simp] theorem lasting_sendRoom {c : Nat} : lasting (sendRoom c s) = lasting s := by
  unfold sendRoom
  dsimp only
  split <;> simp

@[simp] theorem lasting_pageReq {c : Nat} : lasting (pageReq c s) = lasting s := by
  unfold pageReq
  dsimp only
  (repeat' split) <;> simp

@[simp] theorem lasting_pageFree {c : Nat} {ref : Word} : lasting (pageFree c ref s) = lasting s := by
  unfold pageFree
  (repeat' split) <;> simp

@[simp] theorem lasting_memFault {c : Nat} : lasting (memFault c s) = lasting s := by
  rw [memFault_only]; exact lasting_elsewhere ..

@[simp] theorem lasting_copyCall {c : Nat} {q : CopyReq} : lasting (copyCall c q s) = lasting s := by
  unfold copyCall
  split <;> simp

@[simp] theorem lasting_copyDone {c : Nat} : lasting (copyDone c s) = lasting s := by
  unfold copyDone
  dsimp only
  (repeat' split) <;> simp

@[simp] theorem lasting_copyWait {c : Nat} : lasting (copyWait c s) = lasting s := by
  unfold copyWait
  split <;> simp

@[simp] theorem lasting_timeCall {c : Nat} : lasting (timeCall c s) = lasting s := by
  unfold timeCall
  split <;> simp

@[simp] theorem lasting_pmuRead {c idx : Nat} : lasting (pmuRead c idx s) = lasting s := by
  unfold pmuRead
  split <;> simp

@[simp] theorem lasting_lvtRead {c r addr : Nat} : lasting (lvtRead c r addr s) = lasting s := by
  unfold lvtRead
  split <;> simp

@[simp] theorem lasting_eccEnd {c : Nat} : lasting (eccEnd c s) = lasting s := by
  rw [eccEnd_only]; exact lasting_elsewhere ..

@[simp] theorem lasting_dspEcc {c : Nat} : lasting (dspEcc c s) = lasting s := by simp [dspEcc]

@[simp] theorem lasting_boatEcc {reader : BoatReader} {corrected : Bool} : lasting (boatEcc reader corrected s) = lasting s := by
  unfold boatEcc
  (repeat' split) <;> simp

@[simp] theorem lasting_taskDisable {t : Nat} : lasting (taskDisable t s) = lasting s := by
  unfold taskDisable
  dsimp only
  split <;> simp

@[simp] theorem lasting_taskEnable {t : Nat} : lasting (taskEnable t s) = lasting s := by
  rw [taskEnable_only]; exact lasting_elsewhere ..

@[simp] theorem lasting_loadImage {t : Nat} : lasting (loadImage t s) = lasting s := by
  rw [loadImage_only]; exact lasting_elsewhere ..

@[simp] theorem lasting_taskReload {t : Nat} : lasting (taskReload t s) = lasting s := by simp [taskReload]

@[simp] theorem lasting_taskGate {p : Port} {t op : Nat} {ok : Bool} {f : State → State} (h : ∀ t, lasting (f t) = lasting t) :
    lasting (taskGate p t op ok f s) = lasting s := by
  simp [taskGate, h]

@[simp] theorem lasting_coreEnable {c : Nat} : lasting (coreEnable c s) = lasting s := by
  rw [coreEnable_only]; exact lasting_elsewhere ..

@[simp] theorem lasting_coreDisable {c : Nat} : lasting (coreDisable c s) = lasting s := by
  rw [coreDisable_only]; exact lasting_elsewhere ..

@[simp] theorem lasting_coreGate {p : Port} {c : Nat} {on : Bool} {f : State → State} (h : ∀ t, lasting (f t) = lasting t) :
    lasting (coreGate p c on f s) = lasting s := by
  simp [coreGate, h]

@[simp] theorem lasting_coresReduced {on : Bool} : lasting (coresReduced on s) = lasting s := by simp [coresReduced]

@[simp] theorem lasting_haltRelease {c : Nat} : lasting (haltRelease c s) = lasting s := by
  rw [haltRelease_only]; exact lasting_elsewhere ..

/-! ### Self-test -/

@[simp] theorem lasting_bistFail {scopeS : Bool} {detail : Nat} : lasting (bistFail scopeS detail s) = lasting s := by
  rw [bistFail_only]; exact lasting_elsewhere ..

@[simp] theorem lasting_sliceRequest {l : Lane} : lasting (sliceRequest l s) = lasting s := by simp [sliceRequest]

@[simp] theorem lasting_corePend {c : Nat} : lasting (corePend c s) = lasting s := by
  rw [corePend_only]; exact lasting_elsewhere ..

@[simp] theorem lasting_coreSliceDue : lasting (coreSliceDue s) = lasting s := by simp [coreSliceDue]
@[simp] theorem lasting_cmdTake {u : Nat} : lasting (cmdTake u s) = lasting s := by simp [cmdTake]

@[simp] theorem lasting_bistCmd {p : Port} {v : Word} : lasting (bistCmd p v s) = lasting s := by
  have hgate := lasting_gate s (p := p) (right := rightOps) (ok := cmdOk s (bits v 3 0)) (kind := 2) (addr := addrBistCmd) (old := [])
    (new := [BitVec.ofNat 32 (bits v 3 0)]) (apply := cmdTake (bits v 3 0)) (fun t => lasting_cmdTake t)
  unfold bistCmd
  dsimp only
  split
  · exact hgate
  · exact hgate

@[simp] theorem lasting_laneSliceStart {l : Lane} : lasting (laneSliceStart l s) = lasting s := by simp [laneSliceStart]
@[simp] theorem lasting_coreSliceStart {c : Nat} : lasting (coreSliceStart c s) = lasting s := by simp [coreSliceStart]
@[simp] theorem lasting_sliceStart {u : Nat} : lasting (sliceStart u s) = lasting s := by simp [sliceStart]

@[simp] theorem lasting_coreSliceAbort {c : Nat} : lasting (coreSliceAbort c s) = lasting s := by
  rw [coreSliceAbort_only]; exact lasting_elsewhere ..

@[simp] theorem lasting_coreSlicesAbort : lasting (coreSlicesAbort s) = lasting s := by simp [coreSlicesAbort]
@[simp] theorem lasting_controllerFail : lasting (controllerFail s) = lasting s := by simp [controllerFail]
@[simp] theorem lasting_sliceBegin {u : Nat} {ctrlOk : Bool} : lasting (sliceBegin u ctrlOk s) = lasting s := by simp [sliceBegin]

@[simp] theorem lasting_bootNext {u : Nat} {again : Bool} : lasting (bootNext u again s) = lasting s := by
  rw [bootNext_only]; exact lasting_elsewhere ..

@[simp] theorem lasting_resultFrames {u : Nat} : lasting (resultFrames u s) = lasting s := by rfl

@[simp] theorem lasting_lanePass {l : Lane} : lasting (lanePass l s) = lasting s := by
  unfold lanePass
  dsimp only
  split <;> simp

@[simp] theorem lasting_laneFail {l : Lane} : lasting (laneFail l s) = lasting s := by
  unfold laneFail
  split <;> simp

@[simp] theorem lasting_corePass {c : Nat} : lasting (corePass c s) = lasting s := by simp [corePass]
@[simp] theorem lasting_coreFailed {c : Nat} : lasting (coreFailed c s) = lasting s := by simp [coreFailed]
@[simp] theorem lasting_bootCores : lasting (bootCores s) = lasting s := by simp [bootCores]
@[simp] theorem lasting_slicePass {u : Nat} : lasting (slicePass u s) = lasting s := by simp [slicePass]
@[simp] theorem lasting_sliceFail {u cause : Nat} {f : BUnit → BUnit} : lasting (sliceFail u cause f s) = lasting s := by simp [sliceFail]

@[simp] theorem lasting_sliceComplete {u applied : Nat} {segOk : Bool} {misr : U64} :
    lasting (sliceComplete u applied segOk misr s) = lasting s := by
  simp [sliceComplete]

@[simp] theorem lasting_sliceTimeout {u : Nat} : lasting (sliceTimeout u s) = lasting s := by simp [sliceTimeout]
@[simp] theorem lasting_holdEntry : lasting (holdEntry s) = lasting s := by simp [holdEntry]
@[simp] theorem lasting_coreHalt {c : Nat} {step : Bool} : lasting (coreHalt c step s) = lasting s := by simp [coreHalt]

/-! ### Reset -/

@[simp] theorem lasting_resetAll : lasting (resetAll s) = lasting s := by rfl
@[simp] theorem lasting_recordClear : lasting (recordClear s) = lasting s := by rfl

/-! ### Power and debug requests -/

@[simp] theorem lasting_cellsLogged : lasting (cellsLogged s) = lasting s := by
  rw [cellsLogged_only]; exact lasting_elsewhere ..

@[simp] theorem lasting_hooksEnd : lasting (hooksEnd s) = lasting s := by
  rw [hooksEnd_only]; exact lasting_elsewhere ..

@[simp] theorem lasting_leaving {f : State → State} (h : ∀ t, lasting (f t) = lasting t) : lasting (leaving f s) = lasting s := by
  simp [leaving, h]

@[simp] theorem lasting_tokenFail : lasting (tokenFail s) = lasting s := by simp [tokenFail]

@[simp] theorem lasting_judgeToken {key : Option (List Byte)} {level : Nat} : lasting (judgeToken key level s).2 = lasting s := by
  unfold judgeToken
  dsimp only
  (repeat' split) <;> simp

@[simp] theorem lasting_debugChallenge : lasting (debugChallenge s) = lasting s := by
  rw [debugChallenge_only]; exact lasting_elsewhere ..

@[simp] theorem lasting_openCmLevel : lasting (openCmLevel s) = lasting s := by rfl
@[simp] theorem lasting_openCm : lasting (openCm s) = lasting s := by simp [openCm]
@[simp] theorem lasting_secretsGone : lasting (secretsGone s) = lasting s := by rfl
@[simp] theorem lasting_zeroise : lasting (zeroise s) = lasting s := by rfl

@[simp] theorem lasting_holdDisarm : lasting (holdDisarm s) = lasting s := by
  rw [holdDisarm_only]; exact lasting_elsewhere ..

@[simp] theorem lasting_fullHold : lasting (fullHold s) = lasting s := by rfl
@[simp] theorem lasting_fullEntry : lasting (fullEntry s) = lasting s := by simp [fullEntry]
@[simp] theorem lasting_openFull : lasting (openFull s) = lasting s := by simp [openFull]

@[simp] theorem lasting_debugClose : lasting (debugClose s) = lasting s := by
  unfold debugClose
  split <;> simp

@[simp] theorem lasting_requested {req : Nat} : lasting (requested req s) = lasting s := by
  rw [requested_only]; exact lasting_elsewhere ..

@[simp] theorem lasting_pwrRefuse : lasting (pwrRefuse s) = lasting s := by
  rw [pwrRefuse_only]; exact lasting_elsewhere ..

@[simp] theorem lasting_pwrRun : lasting (pwrRun s) = lasting s := by simp [pwrRun]
@[simp] theorem lasting_pwrReduced : lasting (pwrReduced s) = lasting s := by simp [pwrReduced]

@[simp] theorem lasting_pwrHold : lasting (pwrHold s) = lasting s := by
  rw [pwrHold_only]; exact lasting_elsewhere ..

@[simp] theorem lasting_pwrOff : lasting (pwrOff s) = lasting s := by simp [pwrOff]

/-! ### The nodes -/

@[simp] theorem lasting_nodeBeacon {uid : U64} {b : Beacon} : lasting (nodeBeacon uid b s) = lasting s := by simp [nodeBeacon]

@[simp] theorem lasting_nodeDiscover {r : Nat} {uid : U64} {fromA streamA : Bool} :
    lasting (nodeDiscover r uid fromA streamA s) = lasting s := by
  simp [nodeDiscover]

@[simp] theorem lasting_nodeAssign {uid : U64} {fromA : Bool} {target : U64} {addr interval phase : Nat} :
    lasting (nodeAssign uid fromA target addr interval phase s) = lasting s := by
  simp [nodeAssign]

@[simp] theorem lasting_nodeIdent {uid : U64} {c : NodeCmd} : lasting (nodeIdent uid c s) = lasting s := by
  unfold nodeIdent
  dsimp only
  (repeat' split) <;> simp

@[simp] theorem lasting_nodeBurst {uid : U64} {c : NodeCmd} {rate count : Nat} : lasting (nodeBurst uid c rate count s) = lasting s := by
  simp [nodeBurst]

@[simp] theorem lasting_nodeBurstAbort {uid : U64} {c : NodeCmd} : lasting (nodeBurstAbort uid c s) = lasting s := by simp [nodeBurstAbort]

@[simp] theorem lasting_nodePark {uid : U64} {fromA : Bool} {target : U64} : lasting (nodePark uid fromA target s) = lasting s := by
  simp [nodePark]

@[simp] theorem lasting_nodeRelease {uid : U64} {c : NodeCmd} : lasting (nodeRelease uid c s) = lasting s := by simp [nodeRelease]

@[simp] theorem lasting_nodeCommand {uid : U64} {fromA : Bool} {ws : List Word} : lasting (nodeCommand uid fromA ws s) = lasting s := by
  unfold nodeCommand
  dsimp only
  split <;> simp

@[simp] theorem lasting_nodeReport {uid : U64} {values : List Word} {sensor : Bool} :
    lasting (nodeReport uid values sensor s) = lasting s := by
  simp [nodeReport]

@[simp] theorem lasting_nodeBeaconLoss {uid : U64} : lasting (nodeBeaconLoss uid s) = lasting s := by simp [nodeBeaconLoss]

@[simp] theorem lasting_nodeTakes {uid : U64} {fromA : Bool} {f : RingFrame} : lasting (nodeTakes uid fromA f s) = lasting s := by
  simp [nodeTakes]

@[simp] theorem lasting_nodeFrame {r : Nat} {uid : U64} {fromA : Bool} {f : RingFrame} :
    lasting (nodeFrame r uid fromA f s) = lasting s := by
  simp [nodeFrame]

/-! ### The rings -/

@[simp] theorem lasting_setRnode {r a : Nat} {n : RNode} : lasting (State.setRnode s r a n) = lasting s := by rfl

@[simp] theorem lasting_ringAlarm {r code detail : Nat} : lasting (ringAlarm r code detail s) = lasting s := by
  rw [ringAlarm_only]; exact lasting_elsewhere ..

@[simp] theorem lasting_burstCut {r : Nat} {st : BurstStatus} {b : Burst} : lasting (burstCut r st b s) = lasting s := by
  unfold burstCut
  split <;> simp

@[simp] theorem lasting_burstNext {r n : Nat} : lasting (burstNext r n s) = lasting s := by
  induction n generalizing s with
  | zero => rfl
  | succ n ih =>
    unfold burstNext
    dsimp only
    split
    · split
      · simp
      · rw [ih]; simp
    · rfl

@[simp] theorem lasting_burstEnd {r : Nat} {st : BurstStatus} : lasting (burstEnd r st s) = lasting s := by
  unfold burstEnd
  split <;> simp

@[simp] theorem lasting_burstAbortAll {r : Nat} : lasting (burstAbortAll r s) = lasting s := by simp [burstAbortAll]

@[simp] theorem lasting_burstRefuse {r : Nat} {st : BurstStatus} {b : BurstReq} : lasting (burstRefuse r st b s) = lasting s := by
  simp [burstRefuse]

@[simp] theorem lasting_burstRequest {r : Nat} {b : BurstReq} : lasting (burstRequest r b s).2 = lasting s := by
  unfold burstRequest
  dsimp only
  (repeat' split) <;> simp

@[simp] theorem lasting_burstCmdWrite {r : Nat} {v : Word} : lasting (burstCmdWrite r v s) = lasting s := by simp [burstCmdWrite]

@[simp] theorem lasting_burstSamples {r : Nat} {gap : Bool} {ws : List Word} : lasting (burstSamples r gap ws s) = lasting s := by
  unfold burstSamples
  (repeat' split) <;> simp

@[simp] theorem lasting_burstOnce {r : Nat} {f : State → State} (h : ∀ t, lasting (f t) = lasting t) :
    lasting (burstOnce r f s) = lasting s := by
  simp [burstOnce, h]

@[simp] theorem lasting_burstFrame {r addr offset : Nat} {ws : List Word} : lasting (burstFrame r addr offset ws s) = lasting s := by
  unfold burstFrame
  split <;> simp

@[simp] theorem lasting_burstFail {r samples : Nat} : lasting (burstFail r samples s) = lasting s := by
  unfold burstFail
  split <;> simp

@[simp] theorem lasting_ringStart {r : Nat} : lasting (ringStart r s) = lasting s := by simp [ringStart]

@[simp] theorem lasting_ringOn {r : Nat} : lasting (ringOn r s) = lasting s := by
  unfold ringOn
  dsimp only
  split <;> simp

@[simp] theorem lasting_ringOff {r : Nat} : lasting (ringOff r s) = lasting s := by
  unfold ringOff
  dsimp only
  split <;> simp

@[simp] theorem lasting_ringGate {p : Port} {r : Nat} {new : Word} {f : State → State} (h : ∀ t, lasting (f t) = lasting t) :
    lasting (ringGate p r new f s) = lasting s := by
  simp [ringGate, h]

@[simp] theorem lasting_ringShutdownDone {r : Nat} : lasting (ringShutdownDone r s) = lasting s := by simp [ringShutdownDone]

@[simp] theorem lasting_ringBreak {r : Nat} : lasting (ringBreak r s) = lasting s := by
  rw [ringBreak_only]; exact lasting_elsewhere ..

@[simp] theorem lasting_ringClosed {r : Nat} : lasting (ringClosed r s) = lasting s := by
  rw [ringClosed_only]; exact lasting_elsewhere ..

@[simp] theorem lasting_ringDown {r : Nat} : lasting (ringDown r s) = lasting s := by
  rw [ringDown_only]; exact lasting_elsewhere ..

@[simp] theorem lasting_validFrame {r : Nat} : lasting (validFrame r s) = lasting s := by
  rw [validFrame_only]; exact lasting_elsewhere ..

@[simp] theorem lasting_nodeLost {r a : Nat} : lasting (nodeLost r a s) = lasting s := by
  unfold nodeLost
  dsimp only
  split <;> simp

@[simp] theorem lasting_nodeStale {r a : Nat} : lasting (nodeStale r a s) = lasting s := by simp [nodeStale]

@[simp] theorem lasting_nodeHeard {r a : Nat} : lasting (nodeHeard r a s) = lasting s := by
  rw [nodeHeard_only]; exact lasting_elsewhere ..

@[simp] theorem lasting_assignNode {r a : Nat} {uid : U64} {interval phase : Nat} {booked : Bool} :
    lasting (assignNode r a uid interval phase booked s) = lasting s := by
  rfl

@[simp] theorem lasting_parkNode {r : Nat} {uid : U64} {reason : Nat} : lasting (parkNode r uid reason s) = lasting s := by
  unfold parkNode
  dsimp only
  (repeat' split) <;> simp

@[simp] theorem lasting_pickPhase {interval : Nat} : lasting (pickPhase interval s).2 = lasting s := by rfl

@[simp] theorem lasting_newIntervals {r : Nat} : lasting (newIntervals r s) = lasting s := by
  refine lasting_foldl _ (fun t e => ?_) _
  split
  · simp
  · rfl

@[simp] theorem lasting_allocateSlots {r : Nat} : lasting (allocateSlots r s) = lasting s := by rfl
@[simp] theorem lasting_closeSuperframe {r : Nat} : lasting (closeSuperframe r s) = lasting s := by simp [closeSuperframe]
@[simp] theorem lasting_ringSettle {r : Nat} : lasting (ringSettle r s) = lasting s := by simp [ringSettle]
@[simp] theorem lasting_superframeRun {r : Nat} : lasting (superframeRun r s) = lasting s := by simp [superframeRun]
@[simp] theorem lasting_superframeStop {r : Nat} : lasting (superframeStop r s) = lasting s := by rfl

@[simp] theorem lasting_superframe {r : Nat} : lasting (superframe r s) = lasting s := by
  unfold superframe
  split <;> simp

@[simp] theorem lasting_reportStore {r : Nat} {rep : RingReport} : lasting (reportStore r rep s) = lasting s := by
  rw [reportStore_only]; exact lasting_elsewhere ..

@[simp] theorem lasting_nodeAccept {r a seq : Nat} {wrap sideA : Bool} {go : State → State} (h : ∀ t, lasting (go t) = lasting t) :
    lasting (nodeAccept r a seq wrap sideA go s) = lasting s := by
  simp [nodeAccept, h]

@[simp] theorem lasting_ringReport {r : Nat} {rep : RingReport} : lasting (ringReport r rep s) = lasting s := by simp [ringReport]
@[simp] theorem lasting_replyTaken {r addr : Nat} {words : List Word} : lasting (replyTaken r addr words s) = lasting s := by rfl

@[simp] theorem lasting_ringReply {r addr seq : Nat} {words : List Word} {wrap sideA : Bool} :
    lasting (ringReply r addr seq words wrap sideA s) = lasting s := by
  simp [ringReply]

@[simp] theorem lasting_ringBurst {r addr seq offset : Nat} {samples : List Word} {wrap sideA : Bool} :
    lasting (ringBurst r addr seq offset samples wrap sideA s) = lasting s := by
  simp [ringBurst]

@[simp] theorem lasting_slotFail {r addr : Nat} : lasting (slotFail r addr s) = lasting s := by
  unfold slotFail
  dsimp only
  split <;> simp

@[simp] theorem lasting_announceRow {r : Nat} {uid : U64} : lasting (announceRow r uid s) = lasting s := by
  unfold announceRow
  dsimp only
  (repeat' split) <;> simp

@[simp] theorem lasting_announce {r : Nat} {uid : U64} {kind : Word} : lasting (announce r uid kind s) = lasting s := by
  unfold announce
  dsimp only
  (repeat' split) <;> simp

@[simp] theorem lasting_ownFrame {r : Nat} {sideA : Bool} {f : RingFrame} : lasting (ownFrame r sideA f s) = lasting s := by simp [ownFrame]

@[simp] theorem lasting_regionFail {r : Nat} {f : RingFrame} : lasting (regionFail r f s) = lasting s := by
  unfold regionFail fresh
  dsimp only
  (repeat' split) <;> simp

@[simp] theorem lasting_frameTaken {r : Nat} {sideA : Bool} {f : RingFrame} : lasting (frameTaken r sideA f s) = lasting s := by
  unfold frameTaken
  dsimp only
  split <;> simp

@[simp] theorem lasting_portFrame {r : Nat} {sideA : Bool} {f : RingFrame} : lasting (portFrame r sideA f s) = lasting s := by
  simp [portFrame]

@[simp] theorem lasting_ringFrame {r : Nat} {f : RingFrame} : lasting (ringFrame r f s) = lasting s := by
  unfold ringFrame
  split <;> simp

@[simp] theorem lasting_setSignal {lost : Bool} {r : Nat} {rx : RingReceiver} : lasting (setSignal lost r rx s) = lasting s := by
  rw [setSignal_only]; exact lasting_elsewhere ..

/-! ### Start-up from the flash -/

@[simp] theorem lasting_passBegin {b : Nat} {rest : List Nat} : lasting (passBegin b rest s) = lasting s := by
  rw [passBegin_only]; exact lasting_elsewhere ..

@[simp] theorem lasting_noBank : lasting (noBank s) = lasting s := by
  rw [noBank_only]; exact lasting_elsewhere ..

@[simp] theorem lasting_boatStart : lasting (boatStart s) = lasting s := by simp [boatStart]

@[simp] theorem lasting_nvmStart {f : FlashFacts} : lasting (nvmStart f s) = lasting s := by
  unfold nvmStart
  dsimp only
  (repeat' split) <;> simp

@[simp] theorem lasting_sendConfig {ws : List Word} : lasting (sendConfig ws s) = lasting s := by simp [sendConfig]

@[simp] theorem lasting_copyDigest {bytes : List Byte} {crc : Word} {ok : Bool} : lasting (copyDigest bytes crc ok s).2 = lasting s := by
  unfold copyDigest
  split <;> simp

@[simp] theorem lasting_laneLoad {l : Lane} {ok : Bool} : lasting (laneLoad l ok s) = lasting s := by
  unfold laneLoad
  split <;> simp

@[simp] theorem lasting_guardChannels {img : SafetyImage} : lasting (guardChannels img s) = lasting s := by simp [guardChannels]
@[simp] theorem lasting_safetyTimers {img : SafetyImage} : lasting (safetyTimers img s) = lasting s := by simp [safetyTimers]
@[simp] theorem lasting_pinsFrom {img : SafetyImage} : lasting (pinsFrom img s) = lasting s := by simp [pinsFrom]

@[simp] theorem lasting_fieldLoad : lasting (fieldLoad s) = lasting s := by
  unfold fieldLoad
  split <;> simp

@[simp] theorem lasting_armChannels {cm : CmImage} : lasting (armChannels cm s) = lasting s := by simp [armChannels]
@[simp] theorem lasting_copyCode {mask : Word} {code : List Word} : lasting (copyCode mask code s) = lasting s := by simp [copyCode]

@[simp] theorem lasting_armTask {e : Nat × TaskImage} : lasting (armTask s e) = lasting s := by
  have hgranted (h : Nat) (t : State) : lasting (allocate h 1 0 1 t).2 = lasting t := lasting_allocate t
  unfold armTask
  dsimp only
  split
  all_goals
    rename_i heq
    have hallocated := congrArg (fun g => lasting g.2) heq
    simp only [hgranted, lasting_setTask, lasting_copyCode] at hallocated
    simp [← hallocated]

@[simp] theorem lasting_armCores {cm : CmImage} : lasting (armCores cm s) = lasting s := by simp [armCores]
@[simp] theorem lasting_armRings {cm : CmImage} : lasting (armRings cm s) = lasting s := by simp [armRings]
@[simp] theorem lasting_staffOut : lasting (staffOut s) = lasting s := by simp [staffOut]
@[simp] theorem lasting_deliverSections {b : Nat} : lasting (deliverSections b s) = lasting s := by simp [deliverSections]
@[simp] theorem lasting_arm {b : Nat} : lasting (arm b s) = lasting s := by simp [arm]

@[simp] theorem lasting_dropField : lasting (dropField s) = lasting s := by
  unfold dropField
  split <;> simp

@[simp] theorem lasting_discard : lasting (discard s) = lasting s := by simp [discard]
@[simp] theorem lasting_bankFails {b r : Nat} : lasting (bankFails b r s) = lasting s := by simp [bankFails]

@[simp] theorem lasting_passComplete : lasting (passComplete s) = lasting s := by
  unfold passComplete
  dsimp only
  (repeat' split) <;> simp

@[simp] theorem lasting_logCreate : lasting (logCreate s) = lasting s := by simp [logCreate]
@[simp] theorem lasting_scanComplete : lasting (scanComplete s) = lasting s := by simp [scanComplete]

/-! ### The PERTURB block -/

@[simp] theorem lasting_perturbRefuse {addr : Nat} {v : Word} : lasting (perturbRefuse addr v s) = lasting s := by simp [perturbRefuse]

@[simp] theorem lasting_perturbWrite {p : Port} {ok : Bool} {addr : Nat} {old v : Word} {apply : State → State} (h : ∀ t, lasting (apply t) = lasting t) :
    lasting (perturbWrite p ok addr old v apply s) = lasting s := by
  simp [perturbWrite, h]

@[simp] theorem lasting_tgtWrite {p : Port} {n : Nat} {v : Word} : lasting (tgtWrite p n v s) = lasting s := by
  simp [tgtWrite]

@[simp] theorem lasting_cfgWrite {p : Port} {n : Nat} {v : Word} : lasting (cfgWrite p n v s) = lasting s := by
  simp [cfgWrite]

@[simp] theorem lasting_seedWrite {p : Port} {v : Word} : lasting (seedWrite p v s) = lasting s := by
  simp [seedWrite]

@[simp] theorem lasting_deliver {item : Instr} : lasting (deliver item s) = lasting s := by
  unfold deliver
  split <;> simp

@[simp] theorem lasting_releaseItem {e : HeldItem} : lasting (releaseItem e s) = lasting s := by simp [releaseItem]

@[simp] theorem lasting_hookRelease {n : Nat} : lasting (hookRelease n s) = lasting s := by
  unfold hookRelease
  split <;> simp

@[simp] theorem lasting_releaseUpTo {tick : Nat} : lasting (releaseUpTo tick s) = lasting s := by simp [releaseUpTo]

/-! ### The safety cycle -/

@[simp] theorem lasting_each {n : Nat} {due : State → Nat → Bool} {f : Nat → State → State} (h : ∀ a t, lasting (f a t) = lasting t) :
    lasting (each n due f s) = lasting s := by
  simp [each, h]

@[simp] theorem lasting_eachGroup {due : State → Group → Bool} {f : Group → State → State} (h : ∀ a t, lasting (f a t) = lasting t) :
    lasting (eachGroup due f s) = lasting s := by
  simp [eachGroup, h]

@[simp] theorem lasting_eachSupply {due : State → Supply → Bool} {f : Supply → State → State} (h : ∀ a t, lasting (f a t) = lasting t) :
    lasting (eachSupply due f s) = lasting s := by
  simp [eachSupply, h]

@[simp] theorem lasting_settleIn : lasting (settleIn s) = lasting s := by simp [settleIn]
@[simp] theorem lasting_settleOut : lasting (settleOut s) = lasting s := by simp [settleOut]
@[simp] theorem lasting_settleRest : lasting (settleRest s) = lasting s := by simp [settleRest]
@[simp] theorem lasting_settleBegin : lasting (settleBegin s) = lasting s := by simp [settleBegin]
@[simp] theorem lasting_settle : lasting (settle s) = lasting s := by simp [settle]
@[simp] theorem lasting_takeReadings {r : Readings} {q : Nat} : lasting (takeReadings r q s) = lasting s := by simp [takeReadings]
@[simp] theorem lasting_setFld {f : Field → Field} : lasting { s with fld := f s.fld } = lasting s := by rfl
@[simp] theorem lasting_samplingInstant {r : Readings} : lasting (samplingInstant r s) = lasting s := by simp [samplingInstant]
@[simp] theorem lasting_boundaryRows : lasting (boundaryRows s) = lasting s := by simp [boundaryRows]
@[simp] theorem lasting_nextCycle : lasting (nextCycle s) = lasting s := by rfl

@[simp] theorem lasting_mappingDue : lasting (mappingDue s) = lasting s := by
  unfold mappingDue
  split <;> simp

@[simp] theorem lasting_applyVotes {start : Nat} : lasting (applyVotes start s) = lasting s := by simp [applyVotes]
@[simp] theorem lasting_boundaryGroups : lasting (boundaryGroups s) = lasting s := by simp [boundaryGroups]
@[simp] theorem lasting_nextSlots : lasting (nextSlots s) = lasting s := by simp [nextSlots]

@[simp] theorem lasting_boundaryTachs : lasting (boundaryTachs s).2 = lasting s := by
  refine List.foldlRecOn (motive := fun e : Tab TachFrame × State => lasting e.2 = lasting s) _ _ rfl fun e he t _ => ?_
  have hbound := lasting_tachBoundary e.2 (t := t)
  split
  all_goals
    rename_i heq
    rw [heq] at hbound
    exact hbound.trans he

@[simp] theorem lasting_readySamples : lasting (readySamples s).2 = lasting s := by
  refine List.foldlRecOn (motive := fun e : Tab Word × State => lasting e.2 = lasting s) _ _ rfl fun e he t _ => ?_
  dsimp only
  split
  · simpa using he
  · exact he

@[simp] theorem lasting_freeze : lasting (freeze s) = lasting s := by simp [freeze]

@[simp] theorem lasting_freezeCopy {src : Lane} {c : Nat} : lasting (freezeCopy src c s) = lasting s := by
  unfold freezeCopy
  dsimp only
  split <;> simp

@[simp] theorem lasting_freezeCopies : lasting (freezeCopies s) = lasting s := by
  refine lasting_foldl _ (fun t l => ?_) _
  split
  · simp
  · rfl

@[simp] theorem lasting_boundary : lasting (boundary s) = lasting s := by simp [boundary]

/-! ### The network -/

@[simp] theorem lasting_learn {m p : Nat} : lasting (learn m p s) = lasting s := by simp [learn]

@[simp] theorem lasting_coreAdmits : lasting (coreAdmits s).2 = lasting s := by
  unfold coreAdmits
  dsimp only
  (repeat' split) <;> simp

@[simp] theorem lasting_coreTakes {f : EthFrame} : lasting (coreTakes f s) = lasting s := by
  unfold coreTakes
  split <;> simp

@[simp] theorem lasting_forward {p : Nat} {f : EthFrame} : lasting (forward p f s) = lasting s := by simp [forward]

@[simp] theorem lasting_groupAdmits {p : Nat} {f : EthFrame} : lasting (groupAdmits p f s).2 = lasting s := by
  unfold groupAdmits
  dsimp only
  (repeat' split) <;> simp

@[simp] theorem lasting_ethFrame {p : Nat} {f : EthFrame} : lasting (ethFrame p f s) = lasting s := by simp [ethFrame]
@[simp] theorem lasting_macAge {m : Nat} : lasting (macAge m s) = lasting s := by rfl
@[simp] theorem lasting_dropUdp : lasting (dropUdp s) = lasting s := by simp [dropUdp]
@[simp] theorem lasting_phyPoll {p : Nat} {link : Bool} {speed : Nat} : lasting (phyPoll p link speed s) = lasting s := by simp [phyPoll]

@[simp] theorem lasting_newMap {base : Nat} {rate : Int} : lasting (newMap base rate s) = lasting s := by
  rw [newMap_only]; exact lasting_elsewhere ..

@[simp] theorem lasting_slew : lasting (slew s) = lasting s := by rfl
@[simp] theorem lasting_timeStep {d : Int} : lasting (timeStep d s) = lasting s := by simp [timeStep]

@[simp] theorem lasting_setLocked {b : Bool} : lasting (setLocked b s) = lasting s := by
  rw [setLocked_only]; exact lasting_elsewhere ..

@[simp] theorem lasting_measure {off : Int} : lasting (measure off s) = lasting s := by simp [measure]

@[simp] theorem lasting_syncDone {t1 t2 : Int} : lasting (syncDone t1 t2 s) = lasting s := by
  unfold syncDone
  split <;> simp

@[simp] theorem lasting_delayDone {t4 : Int} : lasting (delayDone t4 s) = lasting s := by
  unfold delayDone
  split <;> simp

@[simp] theorem lasting_ptpMessage {m : PtpMsg} : lasting (ptpMessage m s) = lasting s := by
  unfold ptpMessage
  (repeat' split) <;> simp

@[simp] theorem lasting_ptpInterval : lasting (ptpInterval s) = lasting s := by simp [ptpInterval]
@[simp] theorem lasting_ptpLost : lasting (ptpLost s) = lasting s := by simp [ptpLost]
@[simp] theorem lasting_ppsSecond : lasting (ppsSecond s) = lasting s := by simp [ppsSecond]

@[simp] theorem lasting_telDatagram {peer : Nat} {bytes : List Byte} : lasting (telDatagram peer bytes s) = lasting s := by
  unfold telDatagram
  (repeat' split) <;> simp

@[simp] theorem lasting_outTelegram {conn : Nat} : lasting (outTelegram conn s) = lasting s := by simp [outTelegram]

/-! ### The flash -/

@[simp] theorem lasting_writeEnd {w : ImgWrite} : lasting (writeEnd w s) = lasting s := by
  rw [writeEnd_only]; exact lasting_elsewhere ..

@[simp] theorem lasting_writeFail {cause : Nat} : lasting (writeFail cause s) = lasting s := by
  rw [writeFail_only]; exact lasting_elsewhere ..

@[simp] theorem lasting_flashTimeout : lasting (flashTimeout s) = lasting s := by simp [flashTimeout]
@[simp] theorem lasting_nvmFail {atBoot : Bool} : lasting (nvmFail atBoot s) = lasting s := by simp [nvmFail]

@[simp] theorem lasting_writeBegin {byModule : Bool} {slot : Option Nat} : lasting (writeBegin byModule slot s) = lasting s := by
  rw [writeBegin_only]; exact lasting_elsewhere ..

@[simp] theorem lasting_cfgOpen : lasting (cfgOpen s) = lasting s := by
  rw [cfgOpen_only]; exact lasting_elsewhere ..

@[simp] theorem lasting_cfgCommit {p : Port} : lasting (cfgCommit p s) = lasting s := by
  rw [cfgCommit_only]; exact lasting_elsewhere ..

@[simp] theorem lasting_cfgCancel : lasting (cfgCancel s) = lasting s := by
  rw [cfgCancel_only]; exact lasting_elsewhere ..

@[simp] theorem lasting_bulkData {offset : Nat} {bytes : List Byte} : lasting (bulkData offset bytes s).2 = lasting s := by
  unfold bulkData
  dsimp only
  (repeat' split) <;> simp

@[simp] theorem lasting_judgeCommit : lasting (judgeCommit s) = lasting s := by simp [judgeCommit]
@[simp] theorem lasting_writeDone : lasting (writeDone s) = lasting s := by simp [writeDone]

@[simp] theorem lasting_flashNext : lasting (flashNext s) = lasting s := by
  unfold flashNext
  dsimp only
  split <;> simp

@[simp] theorem lasting_flashComplete {ok : Bool} : lasting (flashComplete ok s) = lasting s := by simp [flashComplete]
@[simp] theorem lasting_persistStart : lasting (persistStart s) = lasting s := by rfl

@[simp] theorem lasting_logAckWrite {v : Word} : lasting (logAckWrite v s) = lasting s := by
  rw [logAckWrite_only]; exact lasting_elsewhere ..

@[simp] theorem lasting_areaErased : lasting (areaErased s) = lasting s := by simp [areaErased]

@[simp] theorem lasting_cmApply {p : Port} {c : CmChange} : lasting (cmApply p c s) = lasting s := by
  unfold cmApply
  split <;> simp

@[simp] theorem lasting_cmRequest {p : Port} {c : CmChange} : lasting (cmRequest p c s) = lasting s := by
  simp [cmRequest]

/-! ### Power -/

@[simp] theorem lasting_vsysSeen {v : Nat} : lasting (vsysSeen v s) = lasting s := by
  rw [vsysSeen_only]; exact lasting_elsewhere ..

@[simp] theorem lasting_brownOut : lasting (brownOut s) = lasting s := by simp [brownOut]
@[simp] theorem lasting_rstLow : lasting (rstLow s) = lasting s := by simp [rstLow]
@[simp] theorem lasting_mcoreWd : lasting (mcoreWd s) = lasting s := by rfl
@[simp] theorem lasting_vsysFault {v n : Nat} : lasting (vsysFault v n s) = lasting s := by simp [vsysFault]
@[simp] theorem lasting_vsysBack {v n : Nat} : lasting (vsysBack v n s) = lasting s := by simp [vsysBack]
@[simp] theorem lasting_laneOffNow {n : Nat} : lasting (laneOffNow n s) = lasting s := by rfl
@[simp] theorem lasting_railLost {n : Nat} : lasting (railLost n s) = lasting s := by simp [railLost]
@[simp] theorem lasting_railSeen {n mv samples : Nat} : lasting (railSeen n mv samples s) = lasting s := by simp [railSeen]
@[simp] theorem lasting_clkNote {c n : Nat} : lasting (clkNote c n s) = lasting s := by rfl
@[simp] theorem lasting_clkFail {c : Nat} : lasting (clkFail c s) = lasting s := by simp [clkFail]
@[simp] theorem lasting_laneClock {l : Lane} : lasting (laneClock l s) = lasting s := by simp [laneClock]
@[simp] theorem lasting_clkWindow {c n : Nat} : lasting (clkWindow c n s) = lasting s := by simp [clkWindow]
@[simp] theorem lasting_pllLoss {b : Bool} : lasting (pllLoss b s) = lasting s := by simp [pllLoss]
@[simp] theorem lasting_rampDone : lasting (rampDone s) = lasting s := by rfl
@[simp] theorem lasting_tempRead {ts : List Int} : lasting (tempRead ts s) = lasting s := by simp [tempRead]

/-! ### Reads that clear -/

@[simp] theorem lasting_bankWait : lasting (bankWait s).2 = lasting s := by
  rw [bankWait_only]; exact lasting_elsewhere ..

@[simp] theorem lasting_valueAt {p : Port} {a : Nat} : lasting (valueAt p a s).2 = lasting s := by
  rw [valueAt_only]; exact lasting_elsewhere ..

/-! ### Register reads -/

@[simp] theorem lasting_latchPartners {p : Port} {a : Nat} : lasting (latchPartners p a s) = lasting s := by simp [latchPartners]
@[simp] theorem lasting_noteEventRead {a : Nat} : lasting (noteEventRead a s) = lasting s := by simp [noteEventRead]

@[simp] theorem lasting_clearFab {o : Nat} : lasting (clearFab o s) = lasting s := by
  rw [clearFab_only]; exact lasting_elsewhere ..

@[simp] theorem lasting_clearSys {o : Nat} : lasting (clearSys o s) = lasting s := by
  rw [clearSys_only]; exact lasting_elsewhere ..

@[simp] theorem lasting_clearAfe {o : Nat} : lasting (clearAfe o s) = lasting s := by
  rw [clearAfe_only]; exact lasting_elsewhere ..

@[simp] theorem lasting_clearRing {r o : Nat} : lasting (clearRing r o s) = lasting s := by
  rw [clearRing_only]; exact lasting_elsewhere ..

@[simp] theorem lasting_clearCox {o : Nat} : lasting (clearCox o s) = lasting s := by
  rw [clearCox_only]; exact lasting_elsewhere ..

@[simp] theorem lasting_clearPmu {o : Nat} : lasting (clearPmu o s) = lasting s := by
  rw [clearPmu_only]; exact lasting_elsewhere ..

@[simp] theorem lasting_clearBoat {o : Nat} : lasting (clearBoat o s) = lasting s := by
  rw [clearBoat_only]; exact lasting_elsewhere ..

@[simp] theorem lasting_clearEth {o : Nat} : lasting (clearEth o s) = lasting s := by
  rw [clearEth_only]; exact lasting_elsewhere ..

@[simp] theorem lasting_clearHspi {o : Nat} : lasting (clearHspi o s) = lasting s := by
  rw [clearHspi_only]; exact lasting_elsewhere ..

@[simp] theorem lasting_clearPerturb {o : Nat} : lasting (clearPerturb o s) = lasting s := by
  rw [clearPerturb_only]; exact lasting_elsewhere ..

@[simp] theorem lasting_readClear {a : Nat} : lasting (readClear a s) = lasting s := by
  unfold readClear
  split <;> simp

@[simp] theorem lasting_readWord {p : Port} {a : Nat} : lasting (readWord p a s).2 = lasting s := by
  unfold readWord
  split <;> simp

@[simp] theorem lasting_readWords {p : Port} {n a : Nat} : lasting (readWords p n a s).2 = lasting s := by
  induction n generalizing s a with
  | zero => rfl
  | succ n ih => simp [readWords, ih]

@[simp] theorem lasting_hostRead {p : Port} {a : Nat} : lasting (hostRead p a s) = lasting s := by simp [hostRead]

/-! ### Register writes -/

@[simp] theorem lasting_powerWrite {v : Word} : lasting (powerWrite v s) = lasting s := by
  unfold powerWrite
  split <;> simp

@[simp] theorem lasting_sysWrite {a o : Nat} {v : Word} : lasting (sysWrite a o v s) = lasting s := by
  unfold sysWrite
  (repeat' split) <;> simp

@[simp] theorem lasting_soutWrite {p : Port} {a o : Nat} {v : Word} : lasting (soutWrite p a o v s) = lasting s := by
  unfold soutWrite
  split <;> simp

@[simp] theorem lasting_afeCtrlWrite {p : Port} {n : Nat} {v : Word} : lasting (afeCtrlWrite p n v s) = lasting s := by simp [afeCtrlWrite]
@[simp] theorem lasting_afeWrite {p : Port} {a o : Nat} {v : Word} : lasting (afeWrite p a o v s) = lasting s := by simp [afeWrite]

@[simp] theorem lasting_tachWrite {p : Port} {o : Nat} {v : Word} : lasting (tachWrite p o v s) = lasting s := by
  unfold tachWrite
  (repeat' split) <;> simp

@[simp] theorem lasting_ringWrite {p : Port} {a r o : Nat} {v : Word} : lasting (ringWrite p a r o v s) = lasting s := by
  unfold ringWrite
  (repeat' split) <;> simp

@[simp] theorem lasting_coresWrite {p : Port} {v : Word} : lasting (coresWrite p v s) = lasting s := by
  simp [coresWrite]

@[simp] theorem lasting_taskCmdWrite {p : Port} {v : Word} : lasting (taskCmdWrite p v s) = lasting s := by
  unfold taskCmdWrite
  split <;> simp

@[simp] theorem lasting_coxWrite {p : Port} {o : Nat} {v : Word} : lasting (coxWrite p o v s) = lasting s := by
  unfold coxWrite
  (repeat' split) <;> simp

@[simp] theorem lasting_pmuGate {p : Port} {a : Nat} {old new : Word} {f : State → State} (h : ∀ t, lasting (f t) = lasting t) :
    lasting (pmuGate p a old new f s) = lasting s := by
  simp [pmuGate, h]

@[simp] theorem lasting_corePmuWrite {p : Port} {a c o : Nat} {v : Word} : lasting (corePmuWrite p a c o v s) = lasting s := by
  unfold corePmuWrite
  (repeat' split) <;> simp

@[simp] theorem lasting_pmuWrite {p : Port} {a o : Nat} {v : Word} : lasting (pmuWrite p a o v s) = lasting s := by
  unfold pmuWrite
  split <;> simp

@[simp] theorem lasting_boatWrite {o : Nat} {v : Word} : lasting (boatWrite o v s) = lasting s := by
  unfold boatWrite
  split <;> simp

@[simp] theorem lasting_crcParam {n k : Nat} {ok : Bool} {f : CrcCtx → CrcCtx} : lasting (crcParam n k ok f s) = lasting s := by
  simp [crcParam]

@[simp] theorem lasting_ctxWrite {n k : Nat} {v : Word} : lasting (ctxWrite n k v s) = lasting s := by
  unfold ctxWrite
  split <;> simp

@[simp] theorem lasting_nvmWrite {p : Port} {o : Nat} {v : Word} : lasting (nvmWrite p o v s) = lasting s := by
  unfold nvmWrite
  (repeat' split) <;> simp

@[simp] theorem lasting_loginWrite {p : Port} {v : Word} : lasting (loginWrite p v s) = lasting s := by
  unfold loginWrite
  split <;> simp

@[simp] theorem lasting_debugWrite {v : Word} : lasting (debugWrite v s) = lasting s := by
  unfold debugWrite
  split <;> simp

@[simp] theorem lasting_hspiRegWrite {a o : Nat} {v : Word} : lasting (hspiRegWrite a o v s) = lasting s := by
  unfold hspiRegWrite
  split <;> simp

@[simp] theorem lasting_hookWrite {p : Port} {o : Nat} {v : Word} : lasting (hookWrite p o v s) = lasting s := by simp [hookWrite]

/-! ### The register protocol and the host port -/

@[simp] theorem lasting_respondUdp {ws : List Word} : lasting (respondUdp ws s) = lasting s := by simp [respondUdp]

@[simp] theorem lasting_keepResponse {peer : Nat} {req : List Byte} {ws : List Word} :
    lasting (keepResponse peer req ws s) = lasting s := by
  rfl

@[simp] theorem lasting_protoRead {peer txn addr count : Nat} : lasting (protoRead peer txn addr count s).2 = lasting s := by
  unfold protoRead
  split <;> simp

@[simp] theorem lasting_protoBulkRead {txn index count : Nat} : lasting (protoBulkRead txn index count s).2 = lasting s := by
  unfold protoBulkRead
  dsimp only
  split <;> simp

@[simp] theorem lasting_protoBulkWrite {txn offset : Nat} {bytes : List Byte} :
    lasting (protoBulkWrite txn offset bytes s).2 = lasting s := by
  unfold protoBulkWrite
  split <;> simp

@[simp] theorem lasting_protoSubscribe {peer txn : Nat} : lasting (protoSubscribe peer txn s).2 = lasting s := by
  unfold protoSubscribe
  (repeat' split) <;> simp

@[simp] theorem lasting_protoUnsubscribe {peer txn : Nat} : lasting (protoUnsubscribe peer txn s).2 = lasting s := by rfl
@[simp] theorem lasting_spiSends {bytes : List Byte} : lasting (spiSends bytes s) = lasting s := by rfl
@[simp] theorem lasting_spiRead {addr count : Nat} : lasting (spiRead addr count s) = lasting s := by simp [spiRead]
@[simp] theorem lasting_spiAbort : lasting (spiAbort s) = lasting s := by rfl

end Lasting

/-! ## The lifecycle advances -/

/-- A change of the state that keeps the queue, never takes the lifecycle or its fuses back, and keeps the lifecycle legal. -/
structure Advances (s t : State) : Prop where
  pending : t.pending = s.pending
  legal : LifecycleLegal s → LifecycleLegal t
  lc : LifecycleLegal s → s.otp.lc ≤ t.otp.lc
  lcNext : s.otp.lcNext ≤ t.otp.lcNext

section Advancing

variable {s t u : State}

theorem Advances.refl (s : State) : Advances s s := ⟨rfl, id, fun _ => le_rfl, le_rfl⟩

theorem Advances.trans (h : Advances s t) (k : Advances t u) : Advances s u :=
  ⟨k.pending.trans h.pending, k.legal ∘ h.legal, fun hs => (h.lc hs).trans (k.lc (h.legal hs)), h.lcNext.trans k.lcNext⟩

theorem Advances.of_lasting (h : lasting t = lasting s) : Advances s t := by
  obtain ⟨hpending, hotp⟩ := Prod.mk.inj h
  refine ⟨hpending, fun hs => ?_, fun _ => by rw [hotp], by rw [hotp]⟩
  rwa [LifecycleLegal, hotp]

/-- A change that starts from a state with the same queue and OTP. -/
theorem Advances.after (h : lasting t = lasting s) (k : Advances t u) : Advances s u := (Advances.of_lasting h).trans k

theorem Advances.ite {p : Prop} [Decidable p] (ht : Advances s t) (hu : Advances s u) : Advances s (if p then t else u) := by
  split
  · exact ht
  · exact hu

/-! ### Lifecycle, keys and boot -/

theorem lasting_lcMove (lc : Nat) (s : State) : lasting (lcMove lc s) = (s.pending, { s.otp with lcNext := max s.otp.lcNext lc }) := by
  rw [lcMove, lasting_logEvent]
  rfl

/-- The fuse for a later state is blown; into RMA only where the keys are gone. -/
theorem lcMove_advances {lc : Nat} (hlc : lc ≤ 2) (hkeys : lc = 2 → s.otp.imageKey = none ∧ s.otp.debugKey = none) :
    Advances s (lcMove lc s) := by
  obtain ⟨hpending, hotp⟩ := Prod.mk.inj (lasting_lcMove lc s)
  refine ⟨hpending, ?_, fun _ => by rw [hotp], by rw [hotp]; exact le_max_left _ _⟩
  rintro ⟨hle, hmax, hgone⟩
  rw [LifecycleLegal, hotp]
  refine ⟨hle.trans (le_max_left _ _), max_le hmax hlc, fun hrma => ?_⟩
  obtain h | h : s.otp.lcNext = 2 ∨ lc = 2 := by dsimp only at hrma; omega
  · exact hgone h
  · exact hkeys h

theorem lcField_advances (s : State) : Advances s (lcField s) := by
  unfold lcField
  split
  · exact lcMove_advances (by decide) fun h => absurd h (by decide)
  · exact .of_lasting (lasting_secRefuse s)

theorem keysGone_advances (s : State) : Advances s { s with otp := { s.otp with imageKey := none, debugKey := none } } :=
  ⟨rfl, fun ⟨hle, hmax, _⟩ => ⟨hle, hmax, fun _ => ⟨rfl, rfl⟩⟩, fun _ => le_rfl, le_rfl⟩

theorem lcRma_advances (s : State) : Advances s (lcRma s) := by
  have hjudged := lasting_judgeToken s (key := s.otp.vendorKey) (level := 3)
  unfold lcRma
  dsimp only
  refine .ite (.after hjudged (.ite ?_ (.of_lasting (lasting_secRefuse _)))) (.of_lasting (lasting_secRefuse s))
  exact (keysGone_advances _).trans (lcMove_advances le_rfl fun _ => ⟨rfl, rfl⟩)

/-- A key is programmed only while no RMA fuse is blown. -/
theorem keyProgram_advances (v : Word) (s : State) : Advances s (keyProgram v s) := by
  have hrefuse : Advances s (secRefuse addrKeyCtrl codeAccessRefused s) := .of_lasting (lasting_secRefuse s)
  have hprogram : ∀ {k : Option (List Byte)} {o : Otp}, keyBlank k s = true → o.lc = s.otp.lc → o.lcNext = s.otp.lcNext →
      Advances s { s with otp := o, sec := { s.sec with keyData := [] } } := by
    intro k o hblank hlc hnext
    have hnot : s.otp.lcNext ≠ 2 := by simpa using (Bool.and_eq_true_iff.1 hblank).2
    refine ⟨rfl, ?_, fun _ => hlc.ge, hnext.ge⟩
    rintro ⟨hle, hmax, _⟩
    exact ⟨by rw [hlc, hnext]; exact hle, hnext.trans_le hmax, fun h => absurd (hnext.symm.trans h) hnot⟩
  unfold keyProgram
  dsimp only
  refine .ite (.refl s) ?_
  split
  · split
    · exact hprogram ‹_› rfl rfl
    · exact hrefuse
  · split
    · exact hprogram ‹_› rfl rfl
    · exact hrefuse
  · exact .refl s

theorem setAuthReq_advances (s : State) : Advances s (setAuthReq s) :=
  .ite ⟨rfl, id, fun _ => le_rfl, le_rfl⟩ (.of_lasting (lasting_secRefuse s))

/-- A boot loads the state that the fuses say. -/
theorem bootUp_advances (s : State) : Advances s (bootUp s) := by
  have hboot : lasting (bootUp s) = (s.pending, { s.otp with lc := s.otp.lcNext }) := by
    unfold bootUp
    dsimp only
    rw [groupsAtReset_only]
    rfl
  obtain ⟨hpending, hotp⟩ := Prod.mk.inj hboot
  refine ⟨hpending, ?_, fun ⟨hle, _, _⟩ => by rw [hotp]; exact hle, by rw [hotp]⟩
  rintro ⟨_, hmax, hgone⟩
  rw [LifecycleLegal, hotp]
  exact ⟨le_rfl, hmax, hgone⟩

theorem powerUp_advances (s : State) : Advances s (powerUp s) := .ite (bootUp_advances s) (.refl s)

theorem vsysGood_advances (s : State) : Advances s (vsysGood s) := by
  unfold vsysGood
  refine .ite (.refl s) (.ite (.of_lasting ?_) (.after ?_ (powerUp_advances _)))
  · rfl
  · rfl

theorem rstHigh_advances (s : State) : Advances s (rstHigh s) := by
  unfold rstHigh
  refine .ite (.after ?_ (powerUp_advances _)) (.of_lasting ?_)
  · rfl
  · rfl

/-! ### Register writes, and the requests that carry them -/

theorem secWrite_advances (p : Port) (o : Nat) (v : Word) (s : State) : Advances s (secWrite p o v s) := by
  unfold secWrite
  split
  · exact .of_lasting (lasting_loginWrite s)
  · exact .ite (lcField_advances s) (.ite (lcRma_advances s) (.refl s))
  · exact .of_lasting (lasting_debugWrite s)
  · exact .ite ((keyProgram_advances v s).trans (setAuthReq_advances _)) (keyProgram_advances v s)
  · split <;> exact .of_lasting (by simp)

theorem hostWrite_advances (p : Port) (a : Nat) (v : Word) (s : State) : Advances s (hostWrite p a v s) := by
  unfold hostWrite
  dsimp only
  refine .ite (.of_lasting (by simp)) ?_
  split
  case h_18 => exact secWrite_advances _ _ _ _
  all_goals exact .of_lasting (by simp)

theorem writeJudged_advances (p : Port) (a : Nat) (v : Word) (s : State) : Advances s (writeJudged p a v s).2 := by
  have hwrite := hostWrite_advances p a v { s with sys := { s.sys with refused := 0 } }
  unfold writeJudged
  split
  · exact .refl s
  · refine .after ?_ (hwrite.trans (.ite (.of_lasting ?_) (.refl _)))
    · rfl
    · rfl

theorem writeWords_advances (p : Port) (a : Nat) (vs : List Word) (s : State) : Advances s (writeWords p a vs s).2 := by
  induction vs generalizing a s with
  | nil => exact .refl s
  | cons v vs ih => exact (writeJudged_advances p a v s).trans (ih _ _)

theorem protoWrite_advances (peer txn a : Nat) (vs : List Word) (s : State) : Advances s (protoWrite peer txn a vs s).2 := by
  unfold protoWrite
  split
  · exact writeWords_advances _ _ _ _
  · exact .refl s

theorem spiWrite_advances (a : Nat) (vs : List Word) (crc : Word) (s : State) : Advances s (spiWrite a vs crc s) := by
  have hwritten := writeWords_advances .spi a vs (moduleCheck 3 true s)
  unfold spiWrite
  refine .ite (.after (lasting_moduleCheck s) (hwritten.trans (.ite (.of_lasting ?_) (.refl _)))) (.of_lasting (by simp))
  simp

theorem request_advances {work : State → List Word × State} (hwork : ∀ t, Advances t (work t).2) (peer : Nat) (req : List Byte)
    (crc : Word) (s : State) : Advances s (request peer req crc work s) := by
  unfold request
  refine .ite (.refl s) (.ite (.of_lasting (by simp)) ?_)
  split
  · exact .of_lasting (by simp)
  · exact .after (lasting_moduleCheck s) ((hwork _).trans (.ite (.of_lasting (by simp)) (.refl _)))

/-! ### Every command -/

/-- Every command but those of the lifecycle, the keys, the boot and the writes of registers leaves the queue and the OTP alone. -/
theorem exec_advances (c : Instr) (s : State) : ∃ t, exec c s = .next t ∧ Advances s t := by
  cases c
  case lcField => exact ⟨_, rfl, .ite (lcField_advances s) (.refl s)⟩
  case lcRma => exact ⟨_, rfl, .ite (lcRma_advances s) (.refl s)⟩
  case keyProgram => exact ⟨_, rfl, .ite (keyProgram_advances _ s) (.refl s)⟩
  case setAuthReq => exact ⟨_, rfl, .ite (setAuthReq_advances s) (.refl s)⟩
  case vsysGood => exact ⟨_, rfl, vsysGood_advances s⟩
  case sysRstNRelease => exact ⟨_, rfl, rstHigh_advances s⟩
  case registerWrite => exact ⟨_, rfl, .ite (hostWrite_advances _ _ _ s) (.refl s)⟩
  case regProtoWrite => exact ⟨_, rfl, .ite (request_advances (protoWrite_advances _ _ _ _) _ _ _ s) (.refl s)⟩
  case regProtoRead => exact ⟨_, rfl, .ite (request_advances (fun t => .of_lasting (lasting_protoRead t)) _ _ _ s) (.refl s)⟩
  case regProtoBulkRead => exact ⟨_, rfl, .ite (request_advances (fun t => .of_lasting (lasting_protoBulkRead t)) _ _ _ s) (.refl s)⟩
  case regProtoBulkWrite => exact ⟨_, rfl, .ite (request_advances (fun t => .of_lasting (lasting_protoBulkWrite t)) _ _ _ s) (.refl s)⟩
  case regProtoSubscribe => exact ⟨_, rfl, .ite (request_advances (fun t => .of_lasting (lasting_protoSubscribe t)) _ _ _ s) (.refl s)⟩
  case regProtoUnsubscribe =>
    exact ⟨_, rfl, .ite (request_advances (fun t => .of_lasting (lasting_protoUnsubscribe t)) _ _ _ s) (.refl s)⟩
  case hspiWrite => exact ⟨_, rfl, .ite (.ite (spiWrite_advances _ _ _ s) (.refl s)) (.refl s)⟩
  all_goals exact ⟨_, rfl, .of_lasting (by simp)⟩

end Advancing

/-- Settles O47: every command advances, and a step is a command or an idle tick. -/
theorem lifecycleOnlyAdvances : Obligations.LifecycleOnlyAdvances := by
  unfold Obligations.LifecycleOnlyAdvances
  refine ⟨fun c s t hlegal hexec => ?_, fun s t hlegal hstep => ?_⟩
  · obtain ⟨u, hu, hadvances⟩ := exec_advances c s
    cases hu.symm.trans hexec
    exact ⟨hadvances.pending, hadvances.legal hlegal, hadvances.lc hlegal, hadvances.lcNext⟩
  · unfold step at hstep
    split at hstep
    · cases hstep
      exact (Advances.of_lasting (lasting_idleTick s)).legal hlegal
    · obtain ⟨u, hu, hadvances⟩ := exec_advances _ _
      cases hu.symm.trans hstep
      exact hadvances.legal hlegal

end Sys2Proof.Machine
end

section
/-!
SUPPORT. The check-value unit (R293 to R298, R303) and an alarm entry's update (R275): what a stream of words makes of a context, what
the commands of the unit do to one, and the statements about them.
-/
namespace Sys2Proof.Machine

open Sys2Proof

/-! ## Streams (R294 to R296) -/

section Streams

variable {a b c d x : CrcCtx}

theorem xor_within {x y m : Word} (hx : x &&& m = x) (hy : y &&& m = y) : (x ^^^ y) &&& m = x ^^^ y := by
  refine BitVec.eq_of_getLsbD_eq fun i _ => ?_
  have hxi := congrArg (BitVec.getLsbD · i) hx
  have hyi := congrArg (BitVec.getLsbD · i) hy
  simp only [BitVec.getLsbD_and, BitVec.getLsbD_xor] at hxi hyi ⊢
  rw [Bool.and_xor_distrib_right, hxi, hyi]

/-- A bit leaves the register within WIDTH. -/
theorem crcStep_within (hpoly : c.poly &&& crcMask c = c.poly) (reg : Word) (b : Bool) :
    crcStep c reg b &&& crcMask c = crcStep c reg b := by
  have hshift : (reg <<< 1 &&& crcMask c) &&& crcMask c = reg <<< 1 &&& crcMask c := by rw [BitVec.and_assoc, BitVec.and_self]
  unfold crcStep
  dsimp only
  split
  · exact xor_within hshift hpoly
  · exact hshift

theorem crcFeed_within (hpoly : c.poly &&& crcMask c = c.poly) {reg : Word} (hreg : reg &&& crcMask c = reg) (w : Word) (len : Nat) :
    crcFeed c w len reg &&& crcMask c = crcFeed c w len reg :=
  List.foldlRecOn (motive := fun r => r &&& crcMask c = r) _ _ hreg fun r _ b _ => crcStep_within hpoly r b

theorem crcFeed_params (h : SameParameters a b) (w : Word) (len : Nat) (reg : Word) : crcFeed a w len reg = crcFeed b w len reg := by
  obtain ⟨hcfg, hpoly, _⟩ := h
  have hstep : crcStep a = crcStep b := by
    unfold crcStep crcMask crcWidth
    rw [hcfg, hpoly]
  unfold crcFeed feedBits crcRefin
  rw [hcfg, hstep]

/-- Two contexts in the middle of one stream: the same parameters and the same register, both begun. -/
structure SameStream (a b : CrcCtx) : Prop where
  params : SameParameters a b
  reg : a.reg = b.reg
  live : a.live = b.live

theorem SameStream.din (h : SameStream a b) (w : Word) : SameStream (crcDin w a) (crcDin w b) := by
  have hlen : crcLen a = crcLen b := congrArg (bits · 21 16) h.params.1
  exact ⟨h.params, by rw [crcDin, crcDin, crcFeed_params h.params, h.reg, hlen], rfl⟩

theorem SameStream.fed (h : SameStream a b) (ws : List Word) : SameStream (fedWords ws a) (fedWords ws b) := by
  induction ws generalizing a b with
  | nil => exact h
  | cons w ws ih => exact ih (h.din w)

theorem SameStream.result (h : SameStream a b) : crcResult a = crcResult b := by
  obtain ⟨⟨hcfg, _, _, hxor, _⟩, hreg, hlive⟩ := h
  unfold crcResult crcRefout crcWidth
  rw [hcfg, hxor, hreg, hlive]

/-- A context that a stream under the parameters of `c` has begun: its register lies within WIDTH. -/
structure Begun (c x : CrcCtx) : Prop where
  params : SameParameters x c
  within : x.reg &&& crcMask c = x.reg
  live : x.live = true

theorem begun_start (h : ParametersFit c) : Begun c (crcStart c) := by
  obtain ⟨hpoly, hinit⟩ := h
  refine ⟨⟨rfl, rfl, rfl, rfl, rfl, rfl⟩, ?_, rfl⟩
  unfold crcStart
  dsimp only
  split <;> split
  · exact crcFeed_within hpoly (crcFeed_within hpoly hinit _ _) _ _
  · exact crcFeed_within hpoly hinit _ _
  · exact crcFeed_within hpoly hinit _ _
  · exact hinit

theorem Begun.din (hpoly : c.poly &&& crcMask c = c.poly) (h : Begun c x) (w : Word) : Begun c (crcDin w x) :=
  ⟨h.params, by rw [crcDin, crcFeed_params h.params]; exact crcFeed_within hpoly h.within _ _, rfl⟩

theorem begun_fed (h : ParametersFit c) (ws : List Word) : Begun c (fedWords ws (crcStart c)) :=
  List.foldlRecOn (motive := Begun c) ws _ (begun_start h) fun _ hx w _ => hx.din h.1 w

theorem Begun.value (h : Begun c x) : ctxLive x 0x20 = some x.reg := by
  have hmask : crcMask x = crcMask c := congrArg (fun cfg => BitVec.ofNat 32 (2 ^ bits cfg 5 0 - 1)) h.params.1
  exact congrArg some (by rw [hmask, h.within])

/-- VALUE loaded into a context with the same parameters takes the stream up where it was read. -/
theorem Begun.load (h : Begun c x) (hcd : SameParameters c d) : SameStream (crcLoad x.reg d) x := by
  obtain ⟨hcfg, hpoly, hinit, hxor, hfold0, hfold1⟩ := h.params
  obtain ⟨hcfg', hpoly', hinit', hxor', hfold0', hfold1'⟩ := hcd
  have hmask : crcMask d = crcMask c := congrArg (fun cfg => BitVec.ofNat 32 (2 ^ bits cfg 5 0 - 1)) hcfg'.symm
  exact ⟨⟨(hcfg.trans hcfg').symm, (hpoly.trans hpoly').symm, (hinit.trans hinit').symm, (hxor.trans hxor').symm,
    (hfold0.trans hfold0').symm, (hfold1.trans hfold1').symm⟩, by rw [crcLoad, hmask, h.within], h.live.symm⟩

theorem fedWords_append (ws vs : List Word) (c : CrcCtx) : fedWords (ws ++ vs) c = fedWords vs (fedWords ws c) := List.foldl_append

end Streams

/-- Settles O40: the loaded context and the one that goes on are in the middle of one stream. -/
theorem streamsResume : Obligations.StreamsResume := by
  unfold Obligations.StreamsResume
  refine ⟨fun c ws hfit => (begun_fed hfit ws).value, fun s p n v hup hlow hhigh => run_gives hup ?_, fun c d ws vs v hfit hcd hv => ?_⟩
  · rw [hostCtx, if_pos ⟨hlow, hhigh⟩]
    rfl
  · have hbegun := begun_fed hfit ws
    cases Option.some.inj (hbegun.value.symm.trans hv)
    rw [fedWords_append]
    exact ((hbegun.load hcd).fed vs).result

/-! ## Contexts (R293, R297, R298, R303) -/

section Contexts

variable {s : State} {n off : Nat}

theorem State.ctx_setCtx_ne {c : CrcCtx} (h : c ≠ {}) : (s.setCtx n c).ctx n = c := look_put_ne _ _ _ _ h

theorem hostCtx_host {f : CrcCtx → CrcCtx} (hlow : 8 ≤ n) (hhigh : n < 16) : hostCtx n off f s = s.setCtx n (f (s.ctx n)) :=
  if_pos ⟨hlow, hhigh⟩

theorem hostCtx_module {f : CrcCtx → CrcCtx} (h : n < 8) : hostCtx n off f s = crcRefuse (addrCtx n off) s :=
  if_neg fun hn => hn.1.not_gt h

theorem hostCheck_module (h : n < 8) : hostCheck n s = crcRefuse (addrCtx n 0x18) s := by
  rw [hostCheck, hostCtx_module h]
  exact if_neg fun hn => hn.1.not_gt h

theorem hostDin_module {v : Word} (h : n < 8) : hostDin n v s = crcRefuse (addrCtx n 0x1C) s := by
  rw [hostDin, hostCtx_module h]
  exact if_neg fun hn => hn.1.not_gt h

theorem hostDin_host {v : Word} (hlow : 8 ≤ n) (hhigh : n < 16) : hostDin n v s =
    { s.setCtx n (crcDin v (s.ctx n)) with crc := { (s.setCtx n (crcDin v (s.ctx n))).crc with ptr := (n + 1) % 16 } } := by
  rw [hostDin, hostCtx_host hlow hhigh]
  exact if_pos ⟨hlow, hhigh⟩

theorem hostCheck_match (hlow : 8 ≤ n) (hhigh : n < 16) (h : crcResult (s.ctx n) = (s.ctx n).expect) :
    hostCheck n s = s.setCtx n { s.ctx n with isMatch := true } := by
  have hne : { s.ctx n with isMatch := true } ≠ ({} : CrcCtx) := ne_of_apply_ne CrcCtx.isMatch Bool.true_eq_false.mp
  rw [hostCheck, hostCtx_host hlow hhigh, crcCheck, if_pos h]
  dsimp only
  rw [State.ctx_setCtx_ne hne]
  exact if_neg fun hirq => by simp at hirq

theorem hostCheck_mismatch (hlow : 8 ≤ n) (hhigh : n < 16) (h : crcResult (s.ctx n) ≠ (s.ctx n).expect) {t : State}
    (ht : t = s.setCtx n { s.ctx n with isMatch := false, mismatch := true, mismatches := (s.ctx n).mismatches + 1 }) :
    hostCheck n s = if (s.ctx n).cfg.getLsbD 12 then { t with host := { s.host with irqStat := s.host.irqStat ||| 4 } } else t := by
  have hne : { s.ctx n with isMatch := false, mismatch := true, mismatches := (s.ctx n).mismatches + 1 } ≠ ({} : CrcCtx) :=
    ne_of_apply_ne CrcCtx.mismatch Bool.true_eq_false.mp
  rw [hostCheck, hostCtx_host hlow hhigh, crcCheck, if_neg h, ← ht]
  dsimp only
  rw [ht, State.ctx_setCtx_ne hne]
  refine if_congr ?_ rfl rfl
  simp [hlow, hhigh, crcIrq]

/-- R303: the check value of "123456789". -/
theorem katCtx_result : crcResult katCtx = 0xE3069283 := by decide +kernel

theorem crcCheck_live (c : CrcCtx) : (crcCheck c).live = c.live := by
  unfold crcCheck
  split <;> rfl

theorem katCtx_ne : katCtx ≠ {} := ne_of_apply_ne CrcCtx.live (by rw [katCtx, crcCheck_live]; exact Bool.true_eq_false.mp)

theorem katRun_right : ∃ t, katRun true s = t ∧ t.crc.katPass = true ∧ t.crc.katFail = false ∧ t.crc.katRuns = s.crc.katRuns + 1 ∧
    crcResult (t.ctx 7) = 0xE3069283 ∧ t.ump = s.ump := by
  have hctx : (katRun true s).ctx 7 = katCtx := State.ctx_setCtx_ne katCtx_ne
  exact ⟨_, rfl, rfl, rfl, rfl, by rw [hctx, katCtx_result], rfl⟩

theorem katRun_wrong : ∃ t, katRun false s = t ∧ t.crc.katPass = false ∧ t.crc.katFail = true ∧
    ∃ r : Report, t.ump.reports = s.ump.reports ++ [r] ∧ r.code = codeCrcKat ∧ (r.line = 13 ↔ s.seat.rotAt = 0) := by
  have hreport : ∀ t : State, ∃ u, report (if t.seat.rotAt = 0 then 13 else 47) codeCrcKat 0 t = u ∧ u.crc = t.crc ∧
      ∃ r : Report, u.ump.reports = t.ump.reports ++ [r] ∧ r.code = codeCrcKat ∧ (r.line = 13 ↔ t.seat.rotAt = 0) := by
    intro t
    refine ⟨_, report_direct (by split <;> rfl) _ _ t, rfl, _, rfl, rfl, ?_⟩
    dsimp only
    split <;> simp [*]
  obtain ⟨u, hu, hcrc, r, hreports, hcode, hline⟩ := hreport { moduleCheck 7 false s with
    crc := { (moduleCheck 7 false s).crc with katPass := false, katFail := true, katRuns := (moduleCheck 7 false s).crc.katRuns + 1 } }
  exact ⟨u, hu, by rw [hcrc], by rw [hcrc], r, hreports, hcode, hline⟩

theorem alarmUpdate_waiting {e : Nat} {ws : List Word} (h : (s.alarmE e).next = some ws) : alarmUpdate e s =
    s.setAlarm e { s.alarmE e with
      words := ws, next := none, run := 0, state := if alarmOn ws then (s.alarmE e).state else .normal } := by
  rw [alarmUpdate, h]

end Contexts

/-- Settles O41, command by command. -/
theorem checkValueContexts : Obligations.CheckValueContexts := by
  unfold Obligations.CheckValueContexts
  intro s p n hup
  refine ⟨?host, ?module, ?right, ?wrong, ?update⟩
  case host =>
    rintro c rfl hlow hhigh
    have hstart : exec (.crcStart p n) s = .next (s.setCtx n (crcStart (s.ctx n))) := run_gives hup (hostCtx_host hlow hhigh)
    refine ⟨fun hfold => ?_, fun hfold => ?_, fun hfold => ?_, ?_, fun h => run_gives hup (hostCheck_match hlow hhigh h), fun h => ?_⟩
    · rw [hstart, crcStart, hfold]
      rfl
    · rw [hstart, crcStart, hfold]
      rfl
    · rw [hstart, crcStart, hfold]
      rfl
    · rintro d t rfl
      exact run_gives hup (hostDin_host hlow hhigh)
    · exact ⟨_, rfl, run_gives hup (hostCheck_mismatch hlow hhigh h rfl)⟩
  case module =>
    intro hn v off c hc hoff
    simp only [List.mem_cons, List.not_mem_nil, or_false] at hc
    obtain rfl | rfl | rfl | rfl := hc
    · exact hoff ▸ run_gives hup (hostCtx_module hn)
    · exact hoff ▸ run_gives hup (hostCheck_module hn)
    · exact hoff ▸ run_gives hup (hostDin_module hn)
    · exact hoff ▸ run_gives hup (hostCtx_module hn)
  case right =>
    obtain ⟨t, ht, h⟩ := katRun_right (s := s)
    exact ⟨t, run_gives hup ht, h⟩
  case wrong =>
    obtain ⟨t, ht, h⟩ := katRun_wrong (s := s)
    exact ⟨t, run_gives hup ht, h⟩
  case update =>
    rintro e _ ws rfl h
    exact run_gives hup (alarmUpdate_waiting h)

end Sys2Proof.Machine
end

section
/-!
SUPPORT. The step (00_scope, 95_what_each_step_holds): what an idle tick changes, and the statement that a step runs the command at the
front of the queue.
-/
namespace Sys2Proof.Machine

open Sys2Proof

/-- The tick after the present one lies no further back, so only the boundary bounds it. -/
theorem idleTick_up {s : State} (hup : s.sys.up = true) : idleTick s = { s with
    now := min (s.now + 1) (s.t0 + 12499), fab := fabricTo (backPressure s) s.t0 (min (s.now + 1) (s.t0 + 12499)) s.fab } := by
  rw [idleTick, if_pos hup, advance, max_eq_right (Nat.le_succ s.now)]
  rfl

theorem idleTick_down {s : State} (hdown : s.sys.up = false) : idleTick s = s := by
  rw [idleTick, if_neg (by simp [hdown])]

theorem step_idle {s : State} (h : s.pending = []) : step s = .next (idleTick s) := by rw [step, h]

/-- Settles O44; that every command completes is part of what `exec_advances` says of each. -/
theorem stepRunsFrontCommand : Obligations.StepRunsFrontCommand := by
  unfold Obligations.StepRunsFrontCommand
  refine ⟨fun c rest s => rfl, fun s hempty hup => ?_, fun s hempty hdown => ?_, fun c s => ?_⟩
  · rw [step_idle hempty, idleTick_up hup]
  · rw [step_idle hempty, idleTick_down hdown]
  · obtain ⟨t, ht, _⟩ := exec_advances c s
    exact ⟨t, ht⟩

end Sys2Proof.Machine
end

section
/-!
SUPPORT. The vibration guard (R280 to R284, R287): what the end of a segment makes of its channels and of Q, what the lane does at it, and
the statement about the guard's two events.
-/
namespace Sys2Proof.Machine

open Sys2Proof

/-! ## Channels (R280, R282) -/

section Channels

variable {limit nSeg : Nat} {fault : Bool} {v w : VibChan}

/-- Two channels that show the same window: what a trip and Q are judged by. -/
structure SameWindow (v w : VibChan) : Prop where
  segs : v.segs = w.segs
  vel : v.vel = w.vel
  validRun : v.validRun = w.validRun

theorem vibRefill_sameWindow (fault : Bool) (v : VibChan) : SameWindow (vibRefill fault v) v := by
  cases fault <;> exact ⟨rfl, rfl, rfl⟩

/-- The count of valid segments since a fault is no part of a segment's sum. -/
theorem vibEnd_refilled_segs : (vibEnd limit nSeg (vibRefill fault v)).segs = (vibEnd limit nSeg v).segs := by cases fault <;> rfl

theorem SameWindow.over (h : SameWindow v w) : vibOver v = vibOver w := by rw [vibOver, segSum, h.segs, vibOver, segSum]

theorem SameWindow.has (h : SameWindow v w) (cls : SegClass) : winHas cls v = winHas cls w := by rw [winHas, h.segs, winHas]

end Channels

/-! ## The end of a segment (R283, R284) -/

section Segment

variable {cfg : VibCfg} {cycle pos : Nat} {rst lostA lostB : Bool} {wa wb : Option Word} {x : VibSt}

/-- The window of one channel forbids Q: it is over the limit, or holds an overrange or a not-ready mark. -/
def Forbids (v : VibChan) : Prop := vibOver v = true ∧ v.vel.isSome = true ∨ winHas .ovr v = true ∨ winHas .notReady v = true

/-- What the end of a segment answers. -/
structure SegmentEnded (cfg : VibCfg) (x x' : VibSt) (trip : Bool) : Prop where
  done : x'.done = x.done
  segsA : x'.a.segs = (vibEnd cfg.limit (cfg.nWin / 8) x.a).segs
  segsB : x'.b.segs = (vibEnd cfg.limit (cfg.nWin / 8) x.b).segs
  forbidden : Forbids x'.a ∨ Forbids x'.b → x'.q = false
  on : x'.q = true → x'.held = [] ∧ 8 ≤ x'.a.validRun ∧ 8 ≤ x'.b.validRun
  trips : trip = true → x.q = true ∧ x'.q = false

theorem vibSegmentEnd_ends : SegmentEnded cfg x (vibSegmentEnd cfg cycle rst x).1 (vibSegmentEnd cfg cycle rst x).2 := by
  unfold vibSegmentEnd
  extract_lets nSeg a b inval ready exceeds trip drop va vb inTol xs tolRun late h0 h0' h1 q
  have ha := vibRefill_sameWindow (late || inval) a
  have hb := vibRefill_sameWindow (late || inval) b
  refine ⟨rfl, ha.segs, hb.segs, ?_, ?_, ?_⟩
  · intro h
    have hdrop : drop = true := by
      simp only [Forbids, ha.over, hb.over, ha.vel, hb.vel, ha.has, hb.has] at h
      simp only [drop, trip, exceeds, Bool.or_eq_true, Bool.and_eq_true]
      tauto
    exact if_pos (by rw [hdrop]; rfl)
  · intro hq
    have hfree : (drop || !h1.isEmpty || !ready) = false := by
      by_contra h
      exact absurd ((if_pos (Bool.eq_true_of_not_eq_false h)).symm.trans hq) (by decide)
    simp only [Bool.or_eq_false_iff, Bool.not_eq_false', List.isEmpty_iff, ready, Bool.and_eq_true, decide_eq_true_eq] at hfree
    obtain ⟨⟨_, hheld⟩, hready⟩ := hfree
    exact ⟨hheld, by rw [ha.validRun]; exact hready.1, by rw [hb.validRun]; exact hready.2⟩
  · intro ht
    obtain ⟨hq, htrip⟩ := Bool.and_eq_true_iff.1 ht
    exact ⟨hq, if_pos (by simp only [drop, htrip]; rfl)⟩

/-- The last cycle of a segment takes its samples and ends the segment. -/
theorem vibCycle_ends (hlast : pos % (cfg.nWin / 8) + 1 = cfg.nWin / 8) :
    ∃ y x' trip, vibCycle cfg cycle pos rst wa wb lostA lostB x = (x', trip) ∧ SegmentEnded cfg y x' trip ∧ y.done = some cycle ∧
      (y.q = true → x.q = true) ∧ (∃ fault, y.a = vibRefill fault (vibSample cfg.sensA cfg.band2 wa lostA x.a)) ∧
      ∃ fault, y.b = vibRefill fault (vibSample cfg.sensB cfg.band2 wb lostB x.b) := by
  unfold vibCycle
  extract_lets nSeg a b x1 bad late h1 x2
  rw [if_pos hlast]
  exact ⟨x2, _, _, rfl, vibSegmentEnd_ends, rfl, fun h => (Bool.and_eq_true_iff.1 h).1, ⟨_, rfl⟩, ⟨_, rfl⟩⟩

end Segment

/-! ## The events -/

section Guard

variable {s : State} {l : Lane} {blk : Nat} {c : VibCfg} {x : VibSt}

theorem vibEnds_due (h : Evaluating s l blk (.vibguard c) (.vib x))
    (hlast : (s.seat.cycle - s.seat.firstCycle) % (c.nWin / 8) + 1 = c.nWin / 8) (hdone : x.done ≠ some s.seat.cycle) :
    vibEnds s l blk = some (evCtx s l, c, x) := by
  obtain ⟨_, hblock, hstate, _, _⟩ := h
  obtain ⟨img, himg, hgraph⟩ := Option.bind_eq_some_iff.1 hblock
  rw [vibEnds, himg]
  dsimp only
  rw [hgraph, hstate]
  dsimp only
  rw [if_pos ⟨hlast, hdone⟩, evCtx, himg]
  rfl

theorem vibSegEnd_due (h : Evaluating s l blk (.vibguard c) (.vib x))
    (hlast : (s.seat.cycle - s.seat.firstCycle) % (c.nWin / 8) + 1 = c.nWin / 8) (hdone : x.done ≠ some s.seat.cycle)
    {x' : VibSt} {trip : Bool} (hcycle : vibCycle c s.seat.cycle (s.seat.cycle - s.seat.firstCycle) (rb (evCtx s l) c.rst)
      (decSample (evCtx s l) c.chA) (decSample (evCtx s l) c.chB) false false x = (x', trip)) :
    vibSegEnd l blk s = (if trip then laneReport l codeVibTrip blk else id)
      ((entered x.held x'.held).foldl (fun t k => laneReport l k blk t) (blockAfter l blk (.vib x') (fun _ => vibOuts x') s)) := by
  have hends := vibEnds_due h hlast hdone
  obtain ⟨_, _, _, hsound, hevaluates⟩ := h
  rw [vibSegEnd, if_pos (by rw [hevaluates, hsound]; rfl), hends]
  dsimp only
  rw [hcycle]
  cases trip <;> rfl

end Guard

/-- Settles O5: the segment's end is the lane's event of its last cycle, the cross-check's end a block event that enters VIB_DISC. -/
theorem vibrationGuardEvents : Obligations.VibrationGuardEvents := by
  unfold Obligations.VibrationGuardEvents
  intro s l blk c x h
  refine ⟨fun hlast hdone => ?segment, fun c0 hsince hlate hunheld => ?disc⟩
  case segment =>
    obtain ⟨y, x', trip, hcycle, hended, hydone, hq, ⟨faultA, hya⟩, faultB, hyb⟩ := vibCycle_ends (cfg := c) (cycle := s.seat.cycle)
      (rst := rb (evCtx s l) c.rst) (wa := decSample (evCtx s l) c.chA) (wb := decSample (evCtx s l) c.chB) (lostA := false)
      (lostB := false) (x := x) hlast
    refine ⟨x', trip, run_gives h.1 (vibSegEnd_due h hlast hdone hcycle), hended.done.trans hydone, ?_, ?_, fun hforbids => ?_,
      hended.on, fun htrip => ?_⟩
    · rw [hended.segsA, hya, vibEnd_refilled_segs]
    · rw [hended.segsB, hyb, vibEnd_refilled_segs]
    · refine hended.forbidden ?_
      unfold Forbids
      tauto
    · obtain ⟨hon, hoff⟩ := hended.trips htrip
      exact ⟨hq hon, hoff⟩
  case disc =>
    have hevent : evVibDisc (evCtx s l) (.vibguard c) (.vib x) = some (BlockState.vib { x with
        a := vibRefill true x.a, b := vibRefill true x.b, xSince := none, tolRun := 0, q := false,
        held := x.held ++ [⟨codeVibDisc, s.seat.cycle⟩] }, zeroOuts) := by
      have hdue : tooLate x.xSince c.nx (evCtx s l).cycle = true := by rw [hsince]; exact tooLate_some hlate
      simp only [evVibDisc]
      rw [if_pos hdue, raise_unheld (h := x.held) hunheld, evCtx_cycle]
    exact blockEvent_enters h hevent (List.perm_append_singleton _ _)

end Sys2Proof.Machine
end

section
/-!
SUPPORT. The Umpire (R310 to R317): the forced-off lines at the field die, what the latch of one report writes, the self-checks, and
the statements about both.
-/
namespace Sys2Proof.Machine

open Sys2Proof

/-! ## The forced-off lines at the field die (R316) -/

/-- One group as the forced-off lines `low` have it. -/
def lineStep (low : BitVec 4) (t : State) (g : Group) : State :=
  let x := t.group g
  if low.getLsbD (groupNo g) then (if x.forced then t else groupCause g (fun y => { y with forced := true }) t)
  else if x.forced then groupMet g (fun y => { y with forced := false }) t else t

theorem forcedLines_eq (umpire own : BitVec 4) (s : State) : forcedLines umpire own s =
    allGroups.foldl (lineStep (umpire ||| own)) { s with fld := { s.fld with forced := umpire, local' := own } } := rfl

section Lines

variable (low : BitVec 4) (t : State) (g : Group)

/-- A line acts on its group as a cause, as a request, or not at all. -/
theorem lineStep_cases : (∃ f, lineStep low t g = groupCause g f t) ∨ (∃ f, lineStep low t g = groupMet g f t) ∨ lineStep low t g = t := by
  unfold lineStep
  dsimp only
  repeat' split
  · exact .inr (.inr rfl)
  · exact .inl ⟨_, rfl⟩
  · exact .inr (.inl ⟨_, rfl⟩)
  · exact .inr (.inr rfl)

theorem lineStep_other {k : Group} (h : k ≠ g) : (lineStep low t g).group k = t.group k := by
  obtain ⟨f, hf⟩ | ⟨f, hf⟩ | hf := lineStep_cases low t g
  · rw [hf, groupCause_group_other f t h]
  · rw [hf, groupMet_group_other f t h]
  · rw [hf]

/-- The lines themselves stand as they are while the groups follow them. -/
theorem lineStep_lines : ((lineStep low t g).fld.forced, (lineStep low t g).fld.local') = (t.fld.forced, t.fld.local') := by
  obtain ⟨f, hf⟩ | ⟨f, hf⟩ | hf := lineStep_cases low t g
  · obtain ⟨so, cio, ho⟩ := groupCause_outputsOnly g f t
    rw [hf, ho]
    cases g <;> rfl
  · obtain ⟨e, p, hm⟩ := groupMet_setGroup g f t
    rw [hf, hm]
    cases g <;> rfl
  · rw [hf]

variable {low g}

theorem lineStep_forces (h : low.getLsbD (groupNo g) = true) : ((lineStep low t g).group g).forced = true := by
  unfold lineStep
  dsimp only
  rw [if_pos h]
  split
  · assumption
  · rw [groupCause_group_same]; rfl

end Lines

section ForcedLines

variable (umpire own : BitVec 4) (s : State)

theorem forcedLines_lines : ((forcedLines umpire own s).fld.forced, (forcedLines umpire own s).fld.local') = (umpire, own) := by
  rw [forcedLines_eq]
  exact foldl_keeps (part := fun t => (t.fld.forced, t.fld.local')) (fun t g => lineStep_lines _ t g) _ _

theorem forcedLines_forced : (forcedLines umpire own s).fld.forced = umpire := congrArg Prod.fst (forcedLines_lines umpire own s)

theorem forcedLines_local : (forcedLines umpire own s).fld.local' = own := congrArg Prod.snd (forcedLines_lines umpire own s)

variable {umpire own}

/-- An asserted line shuts its group down. -/
theorem forcedLines_group {g : Group} (h : (umpire ||| own).getLsbD (groupNo g) = true) :
    ((forcedLines umpire own s).group g).forced = true := by
  refine foldl_reaches (I := fun _ => True) (P := fun t => (t.group g).forced = true) (fun _ _ _ => trivial)
    (fun t _ => lineStep_forces t h) (fun t k _ ht => ?_) (by cases g <;> decide : g ∈ allGroups) trivial
  rcases eq_or_ne g k with rfl | hne
  · exact lineStep_forces t h
  · rwa [lineStep_other _ _ _ hne]

end ForcedLines

theorem linesFollow_forced (s : State) : (linesFollow s).fld.forced = umpLines s.ump := forcedLines_forced _ _ _

theorem linesFollow_group {s : State} (h : umpLines s.ump = 0xF) (g : Group) : ((linesFollow s).group g).forced = true :=
  forcedLines_group s (by rw [h]; cases g <;> simp <;> exact .inl (by decide))

theorem localAssert_local (gs : BitVec 4) (s : State) : (localAssert gs s).fld.local' = s.fld.local' ||| gs := forcedLines_local _ _ _

theorem localAssert_group {gs : BitVec 4} {g : Group} (h : gs.getLsbD (groupNo g) = true) (s : State) :
    ((localAssert gs s).group g).forced = true := forcedLines_group s (by simp [h])

theorem linesFollow_host (s : State) : (linesFollow s).host = s.host := by rw [linesFollow_only]

/-! ## The latch of one report (R310 to R315, R407) -/

theorem pushEvent_ump (src cls code : Nat) (data : List Word) (time : Nat) (s : State) :
    (pushEvent src cls code data time s).ump = s.ump := by rw [pushEvent_only]

/-- The event that a push puts into the queue (R407). -/
def pushed (src cls code : Nat) (data : List Word) (time : Nat) (h : HostIf) : Event :=
  { seq := h.eventSeq, src := src, cls := cls, code := code, more := decide (5 < data.length), time := time, data := data.take 5 }

theorem pushEvent_head (src cls code : Nat) (data : List Word) (time : Nat) (s : State) :
    (pushEvent src cls code data time s).host.events.head? = some (pushed src cls code data time s.host) := by
  have hnotify := fun u => foldl_keeps (part := State.host) (f := fun t (_ : Nat) => coreUnicast 0 (udpFrame 56) t)
    (fun t _ => by rw [coreUnicast_only]) s.net.subs u
  rw [show (pushEvent src cls code data time s).host = _ from hnotify _]
  rfl

theorem aliveStop_ump (s : State) : (aliveStop s).ump = s.ump := by unfold aliveStop; split <;> rfl
theorem aliveStop_eventSeq (s : State) : (aliveStop s).host.eventSeq = s.host.eventSeq := by unfold aliveStop; split <;> rfl

/-- What latching a report makes of the Umpire's records: a fault line counts for the first source, an event line does not. -/
def latched (r : Report) (now : Nat) (u : Ump) : Ump :=
  let u := blkUpdate r u
  if 32 ≤ r.line then { u with hi := u.hi ||| BitVec.ofNat 32 (1 <<< (r.line - 32)) }
  else { firstSource r now u with lo := (firstSource r now u).lo ||| BitVec.ofNat 32 (1 <<< r.line) }

/-- What an error does before its event is pushed: the records, and for a lock-out or start error ALIVE and the qualifier. -/
def marked (s : State) (r : Report) : State :=
  let u := blkUpdate r s.ump
  if 32 ≤ r.line then { s with ump := { u with hi := u.hi ||| BitVec.ofNat 32 (1 <<< (r.line - 32)) } }
  else
    let v := firstSource r s.now u
    let s2 := { s with ump := { v with lo := v.lo ||| BitVec.ofNat 32 (1 <<< r.line) },
                       host := { s.host with irqStat := s.host.irqStat ||| 2 } }
    match lineScope r.line with
    | .lockout => aliveStop (lockoutFault s2)
    | .start => aliveStop s2
    | _ => s2

theorem latchOne_eq (s : State) (r : Report) : latchOne s r = pushEvent 0x402 4 r.code [] r.time (marked s r) := rfl

theorem aliveStop_now (s : State) : (aliveStop s).now = s.now := by unfold aliveStop; split <;> rfl

theorem marked_facts (s : State) (r : Report) : (marked s r).ump = latched r s.now s.ump ∧ (marked s r).now = s.now ∧
    (marked s r).host.eventSeq = s.host.eventSeq := by
  unfold marked latched
  dsimp only
  split
  · exact ⟨rfl, rfl, rfl⟩
  · split
    · exact ⟨aliveStop_ump _, aliveStop_now _, aliveStop_eventSeq _⟩
    · exact ⟨aliveStop_ump _, aliveStop_now _, aliveStop_eventSeq _⟩
    · exact ⟨rfl, rfl, rfl⟩

theorem latchOne_ump (s : State) (r : Report) : (latchOne s r).ump = latched r s.now s.ump := by
  rw [latchOne_eq, pushEvent_ump, (marked_facts s r).1]

theorem latchOne_now (s : State) (r : Report) : (latchOne s r).now = s.now := by
  obtain ⟨-, hnow, -⟩ := marked_facts s r
  rw [latchOne_eq, pushEvent_only]
  exact hnow

/-- The report is the newest event, of the Umpire and of class 4. -/
theorem latchOne_event (s : State) (r : Report) : ∃ e, (latchOne s r).host.events.head? = some e ∧ e.seq = s.host.eventSeq ∧
    e.src = 0x402 ∧ e.cls = 4 ∧ e.code = r.code ∧ e.time = r.time :=
  ⟨_, pushEvent_head .., (marked_facts s r).2.2, rfl, rfl, rfl, rfl⟩

section Latched

variable {r : Report} {now : Nat} {u : Ump}

/-- A first source is recorded or counted; nothing else of the status is touched. -/
theorem firstSource_keeps (r : Report) (now : Nat) (u : Ump) : (firstSource r now u).lo = u.lo ∧ (firstSource r now u).hi = u.hi ∧
    (firstSource r now u).blk = u.blk ∧ (firstSource r now u).reports = u.reports := by
  unfold firstSource
  split
  · exact ⟨rfl, rfl, rfl, rfl⟩
  · split
    · split <;> exact ⟨rfl, rfl, rfl, rfl⟩
    · exact ⟨rfl, rfl, rfl, rfl⟩

theorem latched_fault (h : r.line < 32) : latched r now u = { firstSource r now (blkUpdate r u) with
    lo := (firstSource r now (blkUpdate r u)).lo ||| BitVec.ofNat 32 (1 <<< r.line) } := if_neg (by omega)

theorem latched_lo (h : r.line < 32) : (latched r now u).lo = u.lo ||| BitVec.ofNat 32 (1 <<< r.line) ∧ (latched r now u).hi = u.hi := by
  obtain ⟨hlo, hhi, -⟩ := firstSource_keeps r now (blkUpdate r u)
  rw [latched_fault h]
  exact ⟨congrArg (· ||| _) hlo, hhi⟩

theorem latched_hi (h : 32 ≤ r.line) : (latched r now u).hi = u.hi ||| BitVec.ofNat 32 (1 <<< (r.line - 32)) ∧
    (latched r now u).lo = u.lo ∧ (latched r now u).first = u.first := by
  unfold latched
  dsimp only
  rw [if_pos h]
  exact ⟨rfl, rfl, rfl⟩

theorem latched_reports : (latched r now u).reports = u.reports := by
  unfold latched
  dsimp only
  split
  · rfl
  · exact (firstSource_keeps r now (blkUpdate r u)).2.2.2

theorem latched_blk (h : r.code ≠ 0) : look {} (latched r now u).blk r.line =
    { code := r.code, count := (look {} u.blk r.line).count + 1, time := r.time, detail := r.detail, res := r.res } := by
  have hblk : (latched r now u).blk = (blkUpdate r u).blk := by
    unfold latched
    dsimp only
    split
    · rfl
    · exact (firstSource_keeps r now (blkUpdate r u)).2.2.1
  rw [hblk]
  exact look_put_ne _ _ _ _ (fun hb => h (congrArg Blk.code hb))

/-- The first fault is the first source, and the handling window opens (R312). -/
theorem latched_first (h : r.line < 32) (hf : u.first = none) : (latched r now u).first =
    some { line := r.line, code := r.code, scope := scopeNo (lineScope r.line), merged := 0, time := r.time } ∧
    (latched r now u).handling = some now := by
  have hfirst : firstSource r now (blkUpdate r u) = { blkUpdate r u with
      first := some { line := r.line, code := r.code, scope := scopeNo (lineScope r.line), merged := 0, time := r.time },
      handling := some now } := by
    unfold firstSource
    split
    · rfl
    · rename_i f hs
      exact absurd (hs.symm.trans hf) (by simp)
  rw [latched_fault h, hfirst]
  exact ⟨rfl, rfl⟩

/-- A further fault within the window is merged (R312). -/
theorem latched_merges {f : FirstRec} (h : r.line < 32) (hf : u.first = some f) (hh : u.handling = some now) :
    (latched r now u).first = some { f with merged := sat 63 f.merged } := by
  have hfirst : (firstSource r now (blkUpdate r u)).first = some { f with merged := sat 63 f.merged } := by
    unfold firstSource
    split
    · rename_i hs
      exact absurd (hs.symm.trans hf) (by simp)
    · rename_i f' hs
      cases hs.symm.trans hf
      split
      · rename_i h' hs'
        cases hs'.symm.trans hh
        rw [if_pos (Nat.lt_add_of_pos_right (by decide))]
      · rename_i hs'
        exact absurd (hs'.symm.trans hh) (by simp)
  rw [latched_fault h]
  exact hfirst

end Latched

/-- A set bit of a lock-out or start line forces all groups off (R316). -/
theorem umpLines_all {u : Ump} {w : Word} {n : Nat} (h : u.lo = w ||| BitVec.ofNat 32 (1 <<< n)) (hn : n < 15)
    (hs : lineScope n = .lockout ∨ lineScope n = .start) : umpLines u = 0xF := by
  have hmask : allGroupsMask.getLsbD n = true := by
    have hall : ∀ k : Fin 15, lineScope k = .lockout ∨ lineScope k = .start → allGroupsMask.getLsbD k = true := by decide
    exact hall ⟨n, hn⟩ hs
  have hbit : (u.lo &&& allGroupsMask).getLsbD n = true := by
    rw [h, BitVec.getLsbD_and, BitVec.getLsbD_or, oneBit_getLsbD (by omega), hmask, Bool.or_true, Bool.and_true]
  have hne : decide (u.lo &&& allGroupsMask ≠ 0) = true := decide_eq_true (ne_zero_of_getLsbD hbit)
  rw [umpLines, hne, Bool.or_true, if_pos rfl]

/-! ## The latch -/

theorem latchAll_one {s : State} {r : Report} (h : s.ump.reports = [r]) :
    latchAll s = linesFollow (latchOne { s with ump := { s.ump with reports := [] } } r) := by simp [latchAll, h, sortReports, insertReport]

theorem latchAll_two {s : State} {r r2 : Report} (h : s.ump.reports = [r, r2]) (hlt : r2.line < r.line) :
    latchAll s = linesFollow (latchOne (latchOne { s with ump := { s.ump with reports := [] } } r2) r) := by
  simp [latchAll, h, sortReports, insertReport, hlt]

theorem umpireErrorLatch_runs {s : State} (hup : s.sys.up = true) : exec (.umpireErrorLatch) s = .next (latchAll s) := run_up _ _ hup

/-- Settles O17, from what the latch of one report writes, the lines that a set bit asserts, and the order of two reports. -/
theorem errorLatches : Obligations.ErrorLatches := by
  intro s r hup hcode
  refine ⟨fun hr hline => ?_, fun r2 hr hlt hline hnone => ?_⟩
  · obtain ⟨e, hhead, hseq, hsrc, hcls, hecode, htime⟩ := latchOne_event { s with ump := { s.ump with reports := [] } } r
    have hump : (latchOne { s with ump := { s.ump with reports := [] } } r).ump = latched r s.now { s.ump with reports := [] } :=
      latchOne_ump _ r
    refine ⟨_, e, (umpireErrorLatch_runs hup).trans (congrArg _ (latchAll_one hr)), ?_⟩
    rw [linesFollow_ump, linesFollow_host, hump]
    refine ⟨latched_reports, latched_lo, latched_hi, latched_blk hcode, hhead, hseq, hsrc, hcls, hecode, htime,
      fun hl hf => latched_first hl hf, fun hs hn => ?_⟩
    have hall : umpLines (latchOne { s with ump := { s.ump with reports := [] } } r).ump = 0xF := by
      rw [hump]; exact umpLines_all (latched_lo (by omega)).1 hn hs
    exact ⟨(linesFollow_forced _).trans hall, linesFollow_group hall⟩
  · obtain ⟨hfirst, hopen⟩ := latched_first (r := r2) (now := s.now) (u := { s.ump with reports := [] }) (by omega) hnone
    have hmerged := latched_merges hline hfirst hopen
    refine ⟨_, _, umpireErrorLatch_runs hup, Eq.trans ?_ hmerged, rfl, rfl⟩
    rw [latchAll_two hr hlt, linesFollow_ump, latchOne_ump, latchOne_now, latchOne_ump]

/-! ## The self-checks (R317) -/

theorem scheduled_due {k : Nat} {s : State} (f : State → State) (h : checkDue s k = true) : scheduled k f s = f (checkTaken k s) := if_pos h

theorem scheduled_early {k : Nat} {s : State} (f : State → State) (h : checkDue s k = false) : scheduled k f s = s := by
  simp [scheduled, h]

/-- The Umpire as its own check leaves it, before a failure is on its way. -/
def checkedUmp (pass : Bool) (u : Ump) : Ump :=
  { u with selfOk := pass, selfRuns := u.selfRuns + 1, booted := u.booted || pass, selfCause := !pass, selfPostponed := none }

/-- The Umpire's own check: its outcome, the lines, and a failure on its way on line 14, which has no alarm frame. -/
theorem umpCheck_eq (pass : Bool) (s : State) : ∃ rs, (pass = false → rs = s.ump.reports ++ [{ line := 14, code := codeUmpSelf, time := s.timeNow }]) ∧
    umpCheck pass s = { s with fld := (linesFollow { s with ump := checkedUmp pass s.ump }).fld,
                               ump := { checkedUmp pass s.ump with reports := rs } } := by
  cases pass
  · refine ⟨_, fun _ => rfl, ?_⟩
    have h : umpCheck false s = report 14 codeUmpSelf 0 (linesFollow { s with ump := checkedUmp false s.ump }) := rfl
    rw [h, report_direct (by decide), linesFollow_only]
    rfl
  · refine ⟨s.ump.reports, fun h => (by cases h), ?_⟩
    exact linesFollow_only _

theorem umpSelfCheck_open {s : State} {h : Nat} (pass : Bool) (hh : s.ump.handling = some h) :
    umpSelfCheck pass s = { s with ump := { s.ump with selfPostponed := some pass } } := by simp [umpSelfCheck, handlingOpen, hh]

theorem umpSelfCheck_shut {s : State} (pass : Bool) (hh : s.ump.handling = none) : umpSelfCheck pass s = umpCheck pass s := by
  simp [umpSelfCheck, handlingOpen, hh]

/-! ## The end of the handling window (R312) -/

theorem handlingDue_iff {s : State} {h : Nat} (hh : s.ump.handling = some h) : handlingDue s = decide (h + 15000 ≤ s.now) := by
  unfold handlingDue
  rw [hh]
  rfl

theorem handlingClose_quiet {s : State} (hr : s.ump.reports = []) :
    latchAll { s with ump := { s.ump with handling := none } } = { s with ump := { s.ump with handling := none } } := latchAll_quiet hr

theorem handlingClose_plain {s : State} (hr : s.ump.reports = []) (hp : s.ump.selfPostponed = none) :
    handlingClose s = { s with ump := { s.ump with handling := none } } := by
  unfold handlingClose
  rw [handlingClose_quiet hr]
  dsimp only
  rw [hp]

theorem handlingClose_postponed {s : State} {pass : Bool} (hr : s.ump.reports = []) (hp : s.ump.selfPostponed = some pass) :
    handlingClose s = umpCheck pass { s with ump := { s.ump with handling := none } } := by
  unfold handlingClose
  rw [handlingClose_quiet hr]
  dsimp only
  rw [hp]
  rfl

theorem groupNo_bit (g : Group) : (BitVec.ofNat 4 (1 <<< groupNo g)).getLsbD (groupNo g) = true := by cases g <;> decide

/-- A failing check asserts its groups' lines from the field die itself (R316). -/
theorem localAssert_facts (bit : BitVec 4) (v : Ump) (s : State) :
    (localAssert bit { s with ump := v }).ump = v ∧ (localAssert bit { s with ump := v }).fld.local' = s.fld.local' ||| bit ∧
    (∀ g, bit.getLsbD (groupNo g) = true → ((localAssert bit { s with ump := v }).group g).forced = true) ∧
    localAssert bit { s with ump := v } =
      { s with fld := (localAssert bit { s with ump := v }).fld, ump := (localAssert bit { s with ump := v }).ump } := by
  have hump : (localAssert bit { s with ump := v }).ump = v := congrArg State.ump (localAssert_only bit { s with ump := v })
  refine ⟨hump, localAssert_local _ _, fun g h => localAssert_group h _, ?_⟩
  rw [hump]
  exact localAssert_only _ _

/-- Settles O18, from the schedule of R317, the end of the window and the outcome of each check. -/
theorem selfChecksOfTheUmpireSide : Obligations.SelfChecksOfTheUmpireSide := by
  intro s hup
  refine ⟨fun h hr hh hdue hp => ?_, fun h pass hr hh hdue hp => ?_, fun h hh hearly => ?_, fun pass hd => ?_, fun h pass hd hh => ?_,
    fun pass hd hh => ?_, fun g pass hd => ?_, fun g hd => ?_, fun g hd => ?_, fun pass hd => ?_, fun hd => ⟨?_, ?_⟩⟩
  · exact (run_due handlingDue _ hup (by rw [handlingDue_iff hh]; exact decide_eq_true hdue)).trans
      (congrArg _ (handlingClose_plain hr hp))
  · obtain ⟨rs, -, he⟩ := umpCheck_eq pass { s with ump := { s.ump with handling := none } }
    refine ⟨_, (run_due handlingDue _ hup (by rw [handlingDue_iff hh]; exact decide_eq_true hdue)).trans
      (congrArg _ ((handlingClose_postponed hr hp).trans he)), rfl, rfl, rfl, rfl⟩
  · exact run_notDue handlingDue _ (by rw [handlingDue_iff hh]; exact decide_eq_false (by omega))
  · exact run_gives hup (scheduled_early _ hd)
  · exact run_gives hup ((scheduled_due _ hd).trans (umpSelfCheck_open (s := checkTaken 0 s) pass hh))
  · obtain ⟨rs, hrs, he⟩ := umpCheck_eq pass (checkTaken 0 s)
    exact ⟨_, run_gives hup ((scheduled_due _ hd).trans ((umpSelfCheck_shut (s := checkTaken 0 s) pass hh).trans he)), rfl, rfl, rfl, rfl, rfl,
      linesFollow_forced _, hrs, rfl⟩
  · exact run_gives hup (scheduled_early _ hd)
  · exact run_gives hup (scheduled_due _ hd)
  · obtain ⟨hump, hlocal, hgroup, honly⟩ := localAssert_facts (BitVec.ofNat 4 (1 <<< groupNo g))
      { (checkTaken (1 + groupNo g) s).ump with grpCause := s.ump.grpCause ||| BitVec.ofNat 4 (1 <<< groupNo g) } s
    exact ⟨_, run_gives hup (scheduled_due _ hd), hump, hlocal, hgroup g (groupNo_bit g), honly⟩
  · exact run_gives hup (scheduled_early _ hd)
  · exact run_gives hup (scheduled_due _ hd)
  · obtain ⟨hump, hlocal, hgroup, honly⟩ := localAssert_facts 0xF { (checkTaken 5 s).ump with fldCause := true } s
    exact ⟨_, run_gives hup (scheduled_due _ hd), hump, hlocal.trans (BitVec.or_allOnes (w := 4)),
      fun g => hgroup g (by cases g <;> decide), honly⟩

end Sys2Proof.Machine
end

section
/-!
SUPPORT. The seal (R366 to R368): what one sample makes of the security block, what a change reports and does to the write that
runs, and the statement about the two inputs.
-/
namespace Sys2Proof.Machine

open Sys2Proof

/-! ## A change of the seal, reported and watched -/

/-- The report of a change. -/
def sealNotice (s : State) : Report := { line := 50, code := codeSealChange, time := s.timeNow }

/-- A change is on line 50 and in the log, and changes no more than that. -/
theorem sealReport_eq (old : Word) (s : State) : ∃ host nvm, sealReport old s = { s with
    host := host, nvm := nvm, ump := { s.ump with reports := s.ump.reports ++ [sealNotice s] } } := by
  unfold sealReport
  rw [report_direct (by decide)]
  dsimp only
  split
  · rw [logEvent_only]
    exact ⟨_, _, rfl⟩
  · exact ⟨_, _, rfl⟩

theorem sealWatch_eq (s : State) : ∃ nvm, sealWatch s = { s with nvm := nvm } ∧ (sealClosed s = false → nvm.wr.sealOk = false) := by
  unfold sealWatch
  split
  · rename_i h
    exact ⟨s.nvm, rfl, fun h' => absurd h (by simp [h'])⟩
  · exact ⟨_, rfl, fun _ => rfl⟩

/-- What is done at a change of the security block from `s` to `x`: a report, and where the seal is then not closed the write that
runs is no longer sealed. -/
theorem sealNoted (s : State) (x : Sec) : ∃ host nvm, sealWatch (sealReport (sealBits s) { s with sec := x }) = { s with
    host := host, nvm := nvm, ump := { s.ump with reports := s.ump.reports ++ [sealNotice s] }, sec := x } ∧
    (sealClosed { s with sec := x } = false → nvm.wr.sealOk = false) := by
  obtain ⟨host, nvm, hr⟩ := sealReport_eq (sealBits s) { s with sec := x }
  rw [hr]
  obtain ⟨nvm', hw, hok⟩ := sealWatch_eq { s with
    host := host, nvm := nvm, ump := { s.ump with reports := s.ump.reports ++ [sealNotice s] }, sec := x }
  exact ⟨host, nvm', hw, hok⟩

/-! ## One sample of an input (R367) -/

/-- The filtered state of an input changes with this sample: the 20th in a row that differs. -/
abbrev sealTurns (b closed : Bool) (x : Sec) : Prop :=
  closed ≠ (if b then x.sealB else x.sealA) ∧ (if b then x.sealRunB else x.sealRunA) = 19

/-- A sample counted. -/
def sealCounted (b closed : Bool) (x : Sec) : Sec :=
  let run := if closed = (if b then x.sealB else x.sealA) then 0 else (if b then x.sealRunB else x.sealRunA) + 1
  { x with sealRunA := if b then x.sealRunA else run % 20, sealRunB := if b then run % 20 else x.sealRunB }

/-- A filtered state changed. -/
def sealTurned (b closed : Bool) (x : Sec) : Sec :=
  { x with sealA := if b then x.sealA else closed, sealB := if b then closed else x.sealB, cntSeal := x.cntSeal + 1 }

theorem sealTurns_iff (b closed : Bool) (x : Sec) :
    (if closed = (if b then x.sealB else x.sealA) then 0 else (if b then x.sealRunB else x.sealRunA) + 1) = 20 ↔
      sealTurns b closed x := by
  unfold sealTurns
  by_cases h : closed = (if b then x.sealB else x.sealA) <;> simp [h]

theorem sealSample_kept {b closed : Bool} {s : State} (h : ¬ sealTurns b closed s.sec) :
    sealSample b closed s = { s with sec := sealCounted b closed s.sec } :=
  if_neg (mt (sealTurns_iff b closed s.sec).mp h)

theorem sealSample_turned {b closed : Bool} {s : State} (h : sealTurns b closed s.sec) : ∃ host nvm,
    sealSample b closed s = { s with
      host := host, nvm := nvm, ump := { s.ump with reports := s.ump.reports ++ [sealNotice s] },
      sec := sealTurned b closed (sealCounted b closed s.sec) } ∧
    (sealClosed { s with sec := sealTurned b closed (sealCounted b closed s.sec) } = false → nvm.wr.sealOk = false) := by
  have hc : sealSample b closed s = sealChange b closed { s with sec := sealCounted b closed s.sec } :=
    if_pos ((sealTurns_iff b closed s.sec).mpr h)
  rw [hc]
  exact sealNoted { s with sec := sealCounted b closed s.sec } (sealTurned b closed (sealCounted b closed s.sec))

/-- The security block after a sample. -/
def sealSec (b closed : Bool) (x : Sec) : Sec :=
  if sealTurns b closed x then sealTurned b closed (sealCounted b closed x) else sealCounted b closed x

section Fields

variable (b a closed : Bool) (x : Sec)

theorem sealSec_fields : (sealSec b closed x).sealSamples = x.sealSamples ∧ (sealSec b closed x).sealOpenRun = x.sealOpenRun ∧
    (sealSec b closed x).sealDisc = x.sealDisc ∧ (sealSec b closed x).sealDiffRun = x.sealDiffRun := by
  unfold sealSec
  split <;> exact ⟨rfl, rfl, rfl, rfl⟩

/-- A sample of A touches nothing of B. -/
theorem sealSec_A : (sealSec false a x).sealA = (if a ≠ x.sealA ∧ x.sealRunA = 19 then a else x.sealA) ∧
    (sealSec false a x).sealB = x.sealB ∧
    (sealSec false a x).sealRunA = (if a = x.sealA then 0 else (x.sealRunA + 1) % 20) ∧
    (sealSec false a x).sealRunB = x.sealRunB ∧
    (sealSec false a x).cntSeal = x.cntSeal + (if (sealSec false a x).sealA ≠ x.sealA then 1 else 0) := by
  unfold sealSec
  by_cases h : a = x.sealA <;> by_cases hr : x.sealRunA = 19 <;> simp [sealTurns, sealTurned, sealCounted, h, hr]

/-- A sample of B touches nothing of A. -/
theorem sealSec_B : (sealSec true a x).sealB = (if a ≠ x.sealB ∧ x.sealRunB = 19 then a else x.sealB) ∧
    (sealSec true a x).sealA = x.sealA ∧
    (sealSec true a x).sealRunB = (if a = x.sealB then 0 else (x.sealRunB + 1) % 20) ∧
    (sealSec true a x).sealRunA = x.sealRunA ∧
    (sealSec true a x).cntSeal = x.cntSeal + (if (sealSec true a x).sealB ≠ x.sealB then 1 else 0) := by
  unfold sealSec
  by_cases h : a = x.sealB <;> by_cases hr : x.sealRunB = 19 <;> simp [sealTurns, sealTurned, sealCounted, h, hr]

end Fields

/-- What a sample does: its count, and at a change the report and the watch over the write that runs. -/
structure SealSampled (b closed : Bool) (s t : State) : Prop where
  sec : t.sec = sealSec b closed s.sec
  safety : t.seat = s.seat ∧ t.fld = s.fld ∧ t.lane = s.lane ∧ t.otp = s.otp
  kept : ¬ sealTurns b closed s.sec → t = { s with sec := t.sec }
  reports : ∀ r, r ∈ t.ump.reports ↔ r ∈ s.ump.reports ∨ sealTurns b closed s.sec ∧ r = sealNotice s
  watched : sealTurns b closed s.sec → sealClosed t = false → t.nvm.wr.sealOk = false

theorem sealSample_sampled (b closed : Bool) (s : State) : SealSampled b closed s (sealSample b closed s) := by
  by_cases h : sealTurns b closed s.sec
  · obtain ⟨host, nvm, ht, hok⟩ := sealSample_turned h
    rw [ht]
    exact { sec := (if_pos h).symm, safety := ⟨rfl, rfl, rfl, rfl⟩, kept := fun h' => absurd h h',
            reports := fun r => by rw [List.mem_append, List.mem_singleton, and_iff_right h], watched := fun _ => hok }
  · rw [sealSample_kept h]
    exact { sec := (if_neg h).symm, safety := ⟨rfl, rfl, rfl, rfl⟩, kept := fun _ => rfl,
            reports := fun r => by simp [h], watched := fun h' => absurd h' h }

theorem sealTurns_A {a : Bool} {x : Sec} : sealTurns false a x ↔ (sealSec false a x).sealA ≠ x.sealA := by
  rw [(sealSec_A a x).1]
  unfold sealTurns
  split <;> simp_all

theorem sealTurns_B {a : Bool} {x : Sec} : sealTurns true a x ↔ (sealSec true a x).sealB ≠ x.sealB := by
  rw [(sealSec_B a x).1]
  unfold sealTurns
  split <;> simp_all

/-! ## The two inputs -/

/-- The count of open samples ends a discrepancy, never starts one. -/
theorem sealRuns_closed (a b : Bool) (s : State) (h : sealClosed s = true) : sealClosed (sealRuns a b s) = true := by
  simp_all [sealClosed, sealRuns]

section Inputs

variable (a b : Bool) (s : State)

theorem sealInputs_sec : (sealInputs a b s).sec = (sealRuns a b { s with sec := sealSec true b (sealSec false a s.sec) }).sec := by
  have hA := (sealSample_sampled false a s).sec
  have hB := (sealSample_sampled true b (sealSample false a s)).sec
  rw [hA] at hB
  unfold sealInputs sealRuns
  dsimp only
  rw [hB]

/-- Without a change only the security block is written. -/
theorem sealInputs_kept (hA : ¬ sealTurns false a s.sec) (hB : ¬ sealTurns true b (sealSec false a s.sec)) :
    sealInputs a b s = { s with sec := (sealInputs a b s).sec } := by
  have hb : ¬ sealTurns true b (sealSample false a s).sec := by rwa [(sealSample_sampled false a s).sec]
  unfold sealInputs
  rw [sealSample_kept hb, sealSample_kept hA]
  rfl

/-- A change of either input is reported, and where the seal is not closed afterwards the write that runs is not sealed. -/
theorem sealInputs_noted (h : sealTurns false a s.sec ∨ sealTurns true b (sealSec false a s.sec)) :
    (∃ r ∈ (sealInputs a b s).ump.reports, r.line = 50 ∧ r.code = codeSealChange) ∧
    (sealClosed (sealInputs a b s) = false → (sealInputs a b s).nvm.wr.sealOk = false) := by
  have hsA := sealSample_sampled false a s
  have hsB := sealSample_sampled true b (sealSample false a s)
  have hopen : sealClosed (sealInputs a b s) = false → sealClosed (sealSample true b (sealSample false a s)) = false := fun ho => by
    by_contra hc
    simp only [Bool.not_eq_false] at hc
    exact absurd (sealRuns_closed a b _ hc) (by rw [show sealRuns a b _ = sealInputs a b s from rfl, ho]; decide)
  by_cases hB : sealTurns true b (sealSec false a s.sec)
  · rw [← hsA.sec] at hB
    exact ⟨⟨_, (hsB.reports _).mpr (.inr ⟨hB, rfl⟩), rfl, rfl⟩, fun ho => hsB.watched hB (hopen ho)⟩
  · have hA := h.resolve_right hB
    rw [← hsA.sec] at hB
    have hkept := sealSample_kept hB
    refine ⟨⟨_, (hsB.reports _).mpr (.inl ((hsA.reports _).mpr (.inr ⟨hA, rfl⟩))), rfl, rfl⟩, fun ho => ?_⟩
    have hw := hopen ho
    have hn : (sealInputs a b s).nvm = (sealSample false a s).nvm := by unfold sealInputs; rw [hkept]; rfl
    rw [hkept] at hw
    rw [hn]
    exact hsA.watched hA hw

theorem sealInputs_safety : (sealInputs a b s).seat = s.seat ∧ (sealInputs a b s).fld = s.fld ∧ (sealInputs a b s).lane = s.lane ∧
    (sealInputs a b s).otp = s.otp := by
  obtain ⟨hs, hf, hl, ho⟩ := (sealSample_sampled true b (sealSample false a s)).safety
  obtain ⟨hs', hf', hl', ho'⟩ := (sealSample_sampled false a s).safety
  exact ⟨hs.trans hs', hf.trans hf', hl.trans hl', ho.trans ho'⟩

end Inputs

/-! ## The discrepancy (R368) -/

theorem sealDiscDue_iff (s : State) : sealDiscDue s = true ↔ s.sec.sealDiffRun = 1000 ∧ s.sec.sealDisc = false := by
  simp [sealDiscDue]

/-- Settles O51, from one sample of each input, and the discrepancy as a change of the seal. -/
theorem sealInputs_holds : Obligations.SealInputs := by
  intro s hup
  refine ⟨fun a b h => ?_, fun a b h => ⟨_, run_due sealDue _ hup (decide_eq_true h), ?_⟩, fun hd hn => ?_, fun h => ?_⟩
  · exact run_notDue sealDue _ (decide_eq_false (by omega))
  · obtain ⟨hAA, hAB, hARA, hARB, hAC⟩ := sealSec_A a s.sec
    obtain ⟨hBB, hBA, hBRB, hBRA, hBC⟩ := sealSec_B b (sealSec false a s.sec)
    obtain ⟨hsamples, hopen, hdisc, hdiff⟩ := sealSec_fields false a s.sec
    obtain ⟨hsamples', hopen', hdisc', hdiff'⟩ := sealSec_fields true b (sealSec false a s.sec)
    obtain ⟨hseat, hfld, hlane, hotp⟩ := sealInputs_safety a b s
    have hx := sealInputs_sec a b s
    have hA : (sealInputs a b s).sec.sealA = (sealSec false a s.sec).sealA := (congrArg Sec.sealA hx).trans hBA
    have hB : (sealInputs a b s).sec.sealB = (sealSec true b (sealSec false a s.sec)).sealB := by rw [hx]; rfl
    have hO : (sealInputs a b s).sec.sealOpenRun = if a = false ∧ b = false then min 20 (s.sec.sealOpenRun + 1) else 0 := by
      rw [hx, ← hopen, ← hopen']
      cases a <;> cases b <;> rfl
    have hturnA : sealTurns false a s.sec ↔ (sealInputs a b s).sec.sealA ≠ s.sec.sealA := by rw [hA]; exact sealTurns_A
    have hturnB : sealTurns true b (sealSec false a s.sec) ↔ (sealInputs a b s).sec.sealB ≠ s.sec.sealB := by
      rw [hB, ← hAB]; exact sealTurns_B
    refine ⟨?_, hA.trans hAA, ?_, ?_, ?_, hO, ?_, ?_, ?_, hseat, hfld, hlane, hotp, fun ha hb => ?_, fun hab => ?_⟩
    · rw [hx, ← hsamples, ← hsamples']; rfl
    · rw [hB, hBB, hAB, hARB]
    · rw [hx, ← hARA, ← hBRA]; rfl
    · rw [hx, ← hAB, ← hARB, ← hBRB]; rfl
    · rw [← hdisc, ← hdisc']
      exact (congrArg Sec.sealDisc hx).trans (by rw [hx]; rfl)
    · rw [← hdiff, ← hdiff', hA, ← hBA, hB]
      exact congrArg Sec.sealDiffRun hx
    · rw [hA, hB, ← hAC, ← hAB, ← hBC, hx]
      rfl
    · exact sealInputs_kept a b s (mt hturnA.mp (not_not.mpr ha)) (mt hturnB.mp (not_not.mpr hb))
    · exact sealInputs_noted a b s (hab.imp hturnA.mpr hturnB.mpr)
  · obtain ⟨host, nvm, ht, hok⟩ := sealNoted s { s.sec with sealDisc := true, cntDisc := s.sec.cntDisc + 1 }
    have hopen : sealClosed { s with sec := { s.sec with sealDisc := true, cntDisc := s.sec.cntDisc + 1 } } = false := by
      simp [sealClosed]
    exact ⟨_, (run_due sealDiscDue _ hup ((sealDiscDue_iff s).mpr ⟨hd, hn⟩)).trans (congrArg _ ht), rfl, hopen, hok hopen,
      sealNotice s, List.mem_append_right _ (List.mem_singleton_self _), rfl, rfl⟩
  · refine run_notDue sealDiscDue _ (Bool.eq_false_iff.mpr fun hd => ?_)
    obtain ⟨h1, h2⟩ := (sealDiscDue_iff s).mp hd
    exact h.elim (· h1) fun h3 => absurd h3 (by simp [h2])

end Sys2Proof.Machine
end

section
/-!
SUPPORT. Logins (R369 to R371): ports and slots written and read, the outcomes of a response, sessions, and the statement about them.
-/
namespace Sys2Proof.Machine

open Sys2Proof

/-! ## Ports and slots -/

theorem State.login_setLogin_ne {s : State} {p : Port} {v : LoginPort} (h : v ≠ {}) : (s.setLogin p v).login p = v :=
  look_put_ne _ _ _ _ h

theorem State.slotCnt_setSlotCnt_ne {s : State} {k : Nat} {v : SlotCnt} (h : v ≠ {}) : (s.setSlotCnt k v).slotCnt k = v :=
  look_put_ne _ _ _ _ h

theorem LoginPort.ne_of_used {v : LoginPort} (h : v.used = true) : v ≠ {} := fun h' => by simp [h'] at h

/-! ## A challenge (R370) -/

theorem fresh16_length (s : State) : (fresh16 s).1.length = 16 := by simp [fresh16, leBytes_length]

theorem challenge_facts (p : Port) (k : Nat) (s : State) : ((challenge p k s).login p).nonce = some (fresh16 s).1 ∧
    ((challenge p k s).login p).used = false ∧ ((challenge p k s).login p).issued = s.now ∧
    ((challenge p k s).login p).slot = k ∧ ((challenge p k s).login p).salt = (pwSlot s k).salt ∧
    (challenge p k s).sec.sessions = s.sec.sessions := by
  have h : (challenge p k s).login p = { (fresh16 s).2.login p with
      slot := k, salt := (pwSlot s k).salt, nonce := some (fresh16 s).1, used := false, issued := s.now } :=
    State.login_setLogin_ne (fun h => by injection h; contradiction)
  rw [h]
  exact ⟨rfl, rfl, rfl, rfl, rfl, rfl⟩

/-! ## A response (R370, R371) -/

section Respond

variable {s : State} {p : Port} {k : Nat} {nonce : List Byte}

/-- A response that cannot be judged is refused and uses nothing up. -/
theorem respond_unjudged (h : (s.login p).nonce = none ∨ slotLocked s k = true ∨ (pwSlot s k).defined = false ∨
    (s.login p).issued + 1000000000 ≤ s.now) :
    respond p k s = secRefuse addrLogin codeAccessRefused (s.setLogin p { s.login p with lastFail := true }) := by
  unfold respond
  dsimp only
  split
  · rfl
  · rename_i nonce hn
    refine if_pos ?_
    rcases h with h | h | h | h
    · exact absurd (hn.symm.trans h) (by simp)
    · simp [h]
    · simp [h]
    · have ht : decide ((s.login p).issued + nonceTicks ≤ s.now) = true := decide_eq_true h
      simp [ht]

theorem respond_judged (h : Judged s p k nonce) : respond p k s =
    if (s.login p).used || decide (regBytes (s.login p).resp ≠ hmac (pwSlot s k).hash (nonce ++ [BitVec.ofNat 8 k]))
    then loginFail p k s else loginOpen p k s := by
  obtain ⟨hnonce, hlock, hdef, htime⟩ := h
  have ht : decide ((s.login p).issued + nonceTicks ≤ s.now) = false :=
    decide_eq_false (show ¬ (s.login p).issued + 1000000000 ≤ s.now by omega)
  unfold respond
  dsimp only
  rw [hnonce]
  dsimp only
  rw [if_neg (by simp [hlock, hdef, ht])]

theorem respond_fails (h : Judged s p k nonce) (hbad : (s.login p).used = true ∨ ¬ RightResponse s p k nonce) :
    respond p k s = loginFail p k s := by
  rw [respond_judged h]
  refine if_pos ?_
  rcases hbad with hbad | hbad
  · rw [hbad, Bool.true_or]
  · rw [RightResponse] at hbad
    simp [hbad]

theorem respond_opens (h : Judged s p k nonce) (hu : (s.login p).used = false) (hr : RightResponse s p k nonce) :
    respond p k s = loginOpen p k s := by
  rw [RightResponse] at hr
  rw [respond_judged h, if_neg (by simp [hu, hr])]

/-- A counted failure: the nonce is used up, no session is touched. -/
theorem loginFail_port : ((loginFail p k s).login p).used = true ∧ ((loginFail p k s).login p).lastFail = true ∧
    (loginFail p k s).sec.sessions = s.sec.sessions := by
  have h : (loginFail p k s).login p = { s.login p with lastFail := true, used := true } ∧
      (loginFail p k s).sec.sessions = s.sec.sessions := by
    unfold loginFail
    dsimp only
    split
    · rw [logEvent_only, report_direct (by decide)]
      exact ⟨State.login_setLogin_ne (s := s) (LoginPort.ne_of_used rfl), rfl⟩
    · exact ⟨State.login_setLogin_ne (s := s) (LoginPort.ne_of_used rfl), rfl⟩
  rw [h.1]
  exact ⟨rfl, rfl, h.2⟩

/-- The first and the second failure in a row count. -/
theorem loginFail_counts (h : (s.slotCnt k).fails < 2) :
    ((loginFail p k s).slotCnt k).fails = (s.slotCnt k).fails + 1 ∧ (loginFail p k s).ump = s.ump := by
  have hf : loginFail p k s = (s.setLogin p { s.login p with lastFail := true, used := true }).setSlotCnt k
      { s.slotCnt k with fails := (s.slotCnt k).fails + 1 } := if_neg (by omega)
  rw [hf, State.slotCnt_setSlotCnt_ne (fun h => by injection h; omega)]
  exact ⟨rfl, rfl⟩

/-- The third failure in a row locks the slot for 60 s. -/
theorem loginFail_locks (h : 2 ≤ (s.slotCnt k).fails) :
    (loginFail p k s).slotCnt k = { s.slotCnt k with fails := 0, lockUntil := some (s.now + 6000000000) } ∧
    (loginFail p k s).now = s.now ∧ { line := 50, code := codePwdLock, detail := 0, time := s.timeNow } ∈ (loginFail p k s).ump.reports := by
  have hf : loginFail p k s = logEvent 0xFF 5 (0x00110080 + 4 * k) [] [1] (report 50 codePwdLock 0
      ((s.setLogin p { s.login p with lastFail := true, used := true }).setSlotCnt k
        { s.slotCnt k with fails := 0, lockUntil := some (s.now + 6000000000) })) := if_pos h
  rw [hf, logEvent_only, report_direct (by decide)]
  refine ⟨State.slotCnt_setSlotCnt_ne (s := s.setLogin p _) (fun h => by injection h; contradiction), rfl, ?_⟩
  exact List.mem_append_right _ (List.mem_singleton_self _)

theorem slotLocked_of {t : State} {until' : Nat} (h : (t.slotCnt k).lockUntil = some until') (ht : t.now < until') :
    slotLocked t k = true := by
  unfold slotLocked
  rw [h]
  exact decide_eq_true ht

/-- The sessions that stay beside a new one are the other ports' that have not timed out. -/
theorem otherSessions_eq (s : State) (p : Port) :
    (s.sec.sessions.filter (fun x => decide (x.port ≠ p))).filter (fun x => decide (s.now ≤ x.last + sessionTicks)) =
      otherSessions s p := by
  rw [List.filter_filter]
  exact List.filter_congr fun x _ => Bool.and_comm _ _

theorem loginOpen_full (h : 4 ≤ (otherSessions s p).length) : loginOpen p k s =
    secRefuse addrLogin codeAccessRefused (s.setLogin p { s.login p with used := true, lastFail := true }) :=
  if_pos (by rw [← otherSessions_eq] at h; exact h)

/-- A session of port `p` opened beside the sessions `live`. -/
def opened (p : Port) (k : Nat) (live : List Session) (s : State) : State :=
  { s with sec := { s.sec with
      ports := put {} s.sec.ports (portKey p) { s.login p with lastFail := false, used := true }
      slots := put {} s.sec.slots k { fails := 0, lockUntil := none, logins := (s.slotCnt k).logins + 1 }
      sessions := { port := p, slot := k, rights := (pwSlot s k).rights, last := s.now } :: live } }

theorem loginOpen_opens (h : (otherSessions s p).length < 4) : loginOpen p k s = opened p k (otherSessions s p) s := by
  rw [← otherSessions_eq] at h ⊢
  unfold loginOpen opened
  dsimp only [dropSession, State.setLogin, State.setSlotCnt]
  rw [if_neg (Nat.not_le.mpr h)]

/-- What opening a session leaves of the ports' sessions, the slots and the time. -/
theorem opened_facts (p : Port) (k : Nat) (live : List Session) (s : State) :
    (opened p k live s).sec.sessions = { port := p, slot := k, rights := (pwSlot s k).rights, last := s.now } :: live ∧
    (opened p k live s).now = s.now ∧
    (opened p k live s).sec.slots = put {} s.sec.slots k { fails := 0, lockUntil := none, logins := (s.slotCnt k).logins + 1 } :=
  ⟨rfl, rfl, rfl⟩

theorem opened_login (live : List Session) : (opened p k live s).login p = { s.login p with lastFail := false, used := true } := by
  have hports : (opened p k live s).sec.ports = put {} s.sec.ports (portKey p) { s.login p with lastFail := false, used := true } := rfl
  unfold State.login
  rw [hports]
  exact look_put_ne _ _ _ _ (LoginPort.ne_of_used rfl)

end Respond

/-! ## Sessions -/

section Sessions

variable {s t : State} {p q : Port}

/-- The session that was opened at this tick is its port's. -/
theorem sessionOf_opened {x : Session} {xs : List Session} (hs : t.sec.sessions = x :: xs) (hp : x.port = p) (hl : x.last = t.now) :
    sessionOf t p = some x := by
  unfold sessionOf
  rw [hs, List.find?_cons_of_pos]
  simp [hp, hl]

/-- Another port's session stands beside it. -/
theorem sessionOf_beside {x : Session} (hs : t.sec.sessions = x :: otherSessions s p) (hp : x.port = p) (hn : t.now = s.now) (hq : q ≠ p) :
    sessionOf t q = sessionOf s q := by
  unfold sessionOf
  rw [hs, List.find?_cons_of_neg (by simp [hp, hq.symm]), show otherSessions s p = s.sec.sessions.filter
    (fun x => decide (x.port ≠ p) && decide (s.now ≤ x.last + sessionTicks)) from rfl, List.find?_filter, hn]
  refine List.find?_congr fun y _ => ?_
  by_cases hy : y.port = q <;> simp [hy, hq]

theorem sessionOf_drop_same (s : State) (p : Port) : sessionOf (dropSession p s) p = none := by
  unfold sessionOf dropSession
  simp only [List.find?_eq_none, List.mem_filter]
  rintro x ⟨-, hx⟩
  simp_all

theorem sessionOf_drop_other (s : State) (hq : q ≠ p) : sessionOf (dropSession p s) q = sessionOf s q := by
  unfold sessionOf dropSession
  dsimp only
  rw [List.find?_filter]
  refine List.find?_congr fun y _ => ?_
  by_cases hy : y.port = q <;> simp [hy, hq]

end Sessions

/-- Settles O52, from the outcomes of a response and what each command does to the sessions. -/
theorem logins : Obligations.Logins := by
  intro s hup
  refine ⟨fun p k => ?_, fun p k h hk => ?_, fun p k nonce hk hj hbad => ?_, fun p k nonce hk hj hu hr hfew => ?_,
    fun p k nonce hk hj hu hr hfull => ?_, fun p k => ?_, fun p => ?_, fun p => ?_, fun p => ?_, ?_, fun k => ?_⟩
  · obtain ⟨hnonce, hused, hissued, hslot, hsalt, hsess⟩ := challenge_facts p (k % 8) s
    exact ⟨_, _, run_up _ _ hup, hnonce, fresh16_length s, hused, hissued, hslot, hsalt, hsess⟩
  · exact run_gives hup (by rw [Nat.mod_eq_of_lt hk, respond_unjudged h])
  · obtain ⟨hused, hlast, hsess⟩ := loginFail_port (s := s) (p := p) (k := k)
    refine ⟨_, run_gives hup (by rw [Nat.mod_eq_of_lt hk, respond_fails hj hbad]), hused, hlast, hsess, loginFail_counts,
      fun h => ?_⟩
    obtain ⟨hslot, hnow, hrep⟩ := loginFail_locks (p := p) h
    refine ⟨by rw [hslot], by rw [hslot], slotLocked_of (by rw [hslot]) (by rw [hnow]; omega), _, hrep, rfl, rfl, rfl⟩
  · obtain ⟨hsess, hnow, hslots⟩ := opened_facts p k (otherSessions s p) s
    have hport := opened_login (s := s) (p := p) (k := k) (otherSessions s p)
    have hrun : respond p (k % 8) s = opened p k (otherSessions s p) s := by
      rw [Nat.mod_eq_of_lt hk, respond_opens hj hu hr, loginOpen_opens hfew]
    exact ⟨_, run_gives hup hrun, sessionOf_opened hsess rfl hnow.symm, by rw [hport], hslots,
      fun q hq => sessionOf_beside hsess rfl hnow hq⟩
  · exact run_gives hup (by rw [Nat.mod_eq_of_lt hk, respond_opens hj hu hr, loginOpen_full hfull])
  · exact (run_up _ _ hup).trans (run_gives hup (by rw [Nat.mod_mod])).symm
  · exact ⟨_, run_up _ _ hup, sessionOf_drop_same s p, fun q hq => sessionOf_drop_other s hq, rfl⟩
  · refine ⟨_, run_up _ _ hup, rfl, fun x => ?_⟩
    change _ ↔ x ∈ s.sec.sessions ∧ (x.port = p → s.now ≤ x.last + sessionTicks)
    by_cases hx : x.port = p <;> simp [sessionTimeout, hx]
  · exact run_gives hup rfl
  · exact run_gives hup rfl
  · exact run_gives hup rfl

end Sys2Proof.Machine
end

section
/-!
SUPPORT. Keys, lifecycle and debug levels (R373 to R376, R337, R381): refusals of the security block, tokens judged, the entry of
FULL, and the statement about them.
-/
namespace Sys2Proof.Machine

open Sys2Proof

/-! ## Refusals of the security block (R372, R383) -/

/-- A refusal is counted, its code kept, and the report is at the Umpire at once. -/
theorem secRefuse_eq (addr code : Nat) (s : State) : secRefuse addr code s = { s with
    sys := { s.sys with refused := satInc s.sys.refused, refusedAddr := BitVec.ofNat 32 addr }
    sec := { s.sec with refused := if s.sec.refused = 0xFFFF then 0xFFFF else s.sec.refused + 1, lastCode := code }
    ump := { s.ump with reports := s.ump.reports ++ [{ line := 50, code := code, time := s.timeNow }] } } := by
  unfold secRefuse
  rw [report_direct (by decide)]
  rfl

theorem secRefuse_refused {s u : State} (addr code : Nat) (h : u.sys.refused = s.sys.refused) :
    Refused s (secRefuse addr code u) code := by
  rw [secRefuse_eq]
  exact ⟨congrArg satInc h, rfl, _, List.mem_append_right _ (List.mem_singleton_self _), rfl, rfl⟩

theorem secRefuse_otp (addr code : Nat) (s : State) : (secRefuse addr code s).otp = s.otp := by rw [secRefuse_eq]

theorem secRefuse_debug (addr code : Nat) (s : State) : (secRefuse addr code s).sec.debug = s.sec.debug := by rw [secRefuse_eq]

/-- A refusal leaves the cell of R380 as it is. -/
theorem secRefuse_cellOpen (addr code : Nat) (s : State) : cellOpen (secRefuse addr code s) = cellOpen s := by
  rw [secRefuse_eq]; rfl

/-! ## A change that may leave a cell (R474) -/

/-- The hooks that end with the cell, and their log entry, are all that it does beside the change. -/
theorem leaving_eq (f : State → State) (s : State) : ∃ host nvm hook, leaving f s = { f s with host := host, nvm := nvm, hook := hook } := by
  unfold leaving
  dsimp only
  split
  · exact ⟨_, _, _, hooksEnd_only _⟩
  · exact ⟨_, _, _, rfl⟩

theorem leaving_refused {f : State → State} {s : State} {addr code : Nat} (h : f s = secRefuse addr code s) :
    leaving f s = secRefuse addr code s := by
  unfold leaving
  dsimp only
  rw [h, secRefuse_cellOpen, Bool.and_not_self]
  rfl

theorem leaving_keeps (f : State → State) (s : State) : (leaving f s).sys = (f s).sys ∧ (leaving f s).sec = (f s).sec ∧
    (leaving f s).ump = (f s).ump ∧ (leaving f s).otp = (f s).otp := by
  obtain ⟨host, nvm, hook, h⟩ := leaving_eq f s
  rw [h]
  exact ⟨rfl, rfl, rfl, rfl⟩

/-- A change refused after a token was judged. -/
theorem leaving_refuses {f : State → State} {s u : State} {addr code : Nat} (h : f s = secRefuse addr code u)
    (hu : u.sys.refused = s.sys.refused) :
    (leaving f s).sec.debug = u.sec.debug ∧ (leaving f s).otp = u.otp ∧ Refused s (leaving f s) code := by
  obtain ⟨hsys, hsec, hump, hotp⟩ := leaving_keeps f s
  have hr := secRefuse_refused addr code hu
  rw [← h] at hr
  unfold Refused at hr ⊢
  rw [hsys, hsec, hump, hotp]
  exact ⟨by rw [h, secRefuse_debug], by rw [h, secRefuse_otp], hr⟩

/-! ## Tokens (R373) -/

section Tokens

variable {s : State} {key : Option (List Byte)} {level : Nat}

theorem tokenFail_eq (s : State) : ∃ fails lock, tokenFail s = { s with
    sec := { s.sec with chalUsed := true, tokFails := fails, tokLock := lock } } := by
  unfold tokenFail
  dsimp only
  split <;> exact ⟨_, _, rfl⟩

/-- Judging a token writes no more than the challenge's use, the failure count and the lock. -/
theorem judgeToken_eq (key : Option (List Byte)) (level : Nat) (s : State) : ∃ used fails lock, (judgeToken key level s).2 = { s with
    sec := { s.sec with chalUsed := used, tokFails := fails, tokLock := lock } } := by
  unfold judgeToken
  dsimp only
  repeat' split
  · exact ⟨_, _, _, rfl⟩
  · exact ⟨_, _, _, rfl⟩
  · obtain ⟨fails, lock, h⟩ := tokenFail_eq s
    exact ⟨_, _, _, h⟩
  · exact ⟨_, _, _, rfl⟩
  · obtain ⟨fails, lock, h⟩ := tokenFail_eq s
    exact ⟨_, _, _, h⟩

/-- A good token is accepted and uses the challenge. -/
theorem judgeToken_good (h : GoodToken s key level) : judgeToken key level s =
    (true, { s with sec := { s.sec with chalUsed := true, tokFails := 0, tokLock := none } }) := by
  obtain ⟨c, k, hc, hlock, htime, hkey, hopen, hused, htok⟩ := h
  have ht : decide (s.sec.chalAt + chalTicks ≤ s.now) = false :=
    decide_eq_false (show ¬ s.sec.chalAt + 6000000000 ≤ s.now by omega)
  have hk : keyOpen s key = some k := by simp [keyOpen, hopen, hkey]
  unfold judgeToken
  rw [hc]
  dsimp only
  rw [hlock, ht, hk]
  dsimp only
  rw [if_neg (by decide), hused, if_pos (by simp [htok])]

/-- Only a good token is accepted. -/
theorem judgeToken_accepts (h : (judgeToken key level s).1 = true) : GoodToken s key level := by
  unfold judgeToken at h
  split at h
  · cases h
  · rename_i c hc
    split at h
    · cases h
    · rename_i hlock
      simp only [Bool.or_eq_true, decide_eq_true_eq, not_or, Bool.not_eq_true] at hlock
      split at h
      · cases h
      · rename_i k hk
        dsimp only at h
        split at h
        · rename_i hgood
          simp only [Bool.and_eq_true, Bool.not_eq_true', decide_eq_true_eq] at hgood
          unfold keyOpen at hk
          split at hk
          · cases hk
          · rename_i hopen
            refine ⟨c, k, hc, hlock.1, ?_, hk, Bool.not_eq_true _ ▸ hopen, hgood.1, hgood.2⟩
            exact Nat.not_le.mp hlock.2
        · cases h

theorem judgeToken_bad (h : ¬ GoodToken s key level) : (judgeToken key level s).1 = false :=
  Bool.eq_false_iff.mpr fun h' => h (judgeToken_accepts h')

end Tokens

/-! ## Lifecycle (R374) -/

section Lifecycle

variable {s : State}

theorem lcMove_eq (lc : Nat) (s : State) : ∃ host nvm, lcMove lc s = { s with
    host := host, nvm := nvm, otp := { s.otp with lcNext := max s.otp.lcNext lc } } := by
  unfold lcMove
  rw [logEvent_only]
  exact ⟨_, _, rfl⟩

theorem lcField_moves (hlc : s.otp.lc = 0) (hp : s.sec.power = 2) (hd : s.sec.debug = 0) (hs : sealClosed s = true) :
    lcField s = lcMove 1 s := by simp [lcField, inHold, hlc, hp, hd, hs]

theorem lcField_refused (h : s.otp.lc ≠ 0 ∨ s.sec.power ≠ 2 ∨ s.sec.debug ≠ 0 ∨ sealClosed s = false) :
    lcField s = secRefuse addrLcCtrl codeAccessRefused s := by
  refine if_neg ?_
  rintro ⟨hlc, hp, hd, hs⟩
  simp [inHold] at hp
  simp_all

theorem lcRma_moves (hlc : s.otp.lc ≤ 1) (hp : s.sec.power = 2) (hs : sealClosed s = true) (hg : GoodToken s s.otp.vendorKey 3) :
    lcRma s = lcMove 2 { s with sec := { s.sec with chalUsed := true, tokFails := 0, tokLock := none },
                                otp := { s.otp with imageKey := none, debugKey := none } } := by
  unfold lcRma
  rw [if_pos ⟨hlc, decide_eq_true hp, hs⟩, judgeToken_good hg]
  rfl

theorem lcRma_refused (h : 1 < s.otp.lc ∨ s.sec.power ≠ 2 ∨ sealClosed s = false ∨ ¬ GoodToken s s.otp.vendorKey 3) :
    ∃ used fails lock, lcRma s = secRefuse addrLcCtrl codeAccessRefused
      { s with sec := { s.sec with chalUsed := used, tokFails := fails, tokLock := lock } } := by
  unfold lcRma
  split
  · rename_i hc
    obtain ⟨hlc, hp, hs⟩ := hc
    have hbad : ¬ GoodToken s s.otp.vendorKey 3 := by
      rcases h with h | h | h | h
      · omega
      · exact absurd (of_decide_eq_true hp) h
      · exact absurd hs (by simp [h])
      · exact h
    obtain ⟨used, fails, lock, hj⟩ := judgeToken_eq s.otp.vendorKey 3 s
    dsimp only
    rw [judgeToken_bad hbad, hj]
    exact ⟨_, _, _, rfl⟩
  · exact ⟨_, _, _, rfl⟩

end Lifecycle

/-! ## Debug levels (R375, R376) -/

section Debug

variable {s : State}

/-- The key that OPEN_CM needs a token of, outside FACTORY. -/
def openCmKey (s : State) : Option (List Byte) := if s.otp.lc = 1 then s.otp.debugKey else s.otp.vendorKey

theorem openCm_opens (hd : s.sec.debug = 0) (h : s.otp.lc = 0 ∨ GoodToken s (openCmKey s) 1) : ∃ used fails lock,
    openCm s = { s with sec := { s.sec with debug := 1, chalUsed := used, tokFails := fails, tokLock := lock } } := by
  unfold openCm
  rw [if_neg (not_not.mpr hd)]
  split
  · exact ⟨_, _, _, rfl⟩
  · rename_i hlc
    have hj := judgeToken_good (h.resolve_left hlc)
    unfold openCmKey at hj
    rw [hj]
    exact ⟨_, _, _, rfl⟩

theorem openCm_refused (hd : s.sec.debug = 0) (hlc : s.otp.lc ≠ 0) (h : ¬ GoodToken s (openCmKey s) 1) : ∃ used fails lock,
    openCm s = secRefuse addrDbgCtrl codeDebugRefused
      { s with sec := { s.sec with chalUsed := used, tokFails := fails, tokLock := lock } } := by
  obtain ⟨used, fails, lock, hj⟩ := judgeToken_eq (openCmKey s) 1 s
  have hbad := judgeToken_bad h
  unfold openCmKey at hj hbad
  unfold openCm
  rw [if_neg (not_not.mpr hd), if_neg hlc]
  dsimp only
  rw [hbad, hj]
  exact ⟨_, _, _, rfl⟩

theorem openFull_barred (h : s.otp.lc = 1 ∨ s.nvm.wr.step ≠ 0) : openFull s = secRefuse addrDbgCtrl codeDebugRefused s := if_pos h

theorem openFull_enters (hlc : s.otp.lc ≠ 1) (hw : s.nvm.wr.step = 0) (h : GoodToken s s.otp.vendorKey 2) :
    openFull s = fullEntry { s with sec := { s.sec with chalUsed := true, tokFails := 0, tokLock := none } } := by
  unfold openFull
  rw [if_neg (by simp [hlc, hw]), judgeToken_good h]
  rfl

theorem openFull_refused (hlc : s.otp.lc ≠ 1) (hw : s.nvm.wr.step = 0) (h : ¬ GoodToken s s.otp.vendorKey 2) : ∃ used fails lock,
    openFull s = secRefuse addrDbgCtrl codeDebugRefused
      { s with sec := { s.sec with chalUsed := used, tokFails := fails, tokLock := lock } } := by
  obtain ⟨used, fails, lock, hj⟩ := judgeToken_eq s.otp.vendorKey 2 s
  unfold openFull
  rw [if_neg (by simp [hlc, hw])]
  dsimp only
  rw [judgeToken_bad h, hj]
  exact ⟨_, _, _, rfl⟩

/-- FULL in force: the level, HOLD requested and in force, no session, zeroised, the key read path closed, all lines forced. -/
structure InFull (s t : State) : Prop where
  sec : t.sec.debug = 2 ∧ t.sec.power = 2 ∧ t.sec.sessions = [] ∧ t.sec.zeroised = true
  sys : t.sys.keyClosed = true ∧ t.sys.fullSeen = true
  ump : t.ump.full = true
  forced : t.fld.forced = 0xF
  seat : t.seat.holdReq = true ∧ t.seat.holdInForce = true ∧ t.seat.state = s.seat.state
  otp : t.otp = s.otp

theorem umpLines_full {u : Ump} (h : u.full = true) : umpLines u = 0xF := by simp [umpLines, h]

theorem fullEntry_inFull (s : State) : InFull s (fullEntry s) := by
  have hf := linesFollow_forced { fullHold s with ump := { (fullHold s).ump with full := true } }
  have ho := linesFollow_only { fullHold s with ump := { (fullHold s).ump with full := true } }
  unfold fullEntry
  dsimp only
  rw [ho]
  exact { sec := ⟨rfl, rfl, rfl, rfl⟩, sys := ⟨rfl, rfl⟩, ump := rfl, forced := hf.trans (umpLines_full rfl), seat := ⟨rfl, rfl, rfl⟩, otp := rfl }

theorem InFull.beside {t : State} (h : InFull s t) (host : HostIf) (nvm : Nvm) (hook : Perturb) :
    InFull s { t with host := host, nvm := nvm, hook := hook } := ⟨h.sec, h.sys, h.ump, h.forced, h.seat, h.otp⟩

/-- CLOSE releases every halt and leaves the security block and the OTP otherwise as they are. -/
theorem debugClose_closes (hd : s.sec.debug = 1) : (debugClose s).sec = { s.sec with debug := 0 } ∧ (debugClose s).otp = s.otp := by
  have hc : debugClose s = (List.range 8).foldl (fun t c => haltRelease c t) { s with sec := { s.sec with debug := 0 } } := by
    unfold debugClose
    rw [hd]
    rfl
  have hk := foldl_keeps (part := fun t => (t.sec, t.otp)) (f := fun t c => haltRelease c t)
    (fun t c => by rw [haltRelease_only]) (List.range 8) { s with sec := { s.sec with debug := 0 } }
  rw [← hc] at hk
  exact Prod.mk.inj hk

theorem debugClose_full (hd : s.sec.debug = 2) : debugClose s = secRefuse addrDbgCtrl codeDebugRefused s := by
  unfold debugClose; rw [hd]; rfl

theorem debugClose_closed (hd : s.sec.debug = 0) : debugClose s = s := by unfold debugClose; rw [hd]; rfl

end Debug

/-! ## Keys (R373, R381) -/

section Keys

variable {s : State} {v : Word}

theorem provisioning_iff : provisioning s = true ↔ s.otp.lc = 0 ∧ s.sec.power = 2 ∧ sealClosed s = true := by
  simp [provisioning, inHold, and_assoc]

theorem keyBlank_iff {k : Option (List Byte)} : keyBlank k s = true ↔
    (s.otp.lc = 0 ∧ s.sec.power = 2 ∧ sealClosed s = true) ∧ k = none ∧ s.otp.lcNext ≠ 2 := by
  simp [keyBlank, provisioning_iff, and_assoc]

theorem keyBlank_barred {k : Option (List Byte)}
    (h : k.isSome ∨ s.otp.lc ≠ 0 ∨ s.sec.power ≠ 2 ∨ sealClosed s = false ∨ s.otp.lcNext = 2) : keyBlank k s = false := by
  refine Bool.eq_false_iff.mpr fun hb => ?_
  obtain ⟨⟨hlc, hp, hs⟩, hk, hn⟩ := keyBlank_iff.mp hb
  simp_all

theorem keyProgram_image (hv : v.getLsbD 3 = true) (hb : bits v 1 0 = 1) : keyProgram v s =
    if keyBlank s.otp.imageKey s then { s with otp := { s.otp with imageKey := some (regBytes s.sec.keyData) }, sec := { s.sec with keyData := [] } }
    else secRefuse addrKeyCtrl codeAccessRefused s := by
  unfold keyProgram
  dsimp only
  rw [hv, hb]
  rfl

theorem keyProgram_debug (hv : v.getLsbD 3 = true) (hb : bits v 1 0 = 2) : keyProgram v s =
    if keyBlank s.otp.debugKey s then { s with otp := { s.otp with debugKey := some (regBytes s.sec.keyData) }, sec := { s.sec with keyData := [] } }
    else secRefuse addrKeyCtrl codeAccessRefused s := by
  unfold keyProgram
  dsimp only
  rw [hv, hb]
  rfl

theorem setAuthReq_refused (h : s.otp.lc ≠ 0 ∨ s.sec.power ≠ 2 ∨ sealClosed s = false ∨ s.otp.imageKey = none) :
    setAuthReq s = secRefuse addrKeyCtrl codeAccessRefused s := by
  refine if_neg fun hb => ?_
  obtain ⟨hp, hk⟩ := Bool.and_eq_true_iff.mp hb
  obtain ⟨hlc, hpw, hs⟩ := provisioning_iff.mp hp
  simp_all

end Keys

/-- Settles O53, from the judging of tokens, the lifecycle moves, the debug levels and the keys. -/
theorem lifecycleDebugKeys : Obligations.LifecycleDebugKeys := by
  intro s p hup
  refine ⟨fun hlc hp hd hs => ?_, fun h => ?_, fun hlc hp hs hg => ?_, fun h => ?_, ?_, fun hd h => ?_, fun hd h => ?_, fun hd => ?_,
    fun h => ?_, fun hlc hw hg => ?_, fun hlc hw hg => ?_, fun hd => ?_, fun hd => ?_, fun hd => ?_,
    fun v hv hlc hn hp hs => ⟨fun hb hk => ?_, fun hb hk => ?_⟩, fun v hv h => ?_, fun hlc hp hs hk => ?_, fun h => ?_⟩
  · obtain ⟨host, nvm, hm⟩ := lcMove_eq 1 s
    exact ⟨_, run_gives hup ((lcField_moves hlc hp hd hs).trans hm), rfl, rfl⟩
  · exact run_gives hup (lcField_refused h)
  · obtain ⟨host, nvm, hm⟩ := lcMove_eq 2 { s with
      sec := { s.sec with chalUsed := true, tokFails := 0, tokLock := none }, otp := { s.otp with imageKey := none, debugKey := none } }
    exact ⟨_, run_gives hup ((lcRma_moves hlc hp hs hg).trans hm), rfl, rfl⟩
  · obtain ⟨used, fails, lock, hr⟩ := lcRma_refused h
    exact ⟨_, run_gives hup hr, secRefuse_otp _ _ _, secRefuse_refused _ _ rfl⟩
  · exact ⟨_, _, run_up _ _ hup, rfl, fresh16_length s⟩
  · have hopen : s.otp.lc = 0 ∨ GoodToken s (openCmKey s) 1 := by
      rcases h with h | ⟨h, hg⟩ | ⟨h, hg⟩
      · exact .inl h
      · exact .inr (by rwa [openCmKey, if_pos h])
      · exact .inr (by rwa [openCmKey, if_neg (by omega)])
    obtain ⟨used, fails, lock, ho⟩ := openCm_opens hd hopen
    obtain ⟨host, nvm, hook, hl⟩ := leaving_eq openCm s
    rw [ho] at hl
    exact ⟨_, run_gives hup hl, rfl, rfl, rfl⟩
  · have hbad : s.otp.lc ≠ 0 ∧ ¬ GoodToken s (openCmKey s) 1 := by
      rcases h with ⟨h, hg⟩ | ⟨h, hg⟩
      · exact ⟨by omega, by rwa [openCmKey, if_pos h]⟩
      · exact ⟨by omega, by rwa [openCmKey, if_neg (by omega)]⟩
    obtain ⟨used, fails, lock, ho⟩ := openCm_refused hd hbad.1 hbad.2
    obtain ⟨hdebug, hotp, href⟩ := leaving_refuses ho rfl
    exact ⟨_, run_up _ _ hup, hdebug.trans hd, hotp, href⟩
  · exact run_gives hup (leaving_id (if_pos hd))
  · exact run_gives hup (leaving_refused (openFull_barred h))
  · obtain ⟨host, nvm, hook, hl⟩ := leaving_eq openFull s
    rw [openFull_enters hlc hw hg] at hl
    obtain ⟨⟨hd, hp, hses, hz⟩, ⟨hk, hf⟩, hu, hforced, ⟨hreq, hin, hst⟩, hotp⟩ := (fullEntry_inFull
      { s with sec := { s.sec with chalUsed := true, tokFails := 0, tokLock := none } }).beside host nvm hook
    exact ⟨_, run_gives hup hl, hd, hp, hses, hz, hk, hf, hu, hforced, hreq, hin, hst, hotp⟩
  · obtain ⟨used, fails, lock, ho⟩ := openFull_refused hlc hw hg
    obtain ⟨hdebug, hotp, href⟩ := leaving_refuses ho rfl
    exact ⟨_, run_up _ _ hup, hdebug, hotp, href⟩
  · obtain ⟨hsec, hotp⟩ := debugClose_closes hd
    obtain ⟨-, hsec', -, hotp'⟩ := leaving_keeps debugClose s
    rw [hsec] at hsec'
    exact ⟨_, run_up _ _ hup, by rw [hsec'], by rw [hsec'], hotp'.trans hotp⟩
  · exact run_gives hup (leaving_refused (debugClose_full hd))
  · exact run_gives hup (leaving_id (debugClose_closed hd))
  · exact run_gives hup ((keyProgram_image hv hb).trans (if_pos (keyBlank_iff.mpr ⟨⟨hlc, hp, hs⟩, hk, hn⟩)))
  · exact run_gives hup ((keyProgram_debug hv hb).trans (if_pos (keyBlank_iff.mpr ⟨⟨hlc, hp, hs⟩, hk, hn⟩)))
  · rcases h with ⟨hb, h⟩ | ⟨hb, h⟩
    · exact run_gives hup ((keyProgram_image hv hb).trans (if_neg (by rw [keyBlank_barred h]; decide)))
    · exact run_gives hup ((keyProgram_debug hv hb).trans (if_neg (by rw [keyBlank_barred h]; decide)))
  · exact run_gives hup (if_pos (Bool.and_eq_true_iff.mpr ⟨provisioning_iff.mpr ⟨hlc, hp, hs⟩, hk⟩))
  · exact run_gives hup (setAuthReq_refused h)

end Sys2Proof.Machine
end

section
/-!
SUPPORT. Power requests (R377 to R379): requests refused, the shut-down of the cores on entry of REDUCED, and the statement about them.
-/
namespace Sys2Proof.Machine

open Sys2Proof

/-! ## A refused request -/

theorem pwrRefuse_cellOpen (s : State) : cellOpen (pwrRefuse s) = cellOpen s := secRefuse_cellOpen addrPwrCtrl codeAccessRefused s

/-- A request leaves the cell that its change leaves. -/
theorem leaving_stays {f : State → State} {s t : State} (h : f s = t) (hc : cellOpen t = cellOpen s) : leaving f s = t := by
  unfold leaving
  dsimp only
  rw [h, hc, Bool.and_not_self]
  rfl

theorem leaving_pwrRefuse {f : State → State} {s : State} {req : Nat} (h : f s = pwrRefuse (requested req s)) :
    leaving f s = pwrRefuse (requested req s) := leaving_stays h (pwrRefuse_cellOpen _)

theorem leaving_parts (f : State → State) (s : State) : (leaving f s).seat = (f s).seat ∧ (leaving f s).lane = (f s).lane ∧
    (leaving f s).fld = (f s).fld ∧ (leaving f s).cox = (f s).cox := by
  obtain ⟨host, nvm, hook, h⟩ := leaving_eq f s
  rw [h]
  exact ⟨rfl, rfl, rfl, rfl⟩

/-! ## The cores in REDUCED (R378) -/

/-- A flag of a core that its state, its return and its task do not bear on, and that an unlisted core does not have. -/
structure CoreMark (flag : Core → Bool) : Prop where
  unlisted : flag {} = false
  keeps : ∀ k st pending task, flag { k with state := st, pending := pending, task := task } = flag k

section Cores

variable {flag : Core → Bool} (hf : CoreMark flag) {c d : Nat} {v : Core} {t : State}
include hf

theorem CoreMark.setCore (h : flag (t.core c) = true) (hv : d = c → flag v = true) : flag ((t.setCore d v).core c) = true := by
  by_cases hd : d = c
  · have hne : v ≠ {} := fun h' => by
      have hv' := hv hd
      rw [h', hf.unlisted] at hv'
      cases hv'
    rw [← hd, State.core_setCore_ne hne]
    exact hv hd
  · rw [State.core_setCore_other _ _ _ _ (Ne.symm hd)]
    exact h

theorem CoreMark.coreTo (st : CoreState) (h : flag (t.core c) = true) : flag ((coreTo d st t).core c) = true := by
  unfold Machine.coreTo
  rw [pmuSync_core]
  exact hf.setCore h fun hd => (hf.keeps _ st _ _).trans (hd ▸ h)

/-- A shut-down leaves the flags of every core. -/
theorem CoreMark.coreDown (h : flag (t.core c) = true) : flag ((coreDown d t).core c) = true := by
  unfold Machine.coreDown
  split
  · unfold coreOff
    exact hf.coreTo _ (hf.setCore h fun hd => (hf.keeps _ _ false none).trans (hd ▸ h))
  · exact hf.coreTo _ h
  · exact hf.coreTo _ h
  · exact hf.coreTo _ h
  · exact hf.coreTo _ h
  · exact h

end Cores

theorem reducedMark : CoreMark Core.reduced := ⟨rfl, fun _ _ _ _ => rfl⟩

/-- Entry of REDUCED marks every core. -/
theorem coresReduced_reduced {c : Nat} (hc : c < 8) (s : State) : ((coresReduced true s).core c).reduced = true := by
  have hstep (t : State) (d : Nat) (h : d = c ∨ (t.core c).reduced = true) :
      ((coreDown d (t.setCore d { t.core d with reduced := true, halt := false })).core c).reduced = true := by
    refine reducedMark.coreDown ?_
    by_cases hd : d = c
    · rw [hd, State.core_setCore_ne (fun h => by injection h; contradiction)]
    · exact reducedMark.setCore (h.resolve_left hd) (fun h => absurd h hd)
  exact foldl_reaches (I := fun _ => True) (P := fun t => (t.core c).reduced = true) (fun _ _ _ => trivial)
    (fun t _ => hstep t c (.inl rfl)) (fun t d _ h => hstep t d (.inr h)) (List.mem_range.mpr hc) trivial

/-- Cores and their slices are no part of the safety side. -/
def safetySide (s : State) : Seat × Tri LaneDie × Field × Sec × Sys := (s.seat, s.lane, s.fld, s.sec, s.sys)

theorem coresReduced_safetySide (on : Bool) (s : State) : safetySide (coresReduced on s) = safetySide s := by
  refine foldl_keeps (part := safetySide) (fun t c => ?_) _ s
  dsimp only
  split
  · rw [coreDown_only]; rfl
  · rw [coreUp_only]; rfl

theorem coreSlicesAbort_safetySide (s : State) : safetySide (coreSlicesAbort s) = safetySide s :=
  foldl_keeps (part := safetySide) (fun t c => by rw [coreSliceAbort_only]; rfl) _ s

/-! ## The requests -/

section Requests

variable {s : State}

theorem runBarred_iff : runBarred s = true ↔ startFault s = true ∨ s.sec.debug = 2 ∨ s.otp.lc = 2 := by
  simp [runBarred, or_assoc]

theorem pwrRun_releases (hin : s.seat.holdInForce = true) (hs : startFault s = false) (hd : s.sec.debug ≠ 2) (hlc : s.otp.lc ≠ 2) :
    pwrRun s = { requested 0 s with fld := { s.fld with lor := { s.fld.lor with holdRun := true } } } := by
  have hb : runBarred s = false := Bool.eq_false_iff.mpr fun h => by simp_all [runBarred_iff]
  unfold pwrRun
  dsimp only
  rw [if_pos (by simp [hin, hb])]
  rfl

theorem pwrRun_returns (hin : s.seat.holdInForce = false) (hp : s.sec.power = 1) (hq : s.seat.holdReq = false) :
    pwrRun s = coresReduced false { requested 0 s with sec := { s.sec with power := 0 } } := by
  unfold pwrRun
  dsimp only
  rw [if_neg (by simp [hin]), if_pos ⟨hp, hq⟩]
  rfl

theorem pwrRun_refused (hb : s.seat.holdInForce = false ∨ startFault s = true ∨ s.sec.debug = 2 ∨ s.otp.lc = 2)
    (hp : s.sec.power ≠ 1 ∨ s.seat.holdReq = true) : pwrRun s = pwrRefuse (requested 0 s) := by
  have hbar : ¬ (s.seat.holdInForce && !runBarred s) = true := by
    rcases hb with h | h
    · simp [h]
    · simp [runBarred_iff.mpr h]
  have hret : ¬ (s.sec.power = 1 ∧ s.seat.holdReq = false) := by
    rintro ⟨h1, h2⟩
    simp_all
  unfold pwrRun
  dsimp only
  rw [if_neg hbar, if_neg hret]

theorem pwrReduced_enters (hp : s.sec.power = 0) (hq : s.seat.holdReq = false) :
    pwrReduced s = coresReduced true (coreSlicesAbort { requested 1 s with sec := { s.sec with power := 1 } }) := if_pos ⟨hp, hq⟩

theorem pwrReduced_refused (h : s.sec.power ≠ 0 ∨ s.seat.holdReq = true) : pwrReduced s = pwrRefuse (requested 1 s) := by
  refine if_neg ?_
  rintro ⟨h1, h2⟩
  simp_all

theorem pwrHold_requests (h : s.sec.power ≠ 2 ∨ startFault s = false) :
    pwrHold s = holdDisarm { requested 2 s with seat := { s.seat with holdReq := true, holdInForce := true } } := by
  refine if_neg ?_
  rintro ⟨h1, h2⟩
  simp_all

end Requests

/-- A HOLD request leaves no qualifier of a HOLD release armed or accepted (R379). -/
theorem holdDisarm_lor (s : State) : (holdDisarm s).fld.lor.holdRun = false ∧
    ((holdDisarm s).fld.lor.armed = true → (holdDisarm s).fld.lor.forHold = false) ∧
    ((holdDisarm s).fld.lor.accepted = true → (holdDisarm s).fld.lor.forHold = false) := by
  simp [holdDisarm]

/-- The hooks that end as the module goes off touch neither the OTP nor the power-cycle record. -/
theorem hooksEndIfOpen_keeps (s : State) : (if cellOpen s then hooksEnd s else s).otp = s.otp ∧
    (if cellOpen s then hooksEnd s else s).sys.boots = s.sys.boots ∧
    (if cellOpen s then hooksEnd s else s).sys.fullSeen = s.sys.fullSeen := by
  split
  · rw [hooksEnd_only]; exact ⟨rfl, rfl, rfl⟩
  · exact ⟨rfl, rfl, rfl⟩

/-- Settles O54, from the requests taken and refused. -/
theorem powerRequests : Obligations.PowerRequests := by
  intro s p hup
  refine ⟨fun hin hs hd hlc => ?_, fun hin hp hq => ?_, fun hb hp => ?_, fun hp hq => ?_, fun h => ?_, fun h => ?_, fun hp hs => ?_,
    fun hp => ?_, fun hp => ?_⟩
  · exact run_gives hup (leaving_stays (pwrRun_releases hin hs hd hlc) rfl)
  · obtain ⟨hseat, hlane, hfld, -⟩ := leaving_parts pwrRun s
    obtain ⟨hsys, hsec, -, -⟩ := leaving_keeps pwrRun s
    have hside := coresReduced_safetySide false { requested 0 s with sec := { s.sec with power := 0 } }
    rw [← pwrRun_returns hin hp hq] at hside
    simp only [safetySide, Prod.mk.injEq] at hside
    obtain ⟨hseat', hlane', hfld', hsec', hsys'⟩ := hside
    exact ⟨_, run_up _ _ hup, by rw [hsec, hsec'], hseat.trans hseat', hlane.trans hlane', hfld.trans hfld', by rw [hsys, hsys']; rfl⟩
  · exact run_gives hup (leaving_pwrRefuse (pwrRun_refused hb hp))
  · obtain ⟨hseat, hlane, hfld, hcox⟩ := leaving_parts pwrReduced s
    obtain ⟨hsys, hsec, -, -⟩ := leaving_keeps pwrReduced s
    have hside := (coresReduced_safetySide true _).trans (coreSlicesAbort_safetySide { requested 1 s with sec := { s.sec with power := 1 } })
    have hred := fun c (hc : c < 8) => coresReduced_reduced hc (coreSlicesAbort { requested 1 s with sec := { s.sec with power := 1 } })
    rw [← pwrReduced_enters hp hq] at hside hred
    simp only [safetySide, Prod.mk.injEq] at hside
    obtain ⟨hseat', hlane', hfld', hsec', hsys'⟩ := hside
    refine ⟨_, run_up _ _ hup, by rw [hsec, hsec'], fun c hc => ?_, hseat.trans hseat', hlane.trans hlane', hfld.trans hfld',
      by rw [hsys, hsys']; rfl⟩
    unfold State.core
    rw [hcox]
    exact hred c hc
  · exact run_gives hup (leaving_pwrRefuse (pwrReduced_refused h))
  · obtain ⟨hrun, harmed, haccepted⟩ := holdDisarm_lor
      { requested 2 s with seat := { s.seat with holdReq := true, holdInForce := true } }
    exact ⟨_, run_gives hup (pwrHold_requests h), rfl, rfl, rfl, hrun, harmed, haccepted, rfl, rfl⟩
  · exact run_gives hup (if_pos ⟨hp, hs⟩)
  · obtain ⟨hotp, hboots, hfull⟩ := hooksEndIfOpen_keeps (requested 3 s)
    exact ⟨_, run_gives hup (if_pos (decide_eq_true hp)), rfl, rfl, rfl, rfl, hotp, hboots, hfull,
      fun k => rfl⟩
  · exact run_gives hup (if_neg (by simp [inHold, hp]))

end Sys2Proof.Machine
end

section
/-!
SUPPORT. Start-up from the flash (R340 to R342, R349 to R352, R363): the controller's start, what loading and arming leave alone,
the full pass, the scan of the log, and the statement about them.
-/
namespace Sys2Proof.Machine

open Sys2Proof

/-! ## The controller's start (R341, R349) -/

theorem boatStart_eq (s : State) : ∃ b, boatStart s = { s with boat := b } := by
  unfold boatStart
  dsimp only
  rw [foldl_boat fun _ _ => rfl]
  exact ⟨_, rfl⟩

/-- The flash found, with what the headers' reading records. -/
def headersRead (n : Nvm) : Nvm :=
  { n with reasonA := if bankHeaderOk n 0 then 0 else 1, reasonB := if bankHeaderOk n 1 then 0 else 1 }

/-- The pass over the first bank of an order, if there is one. -/
def passFirst : List Nat → State → State
  | x :: rest, s => passBegin x rest s
  | [], s => noBank s

theorem nvmStart_unusable {f : FlashFacts} {s : State} (hl : (s.unit 5).last = 1) (hs : s.nvm.started = false) (hu : flashUsable f = false) :
    ∃ b, nvmStart f s = report 11 codeNvmFail 0 { s with nvm := flashFound f s.nvm, boat := b } := by
  obtain ⟨b, hb⟩ := boatStart_eq { s with nvm := flashFound f s.nvm }
  have hn : (flashFound f s.nvm).usable = false := hu
  refine ⟨b, ?_⟩
  unfold nvmStart
  rw [if_pos ⟨hl, hs⟩, hb]
  exact if_pos (by rw [hn]; rfl)

theorem nvmStart_usable {f : FlashFacts} {s : State} (hl : (s.unit 5).last = 1) (hs : s.nvm.started = false) (hu : flashUsable f = true)
    (hlc : s.otp.lc ≠ 2) : ∃ b, nvmStart f s =
      passFirst (bankOrder (flashFound f s.nvm)) { s with nvm := headersRead (flashFound f s.nvm), boat := b } := by
  obtain ⟨b, hb⟩ := boatStart_eq { s with nvm := flashFound f s.nvm }
  have hn : (flashFound f s.nvm).usable = true := hu
  refine ⟨b, ?_⟩
  unfold nvmStart
  rw [if_pos ⟨hl, hs⟩, hb]
  dsimp only
  rw [if_neg (show ¬ (!(flashFound f s.nvm).usable) = true by rw [hn]; decide), if_neg hlc]
  cases bankOrder (flashFound f s.nvm) <;> rfl

theorem noBank_eq (s : State) : ∃ code, noBank s =
      { s with ump := { s.ump with reports := s.ump.reports ++ [{ line := 11, code := code, time := s.timeNow }] } } ∧
    (s.nvm.reasonA ≠ 6 → s.nvm.reasonB ≠ 6 → code = codeCfgNone) :=
  ⟨_, report_direct (by decide) _ _ _, fun ha hb => if_neg (by simp [ha, hb])⟩

/-- The beginning of a pass reads the flash and changes nothing of it. -/
theorem passFirst_keeps (order : List Nat) (s : State) : (passFirst order s).nvm.mem = s.nvm.mem ∧
    (passFirst order s).nvm.sizeLog2 = s.nvm.sizeLog2 ∧ (passFirst order s).nvm.usable = s.nvm.usable ∧
    (passFirst order s).nvm.started = s.nvm.started ∧ (passFirst order s).nvm.armed = s.nvm.armed := by
  cases order
  · obtain ⟨code, h, -⟩ := noBank_eq s
    rw [show passFirst [] s = noBank s from rfl, h]
    exact ⟨rfl, rfl, rfl, rfl, rfl⟩
  · exact ⟨rfl, rfl, rfl, rfl, rfl⟩

/-- Reading the headers raises no CFG_VARIANT. -/
theorem headersRead_reasons (n : Nvm) : (headersRead n).reasonA ≠ 6 ∧ (headersRead n).reasonB ≠ 6 := by
  constructor <;> (dsimp only [headersRead]; split <;> decide)

section Banks

variable {n : Nvm}

theorem bankOrder_both (ha : bankHeaderOk n 0 = true) (hb : bankHeaderOk n 1 = true) : bankOrder n =
    if newer (hdrSeq (bankHeader n 1)) (hdrSeq (bankHeader n 0)) then [1, 0] else [0, 1] := by simp [bankOrder, validHeader, ha, hb]

theorem bankOrder_a (ha : bankHeaderOk n 0 = true) (hb : bankHeaderOk n 1 = false) : bankOrder n = [0] := by
  simp [bankOrder, validHeader, ha, hb]

theorem bankOrder_b (ha : bankHeaderOk n 0 = false) (hb : bankHeaderOk n 1 = true) : bankOrder n = [1] := by
  simp [bankOrder, validHeader, ha, hb]

theorem bankOrder_none (ha : bankHeaderOk n 0 = false) (hb : bankHeaderOk n 1 = false) : bankOrder n = [] := by
  simp [bankOrder, validHeader, ha, hb]

/-- What a bank's header is read from. -/
theorem bankHeader_congr {m : Nvm} (hmem : m.mem = n.mem) (hsize : m.sizeLog2 = n.sizeLog2) (b : Nat) :
    bankHeader m b = bankHeader n b := by
  simp only [bankHeader, flashRead, flashAt, bankBase, bankSize, hmem, hsize]

theorem bankHeaderOk_congr {m : Nvm} (hmem : m.mem = n.mem) (hsize : m.sizeLog2 = n.sizeLog2) (hu : m.usable = n.usable) (b : Nat) :
    bankHeaderOk m b = bankHeaderOk n b := by
  rw [bankHeaderOk, bankHeaderOk, bankHeader_congr hmem hsize, bankSize, bankSize, hsize, hu]

end Banks

/-- The bank to pass after the start, by the headers that are valid (R349). -/
theorem passFirst_order {s : State} {n : Nvm} (hn : s.nvm = headersRead n) {m : Nvm} (hm : (passFirst (bankOrder n) s).nvm = m) :
    (bankHeaderOk m 0 = true → bankHeaderOk m 1 = true →
      m.passing = some (if newer (hdrSeq (bankHeader m 1)) (hdrSeq (bankHeader m 0)) then 1 else 0)) ∧
    (bankHeaderOk m 0 = true → bankHeaderOk m 1 = false → m.passing = some 0 ∧ m.order = []) ∧
    (bankHeaderOk m 0 = false → bankHeaderOk m 1 = true → m.passing = some 1 ∧ m.order = []) ∧
    (bankHeaderOk m 0 = false → bankHeaderOk m 1 = false → m.passing = n.passing ∧
      ∃ r ∈ (passFirst (bankOrder n) s).ump.reports, r.line = 11 ∧ r.code = codeCfgNone) := by
  obtain ⟨hmem, hsize, husable, -⟩ := passFirst_keeps (bankOrder n) s
  rw [hm, hn] at hmem hsize husable
  have hh (b : Nat) : bankHeader m b = bankHeader n b := bankHeader_congr hmem hsize b
  have hok (b : Nat) : bankHeaderOk m b = bankHeaderOk n b := bankHeaderOk_congr hmem hsize husable b
  rw [hok, hok, hh, hh]
  refine ⟨fun ha hb => ?_, fun ha hb => ?_, fun ha hb => ?_, fun ha hb => ?_⟩
  · rw [← hm, bankOrder_both ha hb]
    split <;> rfl
  · rw [← hm, bankOrder_a ha hb]
    exact ⟨rfl, rfl⟩
  · rw [← hm, bankOrder_b ha hb]
    exact ⟨rfl, rfl⟩
  · obtain ⟨hra, hrb⟩ := headersRead_reasons n
    obtain ⟨code, he, hcode⟩ := noBank_eq s
    rw [hn] at hcode
    rw [← hm, bankOrder_none ha hb, show passFirst [] s = noBank s from rfl, he]
    exact ⟨by rw [hn]; rfl, _, List.mem_append_right _ (List.mem_singleton_self _), rfl, hcode hra hrb⟩

/-! ## A time-out of the flash (R363) -/

theorem writeFail_nvm (cause : Nat) (s : State) : ((writeFail cause s).nvm.wr.state = 6 ∧ (writeFail cause s).nvm.wr.cause = cause ∧
    (writeFail cause s).nvm.wr.step = 0) ∧ (writeFail cause s).nvm.timeouts = s.nvm.timeouts ∧
    (writeFail cause s).nvm.fail = s.nvm.fail ∧ (writeFail cause s).nvm.armed = s.nvm.armed := by
  unfold writeFail writeEnd
  dsimp only
  rw [pushEvent_only]
  split <;> exact ⟨⟨rfl, rfl, rfl⟩, rfl, rfl, rfl⟩

theorem writeFail_ump (cause : Nat) (s : State) : (writeFail cause s).ump = s.ump := by rw [writeFail_only]

theorem flashTimeout_facts (s : State) : (flashTimeout s).nvm.timeouts = s.nvm.timeouts + 1 ∧ (flashTimeout s).nvm.fail = true ∧
    (flashTimeout s).nvm.armed = s.nvm.armed ∧
    (s.nvm.wr.step ≠ 0 → (flashTimeout s).nvm.wr.state = 6 ∧ (flashTimeout s).nvm.wr.cause = 8 ∧ (flashTimeout s).nvm.wr.step = 0) ∧
    ∃ r ∈ (flashTimeout s).ump.reports, r.line = 49 ∧ r.code = codeNvmFail := by
  unfold flashTimeout
  dsimp only
  rw [report_direct (by decide)]
  dsimp only
  split
  · rename_i h
    exact ⟨rfl, rfl, rfl, fun h' => absurd h h', _, List.mem_append_right _ (List.mem_singleton_self _), rfl, rfl⟩
  · obtain ⟨hwr, htime, hfail, harmed⟩ := writeFail_nvm 8
      { s with nvm := { s.nvm with timeouts := s.nvm.timeouts + 1, fail := true },
               ump := { s.ump with reports := s.ump.reports ++ [{ line := 49, code := codeNvmFail, time := s.timeNow }] } }
    rw [writeFail_ump]
    exact ⟨htime, hfail, harmed, fun _ => hwr, _, List.mem_append_right _ (List.mem_singleton_self _), rfl, rfl⟩

/-! ## A lane loaded (R350, R351) -/

theorem foldl_fab {α : Type} {f : State → α → State} (h : ∀ t a, f t a = { t with fab := (f t a).fab }) (l : List α) (s : State) :
    l.foldl f s = { s with fab := (l.foldl f s).fab } := by
  induction l generalizing s with
  | nil => rfl
  | cons a l ih => rw [List.foldl_cons, ih, h]

theorem sendConfig_eq (ws : List Word) (s : State) : ∃ fab, sendConfig ws s = { s with fab := fab } :=
  ⟨_, foldl_fab (fun t _ => sendFrame_only _ _ _ t) _ s⟩

/-- The digest of a copy: that of its bytes where it arrives as sent, and another value than the section's where it does not. -/
theorem copyDigest_eq (bytes : List Byte) (crc : Word) (ok : Bool) (s : State) : ∃ d f, copyDigest bytes crc ok s = (d, { s with fresh := f }) ∧
    (ok = true → d = crc32cBytes bytes) ∧ (ok = false → d ≠ crc) := by
  cases ok
  · refine ⟨if (fresh s).1 = crc then ~~~(fresh s).1 else (fresh s).1, s.fresh + 1, rfl, (by simp), fun _ => ?_⟩
    split
    · rename_i h
      rw [h]
      bv_omega
    · assumption
  · exact ⟨crc32cBytes bytes, s.fresh, rfl, fun _ => rfl, (by simp)⟩

/-- The lane as a good load leaves it: its blocks cleared. -/
def loadedLane (bytes : List Byte) (d : Word) (x : LaneDie) : LaneDie :=
  { x with image := some (Config.parseSafety bytes), digest := d, blocks := [], sig := [], evaluated := none, buf := none,
           tel := [], telDue := [], passOk := true }

section LaneLoad

variable {s : State} {l : Lane} {ok : Bool} {bytes : List Byte} {crc : Word}

theorem laneLoad_loads (hsrc : safetySource s = some (bytes, crc)) (hc : (s.mgr l).phase = .start ∧ (s.mgr l).tested = true ∧
    (s.mgr l).loaded = false ∧ laneUnpowered s l = false) (hok : ok = true) (hcrc : crc32cBytes bytes = crc) : ∃ fab f,
    laneLoad l ok s = (({ s with fab := fab, fresh := f }).setLane l (loadedLane bytes crc (s.laneD l))).setMgr l
      { s.mgr l with loaded := true } := by
  obtain ⟨fab, hsend⟩ := sendConfig_eq (crc :: wordsOf bytes) s
  obtain ⟨d, f, hcopy, hgood, -⟩ := copyDigest_eq bytes crc ok { s with fab := fab }
  have hd : d = crc := (hgood hok).trans hcrc
  refine ⟨fab, f, ?_⟩
  unfold laneLoad
  rw [hsrc]
  dsimp only
  rw [if_pos hc, hsend, hcopy]
  dsimp only
  rw [if_pos hd, hd]
  rfl

theorem laneLoad_differs (hsrc : safetySource s = some (bytes, crc)) (hc : (s.mgr l).phase = .start ∧ (s.mgr l).tested = true ∧
    (s.mgr l).loaded = false ∧ laneUnpowered s l = false) (hbad : ok = false ∨ crc32cBytes bytes ≠ crc) : ∃ fab f d,
    laneLoad l ok s = { ({ s with fab := fab, fresh := f }).setLane l { s.laneD l with image := none, digest := d } with
      nvm := { s.nvm with digestFails := triSet s.nvm.digestFails l (triGet s.nvm.digestFails l + 1) },
      ump := { s.ump with reports := s.ump.reports ++ (if triGet s.nvm.digestFails l = 1 then
        [{ line := 11, code := codeCfgDigest, detail := 0, time := s.timeNow }] else []) } } ∧
    d ≠ crc ∧ (ok = true → d = crc32cBytes bytes) := by
  obtain ⟨fab, hsend⟩ := sendConfig_eq (crc :: wordsOf bytes) s
  obtain ⟨d, f, hcopy, hgood, hdiff⟩ := copyDigest_eq bytes crc ok { s with fab := fab }
  have hd : d ≠ crc := by
    cases hok : ok
    · exact hdiff hok
    · rw [hgood hok]
      exact hbad.resolve_left (by simp [hok])
  refine ⟨fab, f, d, ?_, hd, hgood⟩
  unfold laneLoad
  rw [hsrc]
  dsimp only
  rw [if_pos hc, hsend, hcopy]
  dsimp only
  rw [if_neg hd, report_direct (by decide)]
  by_cases hn : triGet s.nvm.digestFails l = 1
  · rw [if_pos hn, if_pos (by exact congrArg (· + 1) hn)]
    rfl
  · rw [if_neg hn, if_neg (fun h => hn (Nat.succ.inj h)), List.append_nil]
    rfl

theorem laneLoad_kept (h : safetySource s = none ∨ (s.mgr l).phase ≠ .start ∨ (s.mgr l).tested = false ∨ (s.mgr l).loaded = true ∨
    laneUnpowered s l = true) : laneLoad l ok s = s := by
  unfold laneLoad
  dsimp only
  split
  · rename_i hsrc
    refine if_neg ?_
    rintro ⟨h1, h2, h3, h4⟩
    simp_all
  · rfl

end LaneLoad

/-! ## The field die loaded (R350) -/

/-- What loading writes of the field die and of the controller. -/
def fieldFacts (s : State) : Option SafetyImage × Nvm := (s.fld.safety, s.nvm)

theorem fieldTimers_keep (img : SafetyImage) (s : State) :
    fieldFacts (safetyTimers img (guardChannels img (pinsFrom img s))) = fieldFacts s := by
  have hpins : fieldFacts (pinsFrom img s) = fieldFacts s := foldl_keeps (part := fieldFacts) (fun t e => by dsimp only; split <;> rfl) _ _
  have hguard (t : State) : fieldFacts (guardChannels img t) = fieldFacts t :=
    foldl_keeps (part := fieldFacts) (fun t e => by dsimp only; split <;> rfl) _ _
  have htimers (t : State) : fieldFacts (safetyTimers img t) = fieldFacts t := by
    refine foldl_keeps (part := fieldFacts) (fun u e => ?_) _ _
    rfl
  rw [htimers, hguard, hpins]

theorem fieldLoad_loads {s : State} {bytes : List Byte} {crc : Word} (hsrc : safetySource s = some (bytes, crc))
    (hl : (s.unit 4).last = 1) (hf : s.nvm.fieldLoaded = false) :
    (fieldLoad s).fld.safety = some (Config.parseSafety bytes) ∧ (fieldLoad s).nvm.fieldLoaded = true := by
  obtain ⟨fab, hsend⟩ := sendConfig_eq (wordsOf ((bytes.drop 4).take (field bytes 0 4))) s
  have hload : fieldFacts (fieldLoad s) = (some (Config.parseSafety bytes), { s.nvm with fieldLoaded := true }) := by
    unfold fieldLoad
    rw [hsrc]
    dsimp only
    rw [if_pos ⟨hl, hf⟩, hsend, fieldTimers_keep]
    rfl
  obtain ⟨hs, hn⟩ := Prod.mk.inj hload
  exact ⟨hs, by rw [hn]⟩

/-! ## The arm frame (R352) -/

/-- The configuration in flash and the lanes, which arming reads. -/
def flashAndLanes (s : State) : Nvm × Tri LaneDie := (s.nvm, s.lane)

section Arm

variable (s : State)

theorem armChannels_keeps (cm : CmImage) : flashAndLanes (armChannels cm s) = flashAndLanes s := by
  unfold armChannels
  dsimp only
  refine (foldl_keeps (part := flashAndLanes) (fun t e => ?_) _ _).trans (foldl_keeps (part := flashAndLanes) (fun t e => ?_) _ _)
  · split
    · rfl
    · split <;> rfl
  · split
    · rfl
    · split <;> rfl

theorem allocate_flashAndLanes (h n cap replies : Nat) : flashAndLanes (allocate h n cap replies s).2 = flashAndLanes s := by
  unfold allocate
  dsimp only
  split
  · rfl
  · split
    · split <;> rfl
    · exact foldl_keeps (part := flashAndLanes) (f := fun t p => takePage h cap p t) (fun _ _ => rfl) _ _

theorem armTask_keeps (e : Nat × TaskImage) : flashAndLanes (armTask s e) = flashAndLanes s := by
  have hcode (mask : Word) (t : State) : flashAndLanes (copyCode mask e.2.code t) = flashAndLanes t :=
    foldl_keeps (part := flashAndLanes) (fun t c => by dsimp only; split <;> rfl) _ _
  have halloc (t : State) := allocate_flashAndLanes t (0x100 + e.1) 1 0 1
  unfold armTask
  dsimp only
  split
  · rename_i heq
    rw [loadImage_only]
    exact (congrArg flashAndLanes (congrArg Prod.snd heq)).symm.trans ((halloc _).trans (hcode _ _))
  · rename_i heq
    exact (congrArg flashAndLanes (congrArg Prod.snd heq)).symm.trans ((halloc _).trans (hcode _ _))

theorem armCores_keeps (cm : CmImage) : flashAndLanes (armCores cm s) = flashAndLanes s := by
  refine foldl_keeps (part := flashAndLanes) (fun t c => ?_) _ _
  dsimp only
  split
  · rw [coreUp_only]; rfl
  · rfl

theorem burstAbortAll_flashAndLanes (r : Nat) : flashAndLanes (burstAbortAll r s) = flashAndLanes s := by
  have hdrop (l : List (Nat × Nat)) (t : State) : flashAndLanes (l.foldl (fun t e => dropPage e.1 t) t) = flashAndLanes t :=
    foldl_keeps (part := flashAndLanes) (f := fun t e => dropPage e.1 t) (fun _ _ => rfl) l t
  have habort (c : Capture) (t : State) : flashAndLanes (capAbort c t) = flashAndLanes t := by
    unfold capAbort
    dsimp only
    rw [hostCapEnd_only, capFrame_only]
    exact hdrop _ _
  refine foldl_keeps (part := flashAndLanes) (fun t b => ?_) _ _
  unfold burstCut
  dsimp only
  split
  · exact habort _ _
  · rfl

theorem armRings_keeps (cm : CmImage) : flashAndLanes (armRings cm s) = flashAndLanes s := by
  refine foldl_keeps (part := flashAndLanes) (fun t r => ?_) _ _
  dsimp only
  split
  · exact burstAbortAll_flashAndLanes _ _
  · rfl

theorem staffOut_keeps : flashAndLanes (staffOut s) = ({ s.nvm with staged := [] }, s.lane) :=
  foldl_keeps (part := flashAndLanes) (fun t p => by split <;> rfl) _ _

/-- The bank is armed: its digest is in force, the pass is over, and the flash and the lanes are as they were. -/
theorem armed_facts (b : Nat) : (arm b s).nvm.armed = true ∧ (arm b s).nvm.bank = b ∧ (arm b s).nvm.passing = none ∧
    (arm b s).nvm.digest = BitVec.ofNat 32 (secCrc (bankHeader s.nvm b) 0) ∧ (arm b s).nvm.mem = s.nvm.mem ∧
    (arm b s).lane = s.lane := by
  have htasks (l : List (Nat × TaskImage)) (t : State) : flashAndLanes (l.foldl armTask t) = flashAndLanes t :=
    foldl_keeps (part := flashAndLanes) armTask_keeps l t
  have hall (cm : CmImage) (l : List (Nat × TaskImage)) (t : State) :
      flashAndLanes (armRings cm (armCores cm (l.foldl armTask (armChannels cm (staffOut t))))) = ({ t.nvm with staged := [] }, t.lane) := by
    rw [armRings_keeps, armCores_keeps, htasks, armChannels_keeps, staffOut_keeps]
  have harm : ∃ n, flashAndLanes (arm b s) = (n, s.lane) ∧ n.armed = true ∧ n.bank = b ∧ n.passing = none ∧
      n.digest = BitVec.ofNat 32 (secCrc (bankHeader s.nvm b) 0) ∧ n.mem = s.nvm.mem :=
    ⟨_, hall _ _ _, rfl, rfl, rfl, rfl, rfl⟩
  obtain ⟨n, h, harmed, hbank, hpass, hdigest, hmem⟩ := harm
  obtain ⟨hn, hl⟩ := Prod.mk.inj h
  rw [hn, hl]
  exact ⟨harmed, hbank, hpass, hdigest, hmem, rfl⟩

end Arm

/-! ## The full pass (R349, R350) -/

/-- The module at the end of a pass, before its outcome takes effect: the sections delivered and the check of context 0 recorded. -/
def passed (b : Nat) (s : State) : State :=
  let r := bankReason s b
  let s0 := deliverSections b (moduleCheck 0 (decide (r ≠ 2 ∧ r ≠ 3)) { s with nvm := { s.nvm with passMs := msSinceGood s } })
  if r ≠ 1 ∧ r ≠ 2 ∧ r ≠ 3 ∧ hmacFails s (bankBase s.nvm b) (bankHeader s.nvm b) then report 50 codeAuthFail 0 s0 else s0

theorem deliverSections_eq (b : Nat) (s : State) : ∃ fab, deliverSections b s = { s with fab := fab } := by
  unfold deliverSections
  dsimp only
  rw [foldl_fab fun t i => ?_]
  · exact ⟨_, rfl⟩
  · obtain ⟨fab, h⟩ := sendConfig_eq (wordsOf (secBytes s.nvm (bankBase s.nvm b) (bankHeader s.nvm b) i)) t
    rw [h]

theorem passed_facts (b : Nat) (s : State) : (passed b s).nvm = { s.nvm with passMs := msSinceGood s } ∧ (passed b s).lane = s.lane := by
  obtain ⟨fab, h⟩ := deliverSections_eq b
    (moduleCheck 0 (decide (bankReason s b ≠ 2 ∧ bankReason s b ≠ 3)) { s with nvm := { s.nvm with passMs := msSinceGood s } })
  unfold passed
  dsimp only
  rw [h]
  split
  · rw [report_direct (by decide)]
    exact ⟨rfl, rfl⟩
  · exact ⟨rfl, rfl⟩

theorem passComplete_good {s : State} {b : Nat} (hp : s.nvm.passing = some b) (hr : bankReason s b = 0) :
    passComplete s = arm b (passed b s) := by
  unfold passComplete passed
  rw [hp]
  exact if_pos hr

/-- What follows a bank that fails: the next in order, or none. -/
def passNext (s : State) : State :=
  match s.nvm.order with
  | b2 :: rest => passBegin b2 rest { s with nvm := { s.nvm with fallback := true } }
  | [] => noBank s

theorem passComplete_bad {s : State} {b : Nat} (hp : s.nvm.passing = some b) (hr : bankReason s b ≠ 0) :
    passComplete s = passNext (discard (bankFails b (bankReason s b) { passed b s with nvm := { (passed b s).nvm with passing := none } })) := by
  unfold passComplete passed passNext
  rw [hp]
  exact if_neg hr

/-- What a failing pass must keep. -/
structure PassKept (n m : Nvm) : Prop where
  armed : m.armed = n.armed
  mem : m.mem = n.mem
  passing : m.passing = none
  order : m.order = n.order

theorem bankFails_facts (b r : Nat) (s : State) (h : s.nvm.passing = none) : PassKept s.nvm (bankFails b r s).nvm ∧
    ∃ e ∈ (bankFails b r s).ump.reports, e.line = 49 ∧ e.code = codeCfgBank := by
  have hreason : PassKept s.nvm (setReason b r s.nvm) := by
    unfold setReason
    split <;> exact ⟨rfl, rfl, h, rfl⟩
  unfold bankFails
  dsimp only
  rw [report_direct (by decide) codeCfgBank]
  split
  · rw [report_direct (by decide)]
    exact ⟨hreason, _, List.mem_append_left _ (List.mem_append_right _ (List.mem_singleton_self _)), rfl, rfl⟩
  · exact ⟨hreason, _, List.mem_append_right _ (List.mem_singleton_self _), rfl, rfl⟩

theorem dropField_keeps (s : State) : ((dropField s).nvm, (dropField s).ump) = (s.nvm, s.ump) := by
  unfold dropField
  split
  · rfl
  · dsimp only
    refine (foldl_keeps (part := fun t => (t.nvm, t.ump)) (fun t e => ?_) _ _).trans ((foldl_keeps (part := fun t => (t.nvm, t.ump))
      (fun t e => ?_) _ _).trans (foldl_keeps (part := fun t => (t.nvm, t.ump)) (fun t e => ?_) _ _))
    · rfl
    · rfl
    · rfl

/-- The field die and the lanes drop what they hold unarmed. -/
theorem discard_facts (s : State) : PassKept { s.nvm with passing := none } { (discard s).nvm with passing := none } ∧
    (discard s).nvm.passing = s.nvm.passing ∧ (discard s).ump = s.ump ∧
    (discard s).fld.safety = none ∧ ∀ l, ((discard s).laneD l).image = none := by
  obtain ⟨hn, hu⟩ := Prod.mk.inj (dropField_keeps s)
  unfold discard
  generalize dropField s = u at hn hu ⊢
  rw [← hn, ← hu]
  refine ⟨⟨rfl, rfl, rfl, rfl⟩, rfl, rfl, rfl, fun l => ?_⟩
  cases l <;> rfl

theorem passNext_facts {s : State} (h : s.nvm.passing = none) : (passNext s).nvm.armed = s.nvm.armed ∧
    (passNext s).nvm.passing = s.nvm.order.head? ∧ (passNext s).nvm.mem = s.nvm.mem ∧ (passNext s).fld = s.fld ∧
    (passNext s).lane = s.lane ∧ ∀ r ∈ s.ump.reports, r ∈ (passNext s).ump.reports := by
  unfold passNext
  split
  · rename_i b2 rest ho
    rw [ho]
    exact ⟨rfl, rfl, rfl, rfl, rfl, fun r hr => hr⟩
  · rename_i ho
    obtain ⟨code, he, -⟩ := noBank_eq s
    rw [ho, he]
    exact ⟨rfl, h, rfl, rfl, rfl, fun r hr => List.mem_append_left _ hr⟩

/-! ## The scan of the log (R363) -/

/-- What an entry of the log leaves of the boot's outcome. -/
def bootFacts (n : Nvm) : Bool × Bool × Nat × Bool := (n.logReady, n.armed, n.bank, n.lostChanges)

theorem logEvent_bootFacts (actor kind param : Nat) (old new : List Word) (s : State) :
    bootFacts (logEvent actor kind param old new s).nvm = bootFacts s.nvm := by
  unfold logEvent
  split
  · rfl
  · obtain ⟨m, area, next, other, first, gen, erasing, h⟩ := logAppend_nvm actor kind param old new 0 s
    rw [h]
    rfl

theorem cellsLogged_bootFacts (s : State) : bootFacts (cellsLogged s).nvm = bootFacts s.nvm := by
  unfold cellsLogged
  split
  · exact logEvent_bootFacts _ _ _ _ _ _
  · rfl

theorem logCreate_nvm (s : State) : ∃ m, (logCreate s).nvm = { s.nvm with mem := m } := by
  unfold logCreate
  split
  · exact ⟨_, rfl⟩
  · exact areaStart_only _ _ _ _

theorem logScan_bootFacts (n : Nvm) : bootFacts (logScan n) = (true, n.armed, n.bank, (logScan n).lostChanges) := rfl

theorem scanComplete_facts {s : State} (ha : s.nvm.armed = true) (hl : s.nvm.logReady = false) :
    bootFacts (scanComplete s).nvm = (true, true, s.nvm.bank, (logScan (logCreate s).nvm).lostChanges) := by
  obtain ⟨m, hm⟩ := logCreate_nvm s
  have hbank : (logCreate s).nvm.bank = s.nvm.bank := by rw [hm]
  have harmed : (logCreate s).nvm.armed = true := by rw [hm]; exact ha
  have hscan := logScan_bootFacts (logCreate s).nvm
  rw [harmed, hbank] at hscan
  rw [← hscan]
  unfold scanComplete
  rw [if_pos ⟨ha, hl⟩]
  generalize logCreate s = u
  dsimp only
  rw [cellsLogged_bootFacts, logEvent_bootFacts]

/-- Settles O48, from the controller's start, the loads, the outcome of the pass and the scan. -/
theorem startUp : Obligations.StartUp := by
  intro s hup
  refine ⟨fun f h => ?_, fun f hl hs hu => ?_, fun f hl hs hu hlc => ?_, fun ha => ?_, fun ha => ?_, ?_,
    fun l ok bytes crc hsrc hph ht hld hpw => ?_, fun l ok h => ?_, fun bytes crc hsrc hl hf => ?_, fun hp => ?_, fun b hp hr => ?_,
    fun b hp hr => ?_, fun ha hl => ?_, fun h => ?_⟩
  · refine run_gives hup (if_neg ?_)
    rintro ⟨h1, h2⟩
    exact h.elim (· h1) fun h3 => absurd h3 (by simp [h2])
  · obtain ⟨b, h⟩ := nvmStart_unusable hl hs hu
    rw [report_direct (by decide)] at h
    refine ⟨_, run_gives hup h, hu, ?_, rfl, _, List.mem_append_right _ (List.mem_singleton_self _), rfl, rfl⟩
    show (s.nvm.fail || !flashUsable f) = true
    rw [hu, Bool.not_false, Bool.or_true]
  · obtain ⟨b, h⟩ := nvmStart_usable hl hs hu hlc
    have hsize : (flashFound f s.nvm).sizeLog2 = f.sizeLog2 := if_pos hu
    have hmem (hf : f.fitted = none) : (flashFound f s.nvm).mem = s.nvm.mem := by simp [flashFound, hf]
    obtain ⟨hm, hsz, hus, hst, har⟩ := passFirst_keeps (bankOrder (flashFound f s.nvm))
      { s with nvm := headersRead (flashFound f s.nvm), boat := b }
    obtain ⟨h1, h2, h3, h4⟩ := passFirst_order (s := { s with nvm := headersRead (flashFound f s.nvm), boat := b })
      (n := flashFound f s.nvm) rfl rfl
    exact ⟨_, run_gives hup h, hst, hus.trans hu, hsz.trans hsize, fun hf => hm.trans (hmem hf), har, h1, h2, h3, h4⟩
  · exact run_gives hup (by rw [nvmFail, if_pos rfl, ha, if_neg (by decide)])
  · exact run_gives hup (by rw [nvmFail, if_pos rfl, ha, if_pos rfl])
  · obtain ⟨htime, hfail, harmed, hwr, hrep⟩ := flashTimeout_facts s
    exact ⟨_, run_up _ _ hup, htime, hfail, harmed, hwr, hrep⟩
  · by_cases hok : ok = true ∧ crc32cBytes bytes = crc
    · obtain ⟨fab, f, h⟩ := laneLoad_loads hsrc ⟨hph, ht, hld, hpw⟩ hok.1 hok.2
      refine ⟨_, run_gives hup h, rfl, rfl, fun k hk => ?_, fun _ _ => ?_, fun hbad => ?_⟩
      · rw [State.laneD_setMgr, State.laneD_setLane_other _ _ _ _ hk, State.mgr_setMgr_other _ _ _ _ hk, State.mgr_setLane]
        exact ⟨rfl, rfl⟩
      · rw [State.laneD_setMgr, State.laneD_setLane_same, State.mgr_setMgr_same]
        exact ⟨rfl, rfl, rfl, rfl, rfl, rfl⟩
      · exact absurd hok (by rintro ⟨h1, h2⟩; exact hbad.elim (by simp [h1]) (· h2))
    · obtain ⟨fab, f, d, h, hd, hdig⟩ := laneLoad_differs hsrc ⟨hph, ht, hld, hpw⟩
        (by by_cases h1 : ok = true
            · exact .inr fun h2 => hok ⟨h1, h2⟩
            · exact .inl (Bool.not_eq_true _ ▸ h1))
      refine ⟨_, run_gives hup h, rfl, rfl, fun k hk => ?_, fun h1 h2 => absurd ⟨h1, h2⟩ hok, fun _ => ?_⟩
      · exact ⟨State.laneD_setLane_other { s with fab := fab, fresh := f } _ _ _ hk, rfl⟩
      · have hlane := State.laneD_setLane_same { s with fab := fab, fresh := f } l { s.laneD l with image := none, digest := d }
        refine ⟨(congrArg LaneDie.image hlane :), fun he => hd ((congrArg LaneDie.digest hlane).symm.trans he),
          fun h1 => (congrArg LaneDie.digest hlane).trans (hdig h1), hld, ?_, rfl⟩
        exact triGet_triSet_same _ _ _
  · exact run_gives hup (laneLoad_kept h)
  · obtain ⟨hs, hn⟩ := fieldLoad_loads hsrc hl hf
    exact ⟨_, run_up _ _ hup, hs, hn⟩
  · exact run_gives hup (by rw [passComplete, hp])
  · obtain ⟨harmed, hbank, hpass, hdigest, hmem, hlane⟩ := armed_facts (passed b s) b
    obtain ⟨hn, hl⟩ := passed_facts b s
    rw [hn] at hdigest hmem
    exact ⟨_, run_gives hup (passComplete_good hp hr), harmed, hbank, hpass, hdigest, hmem, hlane.trans hl⟩
  · obtain ⟨hn, hl⟩ := passed_facts b s
    obtain ⟨hfails, e, he, heline, hecode⟩ :=
      bankFails_facts b (bankReason s b) { passed b s with nvm := { (passed b s).nvm with passing := none } } rfl
    obtain ⟨hkept, hpass, hump, hsafety, himage⟩ :=
      discard_facts (bankFails b (bankReason s b) { passed b s with nvm := { (passed b s).nvm with passing := none } })
    obtain ⟨harmed, hnext, hmem, hfld, hlane, hrep⟩ := passNext_facts (hpass.trans hfails.passing)
    refine ⟨_, run_gives hup (passComplete_bad hp hr), ?_, ?_, ?_, ?_, fun l => ?_, e, hrep e (by rw [hump]; exact he), heline, hecode⟩
    · rw [harmed, hkept.armed, hfails.armed, hn]
    · rw [hnext, hkept.order, hfails.order, hn]
    · rw [hmem, hkept.mem, hfails.mem, hn]
    · rw [hfld, hsafety]
    · rw [State.laneD, hlane]; exact himage l
  · have h := scanComplete_facts ha hl
    simp only [bootFacts, Prod.mk.injEq] at h
    obtain ⟨hready, harmed, hbank, hlost⟩ := h
    refine ⟨_, run_up _ _ hup, hready, harmed, hbank, fun hc => ?_⟩
    rw [hlost, show logCreate s = s from if_pos (.inl hc)]
  · refine run_gives hup (if_neg ?_)
    rintro ⟨h1, h2⟩
    exact h.elim (by simp [h1]) (by simp [h2])

end Sys2Proof.Machine
end

section
/-!
SUPPORT. The self-test controller (R324 to R336): what starts, ends and failures write of a unit, the controller's own failure, the
requests, and the statement about them.
-/
namespace Sys2Proof.Machine

open Sys2Proof

/-! ## Reports only add -/

/-- Whatever a report meets on its way, the reports that wait stay. -/
theorem report_reports (line code detail : Nat) (s : State) :
    ∃ more, (report line code detail s).ump.reports = s.ump.reports ++ more := by
  unfold report emit emitFrom
  split
  · exact ⟨_, rfl⟩
  · dsimp only
    split
    · rw [holdCopies_only]
      exact ⟨[], (List.append_nil _).symm⟩
    · split
      · unfold alarmEvent
        rw [pushEvent_only]
        exact ⟨_, rfl⟩
      · exact ⟨_, rfl⟩

/-! ## A unit's entry -/

section Units

variable {s : State} {u n : Nat} {v : BUnit}

theorem State.unit_setUnit_ne (h : v ≠ {}) : (s.setUnit n v).unit n = v := look_put_ne _ _ _ _ h

theorem BUnit.ne_of_last (h : v.last ≠ 0) : v ≠ {} := fun h' => h (by rw [h'])

theorem BUnit.ne_of_pending (h : v.pending = true) : v ≠ {} := fun h' => by simp [h'] at h

/-- `t` has the slice that `s` has running, what `s` holds of unit `u` but for its request, and at least its reports. -/
structure UnitStays (u : Nat) (s t : State) : Prop where
  running : t.bist.running = s.bist.running
  unit : ∃ p, t.unit u = { s.unit u with pending := p }
  reports : ∀ r ∈ s.ump.reports, r ∈ t.ump.reports

theorem UnitStays.trans {t w : State} (h : UnitStays u s t) (h' : UnitStays u t w) : UnitStays u s w := by
  obtain ⟨p, hp⟩ := h.unit
  obtain ⟨q, hq⟩ := h'.unit
  exact ⟨h'.running.trans h.running, ⟨q, by rw [hq, hp]⟩, fun r hr => h'.reports r (h.reports r hr)⟩

theorem UnitStays.of_bist {t : State} (hb : t.bist = s.bist) (hu : t.ump = s.ump) : UnitStays u s t :=
  ⟨by rw [hb], ⟨(s.unit u).pending, by rw [State.unit, hb]; rfl⟩, fun r hr => by rw [hu]; exact hr⟩

theorem dropSlice_stays (hu : (s.unit u).last ≠ 0) (n : Nat) : UnitStays u s (dropSlice n s) := by
  refine ⟨rfl, ?_, fun r hr => hr⟩
  by_cases hn : u = n
  · subst hn
    exact ⟨false, State.unit_setUnit_ne (BUnit.ne_of_last hu)⟩
  · exact ⟨(s.unit u).pending, State.unit_setUnit_other _ _ _ _ hn⟩

theorem report_stays (line code detail : Nat) (s : State) : UnitStays u s (report line code detail s) := by
  obtain ⟨more, hm⟩ := report_reports line code detail s
  have hb : (report line code detail s).bist = s.bist := by rw [report_only]
  exact ⟨by rw [hb], ⟨(s.unit u).pending, by rw [State.unit, hb]; rfl⟩, fun r hr => by rw [hm]; exact List.mem_append_left _ hr⟩

/-! ## Ends of a slice (R325, R336) -/

theorem countFailure_stays (hu : (s.unit u).last ≠ 0) (l : Lane) (cause : Nat) : UnitStays u s (countFailure l cause s) := by
  have hmgr (m : LaneMgr) : UnitStays u s (s.setMgr l m) := .of_bist rfl rfl
  unfold countFailure
  dsimp only
  split
  · exact .of_bist rfl rfl
  · split
    · exact ((hmgr _).trans (dropSlice_stays (s := s.setMgr l _) hu _)).trans (report_stays _ _ _ _)
    · exact hmgr _

theorem laneFail_stays (hu : (s.unit u).last ≠ 0) (l : Lane) : UnitStays u s (laneFail l s) := by
  refine (countFailure_stays hu l 0x12).trans ?_
  unfold laneFail
  dsimp only
  split
  · exact .of_bist rfl rfl
  · split <;> exact .of_bist rfl rfl
  · exact .of_bist rfl rfl

theorem resultFrames_stays (n : Nat) (s : State) : UnitStays u s (resultFrames n s) := .of_bist rfl rfl

theorem resultFrames_unit (n : Nat) (s : State) : (resultFrames n s).unit u = s.unit u := by
  rw [State.unit, State.unit, show (resultFrames n s).bist = s.bist from rfl]

theorem coreFailed_stays (c : Nat) (s : State) : UnitStays u s (coreFailed c s) := by
  unfold coreFailed
  dsimp only
  rw [coreTo_only]
  exact .of_bist rfl rfl

theorem bootNext_stays (n : Nat) (again : Bool) (s : State) : UnitStays u s (bootNext n again s) := by
  unfold bootNext
  split
  · split
    · exact ⟨rfl, ⟨(s.unit u).pending, rfl⟩, fun r hr => hr⟩
    · exact .of_bist rfl rfl
  · exact .of_bist rfl rfl

theorem lanePass_stays (l : Lane) (s : State) : UnitStays u s (lanePass l s) := by
  unfold lanePass
  dsimp only
  split <;> exact .of_bist rfl rfl

theorem corePass_stays (c : Nat) (s : State) : UnitStays u s (corePass c s) := by
  unfold corePass
  rw [coreUp_only]
  exact .of_bist rfl rfl

/-- The CM die's slice tests the cores, units 8 to 15. -/
theorem bootCores_stays (hu : u < 8) (s : State) : UnitStays u s (bootCores s) := by
  unfold bootCores
  refine List.foldlRecOn (motive := UnitStays u s) _ _ (.of_bist rfl rfl) fun t ht c _ => ht.trans ?_
  exact ⟨rfl, ⟨(t.unit u).pending, State.unit_setUnit_other _ _ _ _ (by omega)⟩, fun r hr => hr⟩

/-- The report of a failing unit: of scope S for the CM die and the field die (R309, R331). -/
def bistReport (u : Nat) (s : State) : Report :=
  { line := if decide (u = 4 ∨ u = 5) then 12 else 48, code := codeBistFail, detail := u, time := s.timeNow }

/-- The slice of unit `u` ended by a failure, before the failure takes effect on the unit's lane or core. -/
def failEnded (u cause : Nat) (f : BUnit → BUnit) (s : State) : State :=
  let b := f (s.unit u)
  let s1 := s.setUnit u { b with last := 2, cause := cause, fails := b.fails + 1 }
  { s1 with bist := { s1.bist with running := none }, ump := { s.ump with reports := s.ump.reports ++ [bistReport u s] } }

theorem failEnded_unit (u cause : Nat) (f : BUnit → BUnit) (s : State) : (failEnded u cause f s).unit u =
    { f (s.unit u) with last := 2, cause := cause, fails := (f (s.unit u)).fails + 1 } :=
  State.unit_setUnit_ne (s := s) (BUnit.ne_of_last (show 2 ≠ 0 by decide))

theorem sliceFail_stays (u cause : Nat) (f : BUnit → BUnit) (s : State) :
    UnitStays u (failEnded u cause f s) (sliceFail u cause f s) := by
  have hline : lineSrc (if decide (u = 4 ∨ u = 5) then 12 else 48) = none := by split <;> decide
  have hlast : ((failEnded u cause f s).unit u).last ≠ 0 := by rw [failEnded_unit]; exact show 2 ≠ 0 by decide
  unfold sliceFail bistFail
  dsimp only
  rw [report_direct hline]
  refine UnitStays.trans ?_ (bootNext_stays _ _ _)
  split
  · exact (resultFrames_stays u (failEnded u cause f s)).trans (laneFail_stays (by rwa [resultFrames_unit]) _)
  · split
    · exact coreFailed_stays _ (failEnded u cause f s)
    · exact .of_bist rfl rfl

/-- A failing slice ends; its unit shows the failure, and BIST_FAIL names the unit (R326, R331). -/
theorem sliceFail_facts (u cause : Nat) (f : BUnit → BUnit) (s : State) : (sliceFail u cause f s).bist.running = none ∧
    (∃ p, (sliceFail u cause f s).unit u =
      { f (s.unit u) with last := 2, cause := cause, fails := (f (s.unit u)).fails + 1, pending := p }) ∧
    ∃ r ∈ (sliceFail u cause f s).ump.reports, r.code = codeBistFail ∧ r.detail = u := by
  have hend := sliceFail_stays u cause f s
  obtain ⟨p, hp⟩ := hend.unit
  rw [failEnded_unit] at hp
  exact ⟨hend.running, ⟨p, hp⟩, bistReport u s,
    hend.reports _ (List.mem_append_right s.ump.reports (List.mem_singleton_self _)), rfl, rfl⟩

/-- The slice of unit `u` ended by a pass, before the pass takes effect on the unit's lane or core. -/
def passEnded (u : Nat) (s : State) : State :=
  let s1 := s.setUnit u { s.unit u with
    last := 1, done := true, cause := 0, sig := expectedSig u, count := fullCount u, passTime := s.timeNow }
  { s1 with bist := { s1.bist with running := none } }

theorem passEnded_unit (u : Nat) (s : State) : (passEnded u s).unit u = { s.unit u with
    last := 1, done := true, cause := 0, sig := expectedSig u, count := fullCount u, passTime := s.timeNow } :=
  State.unit_setUnit_ne (s := s) (BUnit.ne_of_last (show 1 ≠ 0 by decide))

/-- A passing slice ends with the full count, the expected signature and DONE (R326). -/
theorem slicePass_facts (u : Nat) (s : State) : (slicePass u s).bist.running = none ∧ ((slicePass u s).unit u).last = 1 ∧
    ((slicePass u s).unit u).done = true ∧ ((slicePass u s).unit u).sig = expectedSig u ∧
    ((slicePass u s).unit u).count = fullCount u := by
  have hend : UnitStays u (passEnded u s) (slicePass u s) := by
    refine UnitStays.trans ?_ (bootNext_stays _ _ _)
    split
    · exact (resultFrames_stays u (passEnded u s)).trans (lanePass_stays _ _)
    · split
      · exact corePass_stays _ _
      · split
        · exact bootCores_stays (by omega) _
        · exact .of_bist rfl rfl
  obtain ⟨p, hp⟩ := hend.unit
  rw [hp, passEnded_unit]
  exact ⟨hend.running, rfl, rfl, rfl, rfl⟩

end Units

/-- What a slice leaves of its unit that has not applied the full count by 110 % of its duration. -/
def unfinished (sig : U64) (count : Nat) (b : BUnit) : BUnit := { b with done := false, sig := sig, count := count }

theorem sliceTimeout_fails {s : State} {u : Nat} (hr : s.bist.running = some u) (hl : 11 * sliceTicks u ≤ 10 * (s.now - s.bist.started)) :
    (sliceTimeout u s).bist.running = none ∧ ((sliceTimeout u s).unit u).last = 2 ∧ ((sliceTimeout u s).unit u).cause = 2 ∧
    ((sliceTimeout u s).unit u).done = false := by
  have ht : sliceTimeout u s = sliceFail u 2
      (unfinished ((fresh s).1 ++ (fresh (fresh s).2).1) (appliedCount u (s.now - s.bist.started))) (fresh (fresh s).2).2 :=
    if_pos ⟨hr, decide_eq_true hl⟩
  obtain ⟨hrun, ⟨p, hp⟩, -⟩ := sliceFail_facts u 2
      (unfinished ((fresh s).1 ++ (fresh (fresh s).2).1) (appliedCount u (s.now - s.bist.started))) (fresh (fresh s).2).2
  rw [ht, hp]
  exact ⟨hrun, rfl, rfl, rfl⟩

section Complete

variable {s : State} {u : Nat} {misr sig : U64} (hr : s.bist.running = some u)
  (ht : 10 * (s.now - s.bist.started) ≤ 11 * sliceTicks u) (hp : isLaneUnit u = true → laneUnpowered s (laneOf u) = false)
  (hsig : sig = sliceSig misr (fullCount u))
include hr ht hp hsig

theorem sliceComplete_judges (seg : Bool) : sliceComplete u (fullCount u) seg misr s =
    if decide (sig = expectedSig u) && seg then slicePass u s
    else sliceFail u (if sig = expectedSig u then 3 else 1) (fun b => { b with done := true, sig := sig, count := fullCount u }) s := by
  have hpow : (isLaneUnit u && laneUnpowered s (laneOf u)) = false := by
    cases hl : isLaneUnit u
    · rfl
    · rw [hp hl]; rfl
  subst hsig
  exact if_pos ⟨hr, rfl, ht, hpow⟩

theorem sliceComplete_passes (h : sig = expectedSig u) : sliceComplete u (fullCount u) true misr s = slicePass u s := by
  rw [sliceComplete_judges hr ht hp hsig, decide_eq_true h]
  rfl

theorem sliceComplete_fails {seg : Bool} (h : sig ≠ expectedSig u ∨ seg = false) : sliceComplete u (fullCount u) seg misr s =
    sliceFail u (if sig = expectedSig u then 3 else 1) (fun b => { b with done := true, sig := sig, count := fullCount u }) s := by
  rw [sliceComplete_judges hr ht hp hsig]
  refine if_neg ?_
  rcases h with h | h
  · simp [h]
  · simp [h]

end Complete

/-! ## Starts (R325, R328) -/

section Starts

variable {s : State} {u : Nat}

theorem startable_idle (h : startable s u = true) : s.bist.running = none := by
  unfold startable at h
  simp only [Bool.and_eq_true, Option.isNone_iff_eq_none] at h
  exact h.1.1

theorem startable_running {v : Nat} (h : s.bist.running = some v) : startable s u = false :=
  Bool.eq_false_iff.mpr fun h' => by simp [startable_idle h'] at h

/-- A unit whose slice starts with a seeded MISR. -/
def startedUnit (u : Nat) (s : State) : BUnit :=
  { s.unit u with
    done := false, pending := false, runs := (s.unit u).runs + 1, sig := 0xFFFFFFFFFFFFFFFF, count := 0,
    mode := if isCoreUnit u then 2 else if s.bist.boot.isEmpty then (s.unit u).mode else 0 }

/-- The slice runs, its unit as started. -/
def seeded (u : Nat) (s : State) : State :=
  { s with bist := { s.bist with units := put {} s.bist.units u (startedUnit u s), running := some u, started := s.now } }

theorem sliceStart_eq (u : Nat) (s : State) : sliceStart u s =
    if isLaneUnit u then laneSliceStart (laneOf u) (seeded u s)
    else if isCoreUnit u then coreSliceStart (u - 8) (seeded u s) else seeded u s := rfl

theorem sliceStart_facts (u : Nat) (s : State) : (sliceStart u s).bist.running = some u ∧ (sliceStart u s).bist.started = s.now ∧
    ((sliceStart u s).unit u).sig = 0xFFFFFFFFFFFFFFFF ∧ ((sliceStart u s).unit u).done = false ∧
    ((sliceStart u s).unit u).runs = (s.unit u).runs + 1 := by
  have hlane (l : Lane) (t : State) : (laneSliceStart l t).bist = t.bist := by
    unfold laneSliceStart
    dsimp only
    split
    · rfl
    · split <;> rfl
  have hcore (c : Nat) (t : State) : (coreSliceStart c t).bist = t.bist := by
    unfold coreSliceStart
    rw [coreTo_only]
    rfl
  have hseeded : (sliceStart u s).bist = (seeded u s).bist := by
    rw [sliceStart_eq]
    split
    · exact hlane _ _
    · split
      · exact hcore _ _
      · rfl
  have hbist : (sliceStart u s).bist =
      { s.bist with units := put {} s.bist.units u (startedUnit u s), running := some u, started := s.now } := hseeded
  have hunit : (sliceStart u s).unit u = startedUnit u s := by
    rw [State.unit, hbist]
    exact look_put_ne _ _ _ _ (fun h => by injection h; contradiction)
  rw [hunit, hbist]
  exact ⟨rfl, rfl, rfl, rfl, rfl⟩

/-- With no slice running, withdrawing a core's request reports nothing. -/
theorem coreSliceAbort_quiet {t : State} (c : Nat) (h : t.bist.running = none) :
    (coreSliceAbort c t).bist = (dropSlice (8 + c) t).bist ∧ (coreSliceAbort c t).ump = t.ump := by
  have habort : abortSlice (8 + c) t = t := if_neg (by simp [h])
  unfold coreSliceAbort
  dsimp only
  rw [habort]
  split
  · rw [coreUp_only]
    exact ⟨rfl, rfl⟩
  · exact ⟨rfl, rfl⟩

/-- No slice runs, the controller has failed, and `ump` is the Umpire. -/
def Stopped (ump : Ump) (t : State) : Prop := t.bist.running = none ∧ t.bist.ctrlFail = true ∧ t.ump = ump

theorem Stopped.drop {ump : Ump} {t : State} (h : Stopped ump t) (n : Nat) : Stopped ump (dropSlice n t) := h

theorem Stopped.abort {ump : Ump} {t : State} (h : Stopped ump t) (c : Nat) : Stopped ump (coreSliceAbort c t) := by
  obtain ⟨hb, hu⟩ := coreSliceAbort_quiet c h.1
  unfold Stopped
  rw [hb, hu]
  exact h

/-- Nothing runs, and the units' table is canonical. -/
def Tidy (t : State) : Prop := t.bist.running = none ∧ wf {} t.bist.units = true

theorem Tidy.drop {t : State} (h : Tidy t) (n : Nat) : Tidy (dropSlice n t) := ⟨h.1, wf_put _ _ _ _ h.2⟩

theorem Tidy.abort {t : State} (h : Tidy t) (c : Nat) : Tidy (coreSliceAbort c t) := by
  unfold Tidy
  rw [(coreSliceAbort_quiet c h.1).1]
  exact h.drop _

theorem Tidy.dropped {t : State} (h : Tidy t) {n v : Nat} (hv : n = v ∨ (t.unit v).pending = false) :
    ((dropSlice n t).unit v).pending = false := by
  by_cases hn : n = v
  · subst hn
    rw [dropSlice, State.unit_setUnit_same _ _ _ h.2]
  · rw [dropSlice, State.unit_setUnit_other _ _ _ _ (Ne.symm hn)]
    exact hv.resolve_left hn

theorem Tidy.aborted {t : State} (h : Tidy t) {c v : Nat} (hv : 8 + c = v ∨ (t.unit v).pending = false) :
    ((coreSliceAbort c t).unit v).pending = false := by
  rw [State.unit, (coreSliceAbort_quiet c h.1).1]
  exact h.dropped hv

/-- The slices of the lanes, the CM die's neighbours and the cores are dropped. -/
def allDropped (s : State) : State := coreSlicesAbort ((List.range 4).foldl (fun t u => dropSlice u t) s)

theorem allDropped_stopped {ump : Ump} {s : State} (h : Stopped ump s) : Stopped ump (allDropped s) :=
  List.foldlRecOn (motive := Stopped ump) _ _ (List.foldlRecOn (motive := Stopped ump) _ _ h fun _ ht n _ => ht.drop n)
    fun _ ht c _ => ht.abort c

theorem allDropped_pending {s : State} (h : Tidy s) {v : Nat} (hv : v < 4 ∨ 8 ≤ v ∧ v < 16) :
    ((allDropped s).unit v).pending = false := by
  have htidy : Tidy ((List.range 4).foldl (fun t u => dropSlice u t) s) :=
    List.foldlRecOn (motive := Tidy) _ _ h fun _ ht n _ => ht.drop n
  rcases hv with hv | ⟨h8, h16⟩
  · have hlow : (((List.range 4).foldl (fun t u => dropSlice u t) s).unit v).pending = false :=
      foldl_reaches (I := Tidy) (P := fun t => (t.unit v).pending = false) (fun _ n ht => ht.drop n) (fun _ ht => ht.dropped (.inl rfl))
        (fun _ _ ht hp => ht.dropped (.inr hp)) (List.mem_range.mpr hv) h
    exact (List.foldlRecOn (motive := fun t => Tidy t ∧ (t.unit v).pending = false) _ _ ⟨htidy, hlow⟩
      fun t ht c _ => ⟨ht.1.abort c, ht.1.aborted (.inr ht.2)⟩).2
  · exact foldl_reaches (I := Tidy) (P := fun t => (t.unit v).pending = false) (a := v - 8) (fun _ c ht => ht.abort c)
      (fun _ ht => ht.aborted (.inl (by omega))) (fun _ _ ht hp => ht.aborted (.inr hp)) (List.mem_range.mpr (by omega)) htidy

/-- The report of the controller's own failure. -/
def controllerReport (s : State) : Report :=
  { line := if s.bist.bootDone then 48 else 12, code := codeBistFail, detail := 0xFF, time := s.timeNow }

/-- The controller has failed and reported it. -/
def controllerFailed (s : State) : State :=
  { s with bist := { s.bist with ctrlFail := true }, ump := { s.ump with reports := s.ump.reports ++ [controllerReport s] } }

theorem bistFail_controller (s : State) :
    bistFail (!s.bist.bootDone) 0xFF { s with bist := { s.bist with ctrlFail := true } } = controllerFailed s := by
  have hline : (if (!s.bist.bootDone) = true then 12 else 48) = if s.bist.bootDone then 48 else 12 := by
    cases s.bist.bootDone <;> rfl
  unfold bistFail
  rw [hline, report_direct (by split <;> decide)]
  rfl

theorem controllerFail_eq (s : State) : controllerFail s =
    if s.bist.bootDone then allDropped (controllerFailed s) else controllerFailed s := by
  unfold controllerFail
  dsimp only
  rw [bistFail_controller]
  rfl

theorem controllerFailed_stopped (h : s.bist.running = none) :
    Stopped { s.ump with reports := s.ump.reports ++ [controllerReport s] } (controllerFailed s) := ⟨h, rfl, rfl⟩

theorem controllerFailed_tidy (h : s.bist.running = none) (hw : wf {} s.bist.units = true) : Tidy (controllerFailed s) := ⟨h, hw⟩

/-- CTRL_FAIL stands, no slice runs, and BIST_FAIL with detail 0xFF is reported (R328). -/
theorem controllerFail_stopped (h : s.bist.running = none) :
    Stopped { s.ump with reports := s.ump.reports ++ [controllerReport s] } (controllerFail s) := by
  rw [controllerFail_eq]
  split
  · exact allDropped_stopped (controllerFailed_stopped h)
  · exact controllerFailed_stopped h

/-- After the boot the slices that wait are dropped (R338). -/
theorem controllerFail_pending (h : s.bist.running = none) (hb : s.bist.bootDone = true) (hw : wf {} s.bist.units = true) {v : Nat}
    (hv : v < 4 ∨ 8 ≤ v ∧ v < 16) : ((controllerFail s).unit v).pending = false := by
  rw [controllerFail_eq, if_pos hb]
  exact allDropped_pending (controllerFailed_tidy h hw) hv

end Starts

/-! ## Requests (R332 to R334) -/

theorem bistOffMark : CoreMark Core.bistOff := ⟨rfl, fun _ _ _ _ => rfl⟩

/-- A core shut down for its slice: the request waits at the controller. -/
theorem corePend_facts (c : Nat) (s : State) : ((corePend c s).unit (8 + c)).pending = true ∧ ((corePend c s).core c).bistOff = true ∧
    (corePend c s).bist.refused = s.bist.refused ∧ (corePend c s).nvm = s.nvm ∧ (corePend c s).bist.turn = s.bist.turn ∧
    (corePend c s).bist.coreAt = s.bist.coreAt := by
  have hoff : ((corePend c s).core c).bistOff = true := by
    refine bistOffMark.coreDown ?_
    rw [State.core_setCore_ne (fun h => by injection h; contradiction)]
  have hbist : (corePend c s).bist = (s.setUnit (8 + c) { s.unit (8 + c) with pending := true, mode := 2 }).bist := by
    unfold corePend
    dsimp only
    rw [coreDown_only]
    dsimp only
    rfl
  refine ⟨?_, hoff, by rw [hbist]; rfl, by rw [corePend_only], by rw [hbist]; rfl, by rw [hbist]; rfl⟩
  rw [State.unit, hbist]
  exact congrArg BUnit.pending (look_put_ne {} s.bist.units (8 + c) { s.unit (8 + c) with pending := true, mode := 2 }
    (fun h => by injection h; contradiction))

theorem corePend_run {c : Nat} {s : State} (h : (s.core c).state = .run) : ((corePend c s).core c).state = .shutdown := by
  unfold corePend
  dsimp only
  rw [coreDown_setCore_run (by exact h), pmuSync_core, State.core_setCore_on (show CoreState.shutdown ≠ .off by decide)]

section Cmd

variable {s : State} {p : Port} {v : Word}

/-- A request taken has its log entry, and is not counted as refused. -/
theorem bistCmd_taken (ha : Admitted s p rightOps) (hok : cmdOk s (bits v 3 0) = true) (hkeep : ∀ t, (cmdTake (bits v 3 0) t).nvm = t.nvm) :
    bistCmd p v s = cmdTake (bits v 3 0) (opLogged p addrBistCmd [] [BitVec.ofNat 32 (bits v 3 0)] s) := by
  have hg : gate p rightOps (cmdOk s (bits v 3 0)) 2 addrBistCmd [] [BitVec.ofNat 32 (bits v 3 0)] (cmdTake (bits v 3 0)) s =
      cmdTake (bits v 3 0) (opLogged p addrBistCmd [] [BitVec.ofNat 32 (bits v 3 0)] s) := by
    rw [hok]
    exact gate_admitted ha _ _ _ _ _
  obtain ⟨m, area, next, other, first, gen, erasing, hn⟩ :=
    logAppend_nvm (slotOf s p) 2 addrBistCmd [] [BitVec.ofNat 32 (bits v 3 0)] 0 (touchSession p s)
  have hseq : (opLogged p addrBistCmd [] [BitVec.ofNat 32 (bits v 3 0)] s).nvm.logSeq = (s.nvm.logSeq + 1) % 4294967296 := by
    unfold opLogged
    rw [hn]
    rfl
  unfold bistCmd
  dsimp only
  rw [hg, hkeep, hseq]
  exact if_neg (by omega)

theorem bistCmd_refused (hok : cmdOk s (bits v 3 0) = false) : bistCmd p v s =
    { pwRefused p addrBistCmd s with bist := { s.bist with refused := satInc s.bist.refused } } := by
  unfold bistCmd
  dsimp only
  rw [gate_refused (.inr hok), pwRefused, secRefuse_eq]
  exact if_pos rfl

theorem cmdOk_core (h1 : s.bist.ctrlFail = false) (h2 : s.bist.bootDone = true) {u : Nat} (hu : 8 ≤ u) (hu' : u < 16)
    (hp : s.sec.power = 0 ∨ s.sec.power = 2) : cmdOk s u = true := by
  have hc : isCoreUnit u = true := by simp [isCoreUnit]; omega
  simp [cmdOk, h1, h2, hc, hp]

theorem cmdOk_lane (h1 : s.bist.ctrlFail = false) (h2 : s.bist.bootDone = true) {u : Nat} (hu : 1 ≤ u) (hu' : u ≤ 3)
    (hr : notRetired s (laneOf u) = true) (hp : s.sec.power = 2) : cmdOk s u = true := by
  simp [cmdOk, h1, h2, isLaneUnit, hu, hu', hp, hr]

theorem cmdOk_barred {u : Nat} (h : s.bist.ctrlFail = true ∨ s.bist.bootDone = false ∨ u = 0 ∨ 4 ≤ u ∧ u ≤ 7 ∨ s.sec.power = 1 ∨
    s.sec.power = 0 ∧ u < 8 ∨ 1 ≤ u ∧ u ≤ 3 ∧ notRetired s (laneOf u) = false) : cmdOk s u = false := by
  refine Bool.eq_false_iff.mpr fun hok => ?_
  simp only [cmdOk, isCoreUnit, isLaneUnit, Bool.and_eq_true, Bool.or_eq_true, Bool.not_eq_true', decide_eq_true_eq] at hok
  obtain ⟨⟨hctrl, hboot⟩, hunit⟩ := hok
  rcases h with h | h | h | h | h | h | ⟨h1, h2, h3⟩
  · simp [h] at hctrl
  · simp [h] at hboot
  · omega
  · omega
  · omega
  · omega
  · rcases hunit with hunit | hunit
    · omega
    · simp [h3] at hunit

end Cmd

/-- The turn of the next core's slice, and the time of it. -/
def coreTurned (s : State) : State :=
  { s with bist := { s.bist with turn := (s.bist.turn + 1) % 8, coreAt := s.bist.coreAt + s.bist.period * secTicks } }

theorem isLaneUnit_core {u : Nat} (h : u ≤ 3) : isCoreUnit u = false := by simp [isCoreUnit]; omega

/-- Settles O43, from the requests, the starts, the ends and the controller's own failure. -/
theorem selfTestSlicesAndCommands : Obligations.SelfTestSlicesAndCommands := by
  refine ⟨fun s hup => ⟨fun l hb hreq hbusy hst => ?_, fun hb hen hp hdue => ?_, fun u v ok hr => ?_, fun u hm => ⟨?_, ?_⟩,
    fun u misr sig hr ht hpw hsig => ⟨fun hx => ?_, fun seg hx => ?_⟩, fun u n seg misr hn => ?_, fun u hr hl => ?_, fun u hr hl => ?_⟩,
    fun s p v u hup ha hu => ⟨fun h1 h2 h3 h4 => ?_, fun h1 h2 h3 h4 h5 h6 => ?_, fun h => ?_⟩⟩
  · refine run_gives hup ?_
    have hno : decide (s.seat.state = .start) = false := decide_eq_false hst
    unfold sliceRequest
    dsimp only
    rw [hno, if_pos (by simp [hb, hreq, hbusy])]
    rfl
  · have hdue' : corePeriodDue s = true := by simp [corePeriodDue, hb, hen, hp, hdue]
    obtain ⟨hpend, -, -, -, hturn, hat⟩ := corePend_facts s.bist.turn (coreTurned s)
    refine ⟨_, run_due corePeriodDue _ hup hdue', ?_⟩
    unfold coreSliceDue
    dsimp only
    split
    · rename_i hskip
      refine ⟨rfl, rfl, fun hf hrun => absurd hskip (by simp [hf, hrun])⟩
    · exact ⟨hturn, hat, fun _ hrun => ⟨corePend_run (s := coreTurned s) hrun, hpend⟩⟩
  · exact run_gives hup (by rw [sliceBegin, startable_running hr]; rfl)
  · obtain ⟨hrun, hstart, hsig, hdone, hruns⟩ := sliceStart_facts u s
    exact ⟨_, run_gives hup (by rw [sliceBegin, if_pos (show startable s u = true from hm), if_pos rfl]), hrun, hstart, hsig, hdone, hruns⟩
  · have hidle := startable_idle hm
    obtain ⟨hrun, hctrl, hump⟩ := controllerFail_stopped hidle
    exact ⟨_, run_gives hup (by rw [sliceBegin, if_pos (show startable s u = true from hm), if_neg (by decide)]), hctrl, hrun, by rw [hump]; rfl,
      fun hb hw v hv => controllerFail_pending hidle hb hw hv⟩
  · obtain ⟨hrun, hlast, hdone, hsg, hcount⟩ := slicePass_facts u s
    exact ⟨_, run_gives hup (sliceComplete_passes hr ht hpw hsig hx), hrun, hlast, hdone, hsg.trans hx.symm, hcount⟩
  · obtain ⟨hrun, ⟨q, hq⟩, hrep⟩ := sliceFail_facts u (if sig = expectedSig u then 3 else 1)
      (fun b => { b with done := true, sig := sig, count := fullCount u }) s
    exact ⟨_, run_gives hup (sliceComplete_fails hr ht hpw hsig hx), hrun, by rw [hq], by rw [hq], by rw [hq], by rw [hq], hrep⟩
  · refine run_gives hup (if_neg ?_)
    rintro ⟨-, h, -⟩
    exact hn h
  · obtain ⟨hrun, hlast, hcause, hdone⟩ := sliceTimeout_fails hr hl
    exact ⟨_, run_up _ _ hup, hrun, hlast, hcause, hdone⟩
  · refine run_gives hup (if_neg ?_)
    rintro ⟨-, h⟩
    exact absurd (of_decide_eq_true h) (by omega)
  · have hlt : u < 16 := by rw [hu]; exact Nat.mod_lt _ (by decide)
    have hcore : isCoreUnit u = true := by simp [isCoreUnit]; omega
    have htake (t : State) : cmdTake u t = corePend (u - 8) t := if_pos hcore
    have hrun := bistCmd_taken (v := v) ha (hu ▸ cmdOk_core h1 h2 h3 hlt h4)
      (fun t => by rw [← hu, htake]; exact (corePend_facts (u - 8) t).2.2.2.1)
    rw [← hu, htake] at hrun
    obtain ⟨hpend, hoff, href, -, -, -⟩ := corePend_facts (u - 8) (opLogged p addrBistCmd [] [BitVec.ofNat 32 u] s)
    rw [show 8 + (u - 8) = u by omega] at hpend
    exact ⟨_, run_gives hup hrun, hpend, hoff, href⟩
  · have htake (t : State) : cmdTake u t = t.setUnit u { t.unit u with pending := true, mode := 1 } :=
      if_neg (by rw [isLaneUnit_core h4]; decide)
    have hrun := bistCmd_taken (v := v) ha (hu ▸ cmdOk_lane h1 h2 h3 h4 h5 h6) (fun t => by rw [← hu, htake]; rfl)
    rw [← hu, htake] at hrun
    refine ⟨_, run_gives hup hrun, ?_, rfl⟩
    rw [State.unit_setUnit_ne (BUnit.ne_of_pending rfl)]
  · exact run_gives hup (bistCmd_refused (hu ▸ cmdOk_barred h))

end Sys2Proof.Machine
end

section
/-!
SUPPORT. The reset sources (R420, R425, R427, R428): what a reset keeps, what a boot starts with, and the statement about them.
-/
namespace Sys2Proof.Machine

open Sys2Proof

/-! ## What a reset keeps -/

/-- A reset keeps of a core's record only that the core failed. -/
def failedEntry (e : Nat × Core) : Option (Nat × Core) := if e.2.failed then some (e.1, { failed := true }) else none

theorem look_below {α : Type} [DecidableEq α] {d : α} {m : Tab α} {n k : Nat} (h : wfFrom d (some n) m = true) (hk : k ≤ n) :
    look d m k = d := by
  induction m generalizing n with
  | nil => rfl
  | cons e m ih =>
    obtain ⟨k', v⟩ := e
    simp only [wfFrom, Bool.and_eq_true, decide_eq_true_eq] at h
    obtain ⟨⟨hlt, -⟩, hrest⟩ := h
    rw [look, if_neg (by omega)]
    exact ih hrest (by omega)

theorem look_failedEntry {m : Tab Core} {lo : Option Nat} (h : wfFrom {} lo m = true) (k : Nat) :
    (look {} (m.filterMap failedEntry) k).failed = (look {} m k).failed := by
  induction m generalizing lo with
  | nil => rfl
  | cons e m ih =>
    obtain ⟨k', v⟩ := e
    simp only [wfFrom, Bool.and_eq_true] at h
    have hrest := ih h.2
    by_cases hv : v.failed = true
    · have hentry : failedEntry (k', v) = some (k', { failed := true }) := if_pos hv
      rw [List.filterMap_cons_some hentry, look, look]
      split
      · exact hv.symm
      · exact hrest
    · have hentry : failedEntry (k', v) = none := if_neg hv
      rw [List.filterMap_cons_none hentry, hrest, look]
      split
      next hk =>
        subst hk
        rw [look_below h.2 (le_refl k), Bool.eq_false_iff.mpr hv]
      next => rfl

theorem resetAll_core_failed {s : State} (h : wf ({} : Core) s.cox.cores = true) (c : Nat) :
    ((resetAll s).core c).failed = (s.core c).failed := look_failedEntry h c

theorem resetAll_held (s : State) : HeldInReset (resetAll s) :=
  ⟨rfl, fun _ => rfl, reset_groups_off, rfl, rfl, rfl, rfl⟩

/-- The state held in reset does not depend on the record of power and cores. -/
theorem heldInReset_of_parts {s t : State} (h : HeldInReset s) (hup : t.sys.up = s.sys.up) (hfld : t.fld = s.fld) (hsec : t.sec = s.sec)
    (hnvm : t.nvm = s.nvm) (hstate : t.seat.state = s.seat.state) : HeldInReset t := by
  obtain ⟨h1, h2, h3, h4, h5, h6, h7⟩ := h
  refine ⟨hup.trans h1, fun k => ?_, fun g => ?_, hsec ▸ h4, hsec ▸ h5, hnvm ▸ h6, hstate.trans h7⟩
  · rw [← h2 k]
    unfold energised State.so State.group
    rw [hfld]
  · rw [← h3 g]
    unfold State.group
    rw [hfld]

theorem resetAll_retired (s : State) (l : Lane) : ((resetAll s).mgr l).phase = .retired ↔ (s.mgr l).phase = .retired := by
  have hkept : (resetAll s).mgr l = if (s.mgr l).phase = .retired then { phase := .retired } else {} := by cases l <;> rfl
  rw [hkept]
  by_cases h : (s.mgr l).phase = .retired
  · rw [if_pos h]
    exact iff_of_true rfl h
  · rw [if_neg h]
    exact iff_of_false (nofun) h

theorem resetAll_mem {s : State} (hstep : s.nvm.wr.step ≠ 5) (herase : s.nvm.logErasing = false) :
    (resetAll s).nvm.mem = s.nvm.mem := by
  show (tornFlash _ s.nvm).mem = s.nvm.mem
  unfold tornFlash
  dsimp only
  rw [if_neg hstep, if_neg (by rw [herase]; exact Bool.false_ne_true)]

/-! ## VSYS lost and SYS_RST_N low -/

/-- The module after a brown-out, with the voltage `v` and the reset cause `c` (R420). -/
def brownedOut (v : Nat) (c : BitVec 4) (s : State) : State :=
  { s with sys := { s.sys with vsysGood := false, vsys := v, vsysOut := true, off := false, cause := c } }

theorem brownOut_good {s : State} (h : s.sys.vsysGood = true) : ∃ v, v < vsysEdge 3 ∧
    brownOut s = brownedOut v (causeOf 4 s) (fresh (recordClear (resetAll s))).2 := by
  refine ⟨(fresh (recordClear (resetAll s))).1.toNat % vsysEdge 3, Nat.mod_lt _ ?_, if_pos h⟩
  show 0 < 1350 + _
  omega

/-- The module held in reset by SYS_RST_N (R427). -/
def pinReset (s : State) : State :=
  let t := resetAll { s with sys := { s.sys with rstLow := true } }
  { t with sys := { t.sys with off := false, cause := causeOf 2 s } }

theorem rstLow_resets {s : State} (h : s.sys.up = true ∨ s.sys.off = true) : rstLow s = pinReset s :=
  if_pos (Bool.or_eq_true _ _ ▸ h)

theorem rstLow_quiet {s : State} (hup : s.sys.up = false) (hoff : s.sys.off = false) :
    rstLow s = { s with sys := { s.sys with rstLow := true } } := by
  unfold rstLow
  dsimp only
  rw [hup, hoff]
  rfl

/-! ## A boot -/

theorem bootUp_boots {s t : State} (hotp : t.otp = s.otp) (hboots : t.sys.boots = s.sys.boots) (hfull : t.sys.fullSeen = s.sys.fullSeen)
    (hseat : t.seat = s.seat) : Booted s (bootUp t) := by
  have hmgr : ∀ l, t.mgr l = s.mgr l := fun l => by
    unfold State.mgr
    rw [hseat]
  have htested : (allLanes.filter (fun l => decide ((t.mgr l).phase ≠ .retired))) =
      allLanes.filter (fun l => decide ((s.mgr l).phase ≠ .retired)) := by simp only [hmgr]
  unfold bootUp
  dsimp only
  rw [groupsAtReset_only]
  refine ⟨rfl, congrArg (fun o => { o with lc := o.lcNext }) hotp, congrArg (· + 1) hboots,
    Nat.le_of_lt_succ (Nat.mod_lt _ (by decide)), ?_, hfull, ?_⟩
  · exact congrArg (fun b : Bool => if b then 2 else 0) hfull
  · exact congrArg (fun ls => [5, 4] ++ List.map laneNo ls) htested

theorem powerUp_railsGood {s : State} (h : s.sys.rails &&& 0x1F8#9 = 0) : powerUp s = bootUp s := if_pos h

theorem powerUp_railsBad {s : State} (h : s.sys.rails &&& 0x1F8#9 ≠ 0) : powerUp s = s := if_neg h

/-! ## VSYS good -/

theorem groupsAtReset_sys (s : State) : (groupsAtReset s).sys = s.sys := by rw [groupsAtReset_only]

theorem bootUp_supply (s : State) : (bootUp s).sys.vsys = s.sys.vsys ∧ (bootUp s).sys.vsysGood = s.sys.vsysGood ∧
    (bootUp s).sys.rstLow = s.sys.rstLow := by
  unfold bootUp
  dsimp only
  rw [groupsAtReset_sys]
  exact ⟨rfl, rfl, rfl⟩

theorem powerUp_supply (s : State) : (powerUp s).sys.vsys = s.sys.vsys ∧ (powerUp s).sys.vsysGood = s.sys.vsysGood ∧
    (powerUp s).sys.rstLow = s.sys.rstLow := by
  unfold powerUp
  split
  · exact bootUp_supply s
  · exact ⟨rfl, rfl, rfl⟩

/-- VSYS above its threshold has been seen (R420). -/
def supplySeen (s : State) : State :=
  vsysSeen (vsysEdge 0 + 1 + (fresh s).1.toNat % 4096) { (fresh s).2 with sys := { (fresh s).2.sys with vsysGood := true } }

theorem vsysGood_seen {s : State} (h : s.sys.vsysGood = false) :
    vsysGood s = if s.sys.rstLow then supplySeen s else powerUp (supplySeen s) :=
  if_neg (by rw [h]; exact Bool.false_ne_true)

theorem vsysGood_boots {s : State} (h : s.sys.vsysGood = false) (hrst : s.sys.rstLow = false) (hrails : s.sys.rails &&& 0x1F8#9 = 0) :
    Booted s (vsysGood s) := by
  rw [vsysGood_seen h, hrst, if_neg Bool.false_ne_true, powerUp_railsGood (s := supplySeen s) hrails]
  exact bootUp_boots rfl rfl rfl rfl

theorem vsysGood_waits {s : State} (h : s.sys.vsysGood = false) (hwait : s.sys.rstLow = true ∨ s.sys.rails &&& 0x1F8#9 ≠ 0) :
    vsysGood s = supplySeen s := by
  rw [vsysGood_seen h]
  by_cases hrst : s.sys.rstLow = true
  · exact if_pos hrst
  · rw [if_neg hrst, powerUp_railsBad (s := supplySeen s) (hwait.resolve_left hrst)]

theorem vsysGood_supply {s : State} (h : s.sys.vsysGood = false) :
    (vsysGood s).sys.vsysGood = true ∧ vsysEdge 0 < (vsysGood s).sys.vsys := by
  have hseen : (supplySeen s).sys.vsysGood = true ∧ vsysEdge 0 < (supplySeen s).sys.vsys := by
    refine ⟨rfl, ?_⟩
    show vsysEdge 0 < vsysEdge 0 + 1 + _
    omega
  rw [vsysGood_seen h]
  obtain ⟨hvsys, hgood, -⟩ := powerUp_supply (supplySeen s)
  split
  · exact hseen
  · rw [hvsys, hgood]
    exact hseen

/-! ## SYS_RST_N released -/

theorem rstHigh_boots {s : State} (hrst : s.sys.rstLow = true) (hgood : s.sys.vsysGood = true) (hup : s.sys.up = false)
    (hrails : s.sys.rails &&& 0x1F8#9 = 0) : (rstHigh s).sys.rstLow = false ∧ Booted s (rstHigh s) := by
  have hboot : rstHigh s = bootUp { s with sys := { s.sys with rstLow := false } } := by
    unfold rstHigh
    dsimp only
    rw [if_pos (by rw [hrst, hgood, hup]; rfl)]
    exact powerUp_railsGood (s := { s with sys := { s.sys with rstLow := false } }) hrails
  rw [hboot]
  exact ⟨(bootUp_supply _).2.2, bootUp_boots rfl rfl rfl rfl⟩

theorem rstHigh_quiet {s : State}
    (h : s.sys.rstLow = false ∨ s.sys.vsysGood = false ∨ s.sys.up = true ∨ s.sys.rails &&& 0x1F8#9 ≠ 0) :
    rstHigh s = { s with sys := { s.sys with rstLow := false } } := by
  unfold rstHigh
  dsimp only
  split
  next hboot =>
    simp only [Bool.and_eq_true, Bool.not_eq_true'] at hboot
    obtain ⟨⟨hrst, hgood⟩, hup⟩ := hboot
    refine powerUp_railsBad (s := { s with sys := { s.sys with rstLow := false } }) ?_
    simpa [hrst, hgood, hup] using h
  next => rfl

/-! ## The statement -/

theorem pinReset_held (s : State) : HeldInReset (pinReset s) := heldInReset_of_parts (resetAll_held _) rfl rfl rfl rfl rfl

theorem brownedOut_held (v : Nat) (c : BitVec 4) (s : State) : HeldInReset (brownedOut v c (fresh (recordClear (resetAll s))).2) :=
  heldInReset_of_parts (resetAll_held s) rfl rfl rfl rfl rfl

theorem recordClear_lanes (s : State) (l : Lane) :
    ((recordClear s).mgr l).phase ≠ .retired ∧ laneUnpowered (recordClear s) l = false := by
  refine ⟨by cases l <;> nofun, ?_⟩
  show (0 : BitVec 3).getLsbD _ = false
  exact BitVec.getLsbD_zero

/-- Settles O57: each reset source by the branch that its record of VSYS, SYS_RST_N and the rails takes. -/
theorem resetSources_holds : Obligations.ResetSources := by
  intro s
  refine ⟨fun h => ⟨vsysGood s, rfl, (vsysGood_supply h).1, (vsysGood_supply h).2, vsysGood_boots h, fun hwait => ?_⟩,
    fun h => congrArg Host.Outcome.next (if_pos h), fun h => ?_,
    fun h => congrArg Host.Outcome.next (if_neg (by rw [h]; exact Bool.false_ne_true)), fun h => ?_,
    fun hup hoff => congrArg Host.Outcome.next (rstLow_quiet hup hoff),
    fun hrst hgood hup hrails => ⟨rstHigh s, rfl, rstHigh_boots hrst hgood hup hrails⟩,
    fun h => congrArg Host.Outcome.next (rstHigh_quiet h), fun hup => run_up _ _ hup⟩
  · rw [vsysGood_waits h hwait]
    exact ⟨rfl, rfl⟩
  · obtain ⟨v, hv, hout⟩ := brownOut_good h
    refine ⟨brownOut s, rfl, ?_⟩
    rw [hout]
    exact ⟨brownedOut_held v _ s, rfl, hv, rfl, rfl, rfl, rfl, recordClear_lanes _, fun _ => rfl, rfl, rfl, rfl⟩
  · refine ⟨pinReset s, congrArg Host.Outcome.next (rstLow_resets h), pinReset_held s, rfl, rfl, rfl, rfl, rfl, rfl,
      fun l => ⟨resetAll_retired _ l, rfl⟩, rfl, rfl, fun hwf c => resetAll_core_failed (s := { s with sys := { s.sys with rstLow := true } }) hwf c,
      rfl, fun hstep herase => resetAll_mem (s := { s with sys := { s.sys with rstLow := true } }) hstep herase⟩

end Sys2Proof.Machine
end

section
/-!
SUPPORT. Supplies, rails, clocks and temperatures (R413 to R424, R429): what each supervisor records and declares, and the
statement about them.
-/
namespace Sys2Proof.Machine

open Sys2Proof

/-! ## One bit of a register -/

theorem getLsbD_oneBit {w n : Nat} (hn : n < w) : (BitVec.ofNat w (1 <<< n)).getLsbD n = true := by
  simp [BitVec.getLsbD_ofNat, hn, Nat.testBit_shiftLeft]

theorem getLsbD_setBit {w n : Nat} (hn : n < w) (v : BitVec w) : (v ||| BitVec.ofNat w (1 <<< n)).getLsbD n = true := by
  rw [BitVec.getLsbD_or, getLsbD_oneBit hn, Bool.or_true]

theorem getLsbD_clearBit {w n : Nat} (hn : n < w) (v : BitVec w) : (v &&& ~~~BitVec.ofNat w (1 <<< n)).getLsbD n = false := by
  rw [BitVec.getLsbD_and, BitVec.getLsbD_not, getLsbD_oneBit hn, Bool.not_true, Bool.and_false, Bool.and_false]

/-! ## A lane's report stands in no register of the system block -/

/-- The state with the system block `y`. -/
def withSys (y : Sys) (s : State) : State := { s with sys := y }

section WithSys

variable {s : State} {y : Sys}

theorem fresh_withSys : fresh (withSys y s) = ((fresh s).1, withSys y (fresh s).2) := rfl

theorem eth_withSys {p : Nat} : (withSys y s).eth p = s.eth p := rfl

theorem ethRx_withSys {p : Nat} : ethRx p (withSys y s) = withSys y (ethRx p s) := rfl

theorem ethTx_withSys {p q len : Nat} : ethTx p q len (withSys y s) = withSys y (ethTx p q len s) := by
  unfold ethTx
  dsimp only
  split <;> rfl

theorem coreSends_withSys {q len : Nat} : coreSends q len (withSys y s) = withSys y (coreSends q len s) := by
  have hport : ∀ p t, (if ((withSys y t).eth p).link then ethTx p q len (withSys y t) else withSys y t) =
      withSys y (if (t.eth p).link then ethTx p q len t else t) := fun p t => by
    rw [eth_withSys, ethTx_withSys, apply_ite (withSys y)]
  unfold coreSends
  simp only [List.foldl_cons, List.foldl_nil, ethRx_withSys, hport]

theorem coreUnicast_withSys {q len : Nat} : coreUnicast q len (withSys y s) = withSys y (coreUnicast q len s) := by
  unfold coreUnicast
  simp only [fresh_withSys, eth_withSys, ethRx_withSys, ethTx_withSys, coreSends_withSys, apply_ite (withSys y)]
  generalize (fresh s).1.toNat % 3 = k
  match k with
  | 0 => rfl
  | 1 => rfl
  | _ + 2 => rfl

theorem foldl_coreUnicast_withSys {α : Type} (q len : Nat) (es : List α) :
    es.foldl (fun t _ => coreUnicast q len t) (withSys y s) = withSys y (es.foldl (fun t _ => coreUnicast q len t) s) := by
  induction es generalizing s with
  | nil => rfl
  | cons e es ih => rw [List.foldl_cons, List.foldl_cons, coreUnicast_withSys, ih]

theorem pushEvent_withSys {src cls code time : Nat} {data : List Word} :
    pushEvent src cls code data time (withSys y s) = withSys y (pushEvent src cls code data time s) := by
  unfold pushEvent
  dsimp only
  rw [← foldl_coreUnicast_withSys]
  rfl

theorem holdCopies_withSys {on : Word → Bool} {n : Nat} {item : Instr} {copies : List Instr} :
    holdCopies on n item copies (withSys y s) = withSys y (holdCopies on n item copies s) := by
  have hon : hookOn (withSys y s) on n = hookOn s on n := rfl
  unfold holdCopies
  dsimp only
  rw [hon]
  cases hookOn s on n <;> rfl

theorem emitFrom_withSys {src : Option Nat} {e : Report} : emitFrom src e (withSys y s) = withSys y (emitFrom src e s) := by
  unfold emitFrom
  cases src with
  | none => rfl
  | some src =>
    have hsend : sendFrame src 4 (alarmWords e) (withSys y s) = withSys y (sendFrame src 4 (alarmWords e) s) := rfl
    dsimp only
    rw [hsend]
    generalize sendFrame src 4 (alarmWords e) s = t
    have hroute : routeHook (withSys y t) src 4 = routeHook t src 4 := rfl
    rw [hroute]
    cases routeHook t src 4 with
    | some held => exact holdCopies_withSys
    | none =>
      have hcore : alarmToCore (withSys y s) src = alarmToCore s src := rfl
      dsimp only
      rw [hcore, apply_ite (withSys y)]
      unfold alarmEvent
      rw [← pushEvent_withSys]
      rfl

theorem flagFaulty_withSys {l : Lane} {cause : Nat} : flagFaulty l cause (withSys y s) = withSys y (flagFaulty l cause s) := by
  unfold flagFaulty
  dsimp only
  split <;> rename_i h
  · rw [if_pos (show (s.laneD l).faulty.isSome = true from h)]
  · rw [if_neg (show ¬(s.laneD l).faulty.isSome = true from h)]
    exact emitFrom_withSys (s := laneSend l (.withdraw cause) (s.setLane l { s.laneD l with faulty := some cause }))

end WithSys

/-! ## VSYS (R420) -/

section Supplies

variable {s : State} {v n : Nat}

theorem vsysFault_quiet (h : vsysBad v = false ∨ n < 51) : vsysFault v n s = vsysSeen v s := by
  refine if_neg fun hc => ?_
  obtain ⟨hbad, hn⟩ := Bool.and_eq_true_iff.mp hc
  have hn := of_decide_eq_true hn
  rcases h with h | h
  · exact Bool.false_ne_true (h ▸ hbad)
  · omega

/-- VSYS is declared out of range (R420). -/
def vsysDeclared (v : Nat) (s : State) : State :=
  { s with sys := { s.sys with vsys := v, vsysOut := true, vsysDecl := true, vsysCause := true } }

theorem vsysFault_declares (hbad : vsysBad v = true) (hn : 51 ≤ n) :
    vsysFault v n s = if s.sys.vsysDecl then vsysDeclared v s else report 9 codeVsysFault 0 (vsysDeclared v s) := by
  unfold vsysFault vsysSeen
  dsimp only
  simp only [hbad, decide_eq_true hn, Bool.and_true, if_true]
  rfl

theorem vsysFault_facts (hbad : vsysBad v = true) (hn : 51 ≤ n) :
    (vsysFault v n s).sys = (vsysDeclared v s).sys ∧ (vsysFault v n s).fld = s.fld ∧
    (vsysFault v n s).ump.reports = s.ump.reports ++ (if s.sys.vsysDecl then [] else
      [{ line := 9, code := codeVsysFault, detail := 0, time := s.timeNow }]) := by
  rw [vsysFault_declares hbad hn]
  split
  · exact ⟨rfl, rfl, (List.append_nil _).symm⟩
  · rw [report_direct rfl]
    exact ⟨rfl, rfl, rfl⟩

/-- A voltage that ends the cause lies in the range, whatever the place of the thresholds. -/
theorem vsysBad_recovered (hlow : 1750 ≤ v) (hhigh : v ≤ 3300) : vsysBad v = false := by
  have hbelow : ¬v < vsysEdge 1 := by
    show ¬v < 1620 + Config.vsysTol 1 % 61
    omega
  have habove : ¬vsysEdge 2 < v := by
    show ¬3320 + Config.vsysTol 2 % 61 < v
    omega
  rw [vsysBad, decide_eq_false hbelow, decide_eq_false habove]
  rfl

theorem vsysBack_ends (hlow : 1750 ≤ v) (hhigh : v ≤ 3300) (hn : 100001 ≤ n) :
    vsysBack v n s = { s with sys := { s.sys with vsys := v, vsysOut := false, vsysDecl := false, vsysCause := false } } := by
  unfold vsysBack vsysSeen
  dsimp only
  rw [if_pos ⟨hlow, hhigh, hn⟩, vsysBad_recovered hlow hhigh, Bool.and_false]

theorem vsysBack_quiet (h : v < 1750 ∨ 3300 < v ∨ n < 100001) : vsysBack v n s = vsysSeen v s := by
  refine if_neg fun hc => ?_
  omega

end Supplies

/-! ## The rails (R422 to R424) -/

section Rails

variable {s : State} {n mv k : Nat}

theorem railSeen_out (hout : railIn n mv = false) (hk : 10 ≤ k) : railSeen n mv k s = railLost n s := by
  unfold railSeen
  rw [hout]
  exact if_pos hk

theorem railSeen_few (hout : railIn n mv = false) (hk : k < 10) : railSeen n mv k s = s := by
  unfold railSeen
  rw [hout]
  exact if_neg (Nat.not_le.mpr hk)

theorem railSeen_in (hin : railIn n mv = true) (hon : n < 3 → s.sys.laneOff.getLsbD n = false) :
    railSeen n mv k s = { s with sys := { s.sys with rails := s.sys.rails &&& ~~~BitVec.ofNat 9 (1 <<< n) } } := by
  unfold railSeen
  dsimp only
  rw [hin, if_pos rfl]
  refine if_neg fun h => ?_
  exact Bool.false_ne_true ((hon h.1).symm.trans h.2)

/-- Rail `n` is shown out of its window. -/
def railOut (n : Nat) (s : State) : State := { s with sys := { s.sys with rails := s.sys.rails ||| BitVec.ofNat 9 (1 <<< n) } }

theorem railLost_lane (hn : n < 3) : railLost n s = laneOffNow n (railOut n s) := if_pos hn

theorem laneNo_laneOf (hn : n < 3) : laneNo (laneOf (n + 1)) - 1 = n := by
  match n, hn with
  | 0, _ => rfl
  | 1, _ => rfl
  | 2, _ => rfl

theorem laneOffNow_unpowered (hn : n < 3) : laneUnpowered (laneOffNow n s) (laneOf (n + 1)) = true := by
  unfold laneUnpowered
  rw [laneNo_laneOf hn]
  exact getLsbD_setBit hn _

theorem laneOffNow_reset : (laneOffNow n s).laneD (laneOf (n + 1)) = {} := State.laneD_setLane_same ..

theorem laneOffNow_other {j : Lane} (hj : j ≠ laneOf (n + 1)) : (laneOffNow n s).laneD j = s.laneD j :=
  State.laneD_setLane_other _ _ _ _ hj

theorem laneOffNow_keeps : (laneOffNow n s).sys.rails = s.sys.rails ∧ (laneOffNow n s).ump = s.ump ∧ (laneOffNow n s).fld = s.fld := by
  unfold laneOffNow
  dsimp only
  cases laneOf (n + 1) <;> exact ⟨rfl, rfl, rfl⟩

/-- A rail of the module that is out of its window already is not declared again. -/
theorem railLost_again (hn : 3 ≤ n) (hout : s.sys.rails.getLsbD n = true) : railLost n s = railOut n s := by
  unfold railLost
  rw [if_neg (by omega), hout, Bool.not_true, Bool.and_false]
  rfl

theorem railLost_first (hup : s.sys.up = true) (hn : 3 ≤ n) (hn' : n < 8) (hin : s.sys.rails.getLsbD n = false) :
    railLost n s = let t := report 9 codeRegFail 0 (railOut n s)
      if n = 7 ∧ t.nvm.armed = false then nvmFail true t else t := by
  unfold railLost
  rw [if_neg (by omega), hup, hin, decide_eq_true hn']
  rfl

/-- The report of a rail's failure, REG_FAIL. -/
def regFail (s : State) : Report := { line := 9, code := codeRegFail, detail := 0, time := s.timeNow }

/-- The report of the flash's failure at boot, NVM_FAIL. -/
def nvmFailed (s : State) : Report := { line := 11, code := codeNvmFail, detail := 0, time := s.timeNow }

/-- REG_FAIL waits at the Umpire. -/
def regFailed (s : State) : State := { s with ump := { s.ump with reports := s.ump.reports ++ [regFail s] } }

theorem report_regFail : report 9 codeRegFail 0 s = regFailed s := report_direct rfl ..

theorem railLost_reports (hup : s.sys.up = true) (hn : 3 ≤ n) (hn' : n < 8) (h : n ≠ 7 ∨ s.nvm.armed = true) :
    (railLost n s).ump.reports = s.ump.reports ++ (if s.sys.rails.getLsbD n then [] else [regFail s]) := by
  by_cases hout : s.sys.rails.getLsbD n = true
  · rw [railLost_again hn hout, if_pos hout, List.append_nil]
    rfl
  · rw [railLost_first hup hn hn' (Bool.eq_false_iff.mpr hout), if_neg hout]
    dsimp only
    rw [if_neg ?_, report_regFail]
    · rfl
    · rintro ⟨hseven, harm⟩
      rw [report_regFail] at harm
      exact h.elim (· hseven) fun h => Bool.false_ne_true (harm.symm.trans h)

/-- V3V3 out of its window before the arm frame leaves the flash unusable (R424). -/
def flashLost (s : State) : State :=
  { s with nvm := { s.nvm with fail := true, usable := false, passing := none, order := [] } }

theorem nvmFail_unarmed (h : s.nvm.armed = false) : nvmFail true s = report 11 codeNvmFail 0 (flashLost s) :=
  (if_pos rfl).trans (if_neg (by rw [h]; exact Bool.false_ne_true))

theorem railLost_v3v3 (hup : s.sys.up = true) (harm : s.nvm.armed = false) (hin : s.sys.rails.getLsbD 7 = false) :
    (railLost 7 s).nvm.usable = false ∧ (railLost 7 s).nvm.passing = none ∧
    (railLost 7 s).ump.reports = s.ump.reports ++ [regFail s, nvmFailed s] := by
  have hlost : railLost 7 s = report 11 codeNvmFail 0 (flashLost (report 9 codeRegFail 0 (railOut 7 s))) := by
    rw [railLost_first hup (by decide) (by decide) hin]
    dsimp only
    rw [report_regFail, if_pos ⟨rfl, harm⟩]
    exact nvmFail_unarmed harm
  rw [hlost, report_regFail, report_direct rfl]
  exact ⟨rfl, rfl, List.append_assoc ..⟩

theorem railLost_keeps (hup : s.sys.up = true) (hn : 3 ≤ n) (hn' : n < 8) :
    (railLost n s).sys.rails.getLsbD n = true ∧ (railLost n s).lane = s.lane ∧ (railLost n s).fld = s.fld := by
  have hbit : (railOut n s).sys.rails.getLsbD n = true := getLsbD_setBit (by omega) _
  by_cases hout : s.sys.rails.getLsbD n = true
  · rw [railLost_again hn hout]
    exact ⟨hbit, rfl, rfl⟩
  · rw [railLost_first hup hn hn' (Bool.eq_false_iff.mpr hout), report_regFail]
    dsimp only
    split
    next h =>
      rw [nvmFail_unarmed (s := regFailed (railOut n s)) h.2, report_direct rfl]
      exact ⟨hbit, rfl, rfl⟩
    next => exact ⟨hbit, rfl, rfl⟩

end Rails

/-! ## The clock supervisors (R413, R417, R419) -/

section Clocks

variable {s : State} {c n : Nat}

theorem clkNote_sys : clkNote c n s = withSys (clkNote c n s).sys s := rfl

theorem clkWindow_good (hc : c < 20) (h : clkGood c n = true) : clkWindow c n s = clkNote c n s := by
  unfold clkWindow
  dsimp only
  rw [if_neg (by omega), if_pos h]

theorem clkNote_good (hc : c < 20) (h : clkGood c n = true) : (clkNote c n s).sys.clkOut.getLsbD c = false := by
  unfold clkNote
  rw [h]
  exact getLsbD_clearBit hc _

theorem clkNote_bad (hc : c < 20) (h : clkGood c n = false) : (clkNote c n s).sys.clkOut.getLsbD c = true := by
  unfold clkNote
  rw [h]
  exact getLsbD_setBit hc _

theorem clkWindow_bad (hc : c < 13 ∨ c = 19) (h : clkGood c n = false) :
    clkWindow c n s = if s.sys.clkOut.getLsbD c then clkNote c n s else clkFail c (clkNote c n s) := by
  unfold clkWindow
  dsimp only
  rw [if_neg (by omega), if_neg (by rw [h]; exact Bool.false_ne_true), if_neg (by omega)]

theorem clkWindow_lane {l : Lane} (hc : 13 ≤ c) (hc' : c ≤ 18) (hl : l = laneOf ((c - 13) / 2 + 1)) (h : clkGood c n = false)
    (hsound : (s.laneD l).faulty = none) (hbist : s.bist.running ≠ some (laneNo l)) (hpow : laneUnpowered s l = false) :
    clkWindow c n s = { withdrawn l 0x02 s with sys := (clkWindow c n s).sys } := by
  have hpow' : laneUnpowered (clkNote c n s) l = false := hpow
  have hwithdraw : clkWindow c n s = withSys (clkNote c n s).sys (withdrawn l 0x02 s) := by
    unfold clkWindow laneClock
    dsimp only
    rw [if_neg (by omega), if_neg (by rw [h]; exact Bool.false_ne_true), if_pos ⟨hc, hc'⟩, ← hl, if_neg ?_, clkNote_sys,
      flagFaulty_withSys, flagFaulty_sound hsound]
    · rfl
    · rw [hpow', Bool.false_eq_true, or_false]
      exact hbist
  rw [hwithdraw]
  rfl

/-- What a channel that goes out of range does before it is reported: channels 0 and 19 force all groups off, those of the
field die assert its own lines (R316, R417). -/
def clkLines (c : Nat) (s : State) : State :=
  if c = 0 ∨ c = 19 then forcedLines 0xF s.fld.local' s else if c ≤ 8 then s else localAssert 0xF s

/-- The line on which a channel is reported. -/
def clkLine (c : Nat) : Nat := if 9 ≤ c ∧ c ≤ 12 then 7 else 8

theorem clkFail_reports (hc : c < 13 ∨ c = 19) (s : State) : clkFail c s = report (clkLine c) codeClkFail 0 (clkLines c s) := by
  unfold clkFail clkLines clkLine
  split
  next h => rw [if_neg (by omega)]
  next h =>
    split
    next h8 => rw [if_neg (by omega)]
    next h8 => rw [if_pos (by omega)]

theorem clkLines_only : clkLines c s = { s with fld := (clkLines c s).fld } := by
  unfold clkLines
  split
  · rw [forcedLines_only]
  · split
    · rfl
    · rw [localAssert_only]

theorem clkLines_forced (h : c = 0 ∨ c = 19) : (clkLines c s).fld.forced = 0xF := by
  rw [clkLines, if_pos h]
  exact forcedLines_forced ..

theorem clkLines_local (h : 9 ≤ c) (h' : c ≤ 12) : (clkLines c s).fld.local' = s.fld.local' ||| 0xF := by
  rw [clkLines, if_neg (by omega), if_neg (by omega)]
  exact localAssert_local ..

theorem clkFail_reported (hc : c < 13 ∨ c = 19) (h : c < 9 ∨ c = 19 ∨ Unhooked s 0x002 4) :
    ∃ r ∈ (clkFail c s).ump.reports, r.code = codeClkFail ∧ r.line = clkLine c := by
  rw [clkFail_reports hc]
  by_cases hline : 9 ≤ c ∧ c ≤ 12
  · have hhook : Unhooked (clkLines c s) 0x002 4 := by
      refine unhooked_of_routes (s := s) ?_ ?_ (h.elim (by omega) fun h => h.elim (by omega) id) <;> rw [clkLines_only]
    have hseven : clkLine c = 7 := if_pos hline
    rw [hseven]
    refine ⟨{ line := 7, code := codeClkFail, detail := 0, time := (clkLines c s).timeNow }, ?_, rfl, rfl⟩
    show _ ∈ (emitFrom (some 0x002) _ (clkLines c s)).ump.reports
    rw [emitFrom_arrives hhook]
    exact List.mem_append_right _ (List.mem_singleton_self _)
  · have height : clkLine c = 8 := if_neg hline
    rw [height, report_direct rfl]
    exact ⟨_, List.mem_append_right _ (List.mem_singleton_self _), rfl, rfl⟩

theorem clkFail_keeps (hc : c < 13 ∨ c = 19) : (clkFail c s).sys = s.sys ∧ (clkFail c s).lane = s.lane ∧
    (clkFail c s).fld = (clkLines c s).fld := by
  rw [clkFail_reports hc, report_only]
  refine ⟨?_, ?_, rfl⟩ <;> rw [clkLines_only]

end Clocks

/-! ## Loss of lock, the ramp and the temperatures (R413, R415, R429) -/

section Readings

variable {s : State}

theorem pllLoss_facts {b : Bool} (h : (if b then s.sys.pllB else s.sys.pllA) = true) :
    (if b then (pllLoss b s).sys.pllB else (pllLoss b s).sys.pllA) = false ∧
    (if b then (pllLoss b s).sys.pllA else (pllLoss b s).sys.pllB) = (if b then s.sys.pllA else s.sys.pllB) ∧
    (pllLoss b s).ump.reports = s.ump.reports ++ [{ line := 8, code := codeClkFail, detail := 0, time := s.timeNow }] := by
  have hloss : pllLoss b s = report 8 codeClkFail 0 { s with sys := { s.sys with pllA := s.sys.pllA && b, pllB := s.sys.pllB && !b } } :=
    if_pos h
  rw [hloss, report_direct rfl]
  cases b
  · exact ⟨Bool.and_false _, Bool.and_true _, rfl⟩
  · exact ⟨Bool.and_false _, Bool.and_true _, rfl⟩

theorem pllLoss_unlocked {b : Bool} (h : (if b then s.sys.pllB else s.sys.pllA) = false) : pllLoss b s = s :=
  if_neg (by rw [h]; exact Bool.false_ne_true)

/-- The ramp that has ended is shown as applied, and stays so. -/
theorem rampDone_due {t0 : Nat} (hfrom : s.sys.spreadFrom = some t0) (ht : t0 + 100000 ≤ s.now) :
    whenever (rampDue s) rampDone s = { s with sys := { s.sys with applied := true } } := by
  have hdue : rampDue s = !s.sys.applied := by
    unfold rampDue
    rw [hfrom]
    dsimp only
    rw [decide_eq_true ht, Bool.true_and]
  rw [hdue]
  cases happ : s.sys.applied with
  | false => rfl
  | true =>
    show s = _
    rw [← happ]

theorem rampDue_early (h : ∀ t0, s.sys.spreadFrom = some t0 → s.now < t0 + 100000) : rampDue s = false := by
  unfold rampDue
  split
  next t0 hfrom =>
    have := h t0 hfrom
    rw [decide_eq_false (by omega), Bool.false_and]
  next => rfl

/-- The highest of five readings. -/
def hottest (a b c d e : Int) : Int := [a, b, c, d, e].foldl max a

/-- The highest temperature since reset, with five readings more. -/
def tempTop (s : State) (a b c d e : Int) : Int := max (s.sys.tempMax.getD (hottest a b c d e)) (hottest a b c d e)

theorem hottest_bounds (a b c d e : Int) :
    a ≤ hottest a b c d e ∧ b ≤ hottest a b c d e ∧ c ≤ hottest a b c d e ∧ d ≤ hottest a b c d e ∧ e ≤ hottest a b c d e := by
  simp only [hottest, List.foldl_cons, List.foldl_nil]
  omega

theorem tempTop_old {a b c d e o : Int} (h : s.sys.tempMax = some o) : o ≤ tempTop s a b c d e := by
  rw [tempTop, h]
  exact le_max_left _ _

/-- The readings are taken (R429). -/
def tempsTaken (s : State) (a b c d e : Int) : State :=
  { s with sys := { s.sys with
      temps := [a, b, c, d, e], tempMax := some (tempTop s a b c d e), tempReads := s.sys.tempReads + 1 } }

theorem tempRead_takes (a b c d e : Int) : tempRead [a, b, c, d, e] s =
    if ([a, b, c, d, e].zip s.sys.temps).any (fun x => 125 ≤ x.1 ∧ x.2 < 125) then
      report 10 codeDieOvertemp 0 (tempsTaken s a b c d e)
    else tempsTaken s a b c d e := by
  simp only [Bool.decide_and]
  rfl

theorem tempRead_facts (a b c d e : Int) : (tempRead [a, b, c, d, e] s).sys = (tempsTaken s a b c d e).sys ∧
    (tempRead [a, b, c, d, e] s).ump.reports = s.ump.reports ++
      (if ([a, b, c, d, e].zip s.sys.temps).any (fun x => 125 ≤ x.1 ∧ x.2 < 125) then
        [{ line := 10, code := codeDieOvertemp, detail := 0, time := s.timeNow }] else []) := by
  rw [tempRead_takes]
  split
  · rw [report_direct rfl]
    exact ⟨rfl, rfl⟩
  · exact ⟨rfl, (List.append_nil _).symm⟩

end Readings

/-! ## The statement -/

section Statement

variable {s : State}

theorem clockOutOfRange {c n : Nat} (hc : c < 13 ∨ c = 19) (hbad : clkGood c n = false) (hin : s.sys.clkOut.getLsbD c = false) :
    (clkWindow c n s).sys.clkOut.getLsbD c = true ∧ (clkWindow c n s).lane = s.lane ∧
    (c < 9 ∨ c = 19 ∨ Unhooked s 0x002 4 →
      ∃ r ∈ (clkWindow c n s).ump.reports, r.code = codeClkFail ∧ r.line = (if 9 ≤ c ∧ c ≤ 12 then 7 else 8)) ∧
    (c = 0 ∨ c = 19 → (clkWindow c n s).fld.forced = 0xF) ∧
    (9 ≤ c → c ≤ 12 → (clkWindow c n s).fld.local' = s.fld.local' ||| 0xF) := by
  have hfail : clkWindow c n s = clkFail c (clkNote c n s) := by
    rw [clkWindow_bad hc hbad, hin]
    rfl
  obtain ⟨hsys, hlane, hfld⟩ := clkFail_keeps (s := clkNote c n s) hc
  rw [hfail, hsys, hlane, hfld]
  exact ⟨clkNote_bad (by omega) hbad, rfl, clkFail_reported (s := clkNote c n s) hc, clkLines_forced, clkLines_local⟩

theorem clockStaysOut {c n : Nat} (hc : c < 13 ∨ c = 19) (hbad : clkGood c n = false) (hout : s.sys.clkOut.getLsbD c = true) :
    clkWindow c n s = { s with sys := (clkWindow c n s).sys } := by
  have hnote : clkWindow c n s = clkNote c n s := by
    rw [clkWindow_bad hc hbad, if_pos hout]
  rw [hnote]
  rfl

theorem dieTempRead_reads (hup : s.sys.up = true) (hdue : (s.sys.tempReads + 1) * 100000 ≤ s.now) (ts : List Int) :
    exec (.dieTempRead ts) s = .next (tempRead ts s) := run_due tempDue _ hup (decide_eq_true hdue)

theorem spreadRampComplete_due {t0 : Nat} (hup : s.sys.up = true) (hfrom : s.sys.spreadFrom = some t0) (ht : t0 + 100000 ≤ s.now) :
    exec .spreadRampComplete s = .next { s with sys := { s.sys with applied := true } } := by
  have hrun : exec .spreadRampComplete s = .next (whenever (rampDue s) rampDone s) :=
    run_up s (fun s => whenever (rampDue s) rampDone s) hup
  rw [hrun, rampDone_due hfrom ht]

end Statement

/-- Settles O58: each supervisor by the branch of its own reading. -/
theorem suppliesAndClocks : Obligations.SuppliesAndClocks := by
  intro s hup
  refine ⟨fun v n hbad hn => ⟨vsysFault v n s, run_up _ _ hup, vsysFault_facts hbad hn⟩,
    fun v n h => run_gives hup (vsysFault_quiet h), fun v n hlow hhigh hn => run_gives hup (vsysBack_ends hlow hhigh hn),
    fun v n h => run_gives hup (vsysBack_quiet h), fun n mv k l hn hl hout hk => ?_, fun n mv k hn hn' hout hk => ?_,
    fun n mv k hn hin hon => ?_, fun n mv k hout hk => congrArg Host.Outcome.next (railSeen_few hout hk), fun c n hc hgood => ?_,
    fun c n hc hbad hin => ⟨clkWindow c n s, run_up _ _ hup, clockOutOfRange hc hbad hin⟩,
    fun c n hc hbad hout => ⟨clkWindow c n s, run_up _ _ hup, clockStaysOut hc hbad hout⟩,
    fun c n l hc hc' hl hbad hsound hbist hpow =>
      ⟨clkWindow c n s, run_up _ _ hup, clkWindow_lane hc hc' hl hbad hsound hbist hpow⟩,
    fun b h => ⟨pllLoss b s, run_up _ _ hup, pllLoss_facts h⟩, fun b h => run_gives hup (pllLoss_unlocked h),
    fun t0 hfrom ht => spreadRampComplete_due hup hfrom ht, fun h => run_notDue rampDue _ (rampDue_early h),
    fun ts h => run_notDue tempDue _ (decide_eq_false h.not_ge), fun a b c d e hdue => ?_⟩
  · subst hl
    obtain ⟨hrails, hump, hfld⟩ := laneOffNow_keeps (s := railOut n s) (n := n)
    refine ⟨railLost n s, congrArg Host.Outcome.next (railSeen_out hout hk), ?_⟩
    rw [railLost_lane hn, hrails, hump, hfld]
    exact ⟨laneOffNow_unpowered hn, laneOffNow_reset, getLsbD_setBit (by omega) _, rfl, rfl,
      fun j hj => laneOffNow_other (s := railOut n s) hj⟩
  · obtain ⟨hbit, hlane, hfld⟩ := railLost_keeps hup hn hn'
    refine ⟨railLost n s, congrArg Host.Outcome.next (railSeen_out hout hk), hbit, hlane, hfld, railLost_reports hup hn hn', ?_⟩
    rintro rfl harm hin
    exact railLost_v3v3 hup harm hin
  · refine ⟨railSeen n mv k s, rfl, ?_⟩
    rw [railSeen_in hin hon]
    exact ⟨getLsbD_clearBit hn _, rfl⟩
  · refine ⟨clkWindow c n s, run_up _ _ hup, ?_⟩
    rw [clkWindow_good hc hgood]
    exact ⟨clkNote_good hc hgood, rfl⟩
  · obtain ⟨hsys, hreports⟩ := tempRead_facts (s := s) a b c d e
    obtain ⟨ha, hb, hc, hd, he⟩ := hottest_bounds a b c d e
    have htop : hottest a b c d e ≤ tempTop s a b c d e := le_max_right _ _
    refine ⟨tempRead [a, b, c, d, e] s, tempTop s a b c d e, dieTempRead_reads hup hdue _, ?_⟩
    rw [hsys]
    exact ⟨rfl, rfl, rfl, ha.trans htop, hb.trans htop, hc.trans htop, hd.trans htop, he.trans htop, fun o => tempTop_old, hreports⟩

end Sys2Proof.Machine
end

section
/-!
SUPPORT. The PERTURB block (R469 to R475): its writes, the times of a held item, and the statement about them.
-/
namespace Sys2Proof.Machine

open Sys2Proof

/-! ## Writes (R469, R471, R473) -/

section Writes

variable {s : State} {p : Port} {ok : Bool} {addr n : Nat} {old v : Word} {apply : State → State}

theorem perturbRefuse_refused : HookRefused s (perturbRefuse addr v s) := by
  unfold HookRefused perturbRefuse
  dsimp only
  rw [logEvent_only, report_direct rfl]
  exact ⟨rfl, rfl, _, List.mem_append_right _ (List.mem_singleton_self _), rfl, rfl⟩

theorem perturbWrite_refused (h : perturbOpen s p = false ∨ ok = false) :
    HookRefused s (perturbWrite p ok addr old v apply s) := by
  have hclosed : ¬(perturbOpen s p && ok) = true := by
    rcases h with h | h <;> simp [h]
  unfold perturbWrite
  rw [if_neg hclosed]
  exact perturbRefuse_refused

theorem perturbWrite_applied (h : HooksOpen s p) (hok : ok = true) :
    perturbWrite p ok addr old v apply s = apply (hookLogged p addr old v s) := by
  obtain ⟨hcell, hsession, hready, hfull, hwp, hblank⟩ := h
  have hopen : perturbOpen s p = true := by
    unfold perturbOpen
    rw [hcell, hsession, hready, hfull, hwp]
    rfl
  unfold perturbWrite
  rw [if_pos (by rw [hopen, hok]; rfl), logThen_blank hblank]
  rfl

theorem bits_kind_masked (v : Word) : bits (v &&& 0xFFFFF#32) 3 0 = bits v 3 0 := by
  have hmask : (v &&& 0xFFFFF#32).toNat = v.toNat % 2 ^ 20 := Nat.and_two_pow_sub_one_eq_mod v.toNat 20
  unfold bits
  rw [hmask, Nat.shiftRight_zero, Nat.shiftRight_zero]
  exact Nat.mod_mod_of_dvd _ (by decide)

theorem tgtWrite_applied (h : HooksOpen s p) (hcfg : (s.hk n).cfg = 0) (hkind : bits v 3 0 ≤ 5)
    (hfree : overlapsOther s n (v &&& 0xFFFFF#32) = false) :
    tgtWrite p n v s = (hookLogged p (addrTgt n) (s.hk n).tgt v s).setHk n { s.hk n with tgt := v &&& 0xFFFFF#32 } :=
  perturbWrite_applied h (by rw [hcfg, bits_kind_masked, hfree, decide_eq_true hkind]; rfl)

theorem tgtWrite_refused (h : perturbOpen s p = false ∨ (s.hk n).cfg ≠ 0 ∨ 5 < bits v 3 0 ∨
    overlapsOther s n (v &&& 0xFFFFF#32) = true) : HookRefused s (tgtWrite p n v s) := by
  refine perturbWrite_refused (h.imp_right fun h => ?_)
  rw [bits_kind_masked]
  rcases h with h | h | h
  · rw [decide_eq_false h, Bool.false_and, Bool.false_and]
  · rw [decide_eq_false (Nat.not_le.mpr h), Bool.and_false, Bool.false_and]
  · rw [h, Bool.not_true, Bool.and_false]

theorem cfgOk_false (hv : v ≠ 0) (h : hookBound s (s.hk n).tgt v < bits v 13 0 + bits v 27 14 ∨ bits (s.hk n).tgt 3 0 = 0 ∨
    overlapsOther s n (s.hk n).tgt = true ∨
    (bits (s.hk n).tgt 3 0 ≠ 1 ∨ (routeAt s (bits (s.hk n).tgt 11 4)).safe = true) ∧ bits v 31 28 ≠ 0) : cfgOk s n v = false := by
  unfold cfgOk
  dsimp only
  rw [decide_eq_false hv, Bool.false_or]
  rcases h with h | h | h | ⟨hfree, hunit⟩
  · rw [decide_eq_false (p := bits v 13 0 + bits v 27 14 ≤ hookBound s (s.hk n).tgt v) (Nat.not_le.mpr h), Bool.and_false,
      Bool.false_and, Bool.false_and]
  · rw [decide_eq_false (p := bits (s.hk n).tgt 3 0 ≠ 0) (not_not_intro h), Bool.false_and, Bool.false_and, Bool.false_and]
  · rw [h, Bool.not_true, Bool.and_false]
  · have hbound : (decide (bits (s.hk n).tgt 3 0 = 1) && !(routeAt s (bits (s.hk n).tgt 11 4)).safe) = false := by
      rcases hfree with hkind | hsafe
      · rw [decide_eq_false hkind, Bool.false_and]
      · rw [hsafe, Bool.not_true, Bool.and_false]
    rw [hbound, decide_eq_false hunit, Bool.false_or, Bool.and_false, Bool.false_and]

theorem cfgOk_true (h : v = 0 ∨ cfgOk s n v = true) : cfgOk s n v = true := by
  refine h.elim (fun hv => ?_) id
  unfold cfgOk
  rw [decide_eq_true hv, Bool.true_or]

theorem cfgWrite_applied (h : HooksOpen s p) (hok : v = 0 ∨ cfgOk s n v = true) :
    cfgWrite p n v s = (hookLogged p (addrCfg n) (s.hk n).cfg v s).setHk n { s.hk n with cfg := v, lfsr := s.hook.seed } :=
  perturbWrite_applied h (cfgOk_true hok)

theorem seedWrite_applied (h : HooksOpen s p) (hv : v ≠ 0) :
    seedWrite p v s = { hookLogged p addrSeed s.hook.seed v s with hook := { s.hook with seed := v } } :=
  perturbWrite_applied h (decide_eq_true hv)

end Writes

/-! ## Held items (R469, R470) -/

section Held

variable {s : State} {on : Word → Bool} {n : Nat} {item : Instr}

theorem hookMet_first (hn : n < 16) (hon : hookOn s on n = true) (hlow : ∀ m, m < n → hookOn s on m = false) :
    hookMet s on = some n := by
  have hfind : (List.range 16).find? (hookOn s on) = some n := by
    rw [List.find?_range_eq_some]
    exact ⟨hon, List.mem_range.mpr hn, fun m hm => by rw [hlow m hm]; rfl⟩
  unfold hookMet
  rw [hfind]

theorem unitTicks_mono (h : Hook) {a b : Nat} (hab : a ≤ b) : unitTicks h a ≤ unitTicks h b := by
  unfold unitTicks
  split
  · split
    · exact Nat.mul_le_mul_right _ hab
    · omega
  · exact Nat.mul_le_mul_right _ hab
  · exact Nat.mul_le_mul_right _ hab
  · exact Nat.mul_le_mul_right _ hab
  · omega

/-- The release of an item that a hook in force takes: the delay and a draw of at most the jitter from now, and no earlier
than the last item held on the target. -/
theorem holdTick_draw (hon : hookOn s on n = true) : ∃ u, u ≤ hookJitter (s.hk n) ∧ holdTick on n s =
    max (s.now + unitTicks (s.hk n) (hookDelay (s.hk n) + u)) (((lastHeld s on).map HeldItem.rel).getD 0) := by
  refine ⟨Config.lfsrDraw (s.hk n).lfsr (hookJitter (s.hk n)) % (hookJitter (s.hk n) + 1),
    Nat.le_of_lt_succ (Nat.mod_lt _ (Nat.succ_pos _)), ?_⟩
  unfold holdTick
  dsimp only
  rw [if_pos hon]

theorem holdTick_last {e : HeldItem} (h : lastHeld s on = some e) : e.rel ≤ holdTick on n s := by
  unfold holdTick
  dsimp only
  rw [h]
  exact le_max_right _ _

theorem holdTick_bounds (hon : hookOn s on n = true) :
    s.now + unitTicks (s.hk n) (hookDelay (s.hk n)) ≤ holdTick on n s ∧
    holdTick on n s ≤ max (s.now + unitTicks (s.hk n) (hookDelay (s.hk n) + hookJitter (s.hk n)))
      (((lastHeld s on).map HeldItem.rel).getD 0) := by
  obtain ⟨u, hu, htick⟩ := holdTick_draw hon
  have hlow := unitTicks_mono (s.hk n) (Nat.le_add_right (hookDelay (s.hk n)) u)
  have hhigh := unitTicks_mono (s.hk n) (Nat.add_le_add_left hu (hookDelay (s.hk n)))
  rw [htick]
  exact ⟨(Nat.add_le_add_left hlow _).trans (le_max_left _ _), max_le_max_right _ (Nat.add_le_add_left hhigh _)⟩

/-- The entry of a hook that has taken an item due at `rel`. -/
def hookAfter (rel : Nat) (s : State) (n : Nat) : Hook :=
  { s.hk n with
    lfsr := Config.lfsrStep (s.hk n).lfsr, cnt := satInc (s.hk n).cnt, max := max (s.hk n).max (ticksUnit (s.hk n) (rel - s.now)) }

theorem holdItem_taken (hon : hookOn s on n = true) : holdItem on n item s =
    { s with hook := { (s.setHk n (hookAfter (holdTick on n s) s n)).hook with
        held := s.hook.held ++ [{ hook := n, tgt := (s.hk n).tgt, rel := holdTick on n s, item }] } } := by
  unfold holdItem holdCopies
  dsimp only
  rw [if_pos hon, if_pos hon]
  rfl

theorem hookAfter_ne (hon : hookOn s on n = true) (rel : Nat) : hookAfter rel s n ≠ {} := by
  intro h
  have hcfg : (s.hk n).cfg = 0 := congrArg Hook.cfg h
  unfold hookOn at hon
  simp [hcfg] at hon

theorem holdItem_count (hon : hookOn s on n = true) : ((holdItem on n item s).hk n).cnt = satInc (s.hk n).cnt := by
  rw [holdItem_taken hon]
  exact congrArg Hook.cnt (look_put_ne ({} : Hook) s.hook.hooks n _ (hookAfter_ne hon _))

end Held

/-! ## Releases (R470) -/

section Release

variable {s : State} {n : Nat} {e : HeldItem} {rest : List HeldItem}

/-- An item reaches its release tick where that lies before the next boundary. -/
theorem reaches_iff (s : State) (tick : Nat) : tick ≤ (advance tick s).now ↔ tick < s.t0 + 12500 := by
  show tick ≤ min (max s.now tick) (s.t0 + (12500 - 1)) ↔ _
  omega

theorem hookRelease_empty (h : heldBy s n = []) : hookRelease n s = s := by
  unfold hookRelease
  rw [h]

theorem hookRelease_acts (h : heldBy s n = e :: rest) (ht : e.rel < s.t0 + 12500) (hfree : itemBlocked s e.item = false)
    (hfirst : heldBehind s e = false) : hookRelease n s = releaseItem e s := by
  unfold hookRelease
  rw [h]
  exact if_pos ⟨(reaches_iff s e.rel).mpr ht, hfree, hfirst⟩

theorem hookRelease_waits (h : heldBy s n = e :: rest)
    (hwait : s.t0 + 12500 ≤ e.rel ∨ itemBlocked s e.item = true ∨ heldBehind s e = true) : hookRelease n s = s := by
  unfold hookRelease
  rw [h]
  refine if_neg fun ⟨hreach, hfree, hfirst⟩ => ?_
  have ht := (reaches_iff s e.rel).mp hreach
  rcases hwait with hlate | hblocked | hbehind
  · omega
  · exact Bool.false_ne_true (hfree.symm.trans hblocked)
  · exact Bool.false_ne_true (hfirst.symm.trans hbehind)

end Release

/-! ## The statement -/

section Commands

variable {s : State} {p : Port} {n : Nat} {v : Word}

theorem perturbTgtWrite_runs (hup : s.sys.up = true) (hn : n < 16) :
    exec (.perturbTgtWrite p n v) s = .next (tgtWrite p n v s) := run_due (fun _ => decide (n < 16)) _ hup (decide_eq_true hn)

theorem perturbCfgWrite_runs (hup : s.sys.up = true) (hn : n < 16) :
    exec (.perturbCfgWrite p n v) s = .next (cfgWrite p n v s) := run_due (fun _ => decide (n < 16)) _ hup (decide_eq_true hn)

end Commands

/-- Settles O59: each write by its conditions, a held item by its draw, and a release by its tick. -/
theorem validationHooks : Obligations.ValidationHooks := by
  refine ⟨fun s p n v hup hn => ⟨fun hopen hcfg hkind hfree => ?_, fun h => ?_, fun hopen hok => ?_, fun h => ?_⟩,
    fun s p v hup => ⟨fun hopen hv => ?_, fun h => ?_, fun n hn => ?_⟩, fun s on n hn hon hlow => hookMet_first hn hon hlow,
    fun s on n item hon => ?_, fun s n hup => ⟨fun h => run_gives hup (hookRelease_empty h), fun e rest h ht hfree hfirst => ?_,
      fun e rest h hwait => run_gives hup (hookRelease_waits h hwait)⟩⟩
  · rw [perturbTgtWrite_runs hup hn, tgtWrite_applied hopen hcfg hkind hfree]
    rfl
  · exact ⟨_, perturbTgtWrite_runs hup hn, tgtWrite_refused h⟩
  · rw [perturbCfgWrite_runs hup hn, cfgWrite_applied hopen hok]
    rfl
  · exact ⟨_, perturbCfgWrite_runs hup hn, perturbWrite_refused (h.imp_right fun h => cfgOk_false h.1 h.2)⟩
  · exact ⟨_, run_gives hup (seedWrite_applied hopen hv), rfl, rfl⟩
  · exact ⟨_, run_up _ _ hup, perturbWrite_refused (h.imp_right fun h => decide_eq_false (not_not_intro h))⟩
  · have hbeyond : decide (n < 16) = false := decide_eq_false hn.not_gt
    exact ⟨run_notDue (fun _ => decide (n < 16)) _ hbeyond, run_notDue (fun _ => decide (n < 16)) _ hbeyond⟩
  · refine ⟨holdTick on n s, ?_, fun e h => holdTick_last h, (holdTick_bounds hon).1, (holdTick_bounds hon).2, holdItem_count hon⟩
    rw [holdItem_taken hon]
  · exact run_gives hup (hookRelease_acts h ht hfree hfirst)

end Sys2Proof.Machine
end

section
/-!
SUPPORT. The register and bulk protocol over UDP and the host SPI port (R404 to R408): what an answer leaves, what each
request does, and the statement about them.
-/
namespace Sys2Proof.Machine

open Sys2Proof

/-! ## What leaves by the Ethernet ports (R404, R406) -/

/-- The network block but for what its ports count and queue. -/
def offPorts (s : State) : Net := { s.net with ports := [] }

section Ports

variable {s : State} {p q len : Nat}

theorem offPorts_ethRx : offPorts (ethRx p s) = offPorts s := rfl

theorem offPorts_ethTx : offPorts (ethTx p q len s) = offPorts s := by
  unfold ethTx
  dsimp only
  split <;> rfl

theorem offPorts_coreSends : offPorts (coreSends q len s) = offPorts s := by
  unfold coreSends
  refine (foldl_keeps (part := offPorts) (fun t e => ?_) _ _).trans offPorts_ethRx
  split
  · exact offPorts_ethTx
  · rfl

theorem offPorts_coreUnicast : offPorts (coreUnicast q len s) = offPorts s := by
  have hrx : offPorts (ethRx 2 (fresh s).2) = offPorts s := offPorts_ethRx
  unfold coreUnicast
  dsimp only
  split
  · split
    · exact offPorts_ethTx.trans hrx
    · exact offPorts_ethTx.trans hrx
    · exact offPorts_ethTx.trans (offPorts_ethTx.trans hrx)
  · exact offPorts_coreSends

end Ports

/-! ## Answers (R406) -/

section Answers

variable {s : State} {peer : Nat} {req : List Byte} {ws : List Word}

theorem offPorts_respondUdp : offPorts (respondUdp ws s) = offPorts s := by
  unfold respondUdp
  exact offPorts_coreUnicast

theorem respondUdp_only : respondUdp ws s =
    { s with fresh := (respondUdp ws s).fresh, net := (respondUdp ws s).net, host := { s.host with resp := ws } } := by
  have h := coreUnicast_only 0 (udpFrame (4 * ws.length)) { s with host := { s.host with resp := ws } }
  exact h

/-- What a request leaves: the answer where the module still runs, which its own power request may end. -/
def answer (peer : Nat) (req : List Byte) (done : List Word × State) : State :=
  if done.2.sys.up then respondUdp done.1 (keepResponse peer req done.1 done.2) else done.2

theorem request_new {work : State → List Word × State} (h : NewRequest s peer req) :
    request peer req (requestCrc req) work s = answer peer req (work (moduleCheck 3 true s)) := by
  obtain ⟨-, harmed, hkept⟩ := h
  unfold request
  rw [harmed, if_neg (by decide), if_neg (not_not_intro rfl), hkept]
  rfl

theorem request_unarmed {work : State → List Word × State} {crc : Word} (h : s.nvm.armed = false) :
    request peer req crc work s = s := if_pos (by rw [h]; rfl)

theorem request_damaged {work : State → List Word × State} {crc : Word} (h : s.nvm.armed = true) (hcrc : crc ≠ requestCrc req) :
    request peer req crc work s = moduleCheck 3 false s :=
  (if_neg (by rw [h]; decide)).trans (if_pos hcrc)

theorem request_repeated {work : State → List Word × State} {crc : Word} (h : s.nvm.armed = true) (hcrc : crc = requestCrc req)
    (hkept : keptResponse s peer req = some ws) : request peer req crc work s = respondUdp ws s := by
  unfold request
  rw [if_neg (by rw [h]; decide), if_neg (not_not_intro hcrc), hkept]

variable {done : List Word × State}

theorem keptResponse_keepResponse : keptResponse (keepResponse peer req ws s) peer req = some ws := by
  unfold keptResponse keepResponse
  simp

theorem keptResponse_offPorts {t : State} (h : offPorts t = offPorts s) : keptResponse t peer req = keptResponse s peer req := by
  have hcache : (offPorts t).cache = (offPorts s).cache := congrArg Net.cache h
  exact congrArg (fun cache => (cache.find? (fun e => decide (e.1 = peer) && decide (e.2.1 = req))).map (·.2.2)) hcache

theorem answer_answered (hup : done.2.sys.up = true) : Answered (answer peer req done) peer req done.1 := by
  unfold answer
  rw [if_pos hup]
  refine ⟨?_, (keptResponse_offPorts offPorts_respondUdp).trans keptResponse_keepResponse⟩
  rw [respondUdp_only]

theorem answer_only : answer peer req done = { done.2 with
    fresh := (answer peer req done).fresh, net := (answer peer req done).net, host := (answer peer req done).host } := by
  unfold answer
  split
  · rw [respondUdp_only]
    rfl
  · rfl

theorem answer_subs : (answer peer req done).net.subs = done.2.net.subs := by
  unfold answer
  split
  · have hports := offPorts_respondUdp (ws := done.1) (s := keepResponse peer req done.1 done.2)
    exact (congrArg Net.subs hports : (offPorts _).subs = (offPorts _).subs)
  · rfl

theorem answer_sys : (answer peer req done).sys = done.2.sys := by rw [answer_only]
theorem answer_nvm : (answer peer req done).nvm = done.2.nvm := by rw [answer_only]

theorem answer_kept : SafetySideKept done.2 (answer peer req done) := by
  rw [answer_only]
  exact ⟨rfl, rfl, rfl, rfl, rfl, rfl, rfl⟩

end Answers

/-! ## Reads (R405) -/

section Reads

variable {s : State}

theorem moduleCheck_kept {n : Nat} {ok : Bool} : SafetySideKept s (moduleCheck n ok s) := ⟨rfl, rfl, rfl, rfl, rfl, rfl, rfl⟩

theorem clearSys_up (o : Nat) (s : State) : (clearSys o s).sys.up = s.sys.up := by
  unfold clearSys
  dsimp only
  split <;> rfl

theorem readClear_up (a : Nat) (s : State) : (readClear a s).sys.up = s.sys.up := by
  unfold readClear
  dsimp only
  split
  case h_1 =>
    split
    · exact clearSys_up _ _
    · split
      · rw [clearFab_only]
      · rfl
  case h_4 => rw [clearAfe_only]
  case h_5 => rw [clearRing_only]
  case h_6 => rw [clearCox_only]
  case h_7 => rw [clearBoat_only]
  case h_8 => rw [clearPmu_only]
  case h_12 => rw [clearEth_only]
  case h_13 => rw [clearHspi_only]
  case h_14 => rw [clearPerturb_only]
  case h_15 => rfl
  all_goals split <;> rfl

theorem latchPartners_sys (p : Port) (a : Nat) (s : State) : (latchPartners p a s).sys = s.sys := by
  unfold latchPartners
  refine foldl_keeps (part := State.sys) (fun t b => ?_) _ _
  show (valueAt p b t).2.sys = t.sys
  rw [valueAt_only]

theorem readWord_up (p : Port) (a : Nat) (s : State) : (readWord p a s).2.sys.up = s.sys.up := by
  unfold readWord
  split
  · rfl
  · have hnote : ∀ t : State, (noteEventRead a t).sys = t.sys := fun t => by
      unfold noteEventRead
      split <;> rfl
    refine (readClear_up a _).trans ?_
    rw [hnote, latchPartners_sys, valueAt_only]

theorem readWords_reads (p : Port) (n a : Nat) (s : State) : (readWords p n a s).1.length = n ∧
    SafetySideKept s (readWords p n a s).2 ∧ (readWords p n a s).2.sys.up = s.sys.up := by
  induction n generalizing a s with
  | zero => exact ⟨rfl, safetySideKept_refl s, rfl⟩
  | succ n ih =>
    obtain ⟨hlen, hkept, hup⟩ := ih (a + 4) (readWord p a s).2
    exact ⟨congrArg (· + 1) hlen, safetySideKept_trans (readWord_keeps p a s) hkept, hup.trans (readWord_up p a s)⟩

variable {peer txn a n : Nat}

theorem protoRead_listed (h : rangeOk a n = true) : protoRead peer txn a n s =
    (responseWords 1 0 txn 0 a n (readWords (.udp peer) n a s).1, (readWords (.udp peer) n a s).2) := if_pos h

theorem protoRead_unlisted (h : rangeOk a n = false) : protoRead peer txn a n s = (responseWords 1 2 txn 0 a n [], s) :=
  if_neg (by rw [h]; exact Bool.false_ne_true)

theorem protoRead_keeps : SafetySideKept s (protoRead peer txn a n s).2 ∧ (protoRead peer txn a n s).2.sys.up = s.sys.up := by
  obtain ⟨-, hkept, hup⟩ := readWords_reads (.udp peer) n a s
  unfold protoRead
  split
  · exact ⟨hkept, hup⟩
  · exact ⟨safetySideKept_refl s, rfl⟩

theorem regProtoRead_holds (h : NewRequest s peer (readRequest txn a n)) :
    ∃ t, exec (.regProtoRead peer ⟨txn, requestCrc (readRequest txn a n)⟩ a n) s = .next t ∧ SafetySideKept s t ∧
      (rangeOk a n = true → ∃ data, data.length = n ∧
        Answered t peer (readRequest txn a n) (responseWords 1 0 txn 0 a n data)) ∧
      (rangeOk a n = false → Answered t peer (readRequest txn a n) (responseWords 1 2 txn 0 a n []) ∧ t.sys = s.sys) := by
  obtain ⟨hkept, hup⟩ := protoRead_keeps (s := moduleCheck 3 true s) (peer := peer) (txn := txn) (a := a) (n := n)
  have hanswered := answer_answered (peer := peer) (req := readRequest txn a n) (hup.trans h.1)
  refine ⟨_, run_gives h.1 (request_new h), safetySideKept_trans moduleCheck_kept (safetySideKept_trans hkept answer_kept),
    fun hok => ⟨_, (readWords_reads (.udp peer) n a (moduleCheck 3 true s)).1, ?_⟩, fun hok => ⟨?_, ?_⟩⟩
  · rw [protoRead_listed hok] at hanswered ⊢
    exact hanswered
  · rw [protoRead_unlisted hok] at hanswered ⊢
    exact hanswered
  · rw [answer_sys, protoRead_unlisted hok]
    rfl

end Reads

/-! ## Writes of registers (R405) -/

section Writes

variable {s : State} {peer txn a : Nat} {vs : List Word}

theorem protoWrite_listed (h : rangeOk a vs.length = true) : protoWrite peer txn a vs s =
    (responseWords 2 (if (writeWords (.udp peer) a vs s).1 then 3 else 0) txn 0 a vs.length [], (writeWords (.udp peer) a vs s).2) :=
  if_pos h

theorem protoWrite_unlisted (h : rangeOk a vs.length = false) :
    protoWrite peer txn a vs s = (responseWords 2 2 txn 0 a vs.length [], s) := if_neg (by rw [h]; exact Bool.false_ne_true)

theorem regProtoWrite_holds (h : NewRequest s peer (writeRequest txn a vs)) :
    ∃ t, exec (.regProtoWrite peer ⟨txn, requestCrc (writeRequest txn a vs)⟩ a vs) s = .next t ∧
      (rangeOk a vs.length = true → t.sys.up = true →
        Answered t peer (writeRequest txn a vs) (responseWords 2 0 txn 0 a vs.length []) ∨
        Answered t peer (writeRequest txn a vs) (responseWords 2 3 txn 0 a vs.length [])) ∧
      (rangeOk a vs.length = false →
        Answered t peer (writeRequest txn a vs) (responseWords 2 2 txn 0 a vs.length []) ∧ t.sys = s.sys ∧ SafetySideKept s t) := by
  refine ⟨_, run_gives h.1 (request_new h), fun hok hup => ?_, fun hok => ?_⟩
  · rw [answer_sys] at hup
    have hanswered := answer_answered (peer := peer) (req := writeRequest txn a vs) hup
    rw [protoWrite_listed hok] at hanswered ⊢
    cases hrefused : (writeWords (.udp peer) a vs (moduleCheck 3 true s)).1 with
    | false =>
      rw [hrefused] at hanswered
      exact .inl hanswered
    | true =>
      rw [hrefused] at hanswered
      exact .inr hanswered
  · rw [protoWrite_unlisted hok]
    exact ⟨answer_answered h.1, answer_sys, safetySideKept_trans moduleCheck_kept answer_kept⟩

end Writes

/-! ## The log read in bulk (R361, R405) -/

section BulkRead

variable {s : State} {peer txn i n : Nat}

theorem protoBulkRead_entries (hready : s.nvm.logReady = true) (hn : 1 ≤ n) (hn' : n ≤ 16) (hslots : slotsFrom s.nvm i ≠ []) :
    (protoBulkRead txn i n s).1 = responseWords 3 0 txn 1 i ((slotsFrom s.nvm i).take n).length
      (((slotsFrom s.nvm i).take n).flatMap (exportEntry s.nvm)) := by
  have hgot : ((slotsFrom s.nvm i).take n).isEmpty = false := by
    rw [List.isEmpty_eq_false_iff]
    exact fun hnil => (List.take_eq_nil_iff.mp hnil).elim (by omega) hslots
  unfold protoBulkRead
  dsimp only
  rw [hready, hgot, decide_eq_true hn, decide_eq_true hn']
  rfl

theorem protoBulkRead_none (h : s.nvm.logReady = false ∨ n = 0 ∨ 16 < n ∨ slotsFrom s.nvm i = []) :
    (protoBulkRead txn i n s).1 = responseWords 3 2 txn 1 i n [] := by
  unfold protoBulkRead
  dsimp only
  rw [if_neg ?_]
  · rfl
  · intro hc
    simp only [Bool.and_eq_true, decide_eq_true_eq, Bool.not_eq_true', List.isEmpty_eq_false_iff] at hc
    obtain ⟨⟨⟨hready, hn⟩, hn'⟩, hgot⟩ := hc
    rcases h with h | h | h | h
    · exact Bool.false_ne_true (h.symm.trans hready)
    · omega
    · omega
    · exact hgot (by rw [h, List.take_nil])

theorem protoBulkRead_keeps : SafetySideKept s (protoBulkRead txn i n s).2 ∧ (protoBulkRead txn i n s).2.sys = s.sys := by
  unfold protoBulkRead
  dsimp only
  split
  · exact List.foldlRecOn (motive := fun t => SafetySideKept s t ∧ t.sys = s.sys) _ _ ⟨safetySideKept_refl s, rfl⟩
      (fun t ht e _ => ⟨safetySideKept_trans ht.1 moduleCheck_kept, ht.2⟩)
  · exact ⟨safetySideKept_refl s, rfl⟩

theorem regProtoBulkRead_holds (h : NewRequest s peer (bulkReadRequest txn i n)) :
    ∃ t, exec (.regProtoBulkRead peer ⟨txn, requestCrc (bulkReadRequest txn i n)⟩ i n) s = .next t ∧ SafetySideKept s t ∧
      (s.nvm.logReady = true → 1 ≤ n → n ≤ 16 → slotsFrom s.nvm i ≠ [] →
        Answered t peer (bulkReadRequest txn i n) (responseWords 3 0 txn 1 i ((slotsFrom s.nvm i).take n).length
          (((slotsFrom s.nvm i).take n).flatMap (exportEntry s.nvm)))) ∧
      (s.nvm.logReady = false ∨ n = 0 ∨ 16 < n ∨ slotsFrom s.nvm i = [] →
        Answered t peer (bulkReadRequest txn i n) (responseWords 3 2 txn 1 i n [])) := by
  obtain ⟨hkept, hsys⟩ := protoBulkRead_keeps (s := moduleCheck 3 true s) (txn := txn) (i := i) (n := n)
  have hup : (protoBulkRead txn i n (moduleCheck 3 true s)).2.sys.up = true := (congrArg Sys.up hsys).trans h.1
  have hanswered := answer_answered (peer := peer) (req := bulkReadRequest txn i n) hup
  refine ⟨_, run_gives h.1 (request_new h), safetySideKept_trans moduleCheck_kept (safetySideKept_trans hkept answer_kept),
    fun hready hn hn' hslots => ?_, fun hnone => ?_⟩
  · rw [protoBulkRead_entries (s := moduleCheck 3 true s) hready hn hn' hslots] at hanswered
    exact hanswered
  · rw [protoBulkRead_none (s := moduleCheck 3 true s) hnone] at hanswered
    exact hanswered

end BulkRead

/-! ## Image data (R354, R405) -/

section BulkWrite

variable {s : State} {peer txn off : Nat} {bytes : List Byte}

/-- Image data beyond the header page is programmed in the bank that is written. -/
def imageProgrammed (off : Nat) (bytes : List Byte) (n : Nvm) : Nvm := flashProgram n (bankBase n n.wr.target + off) bytes

theorem bulkData_programs (hstate : s.nvm.wr.state = 2) (hmod : s.nvm.wr.byModule = false) (hoff : 256 ≤ off)
    (hsize : off + bytes.length ≤ bankSize s.nvm) : ∃ wr, wr.state = 2 ∧
    bulkData off bytes s = (true, { s with nvm := { imageProgrammed off bytes s.nvm with wr := wr } }) := by
  have hbusy : ¬(s.nvm.wr.state ≠ 2 ∨ s.nvm.wr.byModule = true) := by simp [hstate, hmod]
  unfold bulkData
  dsimp only
  rw [if_neg hbusy, if_neg (Nat.not_lt.mpr hsize), Nat.max_eq_left hoff, Nat.sub_eq_zero_of_le hoff, List.drop_zero]
  refine ⟨_, ?_, rfl⟩
  exact hstate

theorem bulkData_beyond (hstate : s.nvm.wr.state = 2) (hmod : s.nvm.wr.byModule = false)
    (hsize : bankSize s.nvm < off + bytes.length) : bulkData off bytes s = (false, refuse addrWrCtrl (writeFail 3 s)) := by
  have hbusy : ¬(s.nvm.wr.state ≠ 2 ∨ s.nvm.wr.byModule = true) := by simp [hstate, hmod]
  unfold bulkData
  dsimp only
  rw [if_neg hbusy, if_pos hsize]

theorem writeFail_fails (cause : Nat) (s : State) :
    (writeFail cause s).nvm.wr.state = 6 ∧ (writeFail cause s).nvm.wr.cause = cause ∧ (writeFail cause s).sys = s.sys := by
  refine ⟨?_, ?_, by rw [writeFail_only]⟩ <;>
  · unfold writeFail writeEnd
    dsimp only
    rw [pushEvent_only]
    split <;> rfl

theorem protoBulkWrite_data (hoff : off % 256 = 0) (hlen : 4 ≤ bytes.length) (hlen' : bytes.length ≤ 1024) :
    protoBulkWrite txn off bytes s =
      (responseWords 4 (if (bulkData off bytes s).1 then 0 else 3) txn 2 off bytes.length [], (bulkData off bytes s).2) :=
  if_pos ⟨hoff, hlen, hlen'⟩

theorem imageProgrammed_at {n : Nvm} (h : wf 0xFF n.mem = true) {i : Nat} {b : Byte} (hb : bytes[i]? = some b) :
    flashAt (imageProgrammed off bytes n) (bankBase n n.wr.target + off + i) = (flashAt n (bankBase n n.wr.target + off + i) &&& b) := by
  rw [imageProgrammed, flashAt_flashProgram _ _ _ _ h, if_pos (by omega), Nat.add_sub_cancel_left, hb]
  rfl

theorem imageProgrammed_else {n : Nvm} {x : Nat}
    (hx : x < bankBase n n.wr.target + off ∨ bankBase n n.wr.target + off + bytes.length ≤ x) :
    flashAt (imageProgrammed off bytes n) x = flashAt n x :=
  hx.elim (flashAt_programmed _ _ _ _) (flashAt_programmed_above _ _ _ _)

end BulkWrite

/-! ## Subscriptions (R407) -/

section Subscriptions

variable {s : State} {peer txn : Nat}

theorem protoSubscribe_again (h : peer ∈ s.net.subs) : protoSubscribe peer txn s = (responseWords 0x10 0 txn 0 0 0 [], s) :=
  if_pos (List.contains_iff_mem.mpr h)

theorem protoSubscribe_new (h : s.net.subs.length < 4) (hnew : peer ∉ s.net.subs) : protoSubscribe peer txn s =
    (responseWords 0x10 0 txn 0 0 0 [], { s with net := { s.net with subs := s.net.subs ++ [peer] } }) :=
  (if_neg (fun hsub => hnew (List.contains_iff_mem.mp hsub))).trans (if_pos h)

theorem protoSubscribe_taken (h : s.net.subs.length < 4) :
    (protoSubscribe peer txn s).1 = responseWords 0x10 0 txn 0 0 0 [] ∧ peer ∈ (protoSubscribe peer txn s).2.net.subs ∧
    ∀ q, q ≠ peer → (q ∈ (protoSubscribe peer txn s).2.net.subs ↔ q ∈ s.net.subs) := by
  by_cases hsub : peer ∈ s.net.subs
  · rw [protoSubscribe_again hsub]
    exact ⟨rfl, hsub, fun q hq => Iff.rfl⟩
  · rw [protoSubscribe_new h hsub]
    refine ⟨rfl, List.mem_append_right _ (List.mem_singleton_self _), fun q hq => ?_⟩
    simp [hq]

theorem protoSubscribe_full (h : 4 ≤ s.net.subs.length) (hnew : peer ∉ s.net.subs) :
    protoSubscribe peer txn s = (responseWords 0x10 3 txn 0 0 0 [], s) :=
  (if_neg (fun hsub => hnew (List.contains_iff_mem.mp hsub))).trans (if_neg (Nat.not_lt.mpr h))

theorem protoSubscribe_sys : (protoSubscribe peer txn s).2.sys = s.sys := by
  unfold protoSubscribe
  split
  · rfl
  · split <;> rfl

end Subscriptions

/-! ## Host SPI (R408) -/

section Spi

variable {s : State} {a n : Nat} {vs : List Word} {crc : Word}

theorem hspiRead_runs (hup : s.sys.up = true) (hn : 1 ≤ n) (hn' : n ≤ 256) : exec (.hspiRead a n) s = .next (spiRead a n s) :=
  run_due (fun _ => decide (1 ≤ n) && decide (n ≤ 256)) _ hup (by rw [decide_eq_true hn, decide_eq_true hn']; rfl)

theorem hspiRead_badCount (h : n = 0 ∨ 256 < n) : exec (.hspiRead a n) s = .next s := by
  refine run_notDue (fun _ => decide (1 ≤ n) && decide (n ≤ 256)) _ ?_
  rw [← Bool.decide_and]
  exact decide_eq_false (by omega)

theorem hspiWrite_runs (hup : s.sys.up = true) (hn : 1 ≤ vs.length) (hn' : vs.length ≤ 256) :
    exec (.hspiWrite a vs crc) s = .next (spiWrite a vs crc s) :=
  run_due (fun _ => decide (1 ≤ vs.length) && decide (vs.length ≤ 256)) _ hup (by rw [decide_eq_true hn, decide_eq_true hn']; rfl)

theorem spiRead_facts : (spiRead a n s).host.resp.length = n ∧ SafetySideKept s (spiRead a n s) ∧
    ∃ sent, (spiRead a n s).host.miso = sent ++ beBytes (spiCrc (spiHead 0x0B a n ++ sent)) ∧
      ∃ waits, waits ≤ 64 ∧ sent = List.replicate waits 0 ++ 0xA5 :: wireBytes (spiRead a n s).host.resp := by
  obtain ⟨hlen, hkept, -⟩ := readWords_reads .spi n a s
  refine ⟨hlen, safetySideKept_trans hkept ⟨rfl, rfl, rfl, rfl, rfl, rfl, rfl⟩, _, rfl, _, ?_, rfl⟩
  exact Nat.le_of_lt_succ (Nat.mod_lt _ (by decide))

theorem spiWrite_damaged (hcrc : crc ≠ spiWriteCrc a vs) : (spiWrite a vs crc s).host.resp = [0xC3] ∧
    (spiWrite a vs crc s).net.hspiCrc = (if s.net.hspiCrc = 0xFFFF then 0xFFFF else s.net.hspiCrc + 1) ∧
    (spiWrite a vs crc s).sys = s.sys ∧ SafetySideKept s (spiWrite a vs crc s) := by
  unfold spiWrite
  rw [if_neg hcrc]
  exact ⟨rfl, rfl, rfl, rfl, rfl, rfl, rfl, rfl, rfl, rfl⟩

theorem spiWrite_intact (hup : (spiWrite a vs (spiWriteCrc a vs) s).sys.up = true) :
    (spiWrite a vs (spiWriteCrc a vs) s).host.resp = [0x5A] ∨ (spiWrite a vs (spiWriteCrc a vs) s).host.resp = [0x3C] := by
  unfold spiWrite at hup ⊢
  rw [if_pos rfl] at hup ⊢
  dsimp only at hup ⊢
  split
  next hrun =>
    cases (writeWords .spi a vs (moduleCheck 3 true s)).1 with
    | false => exact .inl rfl
    | true => exact .inr rfl
  next hdown =>
    rw [if_neg hdown] at hup
    exact absurd hup hdown

end Spi

/-! ## The statement -/

section Requests

variable {s : State} {peer txn off : Nat} {bytes : List Byte}

theorem regProtoBulkWrite_holds (h : NewRequest s peer (bulkWriteRequest txn off bytes)) (hoff : off % 256 = 0)
    (hlen : 4 ≤ bytes.length) (hlen' : bytes.length ≤ 1024) (hstate : s.nvm.wr.state = 2) (hmod : s.nvm.wr.byModule = false) :
    ∃ t, exec (.regProtoBulkWrite peer ⟨txn, requestCrc (bulkWriteRequest txn off bytes)⟩ off bytes) s = .next t ∧
      (256 ≤ off → off + bytes.length ≤ bankSize s.nvm → MemoriesCanonical s →
        Answered t peer (bulkWriteRequest txn off bytes) (responseWords 4 0 txn 2 off bytes.length []) ∧ t.nvm.wr.state = 2 ∧
        (∀ i b, bytes[i]? = some b → flashAt t.nvm (bankBase s.nvm s.nvm.wr.target + off + i) =
          (flashAt s.nvm (bankBase s.nvm s.nvm.wr.target + off + i) &&& b)) ∧
        (∀ a, a < bankBase s.nvm s.nvm.wr.target + off ∨ bankBase s.nvm s.nvm.wr.target + off + bytes.length ≤ a →
          flashAt t.nvm a = flashAt s.nvm a)) ∧
      (bankSize s.nvm < off + bytes.length → t.nvm.wr.state = 6 ∧ t.nvm.wr.cause = 3 ∧
        t.sys.refused = satInc s.sys.refused ∧
        Answered t peer (bulkWriteRequest txn off bytes) (responseWords 4 3 txn 2 off bytes.length [])) := by
  refine ⟨_, run_gives h.1 (request_new h), fun hheader hsize hcanon => ?_, fun hsize => ?_⟩
  · obtain ⟨-, hwf⟩ := hcanon
    obtain ⟨wr, hwr, hdata⟩ := bulkData_programs (s := moduleCheck 3 true s) hstate hmod hheader hsize
    rw [protoBulkWrite_data hoff hlen hlen', hdata, answer_nvm]
    exact ⟨answer_answered h.1, hwr, fun i b hb => imageProgrammed_at hwf hb, fun a ha => imageProgrammed_else ha⟩
  · obtain ⟨hfail, hcause, hsys⟩ := writeFail_fails 3 (moduleCheck 3 true s)
    have hdata := bulkData_beyond (s := moduleCheck 3 true s) hstate hmod hsize
    rw [protoBulkWrite_data hoff hlen hlen', hdata, answer_nvm, answer_sys]
    refine ⟨hfail, hcause, congrArg (fun y : Sys => satInc y.refused) hsys, answer_answered ?_⟩
    exact (congrArg Sys.up hsys).trans h.1

theorem regProtoSubscribe_holds (h : NewRequest s peer (requestBytes 0x10 txn 0 0 0 [])) :
    ∃ t, exec (.regProtoSubscribe peer ⟨txn, requestCrc (requestBytes 0x10 txn 0 0 0 [])⟩) s = .next t ∧
      (s.net.subs.length < 4 → peer ∈ t.net.subs ∧ (∀ q, q ≠ peer → (q ∈ t.net.subs ↔ q ∈ s.net.subs)) ∧
        Answered t peer (requestBytes 0x10 txn 0 0 0 []) (responseWords 0x10 0 txn 0 0 0 [])) ∧
      (4 ≤ s.net.subs.length → peer ∉ s.net.subs → t.net.subs = s.net.subs ∧
        Answered t peer (requestBytes 0x10 txn 0 0 0 []) (responseWords 0x10 3 txn 0 0 0 [])) := by
  have hup : (protoSubscribe peer txn (moduleCheck 3 true s)).2.sys.up = true := (congrArg Sys.up protoSubscribe_sys).trans h.1
  have hanswered := answer_answered (peer := peer) (req := requestBytes 0x10 txn 0 0 0 []) hup
  refine ⟨_, run_gives h.1 (request_new h), fun hfew => ?_, fun hfull hnew => ?_⟩
  · obtain ⟨hresp, hin, hothers⟩ := protoSubscribe_taken (s := moduleCheck 3 true s) (peer := peer) (txn := txn) hfew
    rw [hresp] at hanswered
    rw [answer_subs]
    exact ⟨hin, hothers, hanswered⟩
  · rw [protoSubscribe_full (s := moduleCheck 3 true s) hfull hnew] at hanswered ⊢
    exact ⟨answer_subs, hanswered⟩

theorem regProtoUnsubscribe_holds (h : NewRequest s peer (requestBytes 0x11 txn 0 0 0 [])) :
    ∃ t, exec (.regProtoUnsubscribe peer ⟨txn, requestCrc (requestBytes 0x11 txn 0 0 0 [])⟩) s = .next t ∧
      (∀ q, q ∈ t.net.subs ↔ q ∈ s.net.subs ∧ q ≠ peer) ∧
      Answered t peer (requestBytes 0x11 txn 0 0 0 []) (responseWords 0x11 0 txn 0 0 0 []) := by
  refine ⟨_, run_gives h.1 (request_new h), fun q => ?_, answer_answered h.1⟩
  rw [answer_subs]
  show q ∈ s.net.subs.filter (fun p => decide (p ≠ peer)) ↔ _
  rw [List.mem_filter, decide_eq_true_eq]

/-- What every request has in common: none is taken before the arm frame, a damaged one counts as a mismatch, and a repeated
one is answered from the kept responses (R352, R404, R406). -/
theorem request_common {work : State → List Word × State} {req : List Byte} {crc : Word} (hup : s.sys.up = true) :
    (s.nvm.armed = false → run s (request peer req crc work) = .next s) ∧
    (s.nvm.armed = true → crc ≠ requestCrc req → run s (request peer req crc work) = .next (moduleCheck 3 false s)) ∧
    (s.nvm.armed = true → crc = requestCrc req → ∀ ws, keptResponse s peer req = some ws →
      run s (request peer req crc work) =
        .next (coreUnicast 0 (udpFrame (4 * ws.length)) { s with host := { s.host with resp := ws } })) :=
  ⟨fun h => run_gives hup (request_unarmed h), fun h hcrc => run_gives hup (request_damaged h hcrc),
    fun h hcrc _ hkept => run_gives hup (request_repeated h hcrc hkept)⟩

end Requests

/-- Settles O56: each request by what it does once taken, the requests not taken together, and the host SPI transactions. -/
theorem hostProtocols : Obligations.HostProtocols := by
  refine ⟨fun s peer txn => ⟨fun a n h => regProtoRead_holds h, fun a vs h => regProtoWrite_holds h,
      fun i n h => regProtoBulkRead_holds h,
      fun off bytes h hoff hlen hlen' hstate hmod => regProtoBulkWrite_holds h hoff hlen hlen' hstate hmod,
      fun h => regProtoSubscribe_holds h, fun h => regProtoUnsubscribe_holds h⟩,
    fun s peer txn a n off vs bytes e crc hup he => ?_,
    fun s hup => ⟨fun a n hn hn' => ?_, fun a vs crc hn hn' hcrc => ⟨_, hspiWrite_runs hup hn hn', spiWrite_damaged hcrc⟩,
      fun a vs hn hn' => ⟨_, hspiWrite_runs hup hn hn', spiWrite_intact⟩, fun a n h => hspiRead_badCount h, run_up _ _ hup⟩⟩
  · simp only [List.mem_cons, List.not_mem_nil, or_false] at he
    rcases he with rfl | rfl | rfl | rfl | rfl | rfl <;> exact request_common hup
  · obtain ⟨hlen, hkept, sent, hmiso, hsent⟩ := spiRead_facts (s := s) (a := a) (n := n)
    exact ⟨_, sent, hspiRead_runs hup hn hn', hlen, hkept, hmiso, hsent⟩

end Sys2Proof.Machine
end

section
/-!
SUPPORT. The switch, the time base and PTP (R384 to R392): where a frame goes, what a poll, a Sync and the other messages
change, and the statement about them.
-/
namespace Sys2Proof.Machine

open Sys2Proof

/-! ## Ports (R384, R385) -/

section Ports

variable {s : State} {p q : Nat}

theorem State.eth_setEth_ne {e : EthPort} (h : e ≠ {}) : (s.setEth p e).eth p = e := look_put_ne _ _ _ _ h

theorem satInc_ne_zero (w : Word) : satInc w ≠ 0 := by
  unfold satInc
  split
  next h =>
    rw [h]
    decide
  next h =>
    intro h0
    refine h ?_
    rw [BitVec.eq_sub_iff_add_eq.mpr h0]
    decide

theorem eth_ethRx : (ethRx p s).eth p = { s.eth p with rx := satInc (s.eth p).rx } :=
  State.eth_setEth_ne (fun h => satInc_ne_zero _ (congrArg EthPort.rx h))

theorem egressRun_line (k now : Nat) (e : EthPort) : (egressRun k now e).link = e.link ∧ (egressRun k now e).polls = e.polls ∧
    (egressRun k now e).changes = e.changes := by
  induction k generalizing e with
  | zero => exact ⟨rfl, rfl, rfl⟩
  | succ k ih =>
    unfold egressRun
    split
    · split
      · exact ⟨rfl, rfl, rfl⟩
      · exact ih _
    · exact ⟨rfl, rfl, rfl⟩

end Ports

/-! ## The switch (R384 to R386) -/

section Switch

variable {s : State} {p : Nat} {f : EthFrame}

theorem ethFrame_off (h : 2 ≤ p ∨ switchUp s = false) : ethFrame p f s = s := if_pos h

theorem ethFrame_discards (hp : p < 2) (hup : switchUp s = true) (h : f.pause = true ∨ f.length < 64 ∨ 1522 < f.length) :
    ethFrame p f s = ethRx p s := by
  unfold ethFrame
  rw [if_neg (by simp [hup]; omega)]
  exact if_pos h

/-- A frame that the switch takes goes on within the limit of group frames, and is dropped beyond. -/
theorem ethFrame_takes (hp : p < 2) (hup : switchUp s = true) (hpause : f.pause = false) (hmin : 64 ≤ f.length)
    (hmax : f.length ≤ 1522) : ethFrame p f s = if (groupAdmits p f (ethRx p s)).1 then
      forward p f (learn f.src p (groupAdmits p f (ethRx p s)).2) else ethDrop p (groupAdmits p f (ethRx p s)).2 := by
  have hlength : ¬(f.pause = true ∨ f.length < 64 ∨ 1522 < f.length) := by
    simp [hpause]
    omega
  unfold ethFrame
  rw [if_neg (by simp [hup]; omega)]
  exact if_neg hlength

theorem groupAdmits_beyond (hgroup : isGroupMac f.dst = true) (hsec : (s.eth p).groupSec = s.now / 100000000)
    (hcount : 10000 ≤ (s.eth p).groupCount) : groupAdmits p f (ethRx p s) = (false, ethRx p s) := by
  unfold groupAdmits
  dsimp only
  rw [eth_ethRx, hgroup, Bool.not_true, if_neg Bool.false_ne_true]
  dsimp only
  rw [if_pos (c := (s.eth p).groupSec = (ethRx p s).now / secTicks) hsec, if_pos hcount]

/-- A group frame has been counted within its limit (R385). -/
def groupCounted (p : Nat) (s : State) : State :=
  (ethRx p s).setEth p { (ethRx p s).eth p with
    groupSec := s.now / 100000000,
    groupCount := (if (s.eth p).groupSec = s.now / 100000000 then (s.eth p).groupCount else 0) + 1 }

theorem groupAdmits_within (hgroup : isGroupMac f.dst = true)
    (h : (s.eth p).groupSec ≠ s.now / 100000000 ∨ (s.eth p).groupCount < 10000) :
    groupAdmits p f (ethRx p s) = (true, groupCounted p s) := by
  unfold groupAdmits groupCounted
  dsimp only
  rw [eth_ethRx, hgroup, Bool.not_true, if_neg Bool.false_ne_true]
  dsimp only
  rw [if_neg ?_]
  · rfl
  · show ¬10000 ≤ if (s.eth p).groupSec = s.now / 100000000 then (s.eth p).groupCount else 0
    split
    next hsec => exact Nat.not_le.mpr (h.resolve_left (not_not_intro hsec))
    next => decide

theorem groupAdmits_unicast (h : isGroupMac f.dst = false) : groupAdmits p f s = (true, s) := by
  unfold groupAdmits
  dsimp only
  rw [h]
  exact if_pos rfl

theorem learn_only (m p : Nat) (s : State) : learn m p s = { s with net := { s.net with macs := (learn m p s).net.macs } } := by
  unfold learn
  dsimp only
  split <;> rfl

theorem learn_macs (m p : Nat) (s : State) : (learn m p s).net.macs =
    if isGroupMac m || decide (2048 ≤ (s.net.macs.filter (fun e => decide (e.1 ≠ m))).length) then s.net.macs
    else s.net.macs.filter (fun e => decide (e.1 ≠ m)) ++ [(m, p, s.now)] := by
  unfold learn
  dsimp only
  split <;> rfl

theorem macPort_learn_ethRx (m m' : Nat) : macPort (learn m p (ethRx p s)) m' = macPort (learn m p s) m' := by
  have hmacs : (learn m p (ethRx p s)).net.macs = (learn m p s).net.macs := by
    rw [learn_macs, learn_macs]
    rfl
  rw [macPort, hmacs, macPort]

theorem egressQueue_nvm {t : State} (h : t.nvm = s.nvm) : egressQueue t f = egressQueue s f := by
  rw [egressQueue, h, egressQueue]

theorem forward_group (hgroup : isGroupMac f.dst = true) (harm : s.nvm.armed = false) :
    forward p f s = ethTx (1 - p) (egressQueue s f) f.length s := by
  unfold forward
  dsimp only
  rw [harm, hgroup]
  rfl

theorem forward_unicast (hgroup : isGroupMac f.dst = false) (hown : s.nvm.armed = false ∨ f.dst ≠ s.otp.mac) :
    forward p f s = match macPort s f.dst with
      | some q => if q = p then s else ethTx q (egressQueue s f) f.length s
      | none => ethTx (1 - p) (egressQueue s f) f.length s := by
  have hother : (s.nvm.armed && decide (f.dst = s.otp.mac)) = false := by
    rcases hown with h | h
    · rw [h, Bool.false_and]
    · rw [decide_eq_false h, Bool.and_false]
  unfold forward
  dsimp only
  rw [hother, hgroup]
  cases macPort s f.dst with
  | none => rfl
  | some q =>
    dsimp only
    by_cases hq : q = p
    · rw [if_pos hq, if_pos hq]
      rfl
    · rw [if_neg hq, if_neg hq]
      rfl

theorem forward_own (harm : s.nvm.armed = true) (hown : f.dst = s.otp.mac) :
    forward p f s = coreTakes f (ethTx 2 (egressQueue s f) f.length s) := by
  unfold forward
  dsimp only
  rw [harm, decide_eq_true hown]
  rfl

end Switch

/-! ## Polls of a PHY (R384, R370) -/

section Polls

variable {s : State} {p speed : Nat} {link : Bool}

theorem phyPoll_early (h : 2 ≤ p ∨ s.now < ((s.eth p).polls + 1) * 10000000) : phyPoll p link speed s = s := by
  refine if_pos ?_
  unfold pollDue
  rw [← Bool.decide_and]
  exact decide_eq_false (by omega)

theorem pollDue_true (hp : p < 2) (h : ((s.eth p).polls + 1) * 10000000 ≤ s.now) : pollDue s p = true := by
  unfold pollDue
  rw [decide_eq_true hp, decide_eq_true h]
  rfl

/-- A poll that finds the link as it was. -/
def polledSame (p speed : Nat) (s : State) : State :=
  s.setEth p { egressTo s.now (s.eth p) with polls := (s.eth p).polls + 1, speed := speed % 4 }

/-- A poll that finds the link changed. -/
def polledChange (p speed : Nat) (link : Bool) (s : State) : State :=
  s.setEth p { egressTo s.now (s.eth p) with
    polls := (s.eth p).polls + 1, link := link, speed := speed % 4, changes := (s.eth p).changes + 1 }

theorem phyPoll_due (hdue : pollDue s p = true) : phyPoll p link speed s =
    if (s.eth p).link = link then polledSame p speed s
    else report 51 codeEthLink 0 (dropUdp (polledChange p speed link s)) := by
  obtain ⟨hlink, hpolls, hchanges⟩ := egressRun_line (queuedFrames (s.eth p)) s.now (s.eth p)
  have hlink : (egressTo s.now (s.eth p)).link = (s.eth p).link := hlink
  have hpolls : (egressTo s.now (s.eth p)).polls = (s.eth p).polls := hpolls
  have hchanges : (egressTo s.now (s.eth p)).changes = (s.eth p).changes := hchanges
  unfold phyPoll polledSame polledChange
  rw [hdue, if_neg (by decide)]
  dsimp only
  rw [hlink, hpolls, hchanges]

theorem polledChange_link (hp : p < 2) : ((polledChange p speed link s).eth p).link = link ∧
    ((polledChange p speed link s).eth (1 - p)).link = (s.eth (1 - p)).link := by
  have hne : ∀ e : EthPort, e.polls = (s.eth p).polls + 1 → e ≠ {} := fun e he h => by
    rw [h] at he
    exact Nat.succ_ne_zero _ he.symm
  refine ⟨?_, ?_⟩
  · unfold polledChange
    rw [State.eth_setEth_ne (hne _ rfl)]
  · unfold polledChange
    rw [State.eth_setEth_other _ _ _ _ (by omega)]

theorem dropUdp_net : (dropUdp s).net = s.net := by
  unfold dropUdp
  split <;> rfl

theorem dropUdp_unlinked (h0 : (s.eth 0).link = false) (h1 : (s.eth 1).link = false) :
    ∀ x ∈ (dropUdp s).sec.sessions, x.port = .spi := by
  intro x hx
  unfold dropUdp at hx
  rw [if_neg (by rw [h0, h1]; decide)] at hx
  exact of_decide_eq_true (List.mem_filter.mp hx).2

theorem dropUdp_linked (h : (s.eth 0).link = true ∨ (s.eth 1).link = true) : dropUdp s = s :=
  if_pos (Bool.or_eq_true _ _ ▸ h)

theorem phyPoll_changes (hp : p < 2) (hdue : pollDue s p = true) (hlink : (s.eth p).link ≠ link) :
    (∃ r ∈ (phyPoll p link speed s).ump.reports, r.line = 51 ∧ r.code = codeEthLink) ∧
    (phyPoll p link speed s).net = (polledChange p speed link s).net ∧
    (link = false → (s.eth (1 - p)).link = false → ∀ x ∈ (phyPoll p link speed s).sec.sessions, x.port = .spi) ∧
    (link = true ∨ (s.eth (1 - p)).link = true → (phyPoll p link speed s).sec = s.sec) := by
  obtain ⟨hown, hother⟩ := polledChange_link (s := s) (speed := speed) (link := link) hp
  rw [phyPoll_due hdue, if_neg hlink, report_direct rfl]
  refine ⟨⟨_, List.mem_append_right _ (List.mem_singleton_self _), rfl, rfl⟩, dropUdp_net, fun hl ho => ?_, fun h => ?_⟩
  · subst hl
    rw [ho] at hother
    match p, hp with
    | 0, _ => exact dropUdp_unlinked hown hother
    | 1, _ => exact dropUdp_unlinked hother hown
  · have hany : ((polledChange p speed link s).eth 0).link = true ∨ ((polledChange p speed link s).eth 1).link = true := by
      rw [← hown, ← hother] at h
      match p, hp, h with
      | 0, _, h => exact h
      | 1, _, h => exact h.symm
    show (dropUdp (polledChange p speed link s)).sec = _
    rw [dropUdp_linked hany]
    rfl

end Polls

/-! ## The time base (R387 to R389) -/

section TimeBase

variable {s : State} {off : Int}

/-- The time base at the tick its mapping begins. -/
theorem timeNow_mapped (h : s.time.map.raw = s.now) : s.timeNow = s.time.map.base := by
  have hmap : s.timeNow = mapTime s.time.map s.now := if_pos h.le
  rw [hmap, mapTime, h, Nat.sub_self]
  simp

/-- The state after a step of the time base, which is then logged. -/
def stepped (d : Int) (s : State) : State :=
  let s1 := newMap (shift d s.timeNow) s.time.map.rate s
  { s1 with
    seat := { s1.seat with lanes := ⟨shiftLane d s1.seat.lanes.l1, shiftLane d s1.seat.lanes.l2, shiftLane d s1.seat.lanes.l3⟩ },
    time := { s1.time with valid := true, steps := s1.time.steps + 1, lastStep := d } }

theorem timeStep_logged (d : Int) (s : State) : timeStep d s = logEvent 0xFF 5 addrTimeStep [] (stepWords d) (stepped d s) := rfl

theorem stepped_timeNow (d : Int) (s : State) : (stepped d s).timeNow = shift d s.timeNow := timeNow_mapped rfl

/-- A step moves the time base by its amount, makes it valid and counts. -/
theorem timeStep_facts (d : Int) (s : State) : (timeStep d s).timeNow = Int.toNat ((s.timeNow : Int) + d) ∧
    (timeStep d s).time.valid = true ∧ (timeStep d s).time.steps = s.time.steps + 1 ∧ (timeStep d s).net = s.net := by
  rw [timeStep_logged, logEvent_only]
  exact ⟨stepped_timeNow d s, rfl, rfl, rfl⟩

/-- The rate that a slew takes, within 500 ppm. -/
def slewRate (s : State) : Int := (((fresh s).1.toNat % (2 * rateLimit + 1) : Nat) : Int) - rateLimit

theorem slewRate_bounds (s : State) : -2147483 ≤ slewRate s ∧ slewRate s ≤ 2147483 := by
  have hlimit : rateLimit = 2147483 := rfl
  unfold slewRate
  rw [hlimit]
  omega

/-- A slew keeps the time and sets a rate within 500 ppm. -/
theorem slew_facts (s : State) : (slew s).timeNow = s.timeNow ∧ -2147483 ≤ (slew s).time.map.rate ∧
    (slew s).time.map.rate ≤ 2147483 ∧ (slew s).time.steps = s.time.steps ∧ (slew s).net = s.net := by
  have hslew : slew s = newMap s.timeNow (slewRate s) (fresh s).2 := rfl
  obtain ⟨hlow, hhigh⟩ := slewRate_bounds s
  rw [hslew]
  exact ⟨timeNow_mapped rfl, hlow, hhigh, rfl, rfl⟩

end TimeBase

/-! ## PTP (R391, R392) -/

section Ptp

variable {s : State} {off : Int}

/-- LOCKED is in the network block; on a change the interrupt stands. -/
theorem setLocked_locks (b : Bool) (s : State) : ∃ host, setLocked b s = { s with net := { s.net with ptpLocked := b }, host := host } := by
  unfold setLocked
  split
  next h =>
    refine ⟨s.host, ?_⟩
    rw [← h]
  next => exact ⟨_, rfl⟩

/-- The count of offsets within 1 µs in a row. -/
def goodRun (off : Int) (good : Nat) : Nat := if -1000 ≤ off ∧ off ≤ 1000 then (if good < 16 then good + 1 else 16) else 0

/-- What an offset leaves in the network block before the time base follows it. -/
def offsetNoted (off : Int) (s : State) : State :=
  { s with net := { s.net with
      ptpOffset := clampNs off, ptpGood := goodRun off s.net.ptpGood, ptpState := 3,
      ptpBadAt := if decide (off < -100000) || decide (100000 < off) then some (s.net.ptpBadAt.getD s.now) else none } }

/-- The time base steps, or slews towards the offset. -/
def timeFollows (off : Int) (s : State) : State :=
  if s.time.valid = false ∨ off < -1000000000 ∨ 1000000000 < off then timeStep (-off / 10) s else slew s

theorem measure_follows (off : Int) (s : State) :
    measure off s = setLocked (decide (16 ≤ goodRun off s.net.ptpGood)) (timeFollows off (offsetNoted off s)) := by
  have hgood : (if (decide (-1000 ≤ off) && decide (off ≤ 1000)) = true then sat 16 s.net.ptpGood else 0) = goodRun off s.net.ptpGood := by
    rw [← Bool.decide_and]
    simp only [decide_eq_true_eq]
    rfl
  have hstep : ∀ t : State, (if (!t.time.valid || decide (off < -1000000000) || decide (1000000000 < off)) = true
      then timeStep (-off / 10) t else slew t) = timeFollows off t := fun t => by
    unfold timeFollows
    simp only [Bool.or_eq_true, Bool.not_eq_true', decide_eq_true_eq, or_assoc]
  unfold measure
  dsimp only
  rw [hgood]
  exact congrArg (setLocked _) (hstep (offsetNoted off s))

theorem timeFollows_net (off : Int) (s : State) : (timeFollows off s).net = s.net := by
  unfold timeFollows
  split
  · exact (timeStep_facts _ s).2.2.2
  · exact (slew_facts s).2.2.2.2

theorem timeFollows_slews (hvalid : s.time.valid = true) (hlow : -1000000000 ≤ off) (hhigh : off ≤ 1000000000) :
    timeFollows off s = slew s := if_neg (by simp [hvalid]; omega)

theorem timeFollows_steps (h : s.time.valid = false ∨ off < -1000000000 ∨ 1000000000 < off) :
    timeFollows off s = timeStep (-off / 10) s := if_pos h

theorem measure_facts (off : Int) (s : State) :
    (measure off s).net = { (offsetNoted off s).net with ptpLocked := decide (16 ≤ goodRun off s.net.ptpGood) } ∧
    (measure off s).time = (timeFollows off (offsetNoted off s)).time ∧
    (measure off s).timeNow = (timeFollows off (offsetNoted off s)).timeNow := by
  obtain ⟨host, hlocked⟩ := setLocked_locks (decide (16 ≤ goodRun off s.net.ptpGood)) (timeFollows off (offsetNoted off s))
  rw [measure_follows, hlocked]
  refine ⟨?_, rfl, rfl⟩
  exact congrArg (fun x : Net => { x with ptpLocked := decide (16 ≤ goodRun off s.net.ptpGood) })
    (timeFollows_net off (offsetNoted off s))

theorem measure_slews (hvalid : s.time.valid = true) (hlow : -1000000000 ≤ off) (hhigh : off ≤ 1000000000) :
    (measure off s).timeNow = s.timeNow ∧ -2147483 ≤ (measure off s).time.map.rate ∧
    (measure off s).time.map.rate ≤ 2147483 ∧ (measure off s).time.steps = s.time.steps := by
  obtain ⟨hnow, hrlow, hrhigh, hsteps, -⟩ := slew_facts (offsetNoted off s)
  obtain ⟨-, htime, htimeNow⟩ := measure_facts off s
  rw [htime, htimeNow, timeFollows_slews (s := offsetNoted off s) hvalid hlow hhigh]
  exact ⟨hnow, hrlow, hrhigh, hsteps⟩

theorem measure_steps (h : s.time.valid = false ∨ off < -1000000000 ∨ 1000000000 < off) :
    (measure off s).timeNow = Int.toNat ((s.timeNow : Int) + -off / 10) ∧ (measure off s).time.valid = true ∧
    (measure off s).time.steps = s.time.steps + 1 := by
  obtain ⟨hnow, hvalid, hsteps, -⟩ := timeStep_facts (-off / 10) (offsetNoted off s)
  obtain ⟨-, htime, htimeNow⟩ := measure_facts off s
  rw [htime, htimeNow, timeFollows_steps (s := offsetNoted off s) h]
  exact ⟨hnow, hvalid, hsteps⟩

/-- A Sync whose reception time is known has been taken. -/
def syncTaken (t1 t2 : Int) (s : State) : State :=
  { s with net := { s.net with ptpSyncAt := some s.now, ptpT12 := some (t1, t2), ptpPend := none } }

theorem ptpMessage_sync {origin received corr d : Int} (hslave : ptpSlave s = true) (hdelay : s.net.ptpDelay = some d) :
    ptpMessage (.sync false origin received corr) s =
      measure (received - (origin + corr) - d) (syncTaken (origin + corr) received s) := by
  unfold ptpMessage
  dsimp only
  rw [hslave, Bool.not_true, if_neg Bool.false_ne_true, if_neg Bool.false_ne_true]
  unfold syncDone
  dsimp only
  split
  next d' hd =>
    obtain rfl : d' = d := Option.some.inj (hd.symm.trans hdelay)
    rfl
  next hnone => exact absurd (hdelay.symm.trans hnone) (Option.some_ne_none d)

theorem ptpMessage_twoStep {origin received corr : Int} (hslave : ptpSlave s = true) :
    ptpMessage (.sync true origin received corr) s = { s with net := { s.net with
      ptpSyncAt := some s.now, ptpPend := some (received, corr) } } := by
  unfold ptpMessage
  dsimp only
  rw [hslave]
  rfl

theorem ptpMessage_delayResp {t1 t2 t3 received corr : Int} (hslave : ptpSlave s = true) (h12 : s.net.ptpT12 = some (t1, t2))
    (h3 : s.net.ptpT3 = some t3) : ptpMessage (.delayResp received corr) s = { s with net := { s.net with
      ptpDelay := some (((t2 - t1) + (received - corr - t3)) / 2), ptpT3 := none } } := by
  unfold ptpMessage delayDone
  dsimp only
  rw [hslave, h12, h3]
  rfl

/-- A clock has been announced, and the PTP state follows. -/
def announcedBy (best : PtpClock) (state : Nat) (s : State) : State :=
  { s with net := { s.net with ptpBest := some best, ptpState := state } }

theorem ptpMessage_announce {c : PtpClock} (harm : s.nvm.armed = true) : ptpMessage (.announce c) s =
    announcedBy (bestClock s.net.ptpBest c)
      (if s.nvm.net.slaveOnly || clockBetter (bestClock s.net.ptpBest c) (ownClock s) then
        (if ptpSlave s then s.net.ptpState else 2) else 4) s := by
  unfold ptpMessage
  dsimp only
  rw [harm, if_neg (by decide)]
  split
  · split <;> rfl
  · rfl

theorem announced_slave {best : PtpClock} : ptpSlave (announcedBy best (if ptpSlave s then s.net.ptpState else 2) s) = true := by
  by_cases h : ptpSlave s = true
  · rw [if_pos h]
    exact h
  · rw [if_neg h]
    rfl

theorem ptpMessage_runs (hup : s.sys.up = true) {p dom : Nat} {m : PtpMsg} (hp : p < 2) (hswitch : switchUp s = true)
    (htakes : ptpTakes s dom m = true) : exec (.ptpMessage ⟨p, dom⟩ m) s = .next (ptpMessage m s) :=
  run_due (fun s => decide (p < 2) && switchUp s && ptpTakes s dom m) _ hup (by rw [decide_eq_true hp, hswitch, htakes]; rfl)

theorem ptpMessage_inDomain (hup : s.sys.up = true) {p dom : Nat} {m : PtpMsg} (hp : p < 2) (hswitch : switchUp s = true)
    (hdom : dom = s.nvm.net.domain) : exec (.ptpMessage ⟨p, dom⟩ m) s = .next (ptpMessage m s) := by
  refine ptpMessage_runs hup hp hswitch ?_
  unfold ptpTakes
  split
  · rfl
  · exact decide_eq_true hdom

theorem ptpMessage_ignored {p dom : Nat} {m : PtpMsg}
    (h : 2 ≤ p ∨ switchUp s = false ∨ ((∀ c r, m ≠ .through c r) ∧ dom ≠ s.nvm.net.domain)) :
    exec (.ptpMessage ⟨p, dom⟩ m) s = .next s := by
  refine run_notDue (fun s => decide (p < 2) && switchUp s && ptpTakes s dom m) _ ?_
  rcases h with h | h | ⟨hm, hdom⟩
  · rw [decide_eq_false h.not_gt, Bool.false_and, Bool.false_and]
  · rw [h, Bool.and_false, Bool.false_and]
  · have hother : ptpTakes s dom m = false := by
      unfold ptpTakes
      split
      · exact absurd rfl (hm _ _)
      · exact decide_eq_false hdom
    rw [hother, Bool.and_false]

theorem ptpLost_facts : (ptpLost s).net.ptpLocked = false ∧ (ptpLost s).time = s.time ∧ (ptpLost s).now = s.now ∧
    ∃ r ∈ (ptpLost s).ump.reports, r.line = 51 ∧ r.code = codePtpLost := by
  unfold ptpLost
  obtain ⟨host, hlocked⟩ := setLocked_locks false
    { s with net := { s.net with ptpGood := 0, ptpSyncAt := none, ptpBadAt := none, ptpBest := none } }
  rw [hlocked, report_direct rfl]
  exact ⟨rfl, rfl, rfl, _, List.mem_append_right _ (List.mem_singleton_self _), rfl, rfl⟩

theorem ptpLostDue_false (hsync : ∀ t0, s.net.ptpSyncAt = some t0 → s.now < t0 + 400000000)
    (hbad : ∀ t0, s.net.ptpBadAt = some t0 → s.now < t0 + 1000000000) : ptpLostDue s = false := by
  have hnoSync : (match s.net.ptpSyncAt with
      | some t => decide (t + 4 * secTicks ≤ s.now)
      | none => false) = false := by
    split
    next t0 h => exact decide_eq_false (Nat.not_le.mpr (hsync t0 h))
    next => rfl
  unfold ptpLostDue
  rw [Bool.or_eq_false_iff]
  refine ⟨hnoSync, ?_⟩
  split
  next t0 h => exact decide_eq_false (Nat.not_le.mpr (hbad t0 h))
  next => rfl

theorem ptpInterval_becomesMaster (harm : s.nvm.armed = true) (hstate : s.net.ptpState ≤ 1) (hmay : s.nvm.net.slaveOnly = false) :
    ptpInterval s = { s with net := { s.net with ptpState := 4 } } :=
  (if_neg (by rw [harm]; decide)).trans (if_pos ⟨hstate, hmay⟩)

theorem ptpInterval_master (harm : s.nvm.armed = true) (hstate : s.net.ptpState = 4) :
    (ptpInterval s).net.ptpSent = s.net.ptpSent + 1 ∧ (ptpInterval s).net.ptpState = 4 ∧ (ptpInterval s).time = s.time := by
  have hsends : ptpInterval s =
      coreSends 0 (udpFrame 44) (coreSends 3 (udpFrame 44) { s with net := { s.net with ptpSent := s.net.ptpSent + 1 } }) :=
    (if_neg (by rw [harm]; decide)).trans ((if_neg (by omega)).trans (if_pos hstate))
  have hports : offPorts (ptpInterval s) = { s.net with ports := [], ptpSent := s.net.ptpSent + 1 } := by
    rw [hsends, offPorts_coreSends, offPorts_coreSends]
    rfl
  refine ⟨(congrArg Net.ptpSent hports : (offPorts _).ptpSent = _), ?_, ?_⟩
  · exact ((congrArg Net.ptpState hports : (offPorts _).ptpState = _)).trans hstate
  · rw [hsends, coreSends_only, coreSends_only]

theorem ptpInterval_slave (harm : s.nvm.armed = true) (hslave : ptpSlave s = true) :
    (ptpInterval s).net.ptpSent = s.net.ptpSent + 1 ∧ (ptpInterval s).net.ptpT3 = some (10 * (s.timeNow : Int)) ∧
    (ptpInterval s).time = s.time := by
  have hstate : s.net.ptpState = 2 ∨ s.net.ptpState = 3 := of_decide_eq_true hslave
  have hsends : ptpInterval s = coreSends 3 (udpFrame 44)
      { s with net := { s.net with ptpT3 := some (10 * (s.timeNow : Int)), ptpSent := s.net.ptpSent + 1 } } :=
    (if_neg (by rw [harm]; decide)).trans ((if_neg (by omega)).trans ((if_neg (by omega)).trans (if_pos hslave)))
  have hports : offPorts (ptpInterval s) =
      { s.net with ports := [], ptpT3 := some (10 * (s.timeNow : Int)), ptpSent := s.net.ptpSent + 1 } := by
    rw [hsends, offPorts_coreSends]
    rfl
  refine ⟨(congrArg Net.ptpSent hports : (offPorts _).ptpSent = _), (congrArg Net.ptpT3 hports : (offPorts _).ptpT3 = _), ?_⟩
  rw [hsends, coreSends_only]

end Ptp

/-! ## The statement -/

section Statement

variable {s : State} {p dom : Nat}

theorem groupFrame_within {f : EthFrame} (hp : p < 2) (hswitch : switchUp s = true) (hpause : f.pause = false)
    (hmin : 64 ≤ f.length) (hmax : f.length ≤ 1522) (hgroup : isGroupMac f.dst = true) (harm : s.nvm.armed = false)
    (h : (s.eth p).groupSec ≠ s.now / 100000000 ∨ (s.eth p).groupCount < 10000) :
    ethFrame p f s = ethTx (1 - p) (egressQueue s f) f.length (learn f.src p (groupCounted p s)) := by
  rw [ethFrame_takes hp hswitch hpause hmin hmax, groupAdmits_within hgroup h, if_pos rfl]
  have hnvm : (learn f.src p (groupCounted p s)).nvm = s.nvm := by
    rw [learn_only]
    rfl
  rw [← egressQueue_nvm hnvm]
  exact forward_group hgroup (by rw [hnvm]; exact harm)

theorem learn_ethRx_keeps (m : Nat) (s : State) : (learn m p (ethRx p s)).nvm = s.nvm ∧ (learn m p (ethRx p s)).otp = s.otp := by
  rw [learn_only]
  exact ⟨rfl, rfl⟩

theorem unicastFrame {f : EthFrame} (hp : p < 2) (hswitch : switchUp s = true) (hpause : f.pause = false)
    (hmin : 64 ≤ f.length) (hmax : f.length ≤ 1522) (hgroup : isGroupMac f.dst = false) :
    ethFrame p f s = forward p f (learn f.src p (ethRx p s)) := by
  rw [ethFrame_takes hp hswitch hpause hmin hmax, groupAdmits_unicast hgroup]
  rfl

theorem unicastFrame_other {f : EthFrame} (hgroup : isGroupMac f.dst = false) (hown : s.nvm.armed = false ∨ f.dst ≠ s.otp.mac) :
    forward p f (learn f.src p (ethRx p s)) = match macPort (learn f.src p s) f.dst with
      | some q => if q = p then learn f.src p (ethRx p s) else ethTx q (egressQueue s f) f.length (learn f.src p (ethRx p s))
      | none => ethTx (1 - p) (egressQueue s f) f.length (learn f.src p (ethRx p s)) := by
  obtain ⟨hnvm, hotp⟩ := learn_ethRx_keeps (p := p) f.src s
  rw [forward_unicast hgroup (by rw [hnvm, hotp]; exact hown), macPort_learn_ethRx, egressQueue_nvm hnvm]

theorem unicastFrame_own {f : EthFrame} (harm : s.nvm.armed = true) (hown : f.dst = s.otp.mac) :
    forward p f (learn f.src p (ethRx p s)) =
      coreTakes f (ethTx 2 (egressQueue s f) f.length (learn f.src p (ethRx p s))) := by
  obtain ⟨hnvm, hotp⟩ := learn_ethRx_keeps (p := p) f.src s
  rw [forward_own (by rw [hnvm]; exact harm) (by rw [hotp]; exact hown), egressQueue_nvm hnvm]

theorem macAge_mem (m : Nat) (e : Nat × Nat × Nat) :
    e ∈ (macAge m s).net.macs ↔ e ∈ s.net.macs ∧ (e.1 = m → s.now < e.2.2 + 30000000000) := by
  show e ∈ s.net.macs.filter (fun e => decide (e.1 ≠ m) || decide (s.now < e.2.2 + 30000000000)) ↔ _
  rw [List.mem_filter, Bool.or_eq_true, decide_eq_true_eq, decide_eq_true_eq, imp_iff_not_or]

theorem ptpSync_taken {origin received corr d : Int} (hup : s.sys.up = true) (hp : p < 2) (hdom : dom = s.nvm.net.domain)
    (hswitch : switchUp s = true) (hslave : ptpSlave s = true) (hdelay : s.net.ptpDelay = some d) :
    ∃ t off, exec (.ptpMessage ⟨p, dom⟩ (.sync false origin received corr)) s = .next t ∧ off = received - (origin + corr) - d ∧
      t.net.ptpSyncAt = some s.now ∧ t.net.ptpState = 3 ∧
      t.net.ptpGood = (if -1000 ≤ off ∧ off ≤ 1000 then (if s.net.ptpGood < 16 then s.net.ptpGood + 1 else 16) else 0) ∧
      t.net.ptpLocked = decide (16 ≤ t.net.ptpGood) ∧
      (s.time.valid = true → -1000000000 ≤ off → off ≤ 1000000000 → t.timeNow = s.timeNow ∧
        -2147483 ≤ t.time.map.rate ∧ t.time.map.rate ≤ 2147483 ∧ t.time.steps = s.time.steps) ∧
      (s.time.valid = false ∨ off < -1000000000 ∨ 1000000000 < off →
        t.timeNow = Int.toNat ((s.timeNow : Int) + -off / 10) ∧ t.time.valid = true ∧ t.time.steps = s.time.steps + 1) := by
  obtain ⟨hnet, -, -⟩ := measure_facts (received - (origin + corr) - d) (syncTaken (origin + corr) received s)
  refine ⟨measure (received - (origin + corr) - d) (syncTaken (origin + corr) received s), received - (origin + corr) - d, ?_, rfl, ?_⟩
  · rw [ptpMessage_inDomain hup hp hswitch hdom, ptpMessage_sync hslave hdelay]
  · rw [hnet]
    exact ⟨rfl, rfl, rfl, rfl, fun hvalid hlow hhigh => measure_slews (s := syncTaken (origin + corr) received s) hvalid hlow hhigh,
      fun h => measure_steps (s := syncTaken (origin + corr) received s) h⟩

theorem ptpAnnounce_taken {c : PtpClock} (hup : s.sys.up = true) (hp : p < 2) (hdom : dom = s.nvm.net.domain)
    (hswitch : switchUp s = true) (harm : s.nvm.armed = true) :
    ∃ t, exec (.ptpMessage ⟨p, dom⟩ (.announce c)) s = .next t ∧
      (clockBetter c (ownClock s) = true → s.net.ptpBest = none ∨ s.nvm.net.slaveOnly = true → ptpSlave t = true) ∧
      (s.nvm.net.slaveOnly = false → s.net.ptpBest = none → clockBetter c (ownClock s) = false → t.net.ptpState = 4) ∧
      t = { s with net := { s.net with ptpBest := t.net.ptpBest, ptpState := t.net.ptpState } } := by
  refine ⟨_, ptpMessage_inDomain hup hp hswitch hdom, ?_⟩
  rw [ptpMessage_announce harm]
  refine ⟨fun hbetter h => ?_, fun hmay hnone hworse => ?_, rfl⟩
  · have hslave : (s.nvm.net.slaveOnly || clockBetter (bestClock s.net.ptpBest c) (ownClock s)) = true := by
      rcases h with hnone | hmust
      · rw [hnone]
        exact Bool.or_eq_true_iff.mpr (.inr hbetter)
      · rw [hmust, Bool.true_or]
    rw [if_pos hslave]
    exact announced_slave
  · rw [hmay, hnone]
    show (if (false || clockBetter c (ownClock s)) = true then _ else 4) = 4
    rw [hworse]
    rfl

end Statement

/-- Settles O55: each arrival and each event by the branch that its port, its link and the PTP state take. -/
theorem networkAndTime : Obligations.NetworkAndTime := by
  intro s hup
  refine ⟨fun p f h => run_gives hup (ethFrame_off h), fun p f hp hswitch h => run_gives hup (ethFrame_discards hp hswitch h),
    fun p f hp hswitch hpause hmin hmax hgroup => ⟨fun hsec hcount => run_gives hup ?_, fun harm h =>
      run_gives hup (groupFrame_within hp hswitch hpause hmin hmax hgroup harm h)⟩,
    fun p f hp hswitch hpause hmin hmax hgroup =>
      ⟨fun hown => run_gives hup ((unicastFrame hp hswitch hpause hmin hmax hgroup).trans (unicastFrame_other hgroup hown)),
       fun harm hown => run_gives hup ((unicastFrame hp hswitch hpause hmin hmax hgroup).trans (unicastFrame_own harm hown))⟩,
    fun m => ⟨macAge m s, run_up _ _ hup, rfl, macAge_mem m⟩, fun p link speed h => run_gives hup (phyPoll_early h),
    fun p link speed hp hdue => ⟨fun hlink => run_gives hup ?_, fun hlink =>
      ⟨_, run_up _ _ hup, phyPoll_changes hp (pollDue_true hp hdue) hlink⟩⟩,
    fun p dom origin received corr d hp hdom hswitch hslave hdelay => ptpSync_taken hup hp hdom hswitch hslave hdelay,
    fun p dom origin received corr hp hdom hswitch hslave => ?_,
    fun p dom t1 t2 t3 received corr hp hdom hswitch hslave h12 h3 => ?_,
    fun p dom c hp hdom hswitch harm => ptpAnnounce_taken hup hp hdom hswitch harm,
    fun p dom corr r hp hswitch => ptpMessage_runs hup hp hswitch rfl, fun p dom m h => ptpMessage_ignored h,
    fun hdue => ⟨ptpLost s, run_due ptpLostDue _ hup hdue, ptpLost_facts⟩,
    fun hsync hbad => run_notDue ptpLostDue _ (ptpLostDue_false hsync hbad),
    fun harm hstate hmay => run_gives hup (ptpInterval_becomesMaster harm hstate hmay),
    fun harm hstate => ⟨ptpInterval s, run_up _ _ hup, ptpInterval_master harm hstate⟩,
    fun harm hslave => ⟨ptpInterval s, run_up _ _ hup, ptpInterval_slave harm hslave⟩,
    fun harm => run_gives hup (if_pos (by rw [harm]; rfl)), fun hsec => ⟨ppsSecond s, run_up _ _ hup, ?_⟩,
    fun hsec => run_gives hup (if_pos hsec)⟩
  · rw [ethFrame_takes hp hswitch hpause hmin hmax, groupAdmits_beyond hgroup hsec hcount]
    rfl
  · rw [phyPoll_due (pollDue_true hp hdue), if_pos hlink]
    rfl
  · rw [ptpMessage_inDomain hup hp hswitch hdom, ptpMessage_twoStep hslave]
  · rw [ptpMessage_inDomain hup hp hswitch hdom, ptpMessage_delayResp hslave h12 h3]
  · have hrises : ppsSecond s = { s with net := { s.net with ppsAt := s.timeNow / 100000000, pps := ppsRuns s } } := if_neg hsec
    rw [hrises]
    exact ⟨rfl, rfl⟩

end Sys2Proof.Machine
end

section
/-!
SUPPORT. Safe telegrams between datagram and lane (R395 to R401): arrival, the watchdog of TEL_IN, the sending of TEL_OUT and
the comparison of the seated lanes, and the statement about them.
-/
namespace Sys2Proof.Machine

open Sys2Proof

/-! ## In (R395, R396) -/

section Arrivals

variable {s : State} {peer conn i : Nat} {bytes : List Byte} {l : Lane} {img : SafetyImage}

theorem telDatagram_named (harm : s.nvm.armed = true) (hlen : 4 ≤ bytes.length) (hconn : connOf s peer bytes = some i) :
    telDatagram peer bytes s = sendFrame (0x600 + i) 9 (bytesToWords bytes) s := by
  unfold telDatagram
  rw [harm, if_neg (by decide), if_pos hlen, hconn]

theorem telDatagram_unnamed (harm : s.nvm.armed = true) (h : bytes.length < 4 ∨ connOf s peer bytes = none) :
    telDatagram peer bytes s = ethDrop 2 s := by
  have hnone : (if 4 ≤ bytes.length then connOf s peer bytes else none) = none := by
    split
    next hlen => exact h.resolve_left (Nat.not_lt.mpr hlen)
    next => rfl
  unfold telDatagram
  rw [harm, if_neg (by decide), hnone]

theorem telArrive_waits {e : ConnCfg} (himg : (s.laneD l).image = some img) (hconn : (conn, e) ∈ img.conns) :
    telArrive l conn bytes s = s.setLane l { s.laneD l with tel := (s.laneD l).tel ++ [⟨s.seat.cycle, conn, bytes⟩] } := by
  have hany : img.conns.any (fun e => e.1 == conn) = true := List.any_eq_true.mpr ⟨(conn, e), hconn, beq_self_eq_true conn⟩
  unfold telArrive
  dsimp only
  rw [himg]
  exact if_pos hany

end Arrivals

/-! ## The watchdog of TEL_IN (R398, R399) -/

section Watchdog

variable {s : State} {l : Lane} {blk conn : Nat} {x : TelInSt} {img : SafetyImage}

/-- The outputs of an expired TEL_IN: the safe values, no NUM, and VALID 0. -/
def expiredOuts (cfg : ConnCfg) : List Val :=
  (List.range cfg.nbIn).map (fun i => Val.bool ((cfg.safe[i]?).getD false)) ++ (List.range cfg.nnIn).map (fun _ => Val.num none) ++
    [Val.bool false]

theorem expiredOuts_safe {cfg : ConnCfg} {i : Nat} (hi : i < cfg.nbIn) :
    (expiredOuts cfg)[i]? = some (.bool ((cfg.safe[i]?).getD false)) := by
  unfold expiredOuts
  rw [List.append_assoc, List.getElem?_append_left (by simpa using hi), List.getElem?_map, List.getElem?_range hi]
  rfl

theorem expiredOuts_rest (cfg : ConnCfg) :
    (expiredOuts cfg).drop cfg.nbIn = List.replicate cfg.nnIn (.num none) ++ [.bool false] := by
  unfold expiredOuts
  rw [List.append_assoc, List.drop_left' (by simp), List.map_const', List.length_range]

/-- The lane after the expiry of a TEL_IN, before its reports (R398). -/
def telInExpired (l : Lane) (blk conn : Nat) (cfg : ConnCfg) (x : TelInSt) (s : State) : State :=
  s.setLane l { s.laneD l with
    blocks := put .none (s.laneD l).blocks blk (.telIn { x with state := .unsync, ref := none })
    telCnt := put {} (s.laneD l).telCnt conn { look {} (s.laneD l).telCnt conn with
      expire := (look {} (s.laneD l).telCnt conn).expire + 1 }
    sig := put [] (s.laneD l).sig blk (expiredOuts cfg) }

theorem telWatchdog_expires {cfg : ConnCfg} (himg : (s.laneD l).image = some img) (hblk : img.graph[blk]? = some (.telIn conn))
    (hst : look .none (s.laneD l).blocks blk = .telIn x)
    (hcfg : look { id := 0, peer := 0, period := 1, nw := 16 } img.conns conn = cfg) (heval : evaluates s l = true)
    (hsound : (s.laneD l).faulty = none) (hexp : telExpired cfg s.seat.cycle x = true)
    (hnone : ∀ f ∈ (s.laneD l).tel, f.conn = conn → s.seat.cycle ≤ f.cycle) :
    telWatchdog l blk s =
      telChanges l [(blk, x.state, .unsync)] (laneTelReport l codeTelWatchdog (telInExpired l blk conn cfg x s)) := by
  have hwaits : (s.laneD l).tel.any (fun f => f.conn == conn && decide (f.cycle < s.seat.cycle)) = false := by
    rw [List.any_eq_false]
    intro f hf h
    rw [Bool.and_eq_true, beq_iff_eq, decide_eq_true_eq] at h
    exact absurd h.2 (Nat.not_lt.mpr (hnone f hf h.1))
  unfold telWatchdog
  dsimp only
  split
  next hnoImg => exact absurd (himg.symm.trans hnoImg) (Option.some_ne_none img)
  next img' himg' =>
    obtain rfl : img = img' := Option.some.inj (himg.symm.trans himg')
    split
    next conn' x' hblk' hst' =>
      obtain rfl : conn = conn' := Block.telIn.inj (Option.some.inj (hblk.symm.trans hblk'))
      obtain rfl : x = x' := BlockState.telIn.inj (hst.symm.trans hst')
      subst hcfg
      exact if_pos (by rw [heval, hsound, hexp, hwaits]; rfl)
    next hother => exact absurd hst (hother conn x hblk)

theorem pushEvent_irqStat (src cls code : Nat) (data : List Word) (time : Nat) (s : State) :
    (pushEvent src cls code data time s).host.irqStat = s.host.irqStat ||| 1 := by
  have hnotify := fun u => foldl_keeps (part := State.host) (f := fun t (_ : Nat) => coreUnicast 0 (udpFrame 56) t)
    (fun t _ => by rw [coreUnicast_only]) s.net.subs u
  exact congrArg HostIf.irqStat (hnotify _)

/-- The interrupt TEL stands (R409). -/
def telIrq (s : State) : State := { s with host := { s.host with irqStat := s.host.irqStat ||| 0x20 } }

theorem telChanges_left (l : Lane) (blk : Nat) (s : State) : telChanges l [(blk, .live, .unsync)] s =
    if s.seat.bow = some l then
      pushEvent (0x320 + laneNo l) 7 0 [BitVec.ofNat 32 blk, telCode .unsync] (timeAt s.time s.t0) (telIrq s)
    else telIrq s := rfl

/-- A TEL_IN that leaves LIVE raises the interrupt TEL (R409). -/
theorem telChanges_irq (l : Lane) (blk : Nat) (s : State) :
    (telChanges l [(blk, .live, .unsync)] s).host.irqStat.getLsbD 5 = true := by
  have hraised : (s.host.irqStat ||| 0x20).getLsbD 5 = true := by
    rw [BitVec.getLsbD_or]
    exact Bool.or_true _
  rw [telChanges_left]
  split
  · rw [pushEvent_irqStat, BitVec.getLsbD_or, Bool.or_eq_true]
    exact .inl hraised
  · exact hraised

end Watchdog

/-! ## Out (R400, R401) -/

section Out

variable {s : State} {l : Lane} {blk conn n : Nat} {tele : List Byte} {img : SafetyImage}

theorem telFrameOf_telegramOf (s : State) (conn : Nat) (o : Option Lane) : telFrameOf s conn o = telegramOf s conn o := by
  cases o <;> rfl

theorem telSend_sends {c : TelOutCfg} (himg : (s.laneD l).image = some img) (hblk : img.graph[blk]? = some (.telOut c))
    (hdue : (s.laneD l).telDue.find? (fun e => e.1 == blk) = some (blk, n, tele)) :
    telSend l blk s = laneFrame l 0x340 9 (bytesToWords tele) (s.setLane l { s.laneD l with
      telDue := put (0, []) (s.laneD l).telDue blk (0, []), telOut := put (0, []) (s.laneD l).telOut c.conn (n, tele) }) := by
  unfold telSend
  dsimp only
  rw [himg]
  dsimp only
  rw [hblk, hdue]

/-- The telegram `a` has been sent to the partner (R401). -/
def telegramSent (conn : Nat) (a : Nat × List Byte) (s : State) : State :=
  { telegramsTaken conn s with net := { s.net with telSent := put (0, []) s.net.telSent conn a } }

/-- Two lanes' frames differ (R401). -/
def telegramsDiffer (conn : Nat) (s : State) : State :=
  { telegramsTaken conn s with net := { s.net with telMismatch := satInc s.net.telMismatch } }

/-- What the management core does with the frames of the two driving lanes (R401). -/
def telegramsCompared (conn : Nat) (a b : Nat × List Byte) (s : State) : State :=
  if a = (0, []) ∧ b = (0, []) then s
  else if a = b then coreUnicast 3 (udpFrame a.2.length) (telegramSent conn a s)
  else telegramsDiffer conn s

theorem outTelegram_seats (hrun : running s.seat.state = true) (hseats : s.seat.state ≠ .sculling) :
    outTelegram conn s = telegramsCompared conn (telegramOf s conn s.seat.bow) (telegramOf s conn s.seat.stroke) s := by
  unfold outTelegram
  dsimp only
  rw [hrun, if_neg (by decide), decide_eq_false hseats, if_neg Bool.false_ne_true, if_neg Bool.false_ne_true,
    telFrameOf_telegramOf, telFrameOf_telegramOf]
  rfl

theorem outTelegram_sculling (hscull : s.seat.state = .sculling) :
    outTelegram conn s = telegramsCompared conn (telegramOf s conn (scullLane s)) (telegramOf s conn (scullLane s)) s := by
  unfold outTelegram
  dsimp only
  rw [hscull, if_neg (by decide), decide_eq_true rfl, if_pos rfl, if_pos rfl, telFrameOf_telegramOf]
  rfl

theorem outTelegram_stopped (h : running s.seat.state = false) : outTelegram conn s = s := if_pos (by rw [h]; rfl)

theorem telegramsCompared_equal {a : Nat × List Byte} (ha : a ≠ (0, [])) :
    telegramsCompared conn a a s = coreUnicast 3 (udpFrame a.2.length) (telegramSent conn a s) :=
  (if_neg (fun h => ha h.1)).trans (if_pos rfl)

theorem telegramsCompared_differ {a b : Nat × List Byte} (h : a ≠ b) : telegramsCompared conn a b s = telegramsDiffer conn s :=
  (if_neg (fun h0 => h (h0.1.trans h0.2.symm))).trans (if_neg h)

end Out

/-- Settles O21: each datagram, frame and telegram by the branch that its connection and the seats take. -/
theorem telegramsInAndOut : Obligations.TelegramsInAndOut := by
  refine ⟨fun s hup => ⟨fun peer bytes i harm hlen hconn => run_gives hup (telDatagram_named harm hlen hconn),
    fun peer bytes harm h => run_gives hup (telDatagram_unnamed harm h), fun l conn bytes img e hhook himg hconn =>
      run_gives hup ((hookedFrame_unmet hhook ..).trans (telArrive_waits himg hconn)),
    fun l blk conn x img cfg himg hblk hst hcfg heval hsound hexp hnone => ?_,
    fun l blk img c n tele himg hblk hdue => run_gives hup (telSend_sends himg hblk hdue)⟩,
    fun s conn hup => ⟨fun h => run_gives hup (outTelegram_stopped h), fun a hrun hseats ha hbow hstroke => ?_,
      fun hrun hseats hdiffer => run_gives hup ((outTelegram_seats hrun hseats).trans (telegramsCompared_differ hdiffer)),
      fun a hscull ha hframe => ?_⟩⟩
  · refine ⟨expiredOuts cfg, _, run_gives hup (telWatchdog_expires himg hblk hst hcfg heval hsound hexp hnone), rfl,
      fun i hi => expiredOuts_safe hi, expiredOuts_rest cfg, fun hlive => ?_⟩
    rw [hlive]
    exact telChanges_irq _ _ _
  · refine run_gives hup ((outTelegram_seats hrun hseats).trans ?_)
    rw [hbow, hstroke]
    exact telegramsCompared_equal ha
  · refine run_gives hup ((outTelegram_sculling hscull).trans ?_)
    rw [hframe]
    exact telegramsCompared_equal ha

end Sys2Proof.Machine
end
